-- ==== Sys2Proof/Word.lean ====
section
/-! DEFINITION. The word types of the node: bytes, 32-bit registers and 64-bit quantities. -/

namespace Sys2Proof

/-- One byte of memory, of a frame or of the tag. -/
abbrev Byte := BitVec 8

/-- One 32-bit register (00_scope.md, "Register tables"). -/
abbrev Word := BitVec 32

/-- One 64-bit quantity: a register pair, a pair word or a sequencer register. -/
abbrev Dword := BitVec 64

end Sys2Proof
end

