-- ==== Sys2Proof/Machine/Path.lean ====
section
/-! DEFINITION. The access paths on which a host's command arrives (Table 19.1), and the frames and messages that commands
carry as operands. -/

namespace Sys2Proof.Machine

/-- An access path: an RCP session of a source MAC on a port (0 East, 1 West, 2 X5), a Modbus connection (interface X5 0–3,
chain 4–7), the tag mailbox, or a REGSET section of an activated image. -/
inductive Path where
  | rcp (port : Nat) (src : Nat) (sess : Nat)
  | modbus (conn : Nat)
  | mailbox
  | regset
  deriving DecidableEq, Repr

/-- A received RCP frame of version 1 (Table 11.3): port (0 East, 1 West, 2 X5), Ethernet source and destination, response flag,
SEQ, HOPS and payload. -/
structure RcpFrame where
  port : Nat
  src : Nat
  dst : Nat
  resp : Bool
  seq : Nat
  hops : Nat
  payload : List Byte
  deriving DecidableEq, Repr

/-- The data set of an Announce message: priority1, clockClass, accuracy, variance, priority2, grandmaster identity,
stepsRemoved, ptpTimescale, domain. -/
structure AnnMsg where
  prio1 : Nat
  cls : Nat
  acc : Nat
  var : Nat
  prio2 : Nat
  gm : Nat
  steps : Nat
  ptp : Bool
  domain : Nat
  deriving DecidableEq, Repr

end Sys2Proof.Machine
end

