-- ==== Sys2Proof/Syntax.lean ====
section
/-! DEFINITION. The commands of the block, one constructor for each row of spec/opcode_table.json, in the table's order,
with the row's operands. Quarters are numbered 4d + q (R166). A slot command carries bits [127:8] of its slot. -/

namespace Sys2Proof

/-- The commands (spec/opcode_table.json). -/
inductive Instr where
  /-- REG_WRITE, R574. -/
  | regWrite (p : Machine.Path) (role : BitVec 2) (a v : BitVec 32) (hi : Option (BitVec 32))
  /-- POWER_GOOD, R393. -/
  | powerGood
  /-- FEED_LOST, R394. -/
  | feedLost (b : Bool) (mv : BitVec 16)
  /-- FEED_RESTORED, R394. -/
  | feedRestored (b : Bool) (mv : BitVec 16)
  /-- PFAIL, R404. -/
  | pfail
  /-- PFAIL_RECOVERY, R405. -/
  | pfailRecovery
  /-- LOCKSTEP_MISMATCH, R25. -/
  | lockstepMismatch (logged : Bool)
  /-- WATCHDOG_EXPIRY, R401. -/
  | watchdogExpiry
  /-- PORTS_READY, R312. -/
  | portsReady (ms : BitVec 32)
  /-- ACQ_NO_LINK_TIMEOUT, R398. -/
  | acqNoLinkTimeout (t : Nat)
  /-- ACQ_TIMEOUT, R66. -/
  | acqTimeout (t : Nat)
  /-- FIRST_EPOCH, R399. -/
  | firstEpoch
  /-- TIME_SLOW, R420. -/
  | timeSlow
  /-- RESTART, R402. -/
  | restart (p : Machine.Path) (role : BitVec 2) (force : Bool)
  /-- CHAIN_RESTART, R402. -/
  | chainRestart
  /-- SVC_ENTER, R411. -/
  | svcEnter (p : Machine.Path) (role : BitVec 2)
  /-- SVC_EXIT, R411. -/
  | svcExit (p : Machine.Path) (role : BitVec 2)
  /-- DIE_RESET, R403. -/
  | dieReset (p : Machine.Path) (role : BitVec 2) (d : BitVec 2)
  /-- DIE_RESET_RELEASE, R403. -/
  | dieResetRelease (d : BitVec 2)
  /-- FAN_CTRL_WRITE, R414. -/
  | fanCtrlWrite (p : Machine.Path) (role : BitVec 2) (v : BitVec 32)
  /-- TEMPERATURE_READING, R413. -/
  | temperatureReading (k : Fin 12) (t : Int)
  /-- THERMAL_RESTART, R416. -/
  | thermalRestart (t : Int)
  /-- FAN_FAIL, R417. -/
  | fanFail (k : Fin 3)
  /-- DIE_POWER_OFF_COMPLETE, R421. -/
  | diePowerOffComplete (d : BitVec 2)
  /-- PTP_SYNC, R336. -/
  | ptpSync (port : Fin 3) (domain : Nat) (gm : Nat) (twoStep : Bool) (corr res : Nat) (off : Int)
  /-- FOLLOW_UP, R336. -/
  | followUp (port : Fin 3) (domain gm corr res : Nat) (off : Int)
  /-- ANNOUNCE, R335. -/
  | announce (port : Fin 3) (a : Machine.AnnMsg)
  /-- ANNOUNCE_TIMEOUT, R335. -/
  | announceTimeout (port : Fin 3) (ival t : Nat)
  /-- GM_SYNC_SEND, R335. -/
  | gmSyncSend (ann : Bool)
  /-- PDELAY_REQ, R321. -/
  | pdelayReq (port : Fin 3)
  /-- PDELAY_RESP, R321. -/
  | pdelayResp (port : Fin 3) (d : Nat)
  /-- TIME_LOCKED, R31. -/
  | timeLocked
  /-- TIME_SOURCE_LOST, R61. -/
  | timeSourceLost (t : Nat)
  /-- ALIGN_LOST, R62. -/
  | alignLost (t : Nat)
  /-- ACCEPT_STEP, R64. -/
  | acceptStep (p : Machine.Path) (role : BitVec 2)
  /-- TIME_STEP, R64. -/
  | timeStep (present : Bool) (off : Int)
  /-- EPOCH_BOUNDARY, R35. -/
  | epochBoundary
  /-- RUN_LAUNCH, R37. -/
  | runLaunch (dur : Nat)
  /-- DEADLINE, R49. -/
  | deadline (dur : Nat)
  /-- COMMIT_ABANDON, R57. -/
  | commitAbandon
  /-- SHORT_OF_MARGIN, R59. -/
  | shortOfMargin (d : BitVec 2)
  /-- ACTIVATION_COMPLETE, R90. -/
  | activationComplete
  /-- LOAD_COMPLETE, R93. -/
  | loadComplete (ms : BitVec 32) (copy : BitVec 2)
  /-- STAGE_BEGIN, R84. -/
  | stageBegin (p : Machine.Path) (role : BitVec 2)
  /-- VERIFY, R85. -/
  | verify (p : Machine.Path) (role : BitVec 2)
  /-- VERIFY_COMPLETE, R85. -/
  | verifyComplete
  /-- ARM, R86. -/
  | arm (p : Machine.Path) (role : BitVec 2)
  /-- CANCEL, R89. -/
  | cancel (p : Machine.Path) (role : BitVec 2)
  /-- SELECT_PREVIOUS, R89. -/
  | selectPrevious (p : Machine.Path) (role : BitVec 2)
  /-- SEQ_FLOOR_WRITE, R101. -/
  | seqFloorWrite (p : Machine.Path) (role : BitVec 2) (v : BitVec 32)
  /-- IMAGE, R334. -/
  | image (f : Machine.RcpFrame)
  /-- NOP, R201. -/
  | nop (q : BitVec 4) (j : BitVec 3)
  /-- ADD, R206. -/
  | add (q : BitVec 4) (s1 : Bool) (w : BitVec 120)
  /-- SUB, R206. -/
  | sub (q : BitVec 4) (s1 : Bool) (w : BitVec 120)
  /-- AND, R206. -/
  | and (q : BitVec 4) (s1 : Bool) (w : BitVec 120)
  /-- OR, R206. -/
  | or (q : BitVec 4) (s1 : Bool) (w : BitVec 120)
  /-- XOR, R206. -/
  | xor (q : BitVec 4) (s1 : Bool) (w : BitVec 120)
  /-- SHL, R206. -/
  | shl (q : BitVec 4) (s1 : Bool) (w : BitVec 120)
  /-- SHR, R206. -/
  | shr (q : BitVec 4) (s1 : Bool) (w : BitVec 120)
  /-- SRA, R206. -/
  | sra (q : BitVec 4) (s1 : Bool) (w : BitVec 120)
  /-- MUL, R206. -/
  | mul (q : BitVec 4) (s1 : Bool) (w : BitVec 120)
  /-- MULHU, R206. -/
  | mulhu (q : BitVec 4) (s1 : Bool) (w : BitVec 120)
  /-- MULHS, R206. -/
  | mulhs (q : BitVec 4) (s1 : Bool) (w : BitVec 120)
  /-- DIVU, R207. -/
  | divu (q : BitVec 4) (s1 : Bool) (w : BitVec 120)
  /-- DIVS, R207. -/
  | divs (q : BitVec 4) (s1 : Bool) (w : BitVec 120)
  /-- REMU, R207. -/
  | remu (q : BitVec 4) (s1 : Bool) (w : BitVec 120)
  /-- REMS, R207. -/
  | rems (q : BitVec 4) (s1 : Bool) (w : BitVec 120)
  /-- CMPEQ, R206. -/
  | cmpeq (q : BitVec 4) (s1 : Bool) (w : BitVec 120)
  /-- CMPNE, R206. -/
  | cmpne (q : BitVec 4) (s1 : Bool) (w : BitVec 120)
  /-- CMPLTU, R206. -/
  | cmpltu (q : BitVec 4) (s1 : Bool) (w : BitVec 120)
  /-- CMPLTS, R206. -/
  | cmplts (q : BitVec 4) (s1 : Bool) (w : BitVec 120)
  /-- CMPLEU, R206. -/
  | cmpleu (q : BitVec 4) (s1 : Bool) (w : BitVec 120)
  /-- CMPLES, R206. -/
  | cmples (q : BitVec 4) (s1 : Bool) (w : BitVec 120)
  /-- MOVI, R206. -/
  | movi (q : BitVec 4) (s1 : Bool) (w : BitVec 120)
  /-- SEL, R206. -/
  | sel (q : BitVec 4) (s1 : Bool) (w : BitVec 120)
  /-- PAND, R206. -/
  | pand (q : BitVec 4) (s1 : Bool) (w : BitVec 120)
  /-- POR, R206. -/
  | por (q : BitVec 4) (s1 : Bool) (w : BitVec 120)
  /-- PXOR, R206. -/
  | pxor (q : BitVec 4) (s1 : Bool) (w : BitVec 120)
  /-- PNOT, R206. -/
  | pnot (q : BitVec 4) (s1 : Bool) (w : BitVec 120)
  /-- FADD, R207. -/
  | fadd (q : BitVec 4) (s1 : Bool) (w : BitVec 120)
  /-- FSUB, R207. -/
  | fsub (q : BitVec 4) (s1 : Bool) (w : BitVec 120)
  /-- FMUL, R207. -/
  | fmul (q : BitVec 4) (s1 : Bool) (w : BitVec 120)
  /-- FMA, R207. -/
  | fma (q : BitVec 4) (s1 : Bool) (w : BitVec 120)
  /-- FDIV, R207. -/
  | fdiv (q : BitVec 4) (s1 : Bool) (w : BitVec 120)
  /-- FSQRT, R207. -/
  | fsqrt (q : BitVec 4) (s1 : Bool) (w : BitVec 120)
  /-- FMIN, R207. -/
  | fmin (q : BitVec 4) (s1 : Bool) (w : BitVec 120)
  /-- FMAX, R207. -/
  | fmax (q : BitVec 4) (s1 : Bool) (w : BitVec 120)
  /-- FCMPEQ, R207. -/
  | fcmpeq (q : BitVec 4) (s1 : Bool) (w : BitVec 120)
  /-- FCMPLT, R207. -/
  | fcmplt (q : BitVec 4) (s1 : Bool) (w : BitVec 120)
  /-- FCMPLE, R207. -/
  | fcmple (q : BitVec 4) (s1 : Bool) (w : BitVec 120)
  /-- CVTIF, R207. -/
  | cvtif (q : BitVec 4) (s1 : Bool) (w : BitVec 120)
  /-- CVTFI, R207. -/
  | cvtfi (q : BitVec 4) (s1 : Bool) (w : BitVec 120)
  /-- FABS, R206. -/
  | fabs (q : BitVec 4) (s1 : Bool) (w : BitVec 120)
  /-- FNEG, R206. -/
  | fneg (q : BitVec 4) (s1 : Bool) (w : BitVec 120)
  /-- BR, R208. -/
  | br (q : BitVec 4) (w : BitVec 120)
  /-- BRX, R208. -/
  | brx (q : BitVec 4) (w : BitVec 120)
  /-- LOOP, R209. -/
  | loop (q : BitVec 4) (w : BitVec 120)
  /-- LOOPI, R209. -/
  | loopi (q : BitVec 4) (w : BitVec 120)
  /-- DONE, R186. -/
  | done (q : BitVec 4) (w : BitVec 120)
  /-- LD1U, R213. -/
  | ld1u (q : BitVec 4) (w : BitVec 120)
  /-- LD2U, R213. -/
  | ld2u (q : BitVec 4) (w : BitVec 120)
  /-- LD4U, R213. -/
  | ld4u (q : BitVec 4) (w : BitVec 120)
  /-- LD8, R213. -/
  | ld8 (q : BitVec 4) (w : BitVec 120)
  /-- LD1S, R213. -/
  | ld1s (q : BitVec 4) (w : BitVec 120)
  /-- LD2S, R213. -/
  | ld2s (q : BitVec 4) (w : BitVec 120)
  /-- LD4S, R213. -/
  | ld4s (q : BitVec 4) (w : BitVec 120)
  /-- ST1, R213. -/
  | st1 (q : BitVec 4) (w : BitVec 120)
  /-- ST2, R213. -/
  | st2 (q : BitVec 4) (w : BitVec 120)
  /-- ST4, R213. -/
  | st4 (q : BitVec 4) (w : BitVec 120)
  /-- ST8, R213. -/
  | st8 (q : BitVec 4) (w : BitVec 120)
  /-- COPY, R214. -/
  | copy (q : BitVec 4) (w : BitVec 120)
  /-- RESULT_WRITEBACK, R170. -/
  | resultWriteback (q : BitVec 4) (i : Nat)
  /-- WRITE_COMPLETE, R257. -/
  | writeComplete (q : BitVec 4) (i : Nat)
  /-- SPAN, R182. -/
  | span (q : BitVec 4) (g1 : Bool) (w : BitVec 120)
  /-- BSWITCH, R183. -/
  | bswitch (q : BitVec 4) (g1 : Bool) (w : BitVec 120)
  /-- BLOAD, R183. -/
  | bload (q : BitVec 4) (g1 : Bool) (w : BitVec 120)
  /-- BRELEASE, R216. -/
  | brelease (q : BitVec 4) (g1 : Bool) (w : BitVec 120)
  /-- GOPEN, R215. -/
  | gopen (q : BitVec 4) (g1 : Bool) (w : BitVec 120)
  /-- GCLOSE, R215. -/
  | gclose (q : BitVec 4) (g1 : Bool) (w : BitVec 120)
  /-- PASS_START, R141. -/
  | passStart (q : BitVec 4) (sp : BitVec 7)
  /-- BANK_SWITCH_EFFECT, R112. -/
  | bankSwitchEffect (q : BitVec 4) (sp : BitVec 7)
  /-- BANK_LOAD_START, R109. -/
  | bankLoadStart (q : BitVec 4) (sp : BitVec 7)
  /-- BANK_LOAD_COMPLETE, R109. -/
  | bankLoadComplete (q : BitVec 4)
  /-- BANK_RESTORE_COMPLETE, R115. -/
  | bankRestoreComplete (q : BitVec 4) (badEcc : Bool)
  /-- BANK_RELEASE_EFFECT, R216. -/
  | bankReleaseEffect (q : BitVec 4) (sp : BitVec 7)
  /-- GROUP_OPEN_EFFECT, R140. -/
  | groupOpenEffect (q : BitVec 4) (sp : BitVec 7)
  /-- GROUP_CLOSE_EFFECT, R154. -/
  | groupCloseEffect (q : BitVec 4) (sp : BitVec 7)
  /-- SPAN_ROW_EGRESS, R120. -/
  | spanRowEgress (q : BitVec 4) (sp : BitVec 7) (badSum badHop : Option (BitVec 7))
  /-- ROLLBACK_COMPLETE, R294. -/
  | rollbackComplete (t dur : Nat)
  /-- REPLAY_LAUNCH, R295. -/
  | replayLaunch (dur : Nat)
  /-- DRAIN_COMPLETE, R139. -/
  | drainComplete (q : BitVec 4) (sp : BitVec 7)
  /-- VADD, R230. -/
  | vadd (q : BitVec 4) (w : BitVec 120)
  /-- VSUB, R230. -/
  | vsub (q : BitVec 4) (w : BitVec 120)
  /-- VMUL, R230. -/
  | vmul (q : BitVec 4) (w : BitVec 120)
  /-- VFMA, R230. -/
  | vfma (q : BitVec 4) (w : BitVec 120)
  /-- VMIN, R230. -/
  | vmin (q : BitVec 4) (w : BitVec 120)
  /-- VMAX, R230. -/
  | vmax (q : BitVec 4) (w : BitVec 120)
  /-- VSCALE, R230. -/
  | vscale (q : BitVec 4) (w : BitVec 120)
  /-- VEXP, R230. -/
  | vexp (q : BitVec 4) (w : BitVec 120)
  /-- VLOG, R230. -/
  | vlog (q : BitVec 4) (w : BitVec 120)
  /-- VRCP, R230. -/
  | vrcp (q : BitVec 4) (w : BitVec 120)
  /-- VRSQRT, R230. -/
  | vrsqrt (q : BitVec 4) (w : BitVec 120)
  /-- VSUM, R231. -/
  | vsum (q : BitVec 4) (w : BitVec 120)
  /-- VRMAX, R231. -/
  | vrmax (q : BitVec 4) (w : BitVec 120)
  /-- WADD, R232. -/
  | wadd (q : BitVec 4) (w : BitVec 120)
  /-- WCVT, R232. -/
  | wcvt (q : BitVec 4) (w : BitVec 120)
  /-- FFT, R234. -/
  | fft (q : BitVec 4) (w : BitVec 120)
  /-- IFFT, R234. -/
  | ifft (q : BitVec 4) (w : BitVec 120)
  /-- VMAG2, R234. -/
  | vmag2 (q : BitVec 4) (w : BitVec 120)
  /-- QUANT, R235. -/
  | quant (q : BitVec 4) (w : BitVec 120)
  /-- DEQUANT, R238. -/
  | dequant (q : BitVec 4) (w : BitVec 120)
  /-- DRAIN, R240. -/
  | drain (q : BitVec 4) (w : BitVec 120)
  /-- VE_OP_START, R225. -/
  | veOpStart (q : BitVec 4)
  /-- VE_OP_COMPLETE, R241. -/
  | veOpComplete (q : BitVec 4) (badCheck : Bool)
  /-- VE_STARVED, R244. -/
  | veStarved (q : BitVec 4)
  /-- MOV, R221. -/
  | mov (q : BitVec 4) (w : BitVec 120)
  /-- SIGNAL, R178. -/
  | signal (q : BitVec 4) (w : BitVec 120)
  /-- SIGNAL_DELIVERY, R178. -/
  | signalDelivery (q : BitVec 4) (i : Nat)
  /-- WAIT, R179. -/
  | wait (q : BitVec 4) (w : BitVec 120)
  /-- WAIT_COMPLETE, R179. -/
  | waitComplete (q : BitVec 4)
  /-- FENCE, R177. -/
  | fence (q : BitVec 4) (w : BitVec 120)
  /-- FENCE_COMPLETE, R177. -/
  | fenceComplete (q : BitVec 4)
  /-- LIVE, R187. -/
  | live (q : BitVec 4) (w : BitVec 120) (seen : Bool)
  /-- DONE_REPORT, R186. -/
  | doneReport (q : BitVec 4) (t dur : Nat)
  /-- NO_PROGRESS, R193. -/
  | noProgress (q : BitVec 4) (idle : Nat)
  /-- QUARTER_HALT, R195. -/
  | quarterHalt (q : BitVec 4)
  /-- START, R190. -/
  | start (p : Machine.Path) (role : BitVec 2) (q : BitVec 4)
  /-- STOP, R190. -/
  | stop (p : Machine.Path) (role : BitVec 2) (q : BitVec 4)
  /-- DEBUG_ENTER, R196. -/
  | debugEnter (p : Machine.Path) (role : BitVec 2) (q : BitVec 4)
  /-- DEBUG_EXIT, R196. -/
  | debugExit (p : Machine.Path) (role : BitVec 2) (q : BitVec 4)
  /-- STEP, R196. -/
  | step (p : Machine.Path) (role : BitVec 2) (q : BitVec 4) (n : BitVec 8)
  /-- RETIRE, R124. -/
  | retire (p : Machine.Path) (role : BitVec 2) (q : BitVec 4) (g : Fin 96)
  /-- SELFTEST_START, R126. -/
  | selftestStart (q : BitVec 4)
  /-- MARCH_TEST_COMPLETE, R127. -/
  | marchTestComplete (q : BitVec 4) (failed : Bool)
  /-- GRAIN_SCRUB, R125. -/
  | grainScrub (q : BitVec 4) (g : Fin 96) (b err : BitVec 2)
  /-- COPY_PATROL, R301. -/
  | copyPatrol (k : Nat) (badA badB pair : Bool)
  /-- RECONFIGURE, R306. -/
  | reconfigure (p : Machine.Path) (role : BitVec 2)
  /-- FLIT_ERROR, R264. -/
  | flitError (d l : BitVec 2) (same : Bool)
  /-- LINK_TRAINING_COMPLETE, R265. -/
  | linkTrainingComplete (d l : BitVec 2)
  /-- LINK_TRAINING_TIMEOUT, R265. -/
  | linkTrainingTimeout (d l : BitVec 2)
  /-- LINK_RETRAIN, R265. -/
  | linkRetrain (d l : BitVec 2) (lockLost : Bool)
  /-- RETRAIN_COMPLETE, R265. -/
  | retrainComplete (d l : BitVec 2)
  /-- RETRAIN_TIMEOUT, R272. -/
  | retrainTimeout (d l : BitVec 2)
  /-- MEM_TRAINING_COMPLETE, R268. -/
  | memTrainingComplete (d : BitVec 2) (bad : List (Fin 384))
  /-- MEM_TRAINING_TIMEOUT, R268. -/
  | memTrainingTimeout (d : BitVec 2)
  /-- ZERO_FILL_COMPLETE, R269. -/
  | zeroFillComplete (d : BitVec 2) (bad : List (Fin 384))
  /-- MEM_SCRUB, R271. -/
  | memScrub (k : Nat) (err : Nat)
  /-- DRAM_TEMP_READING, R278. -/
  | dramTempReading (d : BitVec 2) (t : Int)
  /-- CARRIER_POWER_UP, R474. -/
  | carrierPowerUp
  /-- DOWNSTREAM_FRAME_SEND, R465. -/
  | downstreamFrameSend (l : BitVec 2) (j : Nat)
  /-- DOWNSTREAM_FRAME, R471. -/
  | downstreamFrame (l : BitVec 2) (bytes : List Byte) (t : Nat)
  /-- UPSTREAM_FRAME_SEND, R470. -/
  | upstreamFrameSend (l : BitVec 2) (j : Nat) (ao : List (Nat × Int × Nat × Nat × Int)) (dio : Option (Nat × Nat))
  /-- UPSTREAM_FRAME, R472. -/
  | upstreamFrame (l : BitVec 2) (bytes : List Byte) (t : Nat)
  /-- SAFE_STATE_TIMEOUT, R473. -/
  | safeStateTimeout (l : BitVec 2) (t : Nat)
  /-- CARRIER_TIME_HOLDOVER, R476. -/
  | carrierTimeHoldover (t : Nat)
  /-- LP_OVERLOAD, R427. -/
  | lpOverload (c : BitVec 5)
  /-- LP_RETRY, R427. -/
  | lpRetry (c : BitVec 5) (below : Bool)
  /-- AO_RELEASE_SEEN, R436. -/
  | aoReleaseSeen (o : BitVec 4)
  /-- AO_THERMAL_FOLDBACK, R435. -/
  | aoThermalFoldback (o : BitVec 4)
  /-- AO_THERMAL_RESTORE, R435. -/
  | aoThermalRestore (o : BitVec 4)
  /-- LOAD_HIGH, R452. -/
  | loadHigh (o : BitVec 4)
  /-- AO_READBACK_FAULT, R453. -/
  | aoReadbackFault (o : BitVec 4)
  /-- MISWIRE, R451. -/
  | miswire (k : Fin 48) (ext : Bool)
  /-- MISWIRE_CLEAR, R451. -/
  | miswireClear (k : Fin 48)
  /-- REFERENCE_CHECK, R449. -/
  | referenceCheck (ref own chk : Int)
  /-- AO_CMD_WRITE, R439. -/
  | aoCmdWrite (p : Machine.Path) (role : BitVec 2) (o : BitVec 4) (v : BitVec 32)
  /-- AO_RANGE_SHADOW_WRITE, R440. -/
  | aoRangeShadowWrite (p : Machine.Path) (role : BitVec 2) (o : BitVec 4) (v : BitVec 2)
  /-- TRIM_OPEN, R445. -/
  | trimOpen (p : Machine.Path) (role : BitVec 2) (c : BitVec 6)
  /-- TRIM_CAPTURE_ZERO, R445. -/
  | trimCaptureZero (p : Machine.Path) (role : BitVec 2)
  /-- TRIM_CAPTURE_SPAN, R445. -/
  | trimCaptureSpan (p : Machine.Path) (role : BitVec 2)
  /-- TRIM_COMMIT, R445. -/
  | trimCommit (p : Machine.Path) (role : BitVec 2)
  /-- TRIM_ABORT, R447. -/
  | trimAbort (p : Machine.Path) (role : BitVec 2)
  /-- TRIM_TIMEOUT, R447. -/
  | trimTimeout (t : Nat)
  /-- DO_RELEASE_SEEN, R463. -/
  | doReleaseSeen (i : BitVec 5)
  /-- DO_CURRENT_LIMIT, R478. -/
  | doCurrentLimit (i : BitVec 5) (on : Bool)
  /-- DO_THERMAL_SHUTDOWN, R478. -/
  | doThermalShutdown (i : BitVec 5)
  /-- DO_THERMAL_RESTART, R461. -/
  | doThermalRestart (i : BitVec 5)
  /-- SWITCH_FAILED_ON, R479. -/
  | switchFailedOn (i : BitVec 5)
  /-- DI_MISWIRE, R480. -/
  | diMiswire (i : Fin 48) (on : Bool)
  /-- SUPPLY_REV, R480. -/
  | supplyRev (g : BitVec 1) (on : Bool)
  /-- GROUP_SUPPLY_LOW, R481. -/
  | groupSupplyLow (g : BitVec 1) (mv : Nat)
  /-- RADIO_SLOT_OPEN, R488. -/
  | radioSlotOpen (sf : Nat) (k : BitVec 10)
  /-- BEACON, R493. -/
  | beacon (sf : Nat) (masked : Bool)
  /-- RADIO_TRIGGERED, R491. -/
  | radioTriggered (rssi : Int) (dt : Nat)
  /-- RADIO_CORRELATED, R492. -/
  | radioCorrelated (corr : Nat) (inTime : Bool) (e snr : Int)
  /-- RADIO_SYNCED, R491. -/
  | radioSynced (errs : Nat) (inTime : Bool)
  /-- RADIO_HEADER, R491. -/
  | radioHeader (h : BitVec 32) (dt : Nat)
  /-- RADIO_DECODE_DONE, R487. -/
  | radioDecodeDone (llrs : List (List Int))
  /-- RADIO_SLOT_END, R488. -/
  | radioSlotEnd
  /-- AFC_RESET, R492. -/
  | afcReset (k : BitVec 10)
  /-- TAG_OFF_RANGE, R504. -/
  | tagOffRange (t : Fin 250)
  /-- RADIO_CMD_SEND, R493. -/
  | radioCmdSend (p : Machine.Path) (role : BitVec 2) (tag : BitVec 8) (len : BitVec 7)
  /-- RADIO_CMD_FAILED, R493. -/
  | radioCmdFailed
  /-- RADIO_CFG_WRITE, R494. -/
  | radioCfgWrite (p : Machine.Path) (role : BitVec 2) (v : BitVec 32)
  /-- RADIO_FIR_WRITE, R495. -/
  | radioFirWrite (p : Machine.Path) (role : BitVec 2) (i : BitVec 2) (v : BitVec 32)
  /-- LD_DWELL_START, R501. -/
  | ldDwellStart (e : BitVec 2) (m : Nat)
  /-- LD_UPLINK_FRAME, R497. -/
  | ldUplinkFrame (e : BitVec 2) (off : Int) (h : BitVec 56) (llrs : List (List Int))
  /-- LD_DWELL_END, R498. -/
  | ldDwellEnd (e : BitVec 2) (snr : List Int)
  /-- LD_LOOP_LOST, R498. -/
  | ldLoopLost (l : Fin 48)
  /-- LD_MSG_SEND, R502. -/
  | ldMsgSend (p : Machine.Path) (role : BitVec 2) (l len : BitVec 6)
  /-- LD_MSG_FAILED, R502. -/
  | ldMsgFailed
  /-- ALARM, R326. -/
  | alarm (f : Machine.RcpFrame)
  /-- ALARM_REFRESH, R324. -/
  | alarmRefresh
  /-- ALARM_FRAME_DEQUEUE, R327. -/
  | alarmFrameDequeue (t : Nat)
  /-- HELLO, R319. -/
  | hello (w : BitVec 1) (p : List Byte)
  /-- HELLO_SEND, R318. -/
  | helloSend
  /-- NEIGHBOUR_LOST, R318. -/
  | neighbourLost (w : BitVec 1) (t : Nat)
  /-- PORT_LINK_CHANGE, R318. -/
  | portLinkChange (port : Fin 3) (up : Bool)
  /-- TIME_INFO, R322. -/
  | timeInfo (f : Machine.RcpFrame)
  /-- TIME_INFO_SEND, R322. -/
  | timeInfoSend
  /-- RING_CHECK_TIMEOUT, R323. -/
  | ringCheckTimeout (t : Nat)
  /-- RCP_BAD_FRAME, R317. -/
  | rcpBadFrame (version typ : Nat) (f : Machine.RcpFrame)
  /-- READ, R330. -/
  | read (f : Machine.RcpFrame)
  /-- WRITE, R330. -/
  | write (f : Machine.RcpFrame)
  /-- RMW, R330. -/
  | rmw (f : Machine.RcpFrame)
  /-- BLOCK_READ, R331. -/
  | blockRead (f : Machine.RcpFrame)
  /-- BLOCK_WRITE, R331. -/
  | blockWrite (f : Machine.RcpFrame)
  /-- HSR_FRAME, R338. -/
  | hsrFrame (port : BitVec 1) (src dst seq : Nat) (body : List Byte)
  /-- HSR_SUPERVISION, R338. -/
  | hsrSupervision
  /-- READ_HOLDING_REGISTERS, R340. -/
  | readHoldingRegisters (conn : BitVec 3) (unit : Byte) (addr qty : BitVec 16)
  /-- READ_INPUT_REGISTERS, R340. -/
  | readInputRegisters (conn : BitVec 3) (unit : Byte) (addr qty : BitVec 16)
  /-- WRITE_SINGLE_REGISTER, R340. -/
  | writeSingleRegister (conn : BitVec 3) (unit : Byte) (addr value : BitVec 16)
  /-- WRITE_MULTIPLE_REGISTERS, R340. -/
  | writeMultipleRegisters (conn : BitVec 3) (unit : Byte) (addr : BitVec 16) (vs : List (BitVec 16))
  /-- READ_WRITE_MULTIPLE_REGISTERS, R340. -/
  | readWriteMultipleRegisters (conn : BitVec 3) (unit : Byte) (raddr rqty waddr : BitVec 16) (vs : List (BitVec 16))
  /-- BYPASS_FORCE, R312. -/
  | bypassForce (p : Machine.Path) (role : BitVec 2) (on : Bool)
  /-- HARB_PROPOSE, R342. -/
  | harbPropose (p : Machine.Path) (role : BitVec 2)
  /-- HARB_WAKE, R344. -/
  | harbWake (p : Machine.Path) (role : BitVec 2)
  /-- PROPOSE, R343. -/
  | propose (f : Machine.RcpFrame)
  /-- HARB_ACCEPT, R342. -/
  | harbAccept (f : Machine.RcpFrame)
  /-- VETO, R342. -/
  | veto (f : Machine.RcpFrame)
  /-- HARB_COMMIT, R343. -/
  | harbCommit (f : Machine.RcpFrame)
  /-- ABORT, R343. -/
  | abort (f : Machine.RcpFrame)
  /-- WAKE, R345. -/
  | wake (f : Machine.RcpFrame)
  /-- HARB_ABORT_DEADLINE, R342. -/
  | harbAbortDeadline (t : Nat)
  /-- HARB_REPEAT, R342. -/
  | harbRepeat
  /-- T_SLEEP_REACHED, R346. -/
  | tSleepReached (t : Nat)
  /-- WAKE_REPEAT, R345. -/
  | wakeRepeat
  /-- ISOLATED_WAKE, R347. -/
  | isolatedWake
  /-- LEASE_RENEW, R354. -/
  | leaseRenew (t : Nat)
  /-- CONFIRMED_EXPIRY, R356. -/
  | confirmedExpiry (t : Nat)
  /-- LEASE_EXPIRED_REQUEST, R357. -/
  | leaseExpiredRequest (t : Nat)
  /-- BRINGUP_REQUEST, R357. -/
  | bringupRequest (t : Nat)
  /-- REQUEST_REPEAT, R357. -/
  | requestRepeat
  /-- HEALTH_SEND, R361. -/
  | healthSend
  /-- RENEW, R360. -/
  | renew (f : Machine.RcpFrame)
  /-- PAIR_RENEW, R357. -/
  | pairRenew (f : Machine.RcpFrame)
  /-- CONFIRM, R355. -/
  | confirm (f : Machine.RcpFrame)
  /-- REQUEST, R358. -/
  | request (f : Machine.RcpFrame)
  /-- GRANT, R358. -/
  | grant (f : Machine.RcpFrame)
  /-- DENY, R356. -/
  | deny (f : Machine.RcpFrame)
  /-- RELEASE, R359. -/
  | release (f : Machine.RcpFrame)
  /-- RECLAIM, R359. -/
  | reclaim (f : Machine.RcpFrame)
  /-- SUSPECT, R373. -/
  | suspect (f : Machine.RcpFrame)
  /-- SUSPECT_DECISION_TIMEOUT, R373. -/
  | suspectDecisionTimeout (k : BitVec 3) (t : Nat)
  /-- DECISION, R373. -/
  | decision (f : Machine.RcpFrame)
  /-- HEALTH, R361. -/
  | health (pair : Bool) (f : Machine.RcpFrame)
  /-- ARB_QUARANTINE_END, R360. -/
  | arbQuarantineEnd (t : Nat)
  /-- ARB_HOLDOFF_EXPIRY, R358. -/
  | arbHoldoffExpiry (k : BitVec 3) (t : Nat)
  /-- CABLE_LINK_DOWN, R363. -/
  | cableLinkDown (silent sends : Nat)
  /-- CABLE_LINK_UP, R363. -/
  | cableLinkUp (valid : Nat)
  /-- CABLE_RESEND, R363. -/
  | cableResend (seq : BitVec 32)
  /-- CABLE_IDLE_SEND, R363. -/
  | cableIdleSend (t : Nat)
  /-- CABLE_RENEW, R355. -/
  | cableRenew (token expires epoch : BitVec 64)
  /-- CABLE_CONFIRM, R355. -/
  | cableConfirm (token expires : BitVec 64)
  /-- CABLE_HEALTH, R374. -/
  | cableHealth (b : List Byte)
  /-- MIRROR_RECORD, R365. -/
  | mirrorRecord (fs : List (Nat × List Byte))
  /-- STANDBY_REPLAY, R366. -/
  | standbyReplay
  /-- MISMATCH, R371. -/
  | mismatch
  /-- SUSPECT_TEST_COMPLETE, R372. -/
  | suspectTestComplete (march loopF adc : Bool)
  /-- SWITCH, R376. -/
  | switch (p : Machine.Path) (role : BitVec 2)
  /-- DETACH, R357. -/
  | detach (p : Machine.Path) (role : BitVec 2)
  /-- ATTACH, R353. -/
  | attach (p : Machine.Path) (role : BitVec 2)
  /-- HANDOVER, R377. -/
  | handover (token n : BitVec 64)
  /-- ARMED, R377. -/
  | armed (token : BitVec 64)
  /-- HANDOVER_TIMEOUT, R387. -/
  | handoverTimeout (t : Nat)
  /-- ARM_STUCK, R380. -/
  | armStuck (t : Nat)
  /-- TAKEBACK, R385. -/
  | takeback (token : BitVec 64)
  /-- FWD_CMD, R388. -/
  | fwdCmd (p : List Byte)
  /-- RESYNC_REQ, R383. -/
  | resyncReq
  /-- SNAP_END, R384. -/
  | snapEnd (epoch : BitVec 64) (fs : List (Nat × List Byte))
  /-- BLOCK_REQ, R389. -/
  | blockReq (a : BitVec 64)
  /-- BLOCK_DATA, R307. -/
  | blockData (a epoch : BitVec 64) (bs : List Byte)
  /-- ACK, R523. -/
  | ack (p : Machine.Path) (req : BitVec 32) (role : BitVec 2) (index : BitVec 16)
  /-- ACK_GROUP, R523. -/
  | ackGroup (p : Machine.Path) (req : BitVec 32) (role : BitVec 2) (index : BitVec 16)
  /-- ACK_ALL, R523. -/
  | ackAll (p : Machine.Path) (req : BitVec 32) (role : BitVec 2)
  /-- SILENCE, R524. -/
  | silence (p : Machine.Path) (req : BitVec 32) (role : BitVec 2)
  /-- SHELVE, R525. -/
  | shelve (p : Machine.Path) (req : BitVec 32) (role : BitVec 2) (index : BitVec 16) (arg : BitVec 32)
  /-- UNSHELVE, R525. -/
  | unshelve (p : Machine.Path) (req : BitVec 32) (role : BitVec 2) (index : BitVec 16)
  /-- FO_RESET, R522. -/
  | foReset (p : Machine.Path) (req : BitVec 32) (role : BitVec 2) (index : BitVec 16)
  /-- SET_SETPOINT, R528. -/
  | setSetpoint (p : Machine.Path) (req : BitVec 32) (role : BitVec 2) (index : BitVec 16) (arg : BitVec 32)
  /-- DUTY, R527. -/
  | duty (p : Machine.Path) (req : BitVec 32) (role : BitVec 2) (index : BitVec 16) (arg : BitVec 32)
  /-- WATCH_ARM, R536. -/
  | watchArm (p : Machine.Path) (req : BitVec 32) (role : BitVec 2) (arg : BitVec 32)
  /-- WATCH_RESET, R536. -/
  | watchReset (p : Machine.Path) (req : BitVec 32) (role : BitVec 2) (index : BitVec 16)
  /-- PANEL_ACK, R524. -/
  | panelAck
  /-- PANEL_SEL, R445. -/
  | panelSel (c : BitVec 5)
  /-- PANEL_ZERO, R445. -/
  | panelZero
  /-- PANEL_SPAN, R445. -/
  | panelSpan
  /-- PANEL_ENTER, R445. -/
  | panelEnter
  /-- PANEL_CANCEL, R447. -/
  | panelCancel
  /-- CALL, R527. -/
  | call (p : Machine.Path) (req : BitVec 32) (role : BitVec 2) (index : BitVec 16) (arg : BitVec 32)
  /-- CALL_SEEN, R534. -/
  | callSeen (p : Machine.Path) (req : BitVec 32) (role : BitVec 2) (index : BitVec 16)
  /-- ACCEPT, R531. -/
  | accept (p : Machine.Path) (req : BitVec 32) (role : BitVec 2) (index : BitVec 16) (arg : BitVec 32)
  /-- SETPOINT_WRITE, R528. -/
  | setpointWrite (p : Machine.Path) (role : BitVec 2) (i : BitVec 12) (v : BitVec 32)
  /-- POINT_DELAY_EXPIRY, R515. -/
  | pointDelayExpiry (p : BitVec 12)
  /-- SRC_BAD_SET, R512. -/
  | srcBadSet (p : BitVec 12)
  /-- SCORE_STALE, R511. -/
  | scoreStale (p : BitVec 12)
  /-- RADIO_STALE, R512. -/
  | radioStale (p : BitVec 12)
  /-- SHELVE_EXPIRY, R525. -/
  | shelveExpiry (p : BitVec 12)
  /-- ESCALATION, R531. -/
  | escalation (c : BitVec 4)
  /-- ACCEPT_TIMEOUT, R531. -/
  | acceptTimeout (c : BitVec 4)
  /-- TARGET_PRESENCE_LOST, R534. -/
  | targetPresenceLost (t : BitVec 6)
  /-- WATCH_PREWARN, R536. -/
  | watchPrewarn
  /-- WATCH_EXPIRY, R536. -/
  | watchExpiry
  /-- CALL_FRAME_SEND, R532. -/
  | callFrameSend (t : BitVec 6)
  /-- INVENTORY, R543. -/
  | inventory (n : BitVec 7) (mask : BitVec 64) (t : Nat)
  /-- STAY_QUIET, R543. -/
  | stayQuiet (uid : BitVec 64) (t : Nat)
  /-- SELECT, R543. -/
  | select (uid : BitVec 64) (t : Nat)
  /-- RESET_TO_READY, R543. -/
  | resetToReady (uid : Option (BitVec 64)) (sel : Bool) (t : Nat)
  /-- GET_SYSTEM_INFORMATION, R543. -/
  | getSystemInformation (uid : Option (BitVec 64)) (sel : Bool) (t : Nat)
  /-- READ_SINGLE_BLOCK, R543. -/
  | readSingleBlock (uid : Option (BitVec 64)) (sel : Bool) (b : BitVec 16) (ext : Bool) (t : Nat)
  /-- WRITE_SINGLE_BLOCK, R550. -/
  | writeSingleBlock (uid : Option (BitVec 64)) (sel : Bool) (b : BitVec 16) (ext : Bool) (v : Word) (lock : Bool) (t : Nat)
  /-- READ_MULTIPLE_BLOCKS, R543. -/
  | readMultipleBlocks (uid : Option (BitVec 64)) (sel : Bool) (b n : BitVec 16) (ext : Bool) (t : Nat)
  /-- GET_MULTIPLE_BLOCK_SECURITY_STATUS, R543. -/
  | getMultipleBlockSecurityStatus (uid : Option (BitVec 64)) (sel : Bool) (b n : BitVec 16) (ext : Bool) (t : Nat)
  /-- RF_SESSION_END, R549. -/
  | rfSessionEnd (lost : Bool) (t : Nat)
  /-- MAILBOX_SERVE, R553. -/
  | mailboxServe
  /-- FAULT_LOG_WRITE, R546. -/
  | faultLogWrite (ok : Bool)
  /-- APPLY_STAGING, R552. -/
  | applyStaging (p : Machine.Path) (role : BitVec 2)
  /-- ENROL_WINDOW_EXPIRY, R579. -/
  | enrolWindowExpiry (t : Nat)
  /-- BUTTON_ACK, R555. -/
  | buttonAck (t : Nat)
  /-- BUTTON_SEL, R555. -/
  | buttonSel (t : Nat)
  /-- BUTTON_ENTER, R555. -/
  | buttonEnter (t : Nat)
  /-- BUTTON_ZERO, R555. -/
  | buttonZero (t : Nat)
  /-- BUTTON_SPAN, R555. -/
  | buttonSpan (t : Nat)
  /-- SEL_HOLD, R555. -/
  | selHold (t : Nat)
  /-- SELECT_TIMEOUT, R555. -/
  | selectTimeout (t : Nat)
  /-- MESSAGE_SCREEN_TIMEOUT, R554. -/
  | messageScreenTimeout (t : Nat)
  /-- SESSION_OPEN, R562. -/
  | sessionOpen (p : Machine.Path) (role : BitVec 2)
  /-- SESSION_CLOSE, R564. -/
  | sessionClose (p : Machine.Path) (role : BitVec 2)
  /-- SESS_KILL, R564. -/
  | sessKill (p : Machine.Path) (role : BitVec 2) (id : BitVec 32)
  /-- SESSION_IDLE_TIMEOUT, R564. -/
  | sessionIdleTimeout (id : BitVec 32) (t : Nat)
  /-- LOCKOUT_EXPIRY, R567. -/
  | lockoutExpiry (src : BitVec 48) (t : Nat)
  /-- ENROLL_KEY, R576. -/
  | enrollKey (p : Machine.Path) (role : BitVec 2) (slot : BitVec 4)
  /-- REVOKE_KEY, R576. -/
  | revokeKey (p : Machine.Path) (role : BitVec 2) (slot : BitVec 4) (force : Bool)
  /-- ENROLL_CRED, R576. -/
  | enrollCred (p : Machine.Path) (role : BitVec 2) (slot : BitVec 4) (r : BitVec 2)
  /-- REMOVE_CRED, R576. -/
  | removeCred (p : Machine.Path) (role : BitVec 2) (slot : BitVec 4)
  /-- SEC_STORE_COMPLETE, R578. -/
  | secStoreComplete (ok : Bool)
  /-- DEBUG_DATA_READ, R588. -/
  | debugDataRead (p : Machine.Path) (role : BitVec 2) (req : BitVec 32) (d : BitVec 2) (o : BitVec 18)
  /-- DEBUG_DATA_WRITE, R590. -/
  | debugDataWrite (p : Machine.Path) (role : BitVec 2) (d : BitVec 2) (o : BitVec 18) (v : BitVec 32)
  /-- COMMAND_FRAME, R325. -/
  | commandFrame (f : Machine.RcpFrame)
  /-- RCP_FORWARD, R315. -/
  | rcpForward (typ : Nat) (f : Machine.RcpFrame)
  /-- BRINGUP_STEP_END, R397. -/
  | bringupStepEnd (step : BitVec 4) (ok : Bool) (ms : BitVec 32) (one both : BitVec 4)
  /-- DIE_POWER_FAULT, R305. -/
  | diePowerFault (d : BitVec 2)
  /-- DI_SAMPLING_INSTANT, R457. -/
  | diSamplingInstant (j : Nat) (levels : BitVec 48)
  /-- AI_SAMPLING_INSTANT, R426. -/
  | aiSamplingInstant (t : Nat) (vals : List (Nat × Int))
  /-- DO_EXT_SOURCE, R480. -/
  | doExtSource (i : BitVec 5) (on : Bool)
  /-- PDELAY_REQ_SEND, R321. -/
  | pdelayReqSend
  /-- DELAY_REQ_SEND, R335. -/
  | delayReqSend
  /-- DELAY_RESP, R335. -/
  | delayResp (d : Nat) (off : Int)
  /-- TIME_PORT_SYNC_LOSS, R337. -/
  | timePortSyncLoss (t : Nat)
  deriving DecidableEq, Repr

end Sys2Proof
end

