-- ==== Sys2Proof/Decode.lean ====
section
/-! DEFINITION. What a word of spec/opcode_table.json spells: no row of that table gives its command bits, so no word spells a
command (log entry 2). -/

namespace Sys2Proof

/-- The command a word of `nbits` bits spells by the table's bits: none, for the table gives none. -/
def decodeTableWord (_nbits _w : Nat) : Option Instr := none

end Sys2Proof
end

