-- ==== Sys2Proof/Machine/Bits.lean ====
section
/-! DEFINITION. Bit fields, signed readings, byte order (R4), pair words (R20) and the sparse tables that hold
registers and memory: lists of key and value with rising keys, one entry a key, and no entry equal to what an
unlisted key reads as. -/

namespace Sys2Proof.Machine

/-- A register field: its lowest bit and its width. -/
structure Fld where
  lo : Nat
  width : Nat
  deriving DecidableEq, Repr

/-- The field's value in a word. -/
def Fld.get (f : Fld) (w : Word) : Nat := w.toNat / 2 ^ f.lo % 2 ^ f.width

/-- The word with the field set to `v` (only the low `width` bits of `v` count). -/
def Fld.set (f : Fld) (v : Nat) (w : Word) : Word :=
  BitVec.ofNat 32 (w.toNat - f.get w * 2 ^ f.lo + v % 2 ^ f.width * 2 ^ f.lo)

/-- Bits [hi:lo] of a number. -/
def bitsOf (n hi lo : Nat) : Nat := n / 2 ^ lo % 2 ^ (hi + 1 - lo)

/-- Bit `i` of a number. -/
def bitOf (n i : Nat) : Bool := n / 2 ^ i % 2 == 1

/-- 1 for true, 0 for false. -/
def b2n (b : Bool) : Nat := if b then 1 else 0

/-- The two's complement reading of the low `w` bits of `n`. -/
def toSigned (w n : Nat) : Int :=
  let m := n % 2 ^ w
  if m < 2 ^ (w - 1) then (m : Int) else (m : Int) - 2 ^ w

/-- The low `w` bits of the two's complement form of `i`. -/
def ofSigned (w : Nat) (i : Int) : Nat := (i % 2 ^ w).toNat

/-- `i` held to `lo … hi`. -/
def clampInt (lo hi i : Int) : Int := if i < lo then lo else if hi < i then hi else i

/-- A 32-bit counter that stays at 2^32 − 1. -/
def satInc (w : Word) : Word := if w = 0xFFFFFFFF#32 then w else w + 1#32

/-- A 16-bit counter that stays at 0xFFFF. -/
def satInc16 (n : Nat) : Nat := if 0xFFFF ≤ n then 0xFFFF else n + 1

/-- The number whose little-endian bytes are `bs` (R4). -/
def leNat : List Byte → Nat
  | [] => 0
  | b :: bs => b.toNat + 256 * leNat bs

/-- The `k` little-endian bytes of `n` (R4). -/
def leBytes : Nat → Nat → List Byte
  | 0, _ => []
  | k + 1, n => BitVec.ofNat 8 n :: leBytes k (n / 256)

/-- The number whose big-endian bytes are `bs` (fields of the Ethernet and Modbus headers, R5). -/
def beNat (bs : List Byte) : Nat := leNat bs.reverse

/-- The `k` big-endian bytes of `n`. -/
def beBytes (k n : Nat) : List Byte := (leBytes k n).reverse

/-- The complement half of the pair word of `v` (00_scope.md). -/
def compl32 (v : Nat) : Nat := 0xFFFFFFFF - v % 2 ^ 32

/-- Whether a 64-bit value is a pair word: the halves are complements of each other. -/
def isPairWord (v : Nat) : Bool := (v / 2 ^ 32) % 2 ^ 32 == compl32 v

/-- The pair word of a 32-bit value. -/
def pairWord (v : Nat) : Nat := compl32 v * 2 ^ 32 + v % 2 ^ 32

/-! ### Lists used as arrays -/

/-- Element `i`, or `d` past the end. -/
def nth {α : Type} (l : List α) (i : Nat) (d : α) : α := l.getD i d

/-- The list with element `i` replaced (unchanged past the end). -/
def setNth {α : Type} (l : List α) (i : Nat) (v : α) : List α := l.set i v

/-- `n` copies. -/
def copies {α : Type} (n : Nat) (v : α) : List α := List.replicate n v

/-- The first `n` bytes, padded with zeros. -/
def padTo (n : Nat) (bs : List Byte) : List Byte := (bs ++ List.replicate (n - bs.length) 0#8).take n

/-- Bytes [off, off + n) of a list, zero past its end. -/
def slice (bs : List Byte) (off n : Nat) : List Byte := padTo n (bs.drop off)

/-- The little-endian number in bytes [off, off + n). -/
def fieldAt (bs : List Byte) (off n : Nat) : Nat := leNat (slice bs off n)

/-! ### Sparse tables -/

/-- The value listed for `k`. -/
def kvFind {α : Type} (k : Nat) : List (Nat × α) → Option α
  | [] => none
  | (j, v) :: t => if k = j then some v else kvFind k t

/-- The table with `v` listed for `k`, keys rising. -/
def kvPut {α : Type} (k : Nat) (v : α) : List (Nat × α) → List (Nat × α)
  | [] => [(k, v)]
  | (j, w) :: t => if k < j then (k, v) :: (j, w) :: t else if k = j then (k, v) :: t else (j, w) :: kvPut k v t

/-- The table with nothing listed for `k`. -/
def kvErase {α : Type} (k : Nat) : List (Nat × α) → List (Nat × α)
  | [] => []
  | (j, w) :: t => if k = j then kvErase k t else (j, w) :: kvErase k t

/-- Keys strictly rising. -/
def kvRising {α : Type} : List (Nat × α) → Bool
  | [] => true
  | [_] => true
  | (j, _) :: (k, v) :: t => Nat.blt j k && kvRising ((k, v) :: t)

/-- Set `k` to `v` in a table whose unlisted keys read as `dflt`. -/
def kvSet {α : Type} [DecidableEq α] (dflt : Nat → α) (k : Nat) (v : α) (t : List (Nat × α)) : List (Nat × α) :=
  if v = dflt k then kvErase k t else kvPut k v t

/-- Read `k` from a table whose unlisted keys read as `dflt`. -/
def kvGet {α : Type} (dflt : Nat → α) (k : Nat) (t : List (Nat × α)) : α := (kvFind k t).getD (dflt k)

/-- The canonical form: keys rising and no entry equal to its default. -/
def kvWf {α : Type} [DecidableEq α] (dflt : Nat → α) (t : List (Nat × α)) : Bool :=
  kvRising t && t.all (fun p => !decide (p.2 = dflt p.1))

/-! ### Sparse byte memories -/

/-- What an unlisted byte of memory reads as: zero (R269, the zero fill). -/
def byteDflt (_ : Nat) : Byte := 0#8

/-- One byte. -/
def memGet (m : List (Nat × Byte)) (a : Nat) : Byte := kvGet byteDflt a m

/-- `n` bytes from `a` upward. -/
def memRead (m : List (Nat × Byte)) : Nat → Nat → List Byte
  | _, 0 => []
  | a, n + 1 => memGet m a :: memRead m (a + 1) n

/-- Store bytes from `a` upward. -/
def memWrite (m : List (Nat × Byte)) : Nat → List Byte → List (Nat × Byte)
  | _, [] => m
  | a, b :: bs => memWrite (kvSet byteDflt a b m) (a + 1) bs

/-- The memory with every byte of [a, a + n) zero. -/
def memClear (m : List (Nat × Byte)) (a n : Nat) : List (Nat × Byte) :=
  m.filter (fun p => Nat.blt p.1 a || Nat.ble (a + n) p.1)

/-- The little-endian number held in `n` bytes from `a`. -/
def memNat (m : List (Nat × Byte)) (a n : Nat) : Nat := leNat (memRead m a n)

end Sys2Proof.Machine
end

