-- ==== Sys2Proof/Machine/Hash.lean ====
section
/-! DEFINITION. The checks the spec names by standard: CRC-16/CCITT-FALSE (R466), CRC-32 (R109), CRC-32C (Table 10.2),
SHA-256 and SHA-512 (FIPS 180-4, R72) and Ed25519 (RFC 8032, R71). -/

namespace Sys2Proof.Machine

/-! ### CRCs -/

/-- One reflected CRC step of `n` bits with polynomial `poly`. -/
def crcStepR (poly : Nat) : Nat → Nat → Nat
  | 0, c => c
  | n + 1, c => crcStepR poly n (if c % 2 = 1 then Nat.xor (c / 2) poly else c / 2)

/-- Reflected CRC over bytes. -/
def crcR (poly : Nat) : Nat → List Byte → Nat
  | c, [] => c
  | c, b :: bs => crcR poly (crcStepR poly 8 (Nat.xor c b.toNat)) bs

/-- CRC-32 of IEEE 802.3. -/
def crc32 (bs : List Byte) : Nat := Nat.xor (crcR 0xEDB88320 0xFFFFFFFF bs) 0xFFFFFFFF

/-- CRC-32C, polynomial 0x1EDC_6F41 reflected. -/
def crc32c (bs : List Byte) : Nat := Nat.xor (crcR 0x82F63B78 0xFFFFFFFF bs) 0xFFFFFFFF

/-- One CRC-16 step of `n` bits. -/
def crc16Step : Nat → Nat → Nat
  | 0, c => c
  | n + 1, c => crc16Step n (if 0x8000 ≤ c then Nat.xor (2 * c % 65536) 0x1021 else 2 * c)

/-- CRC-16/CCITT-FALSE from a running value. -/
def crc16From : Nat → List Byte → Nat
  | c, [] => c
  | c, b :: bs => crc16From (crc16Step 8 (Nat.xor c (b.toNat * 256))) bs

/-- CRC-16/CCITT-FALSE: polynomial 0x1021, initial value 0xFFFF, no reflection, no final XOR (R466). -/
def crc16 (bs : List Byte) : Nat := crc16From 0xFFFF bs

/-! ### SHA-2 -/

/-- The 80 round constants of SHA-512; the 64 of SHA-256 are the high halves of the first 64. -/
def sha2K : List Nat :=
  [0x428a2f98d728ae22, 0x7137449123ef65cd, 0xb5c0fbcfec4d3b2f, 0xe9b5dba58189dbbc,
   0x3956c25bf348b538, 0x59f111f1b605d019, 0x923f82a4af194f9b, 0xab1c5ed5da6d8118,
   0xd807aa98a3030242, 0x12835b0145706fbe, 0x243185be4ee4b28c, 0x550c7dc3d5ffb4e2,
   0x72be5d74f27b896f, 0x80deb1fe3b1696b1, 0x9bdc06a725c71235, 0xc19bf174cf692694,
   0xe49b69c19ef14ad2, 0xefbe4786384f25e3, 0x0fc19dc68b8cd5b5, 0x240ca1cc77ac9c65,
   0x2de92c6f592b0275, 0x4a7484aa6ea6e483, 0x5cb0a9dcbd41fbd4, 0x76f988da831153b5,
   0x983e5152ee66dfab, 0xa831c66d2db43210, 0xb00327c898fb213f, 0xbf597fc7beef0ee4,
   0xc6e00bf33da88fc2, 0xd5a79147930aa725, 0x06ca6351e003826f, 0x142929670a0e6e70,
   0x27b70a8546d22ffc, 0x2e1b21385c26c926, 0x4d2c6dfc5ac42aed, 0x53380d139d95b3df,
   0x650a73548baf63de, 0x766a0abb3c77b2a8, 0x81c2c92e47edaee6, 0x92722c851482353b] ++
  [0xa2bfe8a14cf10364, 0xa81a664bbc423001, 0xc24b8b70d0f89791, 0xc76c51a30654be30,
   0xd192e819d6ef5218, 0xd69906245565a910, 0xf40e35855771202a, 0x106aa07032bbd1b8,
   0x19a4c116b8d2d0c8, 0x1e376c085141ab53, 0x2748774cdf8eeb99, 0x34b0bcb5e19b48a8,
   0x391c0cb3c5c95a63, 0x4ed8aa4ae3418acb, 0x5b9cca4f7763e373, 0x682e6ff3d6b2b8a3,
   0x748f82ee5defb2fc, 0x78a5636f43172f60, 0x84c87814a1f0ab72, 0x8cc702081a6439ec,
   0x90befffa23631e28, 0xa4506cebde82bde9, 0xbef9a3f7b2c67915, 0xc67178f2e372532b,
   0xca273eceea26619c, 0xd186b8c721c0c207, 0xeada7dd6cde0eb1e, 0xf57d4f7fee6ed178,
   0x06f067aa72176fba, 0x0a637dc5a2c898a6, 0x113f9804bef90dae, 0x1b710b35131c471b,
   0x28db77f523047d84, 0x32caab7b40c72493, 0x3c9ebe0a15c9bebc, 0x431d67c49c100d4c,
   0x4cc5d4becb3e42b6, 0x597f299cfc657e2a, 0x5fcb6fab3ad6faec, 0x6c44198c4a475817]

/-- The initial hash value of SHA-512; that of SHA-256 is the high halves. -/
def sha2H : List Nat :=
  [0x6a09e667f3bcc908, 0xbb67ae8584caa73b, 0x3c6ef372fe94f82b, 0xa54ff53a5f1d36f1,
   0x510e527fade682d1, 0x9b05688c2b3e6c1f, 0x1f83d9abfb41bd6b, 0x5be0cd19137e2179]

/-- Word size, rounds, and the rotation amounts of Σ0, Σ1, σ0, σ1. -/
structure Sha2 where
  bits : Nat
  rounds : Nat
  s0 : Nat × Nat × Nat
  s1 : Nat × Nat × Nat
  g0 : Nat × Nat × Nat
  g1 : Nat × Nat × Nat

def sha256P : Sha2 := ⟨32, 64, (2, 13, 22), (6, 11, 25), (7, 18, 3), (17, 19, 10)⟩
def sha512P : Sha2 := ⟨64, 80, (28, 34, 39), (14, 18, 41), (1, 8, 7), (19, 61, 6)⟩

/-- Rotate right in a word of `w` bits. -/
def rotr (w n x : Nat) : Nat := x / 2 ^ n + x % 2 ^ n * 2 ^ (w - n)

/-- Σ: three rotations. -/
def bigSig (w : Nat) (r : Nat × Nat × Nat) (x : Nat) : Nat :=
  Nat.xor (Nat.xor (rotr w r.1 x) (rotr w r.2.1 x)) (rotr w r.2.2 x)

/-- σ: two rotations and a shift. -/
def smallSig (w : Nat) (r : Nat × Nat × Nat) (x : Nat) : Nat :=
  Nat.xor (Nat.xor (rotr w r.1 x) (rotr w r.2.1 x)) (x / 2 ^ r.2.2)

/-- The eight working variables. -/
structure ShaVars where
  a : Nat
  b : Nat
  c : Nat
  d : Nat
  e : Nat
  f : Nat
  g : Nat
  h : Nat

/-- The rounds: `win` is the window of the next 16 schedule words. -/
def shaRounds (p : Sha2) : Nat → List Nat → List Nat → ShaVars → ShaVars
  | 0, _, _, v => v
  | n + 1, ks, win, v =>
    let m := 2 ^ p.bits
    let w0 := win.getD 0 0
    let k := ks.headD 0
    let ch := Nat.xor (Nat.land v.e v.f) (Nat.land (m - 1 - v.e) v.g)
    let t1 := v.h + bigSig p.bits p.s1 v.e + ch + k + w0
    let maj := Nat.xor (Nat.xor (Nat.land v.a v.b) (Nat.land v.a v.c)) (Nat.land v.b v.c)
    let t2 := bigSig p.bits p.s0 v.a + maj
    let nxt := (smallSig p.bits p.g1 (win.getD 14 0) + win.getD 9 0 + smallSig p.bits p.g0 (win.getD 1 0) + w0) % m
    shaRounds p n ks.tail (win.tail ++ [nxt]) ⟨(t1 + t2) % m, v.a, v.b, v.c, (v.d + t1) % m, v.e, v.f, v.g⟩

/-- The message as big-endian words of `k` bytes. -/
def beWords (k : Nat) : Nat → List Byte → List Nat
  | 0, _ => []
  | n + 1, bs => beNat (bs.take k) :: beWords k n (bs.drop k)

/-- The compression of `n` blocks. -/
def shaBlocks (p : Sha2) (ks : List Nat) : Nat → List Byte → List Nat → List Nat
  | 0, _, h => h
  | n + 1, bs, h =>
    let wb := p.bits / 8
    let v := shaRounds p p.rounds ks (beWords wb 16 bs)
      ⟨h.getD 0 0, h.getD 1 0, h.getD 2 0, h.getD 3 0, h.getD 4 0, h.getD 5 0, h.getD 6 0, h.getD 7 0⟩
    let m := 2 ^ p.bits
    shaBlocks p ks n (bs.drop (16 * wb))
      (List.zipWith (fun x y => (x + y) % m) h [v.a, v.b, v.c, v.d, v.e, v.f, v.g, v.h])

/-- SHA-2 of a message. -/
def sha2 (p : Sha2) (bs : List Byte) : List Byte :=
  let wb := p.bits / 8
  let blk := 16 * wb
  let pad := (blk - (bs.length + 1 + 2 * wb) % blk) % blk
  let msg := bs ++ [0x80#8] ++ List.replicate pad 0#8 ++ beBytes (2 * wb) (8 * bs.length)
  let sh := 2 ^ (64 - p.bits)
  let h := shaBlocks p (sha2K.map (fun k => k / sh)) (msg.length / blk) msg (sha2H.map (fun k => k / sh))
  (h.map (beBytes wb)).flatten

/-- SHA-256 (FIPS 180-4), 32 bytes. -/
def sha256 (bs : List Byte) : List Byte := sha2 sha256P bs

/-- SHA-512 (FIPS 180-4), 64 bytes. -/
def sha512 (bs : List Byte) : List Byte := sha2 sha512P bs

/-! ### Ed25519 (RFC 8032, pure) -/

/-- The field prime 2^255 − 19. -/
def edP : Nat := 2 ^ 255 - 19
/-- The order of the base point. -/
def edL : Nat := 2 ^ 252 + 27742317777372353535851937790883648493

/-- `b^e mod m`, `fuel` bits of `e`. -/
def powMod (m : Nat) : Nat → Nat → Nat → Nat
  | 0, _, _ => 1 % m
  | fuel + 1, b, e =>
    let h := powMod m fuel (b * b % m) (e / 2)
    if e % 2 = 1 then b * h % m else h

/-- Inverse in the field. -/
def edInv (x : Nat) : Nat := powMod edP 256 x (edP - 2)

/-- The curve constant d = −121665/121666. -/
def edD : Nat := (edP - 121665) * edInv 121666 % edP

/-- A point in extended coordinates. -/
structure EdPt where
  x : Nat
  y : Nat
  z : Nat
  t : Nat

/-- Complete addition of RFC 8032 section 5.1.4, `d` the curve constant. -/
def edAdd (d : Nat) (p q : EdPt) : EdPt :=
  let a := (p.y + edP - p.x) * (q.y + edP - q.x) % edP
  let b := (p.y + p.x) * (q.y + q.x) % edP
  let c := 2 * p.t * q.t % edP * d % edP
  let dd := 2 * p.z * q.z % edP
  let e := (b + edP - a) % edP
  let f := (dd + edP - c) % edP
  let g := (dd + c) % edP
  let h := (b + a) % edP
  ⟨e * f % edP, g * h % edP, f * g % edP, e * h % edP⟩

/-- Scalar multiple, `fuel` bits. -/
def edMul (d : Nat) : Nat → Nat → EdPt → EdPt
  | 0, _, _ => ⟨0, 1, 1, 0⟩
  | fuel + 1, k, p =>
    let h := edMul d fuel (k / 2) (edAdd d p p)
    if k % 2 = 1 then edAdd d p h else h

/-- Decoding of a point (RFC 8032 section 5.1.3). -/
def edDecode (d : Nat) (bs : List Byte) : Option EdPt :=
  let n := leNat bs
  let y := n % 2 ^ 255
  let sign := n / 2 ^ 255
  if bs.length ≠ 32 ∨ edP ≤ y then none
  else
    let u := (y * y + edP - 1) % edP
    let v := (d * (y * y % edP) + 1) % edP
    let v3 := v * v % edP * v % edP
    let v7 := v3 * v3 % edP * v % edP
    let x0 := u * v3 % edP * powMod edP 253 (u * v7 % edP) ((edP - 5) / 8) % edP
    let vx2 := v * (x0 * x0 % edP) % edP
    let x1 := if vx2 = u then some x0
      else if (vx2 + u) % edP = 0 then some (x0 * powMod edP 254 2 ((edP - 1) / 4) % edP) else none
    match x1 with
    | none => none
    | some x =>
      if x = 0 ∧ sign = 1 then none
      else
        let x' := if x % 2 = sign then x else edP - x
        some ⟨x', y, 1, x' * y % edP⟩

/-- The base point. -/
def edBase (d : Nat) : Option EdPt := edDecode d (0x58#8 :: List.replicate 31 0x66#8)

/-- Verification of a pure Ed25519 signature: [S]B = R + [k]A. -/
def ed25519Verify (pk msg sig : List Byte) : Bool :=
  let d := edD
  let s := leNat (sig.drop 32)
  if sig.length ≠ 64 ∨ edL ≤ s then false
  else match edDecode d pk, edDecode d (sig.take 32), edBase d with
    | some a, some r, some b =>
      let k := leNat (sha512 (sig.take 32 ++ pk ++ msg)) % edL
      let l := edMul d 253 s b
      let q := edAdd d r (edMul d 253 k a)
      (l.x * q.z % edP == q.x * l.z % edP) && (l.y * q.z % edP == q.y * l.z % edP)
    | _, _, _ => false

end Sys2Proof.Machine
end

