-- ==== Sys2Proof/Config.lean ====
section
/-! DEFINITION. What the spec leaves open, as constants with no body. Nothing in Lean can evaluate them, so whatever is
proved holds for every value. The log entries under notes/assumptions/ name each. -/

namespace Sys2Proof.Config

/-- A fresh value nobody states, by the state's free-value counter (log entry 5). -/
opaque freeWord : Nat → BitVec 64

/-- Byte `a` of accumulator memory in launch number `n`, before anything is written there (R135: undefined). -/
opaque accByte : Nat → Nat → Byte

/-- Byte of a grain bank that is being written or tested, by chain time and window offset (R113: undefined; log entry 5). -/
opaque bankByte : Nat → Nat → Byte

/-- A word of display text whose exact form no rule states, by chain time and word index (log entry 5). -/
opaque displayWord : Nat → Nat → BitVec 32

/-- Input power in units of 0.1 W at a chain time, before the bound of R593 (log entry 5). -/
opaque inputPower : Nat → Nat

/-- Measured speed of fan `k` at a chain time, in revolutions per minute (log entry 5). -/
opaque fanSpeed : Nat → Nat → Nat

/-- The tag's UID, which ISO/IEC 15693 assigns to each chip (log entry 5). -/
opaque tagUid : BitVec 64

end Sys2Proof.Config
end

