-- ==== Sys2Proof/Machine/StImage.lean ====
section
/-! DEFINITION. State of the structure image: the sections of the configuration in force, the image store and the
pending image (03_structure_image.md). -/

namespace Sys2Proof.Machine

/-- A section: directory fields and body (Tables 3.2 to 3.5). -/
structure Sec where
  typ : Nat
  cls : Nat
  target : Nat
  body : List Byte
  deriving DecidableEq, Repr

/-- The configuration in force: the sections of the active full image with its overlay applied, variants included, and
the variant selected (R81, R99). -/
structure RunCfg where
  imageId : Nat
  overlayId : Nat
  seq : Nat
  layout : Nat
  variant : Nat
  secs : List Sec
  deriving DecidableEq, Repr

/-- A slot of the image store: the full image and its overlay, as bytes, empty when absent (R83). -/
structure StoreSlot where
  full : List Byte
  overlay : List Byte
  deriving DecidableEq, Repr

/-- The image store and the pending image (Tables 3.12 to 3.16). `sel` is the selector word: slot in bit 0, overlay used in
bit 1. `saved` is the selector in force when RESTART_ARMED was last clear, with the overlay the active slot then had. `load` says
what LOADING loads: 1 every compute section, 2 a variant's, 3 those lost in HARBOUR. -/
structure ImgSt where
  run : RunCfg
  slotA : StoreSlot
  slotB : StoreSlot
  sel : Nat
  saved : Option (Nat × List Byte)
  pend : List Byte
  armEpoch : Option Nat
  load : Nat
  deriving DecidableEq, Repr

/-- No configuration. -/
def RunCfg.zero : RunCfg := ⟨0, 0, 0, 0, 0, []⟩

/-- The image store as shipped: both slots empty, slot A selected. -/
def ImgSt.zero : ImgSt :=
  { run := RunCfg.zero, slotA := ⟨[], []⟩, slotB := ⟨[], []⟩, sel := 0, saved := none, pend := [], armEpoch := none, load := 0 }

end Sys2Proof.Machine
end

