-- ==== Sys2Proof/Machine/Cfg.lean ====
section
/-! DEFINITION. Reading the configuration in force: sections by type and target (Tables 3.4 and 3.5), the variant's
section before the primary one (R81), and the records of the compute sections. -/

namespace Sys2Proof.Machine

/-- TARGET of a die (scope 1). -/
def dieTarget (d : Nat) : Nat := 0x10000000 + d * 0x1000000
/-- TARGET of quarter 4d + q (scope 2). -/
def qtrTarget (q : Nat) : Nat := 0x20000000 + (q / 4) * 0x1000000 + (q % 4) * 0x100000
/-- VARIANT of a TARGET. -/
def targetVariant (t : Nat) : Nat := bitsOf t 19 16

/-- The body of the section of a type and a TARGET. -/
def secFind (l : List Sec) (typ target : Nat) : Option (List Byte) :=
  (l.find? (fun x => x.typ == typ && x.target == target)).map Sec.body

/-- The section in force: the selected variant's, or the primary one (R81). -/
def RunCfg.sec (c : RunCfg) (typ target : Nat) : Option (List Byte) :=
  if c.variant = 0 then secFind c.secs typ target
  else match secFind c.secs typ (target + c.variant * 0x10000) with
    | some b => some b
    | none => secFind c.secs typ target

/-- Its body, empty when absent. -/
def RunCfg.body (c : RunCfg) (typ target : Nat) : List Byte := (c.sec typ target).getD []

/-- The records of a table section: RECORD_SIZE and COUNT stand in its header. -/
def tableRecs (b : List Byte) : List (List Byte) :=
  let sz := fieldAt b 0 2
  (List.range (fieldAt b 2 2)).map (fun i => slice b (8 + sz * i) sz)

/-! ### Epoch section (Table 3.6) -/

/-- The epoch section's fields: P in µs, phase, RUN bound, late policy, ACTIVE_Q. -/
def RunCfg.epochField (c : RunCfg) (i : Nat) : Nat := fieldAt (c.body 1 0) (8 * i) 4
/-- P in ns. -/
def RunCfg.period (c : RunCfg) : Nat := 1000 * c.epochField 0
/-- φ in ns. -/
def RunCfg.phase (c : RunCfg) : Nat := c.epochField 1
/-- RUN bound in ns. -/
def RunCfg.runBound (c : RunCfg) : Nat := c.epochField 2
/-- The late policy: extend? -/
def RunCfg.extends (c : RunCfg) : Bool := c.epochField 3 == 1
/-- Whether quarter `q` runs a program. -/
def RunCfg.activeQ (c : RunCfg) (q : Nat) : Bool := bitOf (c.epochField 4) q

/-! ### Die sections (Table 3.7) -/

/-- RUNS of die `d`. -/
def RunCfg.runs (c : RunCfg) (d : Nat) : Bool := fieldAt (c.body 2 (dieTarget d)) 0 1 == 1
/-- IL_LOG2. -/
def RunCfg.ilLog2 (c : RunCfg) (d : Nat) : Nat := fieldAt (c.body 2 (dieTarget d)) 1 1
/-- IL_SET. -/
def RunCfg.ilSet (c : RunCfg) (d : Nat) : Nat := fieldAt (c.body 2 (dieTarget d)) 2 1
/-- IL_BASE. -/
def RunCfg.ilBase (c : RunCfg) (d : Nat) : Nat := fieldAt (c.body 2 (dieTarget d)) 8 8
/-- IL_LIMIT. -/
def RunCfg.ilLimit (c : RunCfg) (d : Nat) : Nat := fieldAt (c.body 2 (dieTarget d)) 16 8
/-- Index of the link from `a` to `b` among `a`'s links, in increasing die number. -/
def linkIndex (a b : Nat) : Nat := if b < a then b else b - 1
/-- The die at the far end of link `k` of die `a`. -/
def linkPeer (a k : Nat) : Nat := if k < a then k else k + 1
/-- Whether the link between `a` and `b` is enabled. -/
def RunCfg.linked (c : RunCfg) (a b : Nat) : Bool :=
  a == b || bitOf (fieldAt (c.body 2 (dieTarget a)) 3 1) (linkIndex a b)
/-- The lowest running die, which holds the input log (R284). -/
def RunCfg.logDie (c : RunCfg) : Option Nat := (List.range 4).find? c.runs
/-- Dies of a set, in increasing number. -/
def setMembers (m : Nat) : List Nat := (List.range 4).filter (fun d => bitOf m d)

/-! ### Quarter sections (Tables 3.8 to 3.10) -/

/-- Grain configuration word `g` of quarter `q`, OFF with no SPAN when the quarter has no GRAIN section. -/
def RunCfg.grainWord (c : RunCfg) (q g : Nat) : Nat :=
  match c.sec 3 (qtrTarget q) with
  | some b => fieldAt b (8 + 4 * g) 4
  | none => 127 + 2 ^ 19

/-- A span descriptor. -/
structure SpanDesc where
  grains : Nat
  streaming : Bool
  fused : Nat
  tileRows : Nat
  mode : Nat
  clog : Nat
  groups : Nat
  accOff : Nat
  grpBytes : Nat
  home : Nat
  deriving DecidableEq, Repr

/-- The descriptor in a SPAN record. -/
def spanDescOf (r : List Byte) : SpanDesc :=
  ⟨fieldAt r 1 1, fieldAt r 2 1 == 1, fieldAt r 3 1, fieldAt r 4 2, fieldAt r 6 1, fieldAt r 7 1, fieldAt r 8 1,
    fieldAt r 12 4, fieldAt r 16 4, fieldAt r 24 8⟩

/-- Span `sp` of quarter `q`. -/
def RunCfg.span (c : RunCfg) (q sp : Nat) : Option SpanDesc :=
  ((tableRecs (c.body 4 (qtrTarget q))).find? (fun r => fieldAt r 0 1 == sp)).map spanDescOf

/-- The spans of quarter `q`. -/
def RunCfg.spanIds (c : RunCfg) (q : Nat) : List Nat :=
  (tableRecs (c.body 4 (qtrTarget q))).map (fun r => fieldAt r 0 1)

/-- The vector engine port a streaming span's route names. -/
def RunCfg.spanPort (c : RunCfg) (q sp : Nat) : Option Nat :=
  ((tableRecs (c.body 5 (qtrTarget q))).find?
    (fun r => fieldAt r 0 1 == 0 && fieldAt r 1 1 == sp && fieldAt r 2 1 == 3)).map (fun r => fieldAt r 3 1)

/-- Whether a streaming span's route names port `p` (R240). -/
def RunCfg.portRouted (c : RunCfg) (q p : Nat) : Bool :=
  (tableRecs (c.body 5 (qtrTarget q))).any
    (fun r => fieldAt r 0 1 == 0 && fieldAt r 2 1 == 3 && fieldAt r 3 1 == p)

/-- The fused-operand window of a span: SP_OFFSET and SP_LENGTH. -/
def RunCfg.fusedWindow (c : RunCfg) (q sp : Nat) : Option (Nat × Nat) :=
  ((tableRecs (c.body 5 (qtrTarget q))).find?
    (fun r => fieldAt r 0 1 == 2 && fieldAt r 2 1 == 4 && fieldAt r 3 1 == sp)).map
      (fun r => (fieldAt r 4 4, fieldAt r 8 4))

/-- SPARE records of a quarter: grain and span served. -/
def RunCfg.spares (c : RunCfg) (q : Nat) : List (Nat × Nat) :=
  (tableRecs (c.body 6 (qtrTarget q))).map (fun r => (fieldAt r 0 1, fieldAt r 1 1))

/-- The weight source of bank `b` of the grain at K_POS `k` (Table 3.9). -/
def SpanDesc.bankHome (d : SpanDesc) (k b : Nat) : Nat := d.home + k * 32768 + b * 8192
/-- Its exponent source for B8 (R106). -/
def SpanDesc.expHome (d : SpanDesc) (k b : Nat) : Nat := d.home + d.grains * 32768 + k * 1024 + b * 256

/-! ### Data regions (R262, R307) -/

/-- DATA sections: destination, length, kind. -/
def RunCfg.dataRegions (c : RunCfg) : List (Nat × Nat × Nat × List Byte) :=
  (c.secs.filter (fun x => x.typ == 9)).map
    (fun x => (fieldAt x.body 0 8, fieldAt x.body 8 4, fieldAt x.body 12 1, x.body.drop 16))

/-- Share of a configuration's working grains that the variant in force keeps is counted from grain words: a grain
works when it is neither spare nor off. -/
def grainWorks (w : Nat) : Bool := !(bitOf w 18) && !(bitOf w 19)

end Sys2Proof.Machine
end

