-- ==== Sys2Proof/Machine/Regs.lean ====
section
/-! DEFINITION. The register map, taken from the register tables of spec/ (Tables 2.9, 3.17, 4.7, 5.10, 6.6, 8.6, 9.9,
9.11, 10.12, 11.12, 12.12, 13.8, 13.10, 14.11, 15.11, 16.18, 16.20, 17.8, 18.11, 19.5 and 20.4): the address of every
register and array of registers, the bit fields, and for each writable register its access code, change class and the
bits its field table assigns. A quarter argument `q` runs over 0–15 (4d + q of R166), a grain argument over 0–95. -/

namespace Sys2Proof.Machine

/-! ### Register addresses (Tables 2.9 to 20.4; the address map is Table 20.1) -/
namespace R

def TIME_STATUS : Nat := 0x0010000
def TIME_ERR : Nat := 0x0010004
def TIME_NOW_LO : Nat := 0x0010008
def TIME_NOW_HI : Nat := 0x001000C
def EPOCH_LO : Nat := 0x0010010
def EPOCH_HI : Nat := 0x0010014
def EPOCH_PW_LO : Nat := 0x0010018
def EPOCH_PW_HI : Nat := 0x001001C
def EPOCH_PERIOD : Nat := 0x0010020
def EPOCH_PHASE : Nat := 0x0010024
def RUN_BOUND : Nat := 0x0010028
def LATE_POLICY : Nat := 0x001002C
def PACE_CTRL : Nat := 0x0010030
def PACE_BAND : Nat := 0x0010034
def ACQ_TIMEOUT : Nat := 0x0010038
def TIME_CMD : Nat := 0x001003C
def RAIL (d : Nat) : Nat := 0x0010040 + 4 * d
def SLACK (d : Nat) : Nat := 0x0010050 + 4 * d
def SLACK_MIN : Nat := 0x0010060
def OFFSET : Nat := 0x0010064
def SKIP_CNT : Nat := 0x0010068
def EXTEND_CNT : Nat := 0x001006C
def OVERRUN_CNT : Nat := 0x0010070
def CEIL_CNT : Nat := 0x0010074
def IMG_STATUS : Nat := 0x0020000
def IMG_ERR : Nat := 0x0020004
def IMG_FAIL : Nat := 0x0020008
def IMG_CMD : Nat := 0x002000C
def ACTIVE_ID_LO : Nat := 0x0020010
def ACTIVE_ID_HI : Nat := 0x0020014
def OVERLAY_ID_LO : Nat := 0x0020018
def OVERLAY_ID_HI : Nat := 0x002001C
def PENDING_ID_LO : Nat := 0x0020020
def PENDING_ID_HI : Nat := 0x0020024
def ACTIVE_SEQ : Nat := 0x0020028
def RECV_BYTES : Nat := 0x002002C
def ACT_EPOCH_LO : Nat := 0x0020030
def ACT_EPOCH_HI : Nat := 0x0020034
def SEQ_FLOOR_LO : Nat := 0x0020038
def SEQ_FLOOR_HI : Nat := 0x002003C
def ACT_COUNT : Nat := 0x0020040
def PENDING_LEN : Nat := 0x0020044
def GW_STATUS (d : Nat) : Nat := 0x1100000 + 0x400000 * d
def GW_FAILED (d : Nat) : Nat := 0x1100004 + 0x400000 * d
def GW_ERR (d : Nat) : Nat := 0x1100008 + 0x400000 * d
def SELFTEST_CTRL (d : Nat) : Nat := 0x110000C + 0x400000 * d
def SELFTEST_PASSES (d : Nat) : Nat := 0x1100010 + 0x400000 * d
def GCFG (q g : Nat) : Nat := 0x1101000 + 0x400000 * (q / 4) + 0x80 * (96 * (q % 4) + g)
def GSTATE (q g : Nat) : Nat := 0x1101004 + 0x400000 * (q / 4) + 0x80 * (96 * (q % 4) + g)
def GERR (q g : Nat) : Nat := 0x1101008 + 0x400000 * (q / 4) + 0x80 * (96 * (q % 4) + g)
def ECC_CNT (q g : Nat) : Nat := 0x110100C + 0x400000 * (q / 4) + 0x80 * (96 * (q % 4) + g)
def CHK_CNT (q g : Nat) : Nat := 0x1101010 + 0x400000 * (q / 4) + 0x80 * (96 * (q % 4) + g)
def MARCH_CNT (q g : Nat) : Nat := 0x1101014 + 0x400000 * (q / 4) + 0x80 * (96 * (q % 4) + g)
def GCTRL (q g : Nat) : Nat := 0x1101018 + 0x400000 * (q / 4) + 0x80 * (96 * (q % 4) + g)
def BANK_SRC_LO (q g b : Nat) : Nat := 0x1101020 + 0x400000 * (q / 4) + 0x80 * (96 * (q % 4) + g) + 8 * b
def BANK_SRC_HI (q g b : Nat) : Nat := 0x1101024 + 0x400000 * (q / 4) + 0x80 * (96 * (q % 4) + g) + 8 * b
def BANK_XSRC_LO (q g b : Nat) : Nat := 0x1101040 + 0x400000 * (q / 4) + 0x80 * (96 * (q % 4) + g) + 8 * b
def BANK_XSRC_HI (q g b : Nat) : Nat := 0x1101044 + 0x400000 * (q / 4) + 0x80 * (96 * (q % 4) + g) + 8 * b
def BANK_CRC (q g b : Nat) : Nat := 0x1101060 + 0x400000 * (q / 4) + 0x80 * (96 * (q % 4) + g) + 4 * b
def ACC_STATUS (q : Nat) : Nat := 0x1010800 + 0x400000 * (q / 4) + 0x10000 * (q % 4)
def ACC_ERR (q : Nat) : Nat := 0x1010804 + 0x400000 * (q / 4) + 0x10000 * (q % 4)
def ACC_EPOCH_FLAGS (q : Nat) : Nat := 0x1010808 + 0x400000 * (q / 4) + 0x10000 * (q % 4)
def ACC_STICKY (q : Nat) : Nat := 0x101080C + 0x400000 * (q / 4) + 0x10000 * (q % 4)
def ACC_LIMIT_CNT (q : Nat) : Nat := 0x1010810 + 0x400000 * (q / 4) + 0x10000 * (q % 4)
def ACC_NONFINITE_CNT (q : Nat) : Nat := 0x1010814 + 0x400000 * (q / 4) + 0x10000 * (q % 4)
def ACC_CLOSE_CNT (q : Nat) : Nat := 0x1010818 + 0x400000 * (q / 4) + 0x10000 * (q % 4)
def GROUP_STATE (q s : Nat) : Nat := 0x1010840 + 0x400000 * (q / 4) + 0x10000 * (q % 4) + 4 * s
def QSTATUS (q : Nat) : Nat := 0x1010000 + 0x400000 * (q / 4) + 0x10000 * (q % 4)
def QERR (q : Nat) : Nat := 0x1010004 + 0x400000 * (q / 4) + 0x10000 * (q % 4)
def QFAULT (q : Nat) : Nat := 0x1010008 + 0x400000 * (q / 4) + 0x10000 * (q % 4)
def QCMD (q : Nat) : Nat := 0x101000C + 0x400000 * (q / 4) + 0x10000 * (q % 4)
def QFAULT_EPOCH_LO (q : Nat) : Nat := 0x1010010 + 0x400000 * (q / 4) + 0x10000 * (q % 4)
def QFAULT_EPOCH_HI (q : Nat) : Nat := 0x1010014 + 0x400000 * (q / 4) + 0x10000 * (q % 4)
def LOG_BASE_LO (q : Nat) : Nat := 0x1010018 + 0x400000 * (q / 4) + 0x10000 * (q % 4)
def LOG_BASE_HI (q : Nat) : Nat := 0x101001C + 0x400000 * (q / 4) + 0x10000 * (q % 4)
def DONE_NS (q : Nat) : Nat := 0x1010020 + 0x400000 * (q / 4) + 0x10000 * (q % 4)
def LW_CNT (q : Nat) : Nat := 0x1010024 + 0x400000 * (q / 4) + 0x10000 * (q % 4)
def FAULT_LIMIT (q : Nat) : Nat := 0x1010028 + 0x400000 * (q / 4) + 0x10000 * (q % 4)
def FAULT_CNT (q : Nat) : Nat := 0x101002C + 0x400000 * (q / 4) + 0x10000 * (q % 4)
def QECC_CNT (q : Nat) : Nat := 0x1010030 + 0x400000 * (q / 4) + 0x10000 * (q % 4)
def QDBG (q : Nat) : Nat := 0x1010034 + 0x400000 * (q / 4) + 0x10000 * (q % 4)
def DEBUG_PC (q : Nat) : Nat := 0x1010038 + 0x400000 * (q / 4) + 0x10000 * (q % 4)
def SYNC (q c : Nat) : Nat := 0x1010040 + 0x400000 * (q / 4) + 0x10000 * (q % 4) + 4 * c
def VE_STATUS (q : Nat) : Nat := 0x1010400 + 0x400000 * (q / 4) + 0x10000 * (q % 4)
def VE_ERR (q : Nat) : Nat := 0x1010404 + 0x400000 * (q / 4) + 0x10000 * (q % 4)
def VE_STICKY (q : Nat) : Nat := 0x1010408 + 0x400000 * (q / 4) + 0x10000 * (q % 4)
def VE_OP_CNT (q : Nat) : Nat := 0x101040C + 0x400000 * (q / 4) + 0x10000 * (q % 4)
def VE_SAT_CNT (q : Nat) : Nat := 0x1010410 + 0x400000 * (q / 4) + 0x10000 * (q % 4)
def VE_NONFINITE_CNT (q : Nat) : Nat := 0x1010414 + 0x400000 * (q / 4) + 0x10000 * (q % 4)
def VE_ECC_CNT (q : Nat) : Nat := 0x1010418 + 0x400000 * (q / 4) + 0x10000 * (q % 4)
def MEM_STATUS (d : Nat) : Nat := 0x1200000 + 0x400000 * d
def MEM_ERR (d : Nat) : Nat := 0x1200004 + 0x400000 * d
def MEM_CTRL (d : Nat) : Nat := 0x1200008 + 0x400000 * d
def DRAM_TEMP (d : Nat) : Nat := 0x120000C + 0x400000 * d
def MEM_CORR_CNT (d : Nat) : Nat := 0x1200010 + 0x400000 * d
def MEM_UNCORR_CNT (d : Nat) : Nat := 0x1200014 + 0x400000 * d
def DQ_ECC_CNT (d : Nat) : Nat := 0x1200018 + 0x400000 * d
def SP_CORR_CNT (d : Nat) : Nat := 0x120001C + 0x400000 * d
def FAIL_ADDR_LO (d : Nat) : Nat := 0x1200020 + 0x400000 * d
def FAIL_ADDR_HI (d : Nat) : Nat := 0x1200024 + 0x400000 * d
def REFUSE_CNT (d : Nat) : Nat := 0x1200028 + 0x400000 * d
def MEM_PEAK (d : Nat) : Nat := 0x120002C + 0x400000 * d
def IL_CFG (d : Nat) : Nat := 0x1200030 + 0x400000 * d
def IL_BASE_LO (d : Nat) : Nat := 0x1200038 + 0x400000 * d
def IL_BASE_HI (d : Nat) : Nat := 0x120003C + 0x400000 * d
def IL_LIMIT_LO (d : Nat) : Nat := 0x1200040 + 0x400000 * d
def IL_LIMIT_HI (d : Nat) : Nat := 0x1200044 + 0x400000 * d
def WREG_COUNT (d : Nat) : Nat := 0x1200048 + 0x400000 * d
def WREG_BASE_LO (d w : Nat) : Nat := 0x1200100 + 0x400000 * d + 16 * w
def WREG_BASE_HI (d w : Nat) : Nat := 0x1200104 + 0x400000 * d + 16 * w
def WREG_LIMIT_LO (d w : Nat) : Nat := 0x1200108 + 0x400000 * d + 16 * w
def WREG_LIMIT_HI (d w : Nat) : Nat := 0x120010C + 0x400000 * d + 16 * w
def LINK_STATUS (d : Nat) : Nat := 0x1300000 + 0x400000 * d
def LINK_ERR (d : Nat) : Nat := 0x1300004 + 0x400000 * d
def LINK_CTRL (d : Nat) : Nat := 0x1300008 + 0x400000 * d
def LINK_CRC_CNT (d l : Nat) : Nat := 0x1300010 + 0x400000 * d + 16 * l
def LINK_REPLAY_CNT (d l : Nat) : Nat := 0x1300014 + 0x400000 * d + 16 * l
def LINK_RETRAIN_CNT (d l : Nat) : Nat := 0x1300018 + 0x400000 * d + 16 * l
def LINK_PEAK (d l : Nat) : Nat := 0x130001C + 0x400000 * d + 16 * l
def REC_STATUS : Nat := 0x0030000
def REC_ERR : Nat := 0x0030004
def REC_CTRL : Nat := 0x0030008
def REC_CMD : Nat := 0x003000C
def COMMIT_EPOCH_LO : Nat := 0x0030010
def COMMIT_EPOCH_HI : Nat := 0x0030014
def ROLLBACK_CNT : Nat := 0x0030018
def REPLAY_CNT : Nat := 0x003001C
def EXHAUST_CNT : Nat := 0x0030020
def PW_MISMATCH_CNT : Nat := 0x0030024
def PW_LAST : Nat := 0x0030028
def LATENT_CNT : Nat := 0x003002C
def COPY_REPAIR_CNT : Nat := 0x0030030
def JOURNAL_PEAK : Nat := 0x0030034
def LOST_Q : Nat := 0x0030038
def CAPACITY : Nat := 0x003003C
def EVT_HEAD : Nat := 0x0030040
def EVT_W (i w : Nat) : Nat := 0x0030100 + 32 * i + 4 * w
def CHAIN_STATUS : Nat := 0x0040000
def CHAIN_ERR : Nat := 0x0040004
def CHAIN_CTRL : Nat := 0x0040008
def RCP_ETYPE : Nat := 0x004000C
def PTP_CFG : Nat := 0x0040010
def PTP_RATE : Nat := 0x0040014
def SEG_LIMIT : Nat := 0x0040018
def ALM_SHAPE : Nat := 0x004001C
def LINK_DELAY_E : Nat := 0x0040020
def LINK_DELAY_W : Nat := 0x0040024
def NEIGH_E_LO : Nat := 0x0040028
def NEIGH_E_HI : Nat := 0x004002C
def NEIGH_W_LO : Nat := 0x0040030
def NEIGH_W_HI : Nat := 0x0040034
def BYPASS_CNT : Nat := 0x0040038
def MAC_CHAIN_LO : Nat := 0x004003C
def MAC_CHAIN_HI : Nat := 0x0040040
def MAC_X5_LO : Nat := 0x0040044
def MAC_X5_HI : Nat := 0x0040048
def IP_CHAIN : Nat := 0x004004C
def MASK_CHAIN : Nat := 0x0040050
def IP_X5 : Nat := 0x0040054
def MASK_X5 : Nat := 0x0040058
def MODBUS_CFG : Nat := 0x004005C
def HARB_STATUS : Nat := 0x0040060
def HARB_CMD : Nat := 0x0040064
def HARB_T_LO : Nat := 0x0040068
def HARB_T_HI : Nat := 0x004006C
def HARB_PROP_SEQ : Nat := 0x0040070
def HARB_INIT_LO : Nat := 0x0040078
def HARB_INIT_HI : Nat := 0x004007C
def DUP_CNT : Nat := 0x0040080
def BAD_FRAME_CNT : Nat := 0x0040084
def PW_FRAME_CNT : Nat := 0x0040088
def ALM_SHAPED_CNT : Nat := 0x004008C
def RING_OPEN_CNT : Nat := 0x0040090
def HSR_DUP_CNT : Nat := 0x0040094
def WAKE_CNT : Nat := 0x0040098
def ROSTER_COUNT : Nat := 0x00400A0
def ROSTER_LO (i : Nat) : Nat := 0x0040100 + 8 * i
def ROSTER_HI (i : Nat) : Nat := 0x0040104 + 8 * i
def PAIR_STATUS : Nat := 0x0050000
def PAIR_ERR : Nat := 0x0050004
def PAIR_CFG : Nat := 0x0050008
def PAIR_CMD : Nat := 0x005000C
def LEASE_CFG : Nat := 0x0050010
def SYNC_CFG : Nat := 0x0050014
def PARTNER_LO : Nat := 0x0050018
def PARTNER_HI : Nat := 0x005001C
def ARBITER_LO : Nat := 0x0050020
def ARBITER_HI : Nat := 0x0050024
def PAIR_ID : Nat := 0x0050028
def TOKEN_LO : Nat := 0x0050030
def TOKEN_HI : Nat := 0x0050034
def EXPIRES_LO : Nat := 0x0050038
def EXPIRES_HI : Nat := 0x005003C
def MIRROR_EPOCH_LO : Nat := 0x0050040
def MIRROR_EPOCH_HI : Nat := 0x0050044
def HEALTH_SELF : Nat := 0x0050048
def HEALTH_PARTNER : Nat := 0x005004C
def SWITCH_CNT : Nat := 0x0050050
def MISMATCH_CNT : Nat := 0x0050054
def NONDET_CNT : Nat := 0x0050058
def FENCE_CNT : Nat := 0x005005C
def CABLE_ERR_CNT : Nat := 0x0050060
def FWD_DROP_CNT : Nat := 0x0050064
def LAST_SWITCH : Nat := 0x0050068
def ARB_CTRL : Nat := 0x0050080
def ARB_PAIR_ID (k : Nat) : Nat := 0x0050100 + 64 * k
def ARB_FLAGS (k : Nat) : Nat := 0x0050104 + 64 * k
def ARB_UNIT0_LO (k : Nat) : Nat := 0x0050108 + 64 * k
def ARB_UNIT0_HI (k : Nat) : Nat := 0x005010C + 64 * k
def ARB_UNIT1_LO (k : Nat) : Nat := 0x0050110 + 64 * k
def ARB_UNIT1_HI (k : Nat) : Nat := 0x0050114 + 64 * k
def ARB_TOKEN_LO (k : Nat) : Nat := 0x0050118 + 64 * k
def ARB_TOKEN_HI (k : Nat) : Nat := 0x005011C + 64 * k
def ARB_EXPIRES_LO (k : Nat) : Nat := 0x0050120 + 64 * k
def ARB_EXPIRES_HI (k : Nat) : Nat := 0x0050124 + 64 * k
def SYS_PRODUCT : Nat := 0x0000000
def SYS_STEP : Nat := 0x0000004
def SERIAL_LO : Nat := 0x0000008
def SERIAL_HI : Nat := 0x000000C
def LOADER_VER : Nat := 0x0000010
def MFG_DATE : Nat := 0x0000014
def SYS_STATE : Nat := 0x0000018
def SYS_ERR : Nat := 0x000001C
def SYS_CMD : Nat := 0x0000020
def RESET_CAUSE : Nat := 0x0000024
def RESTART_CNT : Nat := 0x0000028
def BU_T (s : Nat) : Nat := 0x0000044 + 4 * (s - 1)
def PWR_STATUS : Nat := 0x0060000
def PWR_ERR : Nat := 0x0060004
def PWR_CMD : Nat := 0x0060008
def FAN_CTRL : Nat := 0x006000C
def FEED_A_MV : Nat := 0x0060010
def FEED_B_MV : Nat := 0x0060014
def INPUT_POWER : Nat := 0x0060018
def TEMP_DIE (d : Nat) : Nat := 0x0060020 + 4 * d
def TEMP_HUB : Nat := 0x0060030
def TEMP_INLET : Nat := 0x0060034
def TEMP_OUTLET : Nat := 0x0060038
def TEMP_COOLANT : Nat := 0x006003C
def FAN (k : Nat) : Nat := 0x0060040 + 4 * k
def PFAIL_CNT : Nat := 0x0060050
def TRIP_CNT : Nat := 0x0060054
def AIO_STATUS : Nat := 0x4000000
def AIO_ERR : Nat := 0x4000004
def AIO_CTRL : Nat := 0x4000008
def TRIM_CMD : Nat := 0x400000C
def TRIM_STATUS : Nat := 0x4000010
def TRIM_MEAS : Nat := 0x4000014
def TRIM_CAP_Z : Nat := 0x4000018
def TRIM_CAP_S : Nat := 0x400001C
def REF_READING : Nat := 0x4000020
def REFCHK_CNT : Nat := 0x4000024
def AI_CFG (c : Nat) : Nat := 0x4000100 + 64 * c
def AI_STATUS (c : Nat) : Nat := 0x4000104 + 64 * c
def AI_MEAN (c : Nat) : Nat := 0x4000108 + 64 * c
def AI_EU (c : Nat) : Nat := 0x400010C + 64 * c
def AI_EU_LO (c : Nat) : Nat := 0x4000110 + 64 * c
def AI_EU_HI (c : Nat) : Nat := 0x4000114 + 64 * c
def AI_ABSENT_CNT (c : Nat) : Nat := 0x4000118 + 64 * c
def AI_ZERO_TRIM_LO (c : Nat) : Nat := 0x4000120 + 64 * c
def AI_ZERO_TRIM_HI (c : Nat) : Nat := 0x4000124 + 64 * c
def AI_SPAN_TRIM_LO (c : Nat) : Nat := 0x4000128 + 64 * c
def AI_SPAN_TRIM_HI (c : Nat) : Nat := 0x400012C + 64 * c
def AO_CFG (o : Nat) : Nat := 0x4000900 + 64 * o
def AO_STATUS (o : Nat) : Nat := 0x4000904 + 64 * o
def AO_CMD_LO (o : Nat) : Nat := 0x4000908 + 64 * o
def AO_CMD_HI (o : Nat) : Nat := 0x400090C + 64 * o
def AO_COMMITTED_LO (o : Nat) : Nat := 0x4000910 + 64 * o
def AO_COMMITTED_HI (o : Nat) : Nat := 0x4000914 + 64 * o
def AO_READBACK (o : Nat) : Nat := 0x4000918 + 64 * o
def AO_LOOP_V (o : Nat) : Nat := 0x400091C + 64 * o
def AO_ZERO_TRIM_LO (o : Nat) : Nat := 0x4000920 + 64 * o
def AO_ZERO_TRIM_HI (o : Nat) : Nat := 0x4000924 + 64 * o
def AO_SPAN_TRIM_LO (o : Nat) : Nat := 0x4000928 + 64 * o
def AO_SPAN_TRIM_HI (o : Nat) : Nat := 0x400092C + 64 * o
def AO_SUPPLY (o : Nat) : Nat := 0x4000930 + 64 * o
def AO_FLT_CNT (o : Nat) : Nat := 0x4000934 + 64 * o
def DIO_STATUS : Nat := 0x4100000
def DIO_ERR : Nat := 0x4100004
def ISO_TIMEOUT : Nat := 0x4100008
def DI_STATE_LO : Nat := 0x410000C
def DI_STATE_HI : Nat := 0x4100010
def DO_ON : Nat := 0x4100014
def DO_ARMED : Nat := 0x4100018
def DO_LIMIT : Nat := 0x410001C
def DO_TRIPPED : Nat := 0x4100020
def DO_EXT : Nat := 0x4100024
def DO_CMD_LO : Nat := 0x4100028
def DO_CMD_HI : Nat := 0x410002C
def DO_COMMITTED_LO : Nat := 0x4100030
def DO_COMMITTED_HI : Nat := 0x4100034
def DO_SAFE_LO : Nat := 0x4100038
def DO_SAFE_HI : Nat := 0x410003C
def RELAY_SAFE : Nat := 0x4100040
def RELAY_STATE : Nat := 0x4100044
def LPLUS_1_MV : Nat := 0x4100048
def LPLUS_2_MV : Nat := 0x410004C
def DI_FILTER (g : Nat) : Nat := 0x4100050 + 4 * g
def DI_MISWIRE_LO : Nat := 0x4100068
def DI_MISWIRE_HI : Nat := 0x410006C
def DI_COUNT (i : Nat) : Nat := 0x4100080 + 4 * i
def LANE_STATUS (l : Nat) : Nat := 0x4100140 + 16 * l
def LANE_CRC (l : Nat) : Nat := 0x4100144 + 16 * l
def LANE_SEQ (l : Nat) : Nat := 0x4100148 + 16 * l
def LANE_PW (l : Nat) : Nat := 0x410014C + 16 * l
def DIO_TIMEOUT_CNT : Nat := 0x4100180
def DO_TRIP_CNT : Nat := 0x4100184
def RADIO_STATUS : Nat := 0x4200000
def RADIO_ERR : Nat := 0x4200004
def RADIO_CFG : Nat := 0x4200008
def RADIO_SF : Nat := 0x420000C
def RADIO_JOIN : Nat := 0x4200010
def RADIO_DETECT : Nat := 0x4200014
def RADIO_SYNC : Nat := 0x4200018
def RADIO_TX : Nat := 0x420001C
def RADIO_CUSTOM : Nat := 0x4200020
def RADIO_MISC : Nat := 0x4200024
def RADIO_FIR (w : Nat) : Nat := 0x4200028 + 4 * w
def RADIO_CMD : Nat := 0x4200038
def RADIO_CMD_STATUS : Nat := 0x420003C
def SF_NUM_LO : Nat := 0x4200040
def SF_NUM_HI : Nat := 0x4200044
def TX_TIME : Nat := 0x4200048
def BEACON_CNT : Nat := 0x420004C
def BARE_CNT : Nat := 0x4200050
def UNKNOWN_CNT : Nat := 0x4200054
def RADIO_CMD_DATA (w : Nat) : Nat := 0x4200100 + 4 * w
def RTAG_EUI_LO (t : Nat) : Nat := 0x4201000 + 32 * t
def RTAG_EUI_HI (t : Nat) : Nat := 0x4201004 + 32 * t
def RTAG_SLOT (t : Nat) : Nat := 0x4201008 + 32 * t
def RTAG_LINK (t : Nat) : Nat := 0x420100C + 32 * t
def RTAG_OFFSET (t : Nat) : Nat := 0x4201010 + 32 * t
def RTAG_LAST (t : Nat) : Nat := 0x4201014 + 32 * t
def RTAG_OK_CNT (t : Nat) : Nat := 0x4201018 + 32 * t
def RTAG_FAIL_CNT (t : Nat) : Nat := 0x420101C + 32 * t
def LD_STATUS : Nat := 0x4300000
def LD_ERR : Nat := 0x4300004
def LD_EN : Nat := 0x4300008
def LD_CFG1 : Nat := 0x430000C
def LD_CFG2 : Nat := 0x4300010
def LD_MSG_CMD : Nat := 0x4300014
def LD_MSG_STATUS : Nat := 0x4300018
def LD_MSG_DATA (w : Nat) : Nat := 0x4300040 + 4 * w
def LDL_STATE (l : Nat) : Nat := 0x4301000 + 128 * l
def LDL_OFFSET (l : Nat) : Nat := 0x4301004 + 128 * l
def LDL_OK_CNT (l : Nat) : Nat := 0x4301008 + 128 * l
def LDL_FAIL_CNT (l : Nat) : Nat := 0x430100C + 128 * l
def LDL_SNR (l i : Nat) : Nat := 0x4301010 + 128 * l + 4 * i
def LDL_UL_BITS (l i : Nat) : Nat := 0x4301030 + 128 * l + 4 * i
def LDL_DL_BITS (l i : Nat) : Nat := 0x4301040 + 128 * l + 4 * i
def ALM_STATUS : Nat := 0x0070000
def ALM_ERR : Nat := 0x0070004
def ALM_CTRL : Nat := 0x0070008
def ALM_SEQ : Nat := 0x007000C
def RADIO_STALE : Nat := 0x0070010
def UNACK_CNT : Nat := 0x0070014
def RAISED_CNT : Nat := 0x0070018
def SHELVED_CNT : Nat := 0x007001C
def SUPPRESSED_CNT : Nat := 0x0070020
def BAD_CNT : Nat := 0x0070024
def SUMMARY_EPOCH_LO : Nat := 0x0070028
def SUMMARY_EPOCH_HI : Nat := 0x007002C
def DUTY_LO_LO : Nat := 0x0070030
def DUTY_LO_HI : Nat := 0x0070034
def DUTY_HI_LO : Nat := 0x0070038
def DUTY_HI_HI : Nat := 0x007003C
def WATCH_CFG : Nat := 0x0070040
def WATCH_TIME : Nat := 0x0070044
def WATCH_PRE : Nat := 0x0070048
def WATCH_STATUS : Nat := 0x007004C
def WATCH_PRE_MASK_LO : Nat := 0x0070050
def WATCH_PRE_MASK_HI : Nat := 0x0070054
def WATCH_REMAIN : Nat := 0x0070058
def FRAME_CNT : Nat := 0x0070060
def CMD_CNT : Nat := 0x0070064
def CMD_REJ_CNT : Nat := 0x0070068
def CLASS_STATE (c : Nat) : Nat := 0x0070080 + 4 * c
def CLASS_CFG (c : Nat) : Nat := 0x00700C0 + 4 * c
def LEVEL_MASK_LO (c l : Nat) : Nat := 0x0070100 + 64 * c + 16 * l
def LEVEL_MASK_HI (c l : Nat) : Nat := 0x0070104 + 64 * c + 16 * l
def LEVEL_CFG (c l : Nat) : Nat := 0x0070108 + 64 * c + 16 * l
def TARGET_CFG (t : Nat) : Nat := 0x0070500 + 16 * t
def TARGET_MAC_LO (t : Nat) : Nat := 0x0070504 + 16 * t
def TARGET_MAC_HI (t : Nat) : Nat := 0x0070508 + 16 * t
def TARGET_STATUS (t : Nat) : Nat := 0x007050C + 16 * t
def RELAY_FN (k : Nat) : Nat := 0x0070900 + 4 * k
def GROUP (g : Nat) : Nat := 0x0070A00 + 4 * g
def ALM_CMD_ARG_LO : Nat := 0x0071000
def ALM_CMD_ARG_HI : Nat := 0x0071004
def ALM_CMD : Nat := 0x0071008
def ALM_CMD_STATUS : Nat := 0x007100C
def POINT_SEL : Nat := 0x0071010
def POINT_WIN (w : Nat) : Nat := 0x0071020 + 4 * w
def POINT_PAIR (i : Nat) : Nat := 0x0072000 + 4 * i
def SETPOINT_LO (p : Nat) : Nat := 0x0074000 + 8 * p
def SETPOINT_HI (p : Nat) : Nat := 0x0074004 + 8 * p
def DBG_STATUS (d : Nat) : Nat := 0x1050000 + 0x400000 * d
def DBG_ERR (d : Nat) : Nat := 0x1050004 + 0x400000 * d
def DBG_PAGE (d : Nat) : Nat := 0x1050008 + 0x400000 * d
def DBG_PHYS_LO (d : Nat) : Nat := 0x1050010 + 0x400000 * d
def DBG_PHYS_HI (d : Nat) : Nat := 0x1050014 + 0x400000 * d
def DBG_READ_CNT (d : Nat) : Nat := 0x1050018 + 0x400000 * d
def TAG_STATUS : Nat := 0x0080000
def TAG_ERR : Nat := 0x0080004
def TAG_CTRL : Nat := 0x0080008
def TAG_CMD : Nat := 0x008000C
def FLOG_SEQ : Nat := 0x0080010
def FLOG_DROP_CNT : Nat := 0x0080014
def STAGE_STATUS : Nat := 0x0080018
def MBX_STATUS : Nat := 0x008001C
def SESSION_CNT : Nat := 0x0080020
def HOST_BUSY_CNT : Nat := 0x0080024
def FLOG_W (i w : Nat) : Nat := 0x0081000 + 48 * i + 4 * w
def PANEL_STATUS : Nat := 0x0090000
def PANEL_ERR : Nat := 0x0090004
def PANEL_CTRL : Nat := 0x0090008
def PRESS_CNT : Nat := 0x009000C
def LED_STATE : Nat := 0x0090010
def DISPLAY (w : Nat) : Nat := 0x0090020 + 4 * w
def SEC_STATUS : Nat := 0x00A0000
def SEC_ERR : Nat := 0x00A0004
def SEC_CMD : Nat := 0x00A0008
def SEC_CMD_STATUS : Nat := 0x00A000C
def REVOKED_CNT : Nat := 0x00A0010
def KEY_STAGE (w : Nat) : Nat := 0x00A0020 + 4 * w
def CRED_STAGE (w : Nat) : Nat := 0x00A0040 + 4 * w
def KEY_ID_LO (i : Nat) : Nat := 0x00A0080 + 8 * i
def KEY_ID_HI (i : Nat) : Nat := 0x00A0084 + 8 * i
def KEY_STATE (i : Nat) : Nat := 0x00A00C0 + 4 * i
def CRED_CFG (j : Nat) : Nat := 0x00A0100 + 4 * j
def CRED_GROUP_CTR (j : Nat) : Nat := 0x00A0140 + 4 * j
def REVOKED_LO (r : Nat) : Nat := 0x00A0200 + 8 * r
def REVOKED_HI (r : Nat) : Nat := 0x00A0204 + 8 * r
def HOSTIF_STATUS : Nat := 0x00B0000
def HOSTIF_ERR : Nat := 0x00B0004
def HOSTIF_CTRL : Nat := 0x00B0008
def SESS_KILL : Nat := 0x00B000C
def HS_CRED : Nat := 0x00B0010
def HS_HN_LO : Nat := 0x00B0014
def HS_HN_HI : Nat := 0x00B0018
def HS_CMD : Nat := 0x00B001C
def HS_SESSION : Nat := 0x00B0020
def HS_NN_LO : Nat := 0x00B0024
def HS_NN_HI : Nat := 0x00B0028
def HS_ECHO_LO : Nat := 0x00B002C
def HS_ECHO_HI : Nat := 0x00B0030
def HS_RESULT : Nat := 0x00B0034
def AUTH_FAIL_CNT : Nat := 0x00B0040
def DENIED_CNT : Nat := 0x00B0044
def PW_REJECT_CNT : Nat := 0x00B0048
def CLASS_REJECT_CNT : Nat := 0x00B004C
def NOT_READY_CNT : Nat := 0x00B0050
def TORN_WRITE_CNT : Nat := 0x00B0054
def SESS_ID (s : Nat) : Nat := 0x00B0080 + 16 * s
def SESS_INFO (s : Nat) : Nat := 0x00B0084 + 16 * s
def SESS_CTR (s : Nat) : Nat := 0x00B0088 + 16 * s

end R

/-! ### Register fields (Tables 2.10 to 20.5) -/
namespace F

def TIME_STATUS_STATE : Fld := ⟨0, 2⟩
def TIME_STATUS_SOURCE : Fld := ⟨2, 2⟩
def TIME_STATUS_PACE_AT_CEIL : Fld := ⟨4, 1⟩
def TIME_STATUS_DIVERGED : Fld := ⟨5, 1⟩
def TIME_STATUS_ALIGN_LOST : Fld := ⟨6, 1⟩
def TIME_STATUS_EXTENDING : Fld := ⟨7, 1⟩
def TIME_STATUS_EVER_LOCKED : Fld := ⟨8, 1⟩
def TIME_ERR_SKIP : Fld := ⟨0, 1⟩
def TIME_ERR_EXTEND : Fld := ⟨1, 1⟩
def TIME_ERR_OVERRUN : Fld := ⟨2, 1⟩
def TIME_ERR_COMMIT_ABANDON : Fld := ⟨3, 1⟩
def TIME_ERR_PACE_CEIL : Fld := ⟨4, 1⟩
def TIME_ERR_TIME_STEP : Fld := ⟨5, 1⟩
def TIME_ERR_DIVERGED : Fld := ⟨6, 1⟩
def TIME_ERR_ALIGN_LOST : Fld := ⟨7, 1⟩
def TIME_ERR_CMD_REJECT : Fld := ⟨8, 1⟩
def TIME_ERR_BAD_WRITE : Fld := ⟨9, 1⟩
def EPOCH_PERIOD_P_US : Fld := ⟨0, 20⟩
def EPOCH_PHASE_PHASE_NS : Fld := ⟨0, 30⟩
def RUN_BOUND_BOUND_NS : Fld := ⟨0, 30⟩
def LATE_POLICY_POLICY : Fld := ⟨0, 1⟩
def PACE_CTRL_ENABLE : Fld := ⟨0, 1⟩
def PACE_CTRL_CEIL_CODE : Fld := ⟨8, 8⟩
def PACE_CTRL_FLOOR_CODE : Fld := ⟨16, 8⟩
def PACE_BAND_LO : Fld := ⟨0, 10⟩
def PACE_BAND_HI : Fld := ⟨16, 10⟩
def ACQ_TIMEOUT_TIMEOUT : Fld := ⟨0, 16⟩
def TIME_CMD_ACCEPT_STEP : Fld := ⟨0, 1⟩
def RAIL_CODE : Fld := ⟨0, 8⟩
def SLACK_SLACK_NS : Fld := ⟨0, 31⟩
def SLACK_LATE : Fld := ⟨31, 1⟩
def SLACK_MIN_SLACK_NS : Fld := ⟨0, 31⟩
def IMG_STATUS_PEND_STATE : Fld := ⟨0, 3⟩
def IMG_STATUS_ACTIVE_SLOT : Fld := ⟨3, 1⟩
def IMG_STATUS_OVERLAY : Fld := ⟨4, 1⟩
def IMG_STATUS_BOOT_FALLBACK : Fld := ⟨5, 1⟩
def IMG_STATUS_NO_IMAGE : Fld := ⟨6, 1⟩
def IMG_STATUS_LOADING : Fld := ⟨7, 1⟩
def IMG_STATUS_VARIANT_ON : Fld := ⟨8, 1⟩
def IMG_STATUS_VARIANT : Fld := ⟨9, 3⟩
def IMG_STATUS_LAYOUT : Fld := ⟨12, 2⟩
def IMG_STATUS_STORE_DEGRADED : Fld := ⟨14, 1⟩
def IMG_STATUS_RESTART_ARMED : Fld := ⟨15, 1⟩
def IMG_ERR_VERIFY_FAIL : Fld := ⟨0, 1⟩
def IMG_ERR_ACT_FAIL : Fld := ⟨1, 1⟩
def IMG_ERR_CMD_REJECT : Fld := ⟨2, 1⟩
def IMG_ERR_BOOT_FALLBACK : Fld := ⟨3, 1⟩
def IMG_ERR_STORE : Fld := ⟨4, 1⟩
def IMG_ERR_XFER : Fld := ⟨5, 1⟩
def IMG_ERR_BAD_WRITE : Fld := ⟨6, 1⟩
def IMG_FAIL_CODE : Fld := ⟨0, 8⟩
def IMG_FAIL_SECTION : Fld := ⟨8, 16⟩
def IMG_FAIL_WHERE : Fld := ⟨24, 2⟩
def IMG_CMD_CMD : Fld := ⟨0, 4⟩
def GW_ERR_GRAIN_EVENT : Fld := ⟨0, 1⟩
def GW_ERR_BAD_WRITE : Fld := ⟨1, 1⟩
def GW_ERR_MARCH_FAIL : Fld := ⟨2, 1⟩
def SELFTEST_CTRL_ENABLE : Fld := ⟨0, 1⟩
def SELFTEST_CTRL_SPARES_ONLY : Fld := ⟨1, 1⟩
def SELFTEST_CTRL_GAP : Fld := ⟨8, 8⟩
def GSTATE_STATE : Fld := ⟨0, 3⟩
def GSTATE_ACTIVE_BANK : Fld := ⟨3, 2⟩
def GERR_CHECKSUM : Fld := ⟨0, 1⟩
def GERR_CHAIN : Fld := ⟨1, 1⟩
def GERR_ECC_UNCORR : Fld := ⟨2, 1⟩
def GERR_MARCH : Fld := ⟨3, 1⟩
def GERR_SRC_CHANGED : Fld := ⟨4, 1⟩
def GERR_RETIRED : Fld := ⟨5, 1⟩
def GCTRL_RETIRE : Fld := ⟨0, 1⟩
def ACC_STATUS_OPEN : Fld := ⟨0, 10⟩
def ACC_STATUS_DRAINING : Fld := ⟨10, 10⟩
def ACC_STATUS_DEBUG_STALL : Fld := ⟨20, 1⟩
def ACC_ERR_GROUP_CLOSED : Fld := ⟨0, 1⟩
def ACC_ERR_GROUP_OPEN : Fld := ⟨1, 1⟩
def ACC_ERR_GROUP_SHAPE : Fld := ⟨2, 1⟩
def ACC_ERR_GROUP_RANGE : Fld := ⟨3, 1⟩
def ACC_ERR_GROUP_SIZE : Fld := ⟨4, 1⟩
def ACC_ERR_GROUP_FORM : Fld := ⟨5, 1⟩
def ACC_ERR_STATE_FORMAT : Fld := ⟨6, 1⟩
def ACC_ERR_OPEN_AT_DONE : Fld := ⟨7, 1⟩
def ACC_ERR_FUSED_RANGE : Fld := ⟨8, 1⟩
def ACC_EPOCH_FLAGS_INF : Fld := ⟨0, 1⟩
def ACC_EPOCH_FLAGS_NAN : Fld := ⟨1, 1⟩
def ACC_EPOCH_FLAGS_LIMIT : Fld := ⟨2, 1⟩
def ACC_STICKY_INF : Fld := ⟨0, 1⟩
def ACC_STICKY_NAN : Fld := ⟨1, 1⟩
def ACC_STICKY_LIMIT : Fld := ⟨2, 1⟩
def QSTATUS_STATE : Fld := ⟨0, 3⟩
def QSTATUS_ACTIVE : Fld := ⟨3, 1⟩
def QSTATUS_STOP_PENDING : Fld := ⟨4, 1⟩
def QSTATUS_START_PENDING : Fld := ⟨5, 1⟩
def QSTATUS_LIVE_READ : Fld := ⟨6, 1⟩
def QSTATUS_WAITING : Fld := ⟨7, 1⟩
def QERR_PROGRAM_FAULT : Fld := ⟨0, 1⟩
def QERR_HARDWARE_FAULT : Fld := ⟨1, 1⟩
def QERR_HALTED : Fld := ⟨2, 1⟩
def QERR_CMD_REJECT : Fld := ⟨3, 1⟩
def QERR_BAD_WRITE : Fld := ⟨4, 1⟩
def QERR_LIVE_READ : Fld := ⟨5, 1⟩
def QFAULT_CODE : Fld := ⟨0, 8⟩
def QFAULT_LW : Fld := ⟨8, 11⟩
def QFAULT_SLOT : Fld := ⟨19, 3⟩
def QFAULT_KIND : Fld := ⟨22, 1⟩
def QCMD_CMD : Fld := ⟨0, 3⟩
def DONE_NS_NS : Fld := ⟨0, 31⟩
def DONE_NS_LATE : Fld := ⟨31, 1⟩
def FAULT_LIMIT_LIMIT : Fld := ⟨0, 8⟩
def QDBG_CMD : Fld := ⟨0, 2⟩
def QDBG_COUNT : Fld := ⟨8, 8⟩
def DEBUG_PC_PC : Fld := ⟨0, 11⟩
def VE_STATUS_QUEUED : Fld := ⟨0, 4⟩
def VE_STATUS_BUSY : Fld := ⟨4, 1⟩
def VE_STATUS_WAIT_INPUT : Fld := ⟨5, 1⟩
def VE_ERR_VE_FAULT : Fld := ⟨0, 1⟩
def VE_ERR_CHECK : Fld := ⟨1, 1⟩
def VE_STICKY_INF : Fld := ⟨0, 1⟩
def VE_STICKY_NAN : Fld := ⟨1, 1⟩
def VE_STICKY_SAT : Fld := ⟨3, 1⟩
def MEM_STATUS_STATE : Fld := ⟨0, 3⟩
def MEM_STATUS_HOT : Fld := ⟨3, 1⟩
def MEM_STATUS_REFRESH_2X : Fld := ⟨4, 1⟩
def MEM_STATUS_WCHECK : Fld := ⟨5, 1⟩
def MEM_STATUS_POISONED : Fld := ⟨6, 1⟩
def MEM_ERR_UNCORR : Fld := ⟨0, 1⟩
def MEM_ERR_SCRUB_UNCORR : Fld := ⟨1, 1⟩
def MEM_ERR_DQ_ECC_UNCORR : Fld := ⟨2, 1⟩
def MEM_ERR_SP_UNCORR : Fld := ⟨3, 1⟩
def MEM_ERR_TRAIN_FAIL : Fld := ⟨4, 1⟩
def MEM_ERR_REFUSED : Fld := ⟨5, 1⟩
def MEM_ERR_UNAVAILABLE : Fld := ⟨6, 1⟩
def MEM_ERR_BAD_WRITE : Fld := ⟨7, 1⟩
def MEM_CTRL_SCRUB_EN : Fld := ⟨0, 1⟩
def MEM_CTRL_SCRUB_HOURS : Fld := ⟨8, 8⟩
def DRAM_TEMP_TEMP : Fld := ⟨0, 8⟩
def DRAM_TEMP_VALID : Fld := ⟨8, 1⟩
def MEM_PEAK_PERMILLE : Fld := ⟨0, 10⟩
def IL_CFG_IL_LOG2 : Fld := ⟨0, 8⟩
def IL_CFG_IL_SET : Fld := ⟨8, 4⟩
def WREG_COUNT_COUNT : Fld := ⟨0, 7⟩
def LINK_ERR_REPLAY : Fld := ⟨0, 1⟩
def LINK_ERR_RETRAIN : Fld := ⟨1, 1⟩
def LINK_ERR_DOWN : Fld := ⟨2, 1⟩
def LINK_ERR_DETOUR : Fld := ⟨3, 1⟩
def LINK_ERR_HUB_RETRAIN : Fld := ⟨4, 1⟩
def LINK_ERR_HUB_DOWN : Fld := ⟨5, 1⟩
def LINK_ERR_BAD_WRITE : Fld := ⟨6, 1⟩
def LINK_CTRL_DETOUR_EN : Fld := ⟨0, 1⟩
def PEAK_PERMILLE : Fld := ⟨0, 10⟩
def REC_STATUS_UNRECOVERABLE : Fld := ⟨0, 1⟩
def REC_STATUS_DEGRADED : Fld := ⟨1, 1⟩
def REC_STATUS_RECONFIGURING : Fld := ⟨2, 1⟩
def REC_STATUS_SWITCH_REQ : Fld := ⟨3, 1⟩
def REC_STATUS_ROLLING_BACK : Fld := ⟨4, 1⟩
def REC_STATUS_ATTEMPT : Fld := ⟨5, 2⟩
def REC_STATUS_DISPLACED : Fld := ⟨7, 1⟩
def REC_ERR_ROLLBACK : Fld := ⟨0, 1⟩
def REC_ERR_EXHAUSTED : Fld := ⟨1, 1⟩
def REC_ERR_PW_MISMATCH : Fld := ⟨2, 1⟩
def REC_ERR_COPY_REPAIR : Fld := ⟨3, 1⟩
def REC_ERR_JOURNAL_FULL : Fld := ⟨4, 1⟩
def REC_ERR_UNIT_LOST : Fld := ⟨5, 1⟩
def REC_ERR_RESULT_CONFLICT : Fld := ⟨6, 1⟩
def REC_ERR_LOG_LOST : Fld := ⟨7, 1⟩
def REC_ERR_BLOCK_REBUILT : Fld := ⟨8, 1⟩
def REC_ERR_CMD_REJECT : Fld := ⟨9, 1⟩
def REC_ERR_BAD_WRITE : Fld := ⟨10, 1⟩
def REC_CTRL_SWITCH_ON_LOSS : Fld := ⟨0, 1⟩
def REC_CTRL_PREFER_SWITCH : Fld := ⟨1, 1⟩
def REC_CTRL_QLOSS_LIMIT : Fld := ⟨8, 8⟩
def REC_CMD_CMD : Fld := ⟨0, 2⟩
def PW_LAST_PLACE : Fld := ⟨0, 4⟩
def JOURNAL_PEAK_ENTRIES : Fld := ⟨0, 21⟩
def LOST_Q_QUARTERS : Fld := ⟨0, 16⟩
def CAPACITY_PERMILLE : Fld := ⟨0, 10⟩
def CAPACITY_QUARTERS : Fld := ⟨16, 5⟩
def CAPACITY_SPARES : Fld := ⟨22, 10⟩
def EVT_HEAD_NEWEST : Fld := ⟨0, 6⟩
def EVT_HEAD_WRAPPED : Fld := ⟨6, 1⟩
def EVT_HEAD_SEQ : Fld := ⟨16, 16⟩
def CHAIN_STATUS_LINK_E : Fld := ⟨0, 1⟩
def CHAIN_STATUS_LINK_W : Fld := ⟨1, 1⟩
def CHAIN_STATUS_RELAY_OPEN : Fld := ⟨2, 1⟩
def CHAIN_STATUS_RING_CLOSED : Fld := ⟨3, 1⟩
def CHAIN_STATUS_NEIGH_E_OK : Fld := ⟨4, 1⟩
def CHAIN_STATUS_NEIGH_W_OK : Fld := ⟨5, 1⟩
def CHAIN_STATUS_PTP_ROLE : Fld := ⟨6, 2⟩
def CHAIN_STATUS_PORTS_READY : Fld := ⟨8, 1⟩
def CHAIN_STATUS_PEERS_ASLEEP : Fld := ⟨9, 1⟩
def CHAIN_ERR_BAD_FRAME : Fld := ⟨0, 1⟩
def CHAIN_ERR_PW_FRAME : Fld := ⟨1, 1⟩
def CHAIN_ERR_SEG_LONG : Fld := ⟨2, 1⟩
def CHAIN_ERR_BYPASS_RUN : Fld := ⟨3, 1⟩
def CHAIN_ERR_ROSTER_MISMATCH : Fld := ⟨4, 1⟩
def CHAIN_ERR_CROSSED : Fld := ⟨5, 1⟩
def CHAIN_ERR_EPOCH_MISMATCH : Fld := ⟨6, 1⟩
def CHAIN_ERR_RING_OPEN : Fld := ⟨7, 1⟩
def CHAIN_ERR_ALM_SHAPED : Fld := ⟨8, 1⟩
def CHAIN_ERR_NEIGH_LOST : Fld := ⟨9, 1⟩
def CHAIN_ERR_CMD_REJECT : Fld := ⟨10, 1⟩
def CHAIN_ERR_BAD_WRITE : Fld := ⟨11, 1⟩
def CHAIN_CTRL_HSR_EN : Fld := ⟨0, 1⟩
def CHAIN_CTRL_BYPASS_FORCE : Fld := ⟨1, 1⟩
def CHAIN_CTRL_HARB_VETO : Fld := ⟨2, 1⟩
def CHAIN_CTRL_HSR_RATE : Fld := ⟨8, 8⟩
def RCP_ETYPE_ETYPE : Fld := ⟨0, 16⟩
def RCP_ETYPE_ACTIVE : Fld := ⟨16, 16⟩
def PTP_CFG_DOMAIN : Fld := ⟨0, 8⟩
def PTP_CFG_PRIO1 : Fld := ⟨8, 8⟩
def PTP_CFG_PRIO2 : Fld := ⟨16, 8⟩
def PTP_CFG_GM_CAPABLE : Fld := ⟨24, 1⟩
def PTP_CFG_X5_EN : Fld := ⟨25, 1⟩
def PTP_CFG_X5_P2P : Fld := ⟨26, 1⟩
def PTP_CFG_X5_UDP : Fld := ⟨27, 1⟩
def PTP_RATE_LOG_SYNC : Fld := ⟨0, 4⟩
def PTP_RATE_LOG_ANN : Fld := ⟨4, 4⟩
def PTP_RATE_LOG_PDELAY : Fld := ⟨8, 4⟩
def PTP_RATE_ANN_TIMEOUT : Fld := ⟨12, 4⟩
def SEG_LIMIT_NS : Fld := ⟨0, 16⟩
def ALM_SHAPE_BYTES : Fld := ⟨0, 16⟩
def LINK_DELAY_NS : Fld := ⟨0, 16⟩
def LINK_DELAY_VALID : Fld := ⟨31, 1⟩
def BYPASS_CNT_E : Fld := ⟨0, 8⟩
def BYPASS_CNT_W : Fld := ⟨8, 8⟩
def MAC_MAC : Fld := ⟨0, 48⟩
def MODBUS_CFG_EN_X5 : Fld := ⟨0, 1⟩
def MODBUS_CFG_EN_CHAIN : Fld := ⟨1, 1⟩
def MODBUS_CFG_ROLE : Fld := ⟨2, 2⟩
def MODBUS_CFG_UNIT_ID : Fld := ⟨8, 8⟩
def HARB_STATUS_STATE : Fld := ⟨0, 3⟩
def HARB_STATUS_INITIATOR : Fld := ⟨3, 1⟩
def HARB_STATUS_LAST_OUTCOME : Fld := ⟨4, 4⟩
def HARB_STATUS_LAST_CAUSE : Fld := ⟨8, 8⟩
def HARB_CMD_CMD : Fld := ⟨0, 2⟩
def ROSTER_COUNT_COUNT : Fld := ⟨0, 7⟩
def PAIR_STATUS_STATE : Fld := ⟨0, 3⟩
def PAIR_STATUS_HEALTHY_SELF : Fld := ⟨3, 1⟩
def PAIR_STATUS_HEALTHY_PARTNER : Fld := ⟨4, 1⟩
def PAIR_STATUS_CABLE_UP : Fld := ⟨5, 1⟩
def PAIR_STATUS_ARB_SEEN : Fld := ⟨6, 1⟩
def PAIR_STATUS_LEVEL : Fld := ⟨7, 1⟩
def PAIR_STATUS_SUSPECT : Fld := ⟨8, 1⟩
def PAIR_STATUS_DETACH_HELD : Fld := ⟨9, 1⟩
def PAIR_STATUS_LAG : Fld := ⟨16, 8⟩
def PAIR_ERR_CABLE_DOWN : Fld := ⟨0, 1⟩
def PAIR_ERR_MISMATCH : Fld := ⟨1, 1⟩
def PAIR_ERR_NONDET : Fld := ⟨2, 1⟩
def PAIR_ERR_FENCED : Fld := ⟨3, 1⟩
def PAIR_ERR_DENIED : Fld := ⟨4, 1⟩
def PAIR_ERR_IMAGE_MISMATCH : Fld := ⟨5, 1⟩
def PAIR_ERR_CONFIG_MISMATCH : Fld := ⟨6, 1⟩
def PAIR_ERR_LAG : Fld := ⟨7, 1⟩
def PAIR_ERR_ARM_STUCK : Fld := ⟨8, 1⟩
def PAIR_ERR_TAKE_UNSYNCED : Fld := ⟨9, 1⟩
def PAIR_ERR_CMD_REJECT : Fld := ⟨10, 1⟩
def PAIR_ERR_BAD_WRITE : Fld := ⟨11, 1⟩
def PAIR_ERR_RECORD_FAIL : Fld := ⟨12, 1⟩
def PAIR_CFG_EN : Fld := ⟨0, 1⟩
def PAIR_CFG_UNIT : Fld := ⟨1, 1⟩
def PAIR_CFG_PREF : Fld := ⟨2, 1⟩
def PAIR_CFG_RETURN : Fld := ⟨3, 1⟩
def PAIR_CMD_CMD : Fld := ⟨0, 4⟩
def LEASE_CFG_LEASE_MS : Fld := ⟨0, 7⟩
def LEASE_CFG_HANDOVER_TO : Fld := ⟨8, 16⟩
def SYNC_CFG_MAX_LAG : Fld := ⟨0, 8⟩
def SYNC_CFG_TB_QUIET : Fld := ⟨8, 24⟩
def LAST_SWITCH_CAUSE : Fld := ⟨0, 4⟩
def ARB_CTRL_ARB_EN : Fld := ⟨0, 1⟩
def ARB_CTRL_ARB_AUTO : Fld := ⟨1, 1⟩
def ARB_CTRL_ARB_HOLDOFF : Fld := ⟨8, 8⟩
def ARB_FLAGS_PREF : Fld := ⟨0, 1⟩
def SYS_PRODUCT_PRODUCT : Fld := ⟨0, 16⟩
def SYS_PRODUCT_ORDER : Fld := ⟨16, 4⟩
def SYS_STEP_CD_STEP : Fld := ⟨0, 8⟩
def SYS_STEP_HUB_STEP : Fld := ⟨8, 8⟩
def LOADER_VER_MINOR : Fld := ⟨0, 16⟩
def LOADER_VER_MAJOR : Fld := ⟨16, 16⟩
def MFG_DATE_DAY : Fld := ⟨0, 8⟩
def MFG_DATE_MONTH : Fld := ⟨8, 8⟩
def MFG_DATE_YEAR : Fld := ⟨16, 16⟩
def SYS_STATE_POWER_STATE : Fld := ⟨0, 4⟩
def SYS_STATE_BU_STEP : Fld := ⟨4, 4⟩
def SYS_STATE_HALT : Fld := ⟨8, 4⟩
def SYS_ERR_TIME_SLOW : Fld := ⟨0, 1⟩
def SYS_ERR_CMD_REJECT : Fld := ⟨1, 1⟩
def SYS_ERR_BAD_WRITE : Fld := ⟨2, 1⟩
def SYS_CMD_CMD : Fld := ⟨0, 4⟩
def SYS_CMD_FORCE : Fld := ⟨4, 1⟩
def RESET_CAUSE_CAUSE : Fld := ⟨0, 4⟩
def PWR_STATUS_FEED_A_OK : Fld := ⟨0, 1⟩
def PWR_STATUS_FEED_B_OK : Fld := ⟨1, 1⟩
def PWR_STATUS_PFAIL : Fld := ⟨2, 1⟩
def PWR_STATUS_DIE_ON : Fld := ⟨3, 4⟩
def PWR_STATUS_DIE_TRIPPED : Fld := ⟨7, 4⟩
def PWR_STATUS_THERM_WARN : Fld := ⟨11, 1⟩
def PWR_STATUS_FAN_FAIL : Fld := ⟨12, 1⟩
def PWR_STATUS_COOLING : Fld := ⟨13, 1⟩
def PWR_ERR_FEED_LOST : Fld := ⟨0, 1⟩
def PWR_ERR_THERM_WARN : Fld := ⟨1, 1⟩
def PWR_ERR_DIE_TRIP : Fld := ⟨2, 1⟩
def PWR_ERR_FAN_FAIL : Fld := ⟨3, 1⟩
def PWR_ERR_COOLANT_HOT : Fld := ⟨4, 1⟩
def PWR_ERR_CMD_REJECT : Fld := ⟨5, 1⟩
def PWR_ERR_BAD_WRITE : Fld := ⟨6, 1⟩
def PWR_CMD_CMD : Fld := ⟨0, 4⟩
def PWR_CMD_DIE : Fld := ⟨4, 2⟩
def FAN_CTRL_MANUAL : Fld := ⟨0, 1⟩
def FAN_CTRL_DUTY : Fld := ⟨8, 8⟩
def FAN_CTRL_TARGET : Fld := ⟨16, 8⟩
def FAN_CTRL_FAN_MIN : Fld := ⟨24, 8⟩
def FEED_MV_MV : Fld := ⟨0, 16⟩
def INPUT_POWER_DW : Fld := ⟨0, 16⟩
def TEMP_TEMP : Fld := ⟨0, 16⟩
def TEMP_VALID : Fld := ⟨16, 1⟩
def FAN_RPM : Fld := ⟨0, 16⟩
def FAN_FAIL : Fld := ⟨16, 1⟩
def FAN_PRESENT : Fld := ⟨17, 1⟩
def AIO_STATUS_REF_OK : Fld := ⟨0, 1⟩
def AIO_STATUS_CARRIER_OK : Fld := ⟨1, 1⟩
def AIO_ERR_REF_FAIL : Fld := ⟨0, 1⟩
def AIO_ERR_TRIM_LOST : Fld := ⟨1, 1⟩
def AIO_ERR_CMD_REJECT : Fld := ⟨2, 1⟩
def AIO_ERR_BAD_WRITE : Fld := ⟨3, 1⟩
def AIO_ERR_ISO_FAULT : Fld := ⟨4, 1⟩
def AIO_CTRL_REFCHK_EN : Fld := ⟨0, 1⟩
def TRIM_CMD_CMD : Fld := ⟨0, 4⟩
def TRIM_CMD_CHANNEL : Fld := ⟨4, 6⟩
def TRIM_STATUS_SESSION : Fld := ⟨0, 2⟩
def TRIM_STATUS_CHANNEL : Fld := ⟨2, 6⟩
def TRIM_STATUS_ZERO_HELD : Fld := ⟨8, 1⟩
def TRIM_STATUS_SPAN_HELD : Fld := ⟨9, 1⟩
def TRIM_STATUS_LAST_RESULT : Fld := ⟨10, 4⟩
def AI_CFG_RANGE : Fld := ⟨0, 1⟩
def AI_CFG_LP_EN : Fld := ⟨1, 1⟩
def AI_CFG_PERIOD_US : Fld := ⟨2, 20⟩
def AI_STATUS_CLASS : Fld := ⟨0, 3⟩
def AI_STATUS_LP_OVERLOAD : Fld := ⟨3, 1⟩
def AI_STATUS_MISWIRE : Fld := ⟨4, 1⟩
def AI_STATUS_CHECK_FAIL : Fld := ⟨5, 1⟩
def AI_STATUS_RANGE_ACTIVE : Fld := ⟨6, 1⟩
def AO_CFG_RANGE_SHADOW : Fld := ⟨0, 2⟩
def AO_CFG_SAFE : Fld := ⟨2, 2⟩
def AO_STATUS_STATE : Fld := ⟨0, 3⟩
def AO_STATUS_RANGE_ACTIVE : Fld := ⟨3, 2⟩
def AO_STATUS_CLAMPED : Fld := ⟨5, 1⟩
def AO_STATUS_THERMAL : Fld := ⟨6, 1⟩
def AO_STATUS_LOAD_HIGH : Fld := ⟨7, 1⟩
def AO_STATUS_MISWIRE : Fld := ⟨8, 1⟩
def AO_STATUS_EXT_SOURCE : Fld := ⟨9, 1⟩
def AO_STATUS_WRITTEN : Fld := ⟨10, 1⟩
def AO_LOOP_V_MV : Fld := ⟨0, 16⟩
def AO_SUPPLY_MV : Fld := ⟨0, 16⟩
def AO_SUPPLY_TEMP : Fld := ⟨16, 16⟩
def DIO_STATUS_CARRIER_OK : Fld := ⟨0, 1⟩
def DIO_STATUS_TIME_LOCK : Fld := ⟨1, 1⟩
def DIO_STATUS_SUPPLY_1_OK : Fld := ⟨2, 1⟩
def DIO_STATUS_SUPPLY_2_OK : Fld := ⟨3, 1⟩
def DIO_STATUS_SUPPLY_REV : Fld := ⟨4, 1⟩
def DIO_STATUS_ISO_FAULT : Fld := ⟨5, 1⟩
def DIO_ERR_CRC : Fld := ⟨0, 1⟩
def DIO_ERR_SEQ : Fld := ⟨1, 1⟩
def DIO_ERR_PW : Fld := ⟨2, 1⟩
def DIO_ERR_TIMEOUT : Fld := ⟨3, 1⟩
def DIO_ERR_TRIP : Fld := ⟨4, 1⟩
def DIO_ERR_ISO_FAULT : Fld := ⟨5, 1⟩
def DIO_ERR_SUPPLY_LOW : Fld := ⟨6, 1⟩
def DIO_ERR_TIME_HOLD : Fld := ⟨7, 1⟩
def DIO_ERR_BAD_WRITE : Fld := ⟨8, 1⟩
def ISO_TIMEOUT_MS : Fld := ⟨0, 10⟩
def RELAY_STATE_ON : Fld := ⟨0, 4⟩
def LPLUS_MV_MV : Fld := ⟨0, 16⟩
def LANE_STATUS_DN_OK : Fld := ⟨0, 1⟩
def LANE_STATUS_UP_OK : Fld := ⟨1, 1⟩
def LANE_STATUS_SAFE_ACTIVE : Fld := ⟨2, 1⟩
def LANE_STATUS_ECHO : Fld := ⟨16, 16⟩
def LANE_CRC_DN : Fld := ⟨0, 16⟩
def LANE_CRC_UP : Fld := ⟨16, 16⟩
def RADIO_STATUS_TX_ACTIVE : Fld := ⟨0, 1⟩
def RADIO_STATUS_MASK_HOLD : Fld := ⟨1, 1⟩
def RADIO_STATUS_DUTY_HOLD : Fld := ⟨2, 1⟩
def RADIO_ERR_PLAN : Fld := ⟨0, 1⟩
def RADIO_ERR_MASK_FAIL : Fld := ⟨1, 1⟩
def RADIO_ERR_DUTY : Fld := ⟨2, 1⟩
def RADIO_ERR_BARE : Fld := ⟨3, 1⟩
def RADIO_ERR_CMD_REJECT : Fld := ⟨4, 1⟩
def RADIO_ERR_CLASS : Fld := ⟨5, 1⟩
def RADIO_ERR_BAD_WRITE : Fld := ⟨6, 1⟩
def RADIO_CFG_EN : Fld := ⟨0, 1⟩
def RADIO_CFG_TX_EN : Fld := ⟨1, 1⟩
def RADIO_CFG_PRESET : Fld := ⟨2, 2⟩
def RADIO_CFG_LEVELS : Fld := ⟨4, 1⟩
def RADIO_CFG_RATE_CODE : Fld := ⟨5, 4⟩
def RADIO_CFG_BEACON_RATE : Fld := ⟨9, 2⟩
def RADIO_CFG_CH : Fld := ⟨11, 8⟩
def RADIO_SF_SF_LEN : Fld := ⟨0, 16⟩
def RADIO_SF_SLOT_US : Fld := ⟨16, 16⟩
def RADIO_JOIN_NSLOTS : Fld := ⟨0, 10⟩
def RADIO_JOIN_BEACON_SLOTS : Fld := ⟨10, 4⟩
def RADIO_JOIN_JOIN_FIRST : Fld := ⟨14, 10⟩
def RADIO_JOIN_JOIN_COUNT : Fld := ⟨24, 4⟩
def RADIO_DETECT_RSSI_THR : Fld := ⟨0, 8⟩
def RADIO_DETECT_CORR_THR : Fld := ⟨8, 8⟩
def RADIO_DETECT_SYNC_ERR : Fld := ⟨16, 4⟩
def RADIO_DETECT_PRE_CORR_W : Fld := ⟨20, 4⟩
def RADIO_DETECT_PRE_SYM : Fld := ⟨24, 8⟩
def RADIO_TX_TX_DBM : Fld := ⟨0, 8⟩
def RADIO_TX_ITER_MAX : Fld := ⟨8, 6⟩
def RADIO_TX_GUARD : Fld := ⟨16, 8⟩
def RADIO_CUSTOM_BASE : Fld := ⟨0, 12⟩
def RADIO_CUSTOM_SPACING : Fld := ⟨12, 8⟩
def RADIO_CUSTOM_COUNT : Fld := ⟨20, 8⟩
def RADIO_MISC_OFF_LIMIT : Fld := ⟨0, 16⟩
def RADIO_MISC_HARB_DIV : Fld := ⟨16, 8⟩
def RADIO_CMD_TAG : Fld := ⟨0, 8⟩
def RADIO_CMD_CLEN : Fld := ⟨8, 7⟩
def RADIO_CMD_SEND : Fld := ⟨15, 1⟩
def RADIO_CMD_STATUS_CMD_SEQ : Fld := ⟨0, 8⟩
def RADIO_CMD_STATUS_STATE : Fld := ⟨8, 3⟩
def TAG_SLOT_SLOT : Fld := ⟨0, 10⟩
def TAG_LINK_RSSI : Fld := ⟨0, 16⟩
def TAG_LINK_SNR : Fld := ⟨16, 16⟩
def TAG_OFFSET_OFFSET : Fld := ⟨0, 24⟩
def TAG_OFFSET_AT_LIMIT : Fld := ⟨24, 1⟩
def TAG_OFFSET_OFF_RANGE : Fld := ⟨25, 1⟩
def LD_STATUS_TX_ACTIVE : Fld := ⟨0, 1⟩
def LD_ERR_LOST : Fld := ⟨0, 1⟩
def LD_ERR_MSG_FAIL : Fld := ⟨1, 1⟩
def LD_ERR_CMD_REJECT : Fld := ⟨2, 1⟩
def LD_ERR_CLASS : Fld := ⟨3, 1⟩
def LD_ERR_BAD_WRITE : Fld := ⟨4, 1⟩
def LD_CFG1_EN_HI : Fld := ⟨0, 16⟩
def LD_CFG1_DWELL : Fld := ⟨16, 8⟩
def LD_CFG1_MARGIN : Fld := ⟨24, 8⟩
def LD_CFG2_MIN_BITS : Fld := ⟨0, 8⟩
def LD_CFG2_ITER_MAX : Fld := ⟨8, 6⟩
def LD_CFG2_RATE : Fld := ⟨14, 2⟩
def LD_CFG2_LOST_DWELLS : Fld := ⟨16, 4⟩
def LD_CFG2_DL_RETRY : Fld := ⟨20, 4⟩
def LD_CFG2_HARB_DIV : Fld := ⟨24, 7⟩
def LD_CFG2_TX_EN : Fld := ⟨31, 1⟩
def LD_MSG_CMD_LOOP : Fld := ⟨0, 6⟩
def LD_MSG_CMD_LEN : Fld := ⟨6, 6⟩
def LD_MSG_CMD_SEND : Fld := ⟨12, 1⟩
def LD_MSG_STATUS_MSG_SEQ : Fld := ⟨0, 16⟩
def LD_MSG_STATUS_STATE : Fld := ⟨16, 3⟩
def LD_STATE_STATE : Fld := ⟨0, 2⟩
def LD_STATE_UL_MAP : Fld := ⟨2, 2⟩
def LD_STATE_DL_MAP : Fld := ⟨4, 2⟩
def LD_STATE_UL_BITS : Fld := ⟨6, 8⟩
def LD_OFFSET_PPM : Fld := ⟨0, 16⟩
def ALM_STATUS_ANY_UNACK : Fld := ⟨0, 1⟩
def ALM_STATUS_ANY_RAISED : Fld := ⟨1, 1⟩
def ALM_STATUS_HORN : Fld := ⟨2, 1⟩
def ALM_STATUS_SILENCED : Fld := ⟨3, 1⟩
def ALM_STATUS_CALLING : Fld := ⟨4, 1⟩
def ALM_STATUS_WATCH_PRE : Fld := ⟨5, 1⟩
def ALM_STATUS_WATCH_ALARM : Fld := ⟨6, 1⟩
def ALM_STATUS_TARGET_LOST : Fld := ⟨7, 1⟩
def ALM_STATUS_FLOOD : Fld := ⟨8, 1⟩
def ALM_ERR_CONFIG : Fld := ⟨0, 1⟩
def ALM_ERR_TARGET_LOST : Fld := ⟨1, 1⟩
def ALM_ERR_CMD_REJECT : Fld := ⟨2, 1⟩
def ALM_ERR_QUEUE_FULL : Fld := ⟨3, 1⟩
def ALM_ERR_BAD_WRITE : Fld := ⟨4, 1⟩
def ALM_CTRL_BAD_DELAY : Fld := ⟨0, 8⟩
def ALM_CTRL_SCORE_STALE : Fld := ⟨8, 20⟩
def RADIO_STALE_COMMITS : Fld := ⟨0, 20⟩
def WATCH_CFG_ARMED : Fld := ⟨0, 1⟩
def WATCH_CFG_CLASS : Fld := ⟨1, 4⟩
def WATCH_CFG_LEVEL : Fld := ⟨5, 2⟩
def WATCH_TIME_EPOCHS : Fld := ⟨0, 31⟩
def WATCH_PRE_EPOCHS : Fld := ⟨0, 31⟩
def WATCH_STATUS_STATE : Fld := ⟨0, 2⟩
def CLASS_STATE_STATE : Fld := ⟨0, 2⟩
def CLASS_STATE_LEVEL : Fld := ⟨2, 2⟩
def CLASS_STATE_TIMER : Fld := ⟨8, 24⟩
def CLASS_CFG_EVENT : Fld := ⟨0, 1⟩
def CLASS_CFG_ACCEPT_EPOCHS : Fld := ⟨8, 24⟩
def LEVEL_L_CFG_DUTY : Fld := ⟨0, 1⟩
def LEVEL_L_CFG_ESC_EPOCHS : Fld := ⟨8, 24⟩
def TARGET_CFG_KIND : Fld := ⟨0, 2⟩
def TARGET_CFG_RELAY : Fld := ⟨2, 2⟩
def TARGET_MAC_MAC : Fld := ⟨0, 48⟩
def TARGET_STATUS_PRESENT : Fld := ⟨0, 1⟩
def TARGET_STATUS_CALLED : Fld := ⟨1, 1⟩
def TARGET_STATUS_CLASSES : Fld := ⟨16, 16⟩
def RELAY_FN_FN : Fld := ⟨0, 3⟩
def RELAY_FN_INVERT : Fld := ⟨3, 1⟩
def GROUP_STATE : Fld := ⟨0, 1⟩
def GROUP_FO_HELD : Fld := ⟨1, 1⟩
def GROUP_FO_POINT : Fld := ⟨16, 12⟩
def ALM_CMD_OP : Fld := ⟨0, 8⟩
def ALM_CMD_INDEX : Fld := ⟨8, 16⟩
def ALM_CMD_STATUS_STATUS : Fld := ⟨0, 8⟩
def ALM_CMD_STATUS_OP : Fld := ⟨8, 8⟩
def ALM_CMD_STATUS_INDEX : Fld := ⟨16, 16⟩
def POINT_SEL_POINT : Fld := ⟨0, 13⟩
def POINT_WIN_0_POINT : Fld := ⟨0, 13⟩
def TAG_STATUS_FIELD : Fld := ⟨0, 1⟩
def TAG_STATUS_SESSION : Fld := ⟨1, 1⟩
def TAG_STATUS_HOST_LOCK : Fld := ⟨2, 1⟩
def TAG_STATUS_TAG_OK : Fld := ⟨3, 1⟩
def TAG_STATUS_STAGE_KIND : Fld := ⟨4, 4⟩
def TAG_STATUS_MBX_PENDING : Fld := ⟨8, 1⟩
def TAG_STATUS_STAGE_PENDING : Fld := ⟨9, 1⟩
def TAG_ERR_I2C : Fld := ⟨0, 1⟩
def TAG_ERR_BUSY : Fld := ⟨1, 1⟩
def TAG_ERR_LOG_TORN : Fld := ⟨2, 1⟩
def TAG_ERR_STAGING_BAD : Fld := ⟨3, 1⟩
def TAG_ERR_CMD_REJECT : Fld := ⟨4, 1⟩
def TAG_ERR_BAD_WRITE : Fld := ⟨5, 1⟩
def TAG_CTRL_FIELD_SETTINGS : Fld := ⟨0, 1⟩
def TAG_CTRL_MBX_EN : Fld := ⟨1, 1⟩
def TAG_CMD_CMD : Fld := ⟨0, 4⟩
def STAGE_STATUS_SEQ : Fld := ⟨0, 24⟩
def STAGE_STATUS_KIND : Fld := ⟨24, 4⟩
def STAGE_STATUS_LAST_RESULT : Fld := ⟨28, 4⟩
def MBX_STATUS_REQ_ID : Fld := ⟨0, 16⟩
def MBX_STATUS_STATUS : Fld := ⟨16, 8⟩
def PANEL_STATUS_SCREEN : Fld := ⟨0, 3⟩
def PANEL_STATUS_PAGE : Fld := ⟨3, 3⟩
def PANEL_STATUS_HELD : Fld := ⟨6, 5⟩
def PANEL_ERR_QUEUE_FULL : Fld := ⟨0, 1⟩
def PANEL_ERR_REFUSED : Fld := ⟨1, 1⟩
def PANEL_ERR_BAD_WRITE : Fld := ⟨2, 1⟩
def PANEL_CTRL_ACK_EN : Fld := ⟨0, 1⟩
def PANEL_CTRL_TRIM_EN : Fld := ⟨1, 1⟩
def SEC_STATUS_WINDOW_OPEN : Fld := ⟨0, 1⟩
def SEC_STATUS_MAINT_CRED : Fld := ⟨1, 1⟩
def SEC_STATUS_ACTIVE_KEY_OK : Fld := ⟨2, 1⟩
def SEC_STATUS_STORE_BUSY : Fld := ⟨3, 1⟩
def SEC_STATUS_KEYS : Fld := ⟨4, 4⟩
def SEC_STATUS_CREDS : Fld := ⟨8, 5⟩
def SEC_ERR_CMD_REJECT : Fld := ⟨0, 1⟩
def SEC_ERR_STORE : Fld := ⟨1, 1⟩
def SEC_ERR_BAD_WRITE : Fld := ⟨2, 1⟩
def SEC_ERR_KEY_CONFLICT : Fld := ⟨3, 1⟩
def SEC_CMD_CMD : Fld := ⟨0, 4⟩
def SEC_CMD_SLOT : Fld := ⟨4, 4⟩
def SEC_CMD_ROLE : Fld := ⟨8, 2⟩
def SEC_CMD_FORCE : Fld := ⟨10, 1⟩
def SEC_CMD_STATUS_CMD : Fld := ⟨0, 4⟩
def SEC_CMD_STATUS_SLOT : Fld := ⟨4, 4⟩
def SEC_CMD_STATUS_RESULT : Fld := ⟨8, 4⟩
def REVOKED_CNT_COUNT : Fld := ⟨0, 6⟩
def KEY_STATE_ENROLLED : Fld := ⟨0, 1⟩
def KEY_STATE_FACTORY : Fld := ⟨1, 1⟩
def CRED_CFG_PRESENT : Fld := ⟨0, 1⟩
def CRED_CFG_ROLE : Fld := ⟨1, 2⟩
def CRED_GROUP_CTR_CTR : Fld := ⟨0, 28⟩
def HOSTIF_STATUS_SESSIONS : Fld := ⟨0, 4⟩
def HOSTIF_ERR_AUTH_FAIL : Fld := ⟨0, 1⟩
def HOSTIF_ERR_DENIED : Fld := ⟨1, 1⟩
def HOSTIF_ERR_PW_REJECT : Fld := ⟨2, 1⟩
def HOSTIF_ERR_CLASS : Fld := ⟨3, 1⟩
def HOSTIF_ERR_TORN_WRITE : Fld := ⟨4, 1⟩
def HOSTIF_ERR_LOCKOUT : Fld := ⟨5, 1⟩
def HOSTIF_ERR_BAD_WRITE : Fld := ⟨6, 1⟩
def HOSTIF_ERR_HS_REFUSED : Fld := ⟨7, 1⟩
def HOSTIF_CTRL_SESS_IDLE : Fld := ⟨0, 12⟩
def HS_CRED_SLOT : Fld := ⟨0, 4⟩
def HS_CMD_CMD : Fld := ⟨0, 2⟩
def HS_RESULT_RESULT : Fld := ⟨0, 2⟩
def SESS_INFO_CRED : Fld := ⟨0, 4⟩
def SESS_INFO_ROLE : Fld := ⟨4, 2⟩
def SESS_INFO_IDLE : Fld := ⟨16, 16⟩
def DBG_STATUS_STALLING : Fld := ⟨0, 1⟩
def DBG_ERR_POISON : Fld := ⟨0, 1⟩
def DBG_ERR_CLASS : Fld := ⟨1, 1⟩
def DBG_ERR_BAD_WRITE : Fld := ⟨2, 1⟩
def DBG_PAGE_KIND : Fld := ⟨0, 3⟩
def DBG_PAGE_QTR : Fld := ⟨3, 2⟩
def DBG_PAGE_GRAIN : Fld := ⟨5, 7⟩
def DBG_PAGE_BANK : Fld := ⟨12, 2⟩

end F

/-- Access codes of Table 0.3. -/
inductive Access where
  | ro | rw | wo | w1c | pw
  deriving DecidableEq, Repr

/-- Change classes of Table 0.4; `byField` is a register whose fields differ (AO_CFG, RADIO_CFG, LD_CFG1), `none` is the class entry "—". -/
inductive ChgClass where
  | none | live | epoch | stopped | byField
  deriving DecidableEq, Repr

/-- One writable or self-clearing register, or array of registers: first address, array dimensions as (count, stride)
outermost first, access, class, and the bits that the register's field table does not reserve. -/
structure RegRow where
  base : Nat
  dims : List (Nat × Nat)
  acc : Access
  cls : ChgClass
  mask : Nat
  deriving DecidableEq, Repr

/-- Whether address `a` is an element of the register array at `base` with dimensions `ds`. -/
def inArr (a : Nat) : Nat → List (Nat × Nat) → Bool
  | base, [] => a == base
  | base, (n, st) :: ds => Nat.ble base a && Nat.blt ((a - base) / st) n && inArr a (base + (a - base) / st * st) ds

/-- Writable registers of the TIME block. -/
def rowsTime : List RegRow :=
  [⟨0x0010004, [], .w1c, .none, 0x3FF⟩,
   ⟨0x001002C, [], .rw, .epoch, 0x1⟩,
   ⟨0x0010030, [], .rw, .live, 0xFFFF01⟩,
   ⟨0x0010034, [], .rw, .live, 0x3FF03FF⟩,
   ⟨0x0010038, [], .rw, .live, 0xFFFF⟩,
   ⟨0x001003C, [], .wo, .live, 0x1⟩]

/-- Writable registers of the IMG block. -/
def rowsImg : List RegRow :=
  [⟨0x0020004, [], .w1c, .none, 0x7F⟩,
   ⟨0x002000C, [], .wo, .live, 0xF⟩,
   ⟨0x0020030, [], .rw, .live, 0xFFFFFFFF⟩,
   ⟨0x0020034, [], .rw, .live, 0xFFFFFFFF⟩,
   ⟨0x0020038, [], .pw, .live, 0xFFFFFFFF⟩,
   ⟨0x002003C, [], .pw, .live, 0xFFFFFFFF⟩]

/-- Writable registers of the GW block. -/
def rowsGw : List RegRow :=
  [⟨0x1100008, [(4, 0x400000)], .w1c, .none, 0x7⟩,
   ⟨0x110000C, [(4, 0x400000)], .rw, .live, 0xFF03⟩,
   ⟨0x1101008, [(4, 0x400000), (384, 128)], .w1c, .none, 0x3F⟩,
   ⟨0x1101018, [(4, 0x400000), (384, 128)], .wo, .epoch, 0x1⟩]

/-- Writable registers of the QTR block. -/
def rowsQtr : List RegRow :=
  [⟨0x1010804, [(4, 0x400000), (4, 0x10000)], .w1c, .none, 0x1FF⟩,
   ⟨0x101080C, [(4, 0x400000), (4, 0x10000)], .w1c, .none, 0x7⟩,
   ⟨0x1010004, [(4, 0x400000), (4, 0x10000)], .w1c, .none, 0x3F⟩,
   ⟨0x101000C, [(4, 0x400000), (4, 0x10000)], .wo, .epoch, 0x7⟩,
   ⟨0x1010028, [(4, 0x400000), (4, 0x10000)], .rw, .live, 0xFF⟩,
   ⟨0x1010034, [(4, 0x400000), (4, 0x10000)], .wo, .live, 0xFF03⟩,
   ⟨0x1010404, [(4, 0x400000), (4, 0x10000)], .w1c, .none, 0x3⟩,
   ⟨0x1010408, [(4, 0x400000), (4, 0x10000)], .w1c, .none, 0xB⟩]

/-- Writable registers of the MEM block. -/
def rowsMem : List RegRow :=
  [⟨0x1200004, [(4, 0x400000)], .w1c, .none, 0xFF⟩,
   ⟨0x1200008, [(4, 0x400000)], .rw, .live, 0xFF01⟩]

/-- Writable registers of the LINK block. -/
def rowsLink : List RegRow :=
  [⟨0x1300004, [(4, 0x400000)], .w1c, .none, 0x7F⟩,
   ⟨0x1300008, [(4, 0x400000)], .rw, .live, 0x1⟩]

/-- Writable registers of the REC block. -/
def rowsRec : List RegRow :=
  [⟨0x0030004, [], .w1c, .none, 0x7FF⟩,
   ⟨0x0030008, [], .rw, .live, 0xFF03⟩,
   ⟨0x003000C, [], .wo, .epoch, 0x3⟩]

/-- Writable registers of the CHAIN block. -/
def rowsChain : List RegRow :=
  [⟨0x0040004, [], .w1c, .none, 0xFFF⟩,
   ⟨0x0040008, [], .rw, .live, 0xFF07⟩,
   ⟨0x004000C, [], .rw, .live, 0xFFFF⟩,
   ⟨0x0040010, [], .rw, .live, 0xFFFFFFF⟩,
   ⟨0x0040014, [], .rw, .live, 0xFFFF⟩,
   ⟨0x0040018, [], .rw, .live, 0xFFFF⟩,
   ⟨0x004001C, [], .rw, .live, 0xFFFF⟩,
   ⟨0x004004C, [], .rw, .live, 0xFFFFFFFF⟩,
   ⟨0x0040050, [], .rw, .live, 0xFFFFFFFF⟩,
   ⟨0x0040054, [], .rw, .live, 0xFFFFFFFF⟩,
   ⟨0x0040058, [], .rw, .live, 0xFFFFFFFF⟩,
   ⟨0x004005C, [], .rw, .live, 0xFF0F⟩,
   ⟨0x0040064, [], .wo, .live, 0x3⟩,
   ⟨0x0040068, [], .rw, .live, 0xFFFFFFFF⟩,
   ⟨0x004006C, [], .rw, .live, 0xFFFFFFFF⟩,
   ⟨0x00400A0, [], .rw, .epoch, 0x7F⟩,
   ⟨0x0040100, [(64, 8)], .rw, .epoch, 0xFFFFFFFF⟩,
   ⟨0x0040104, [(64, 8)], .rw, .epoch, 0xFFFFFFFF⟩]

/-- Writable registers of the PAIR block. -/
def rowsPair : List RegRow :=
  [⟨0x0050004, [], .w1c, .none, 0x1FFF⟩,
   ⟨0x0050008, [], .rw, .stopped, 0xF⟩,
   ⟨0x005000C, [], .wo, .live, 0xF⟩,
   ⟨0x0050010, [], .rw, .epoch, 0xFFFF7F⟩,
   ⟨0x0050014, [], .rw, .live, 0xFFFFFFFF⟩,
   ⟨0x0050018, [], .rw, .stopped, 0xFFFFFFFF⟩,
   ⟨0x005001C, [], .rw, .stopped, 0xFFFFFFFF⟩,
   ⟨0x0050020, [], .rw, .stopped, 0xFFFFFFFF⟩,
   ⟨0x0050024, [], .rw, .stopped, 0xFFFFFFFF⟩,
   ⟨0x0050028, [], .rw, .stopped, 0xFFFFFFFF⟩,
   ⟨0x0050080, [], .rw, .live, 0xFF03⟩,
   ⟨0x0050100, [(8, 64)], .rw, .live, 0xFFFFFFFF⟩,
   ⟨0x0050104, [(8, 64)], .rw, .live, 0x1⟩,
   ⟨0x0050108, [(8, 64)], .rw, .live, 0xFFFFFFFF⟩,
   ⟨0x005010C, [(8, 64)], .rw, .live, 0xFFFFFFFF⟩,
   ⟨0x0050110, [(8, 64)], .rw, .live, 0xFFFFFFFF⟩,
   ⟨0x0050114, [(8, 64)], .rw, .live, 0xFFFFFFFF⟩]

/-- Writable registers of the SYS block. -/
def rowsSys : List RegRow :=
  [⟨0x000001C, [], .w1c, .none, 0x7⟩,
   ⟨0x0000020, [], .wo, .epoch, 0x1F⟩]

/-- Writable registers of the PWR block. -/
def rowsPwr : List RegRow :=
  [⟨0x0060004, [], .w1c, .none, 0x7F⟩,
   ⟨0x0060008, [], .wo, .epoch, 0x3F⟩,
   ⟨0x006000C, [], .rw, .live, 0xFFFFFF01⟩]

/-- Writable registers of the AIO block. -/
def rowsAio : List RegRow :=
  [⟨0x4000004, [], .w1c, .none, 0x1F⟩,
   ⟨0x4000008, [], .rw, .live, 0x1⟩,
   ⟨0x400000C, [], .wo, .epoch, 0x3FF⟩,
   ⟨0x4000014, [], .rw, .live, 0xFFFFFFFF⟩,
   ⟨0x4000100, [(32, 64)], .rw, .epoch, 0x3FFFFF⟩,
   ⟨0x4000104, [(32, 64)], .w1c, .none, 0x20⟩,
   ⟨0x4000110, [(32, 64)], .rw, .epoch, 0xFFFFFFFF⟩,
   ⟨0x4000114, [(32, 64)], .rw, .epoch, 0xFFFFFFFF⟩,
   ⟨0x4000120, [(32, 64)], .pw, .epoch, 0xFFFFFFFF⟩,
   ⟨0x4000124, [(32, 64)], .pw, .epoch, 0xFFFFFFFF⟩,
   ⟨0x4000128, [(32, 64)], .pw, .epoch, 0xFFFFFFFF⟩,
   ⟨0x400012C, [(32, 64)], .pw, .epoch, 0xFFFFFFFF⟩,
   ⟨0x4000900, [(16, 64)], .rw, .byField, 0xF⟩,
   ⟨0x4000904, [(16, 64)], .w1c, .none, 0x40⟩,
   ⟨0x4000908, [(16, 64)], .pw, .epoch, 0xFFFFFFFF⟩,
   ⟨0x400090C, [(16, 64)], .pw, .epoch, 0xFFFFFFFF⟩,
   ⟨0x4000920, [(16, 64)], .pw, .epoch, 0xFFFFFFFF⟩,
   ⟨0x4000924, [(16, 64)], .pw, .epoch, 0xFFFFFFFF⟩,
   ⟨0x4000928, [(16, 64)], .pw, .epoch, 0xFFFFFFFF⟩,
   ⟨0x400092C, [(16, 64)], .pw, .epoch, 0xFFFFFFFF⟩]

/-- Writable registers of the DIO block. -/
def rowsDio : List RegRow :=
  [⟨0x4100004, [], .w1c, .none, 0x1FF⟩,
   ⟨0x4100008, [], .rw, .epoch, 0x3FF⟩,
   ⟨0x4100020, [], .w1c, .none, 0xFFFFFFFF⟩,
   ⟨0x4100028, [], .pw, .epoch, 0xFFFFFFFF⟩,
   ⟨0x410002C, [], .pw, .epoch, 0xFFFFFFFF⟩,
   ⟨0x4100038, [], .rw, .epoch, 0xFFFFFFFF⟩,
   ⟨0x410003C, [], .rw, .epoch, 0xFFFFFFFF⟩,
   ⟨0x4100040, [], .rw, .epoch, 0xFF⟩,
   ⟨0x4100050, [(6, 4)], .rw, .epoch, 0xFFFFFFFF⟩]

/-- Writable registers of the RADIO block. -/
def rowsRadio : List RegRow :=
  [⟨0x4200004, [], .w1c, .none, 0x7F⟩,
   ⟨0x4200008, [], .rw, .byField, 0x7FFFD⟩,
   ⟨0x420000C, [], .rw, .stopped, 0xFFFFFFFF⟩,
   ⟨0x4200010, [], .rw, .stopped, 0xFFFFFFF⟩,
   ⟨0x4200014, [], .rw, .epoch, 0xFFFFFFFF⟩,
   ⟨0x4200018, [], .rw, .stopped, 0xFFFFFFFF⟩,
   ⟨0x420001C, [], .rw, .epoch, 0xFF3FFF⟩,
   ⟨0x4200020, [], .rw, .stopped, 0xFFFFFFF⟩,
   ⟨0x4200024, [], .rw, .epoch, 0xFFFFFF⟩,
   ⟨0x4200028, [(4, 4)], .rw, .stopped, 0xFFFFFFFF⟩,
   ⟨0x4200038, [], .wo, .epoch, 0xFFFF⟩,
   ⟨0x4200100, [(20, 4)], .rw, .epoch, 0xFFFFFFFF⟩,
   ⟨0x4201000, [(250, 32)], .rw, .epoch, 0xFFFFFFFF⟩,
   ⟨0x4201004, [(250, 32)], .rw, .epoch, 0xFFFFFFFF⟩,
   ⟨0x4201008, [(250, 32)], .rw, .epoch, 0x3FF⟩]

/-- Writable registers of the LOOPDATA block. -/
def rowsLoopdata : List RegRow :=
  [⟨0x4300004, [], .w1c, .none, 0x1F⟩,
   ⟨0x4300008, [], .rw, .epoch, 0xFFFFFFFF⟩,
   ⟨0x430000C, [], .rw, .byField, 0xFFFFFFFF⟩,
   ⟨0x4300010, [], .rw, .epoch, 0x7FFFFFFF⟩,
   ⟨0x4300014, [], .wo, .epoch, 0x1FFF⟩,
   ⟨0x4300040, [(15, 4)], .rw, .epoch, 0xFFFFFFFF⟩]

/-- Writable registers of the ALM block. -/
def rowsAlm : List RegRow :=
  [⟨0x0070004, [], .w1c, .none, 0x1F⟩,
   ⟨0x0070008, [], .rw, .epoch, 0xFFFFFFF⟩,
   ⟨0x0070010, [], .rw, .epoch, 0xFFFFF⟩,
   ⟨0x0070030, [], .pw, .epoch, 0xFFFFFFFF⟩,
   ⟨0x0070034, [], .pw, .epoch, 0xFFFFFFFF⟩,
   ⟨0x0070038, [], .pw, .epoch, 0xFFFFFFFF⟩,
   ⟨0x007003C, [], .pw, .epoch, 0xFFFFFFFF⟩,
   ⟨0x0070040, [], .rw, .epoch, 0x7F⟩,
   ⟨0x0070044, [], .rw, .epoch, 0x7FFFFFFF⟩,
   ⟨0x0070048, [], .rw, .epoch, 0x7FFFFFFF⟩,
   ⟨0x0070050, [], .rw, .epoch, 0xFFFFFFFF⟩,
   ⟨0x0070054, [], .rw, .epoch, 0xFFFFFFFF⟩,
   ⟨0x00700C0, [(16, 4)], .rw, .epoch, 0xFFFFFF01⟩,
   ⟨0x0070100, [(16, 64), (4, 16)], .rw, .epoch, 0xFFFFFFFF⟩,
   ⟨0x0070104, [(16, 64), (4, 16)], .rw, .epoch, 0xFFFFFFFF⟩,
   ⟨0x0070108, [(16, 64), (4, 16)], .rw, .epoch, 0xFFFFFF01⟩,
   ⟨0x0070500, [(64, 16)], .rw, .epoch, 0xF⟩,
   ⟨0x0070504, [(64, 16)], .rw, .epoch, 0xFFFFFFFF⟩,
   ⟨0x0070508, [(64, 16)], .rw, .epoch, 0xFFFF⟩,
   ⟨0x0070900, [(4, 4)], .rw, .epoch, 0xF⟩,
   ⟨0x0071000, [], .pw, .live, 0xFFFFFFFF⟩,
   ⟨0x0071004, [], .pw, .live, 0xFFFFFFFF⟩,
   ⟨0x0071008, [], .wo, .epoch, 0xFFFFFF⟩,
   ⟨0x0071010, [], .rw, .live, 0x1FFF⟩,
   ⟨0x0074000, [(4096, 8)], .pw, .epoch, 0xFFFFFFFF⟩,
   ⟨0x0074004, [(4096, 8)], .pw, .epoch, 0xFFFFFFFF⟩]

/-- Writable registers of the DBG block. -/
def rowsDbg : List RegRow :=
  [⟨0x1050004, [(4, 0x400000)], .w1c, .none, 0x7⟩,
   ⟨0x1050008, [(4, 0x400000)], .rw, .live, 0x3FFF⟩,
   ⟨0x1050010, [(4, 0x400000)], .rw, .live, 0xFFFFFFFF⟩,
   ⟨0x1050014, [(4, 0x400000)], .rw, .live, 0xFFFFFFFF⟩]

/-- Writable registers of the TAG block. -/
def rowsTag : List RegRow :=
  [⟨0x0080004, [], .w1c, .none, 0x3F⟩,
   ⟨0x0080008, [], .rw, .live, 0x3⟩,
   ⟨0x008000C, [], .wo, .epoch, 0xF⟩]

/-- Writable registers of the PANEL block. -/
def rowsPanel : List RegRow :=
  [⟨0x0090004, [], .w1c, .none, 0x7⟩,
   ⟨0x0090008, [], .rw, .live, 0x3⟩]

/-- Writable registers of the SEC block. -/
def rowsSec : List RegRow :=
  [⟨0x00A0004, [], .w1c, .none, 0xF⟩,
   ⟨0x00A0008, [], .wo, .live, 0x7FF⟩,
   ⟨0x00A0020, [(8, 4)], .rw, .live, 0xFFFFFFFF⟩,
   ⟨0x00A0040, [(8, 4)], .wo, .live, 0xFFFFFFFF⟩]

/-- Writable registers of the HOSTIF block. -/
def rowsHostif : List RegRow :=
  [⟨0x00B0004, [], .w1c, .none, 0xFF⟩,
   ⟨0x00B0008, [], .rw, .live, 0xFFF⟩,
   ⟨0x00B000C, [], .wo, .live, 0xFFFFFFFF⟩,
   ⟨0x00B0010, [], .rw, .live, 0xF⟩,
   ⟨0x00B0014, [], .rw, .live, 0xFFFFFFFF⟩,
   ⟨0x00B0018, [], .rw, .live, 0xFFFFFFFF⟩,
   ⟨0x00B001C, [], .wo, .live, 0x3⟩]

/-- Every register whose access is not RO. -/
def writableRows : List RegRow :=
  rowsTime ++ rowsImg ++ rowsGw ++ rowsQtr ++ rowsMem ++ rowsLink ++ rowsRec ++ rowsChain ++ rowsPair ++ rowsSys ++ rowsPwr ++ rowsAio ++ rowsDio ++ rowsRadio ++ rowsLoopdata ++ rowsAlm ++ rowsDbg ++ rowsTag ++ rowsPanel ++ rowsSec ++ rowsHostif

/-! ### Registers with access RO: first address and array dimensions -/

def roTime : List (Nat × List (Nat × Nat)) :=
  [(0x0010000, []),
   (0x0010008, []),
   (0x001000C, []),
   (0x0010010, []),
   (0x0010014, []),
   (0x0010018, []),
   (0x001001C, []),
   (0x0010020, []),
   (0x0010024, []),
   (0x0010028, []),
   (0x0010040, [(4, 4)]),
   (0x0010050, [(4, 4)]),
   (0x0010060, []),
   (0x0010064, []),
   (0x0010068, []),
   (0x001006C, []),
   (0x0010070, []),
   (0x0010074, [])]

def roImg : List (Nat × List (Nat × Nat)) :=
  [(0x0020000, []),
   (0x0020008, []),
   (0x0020010, []),
   (0x0020014, []),
   (0x0020018, []),
   (0x002001C, []),
   (0x0020020, []),
   (0x0020024, []),
   (0x0020028, []),
   (0x002002C, []),
   (0x0020040, []),
   (0x0020044, [])]

def roGw : List (Nat × List (Nat × Nat)) :=
  [(0x1100000, [(4, 0x400000)]),
   (0x1100004, [(4, 0x400000)]),
   (0x1100010, [(4, 0x400000)]),
   (0x1101000, [(4, 0x400000), (384, 128)]),
   (0x1101004, [(4, 0x400000), (384, 128)]),
   (0x110100C, [(4, 0x400000), (384, 128)]),
   (0x1101010, [(4, 0x400000), (384, 128)]),
   (0x1101014, [(4, 0x400000), (384, 128)]),
   (0x1101020, [(4, 0x400000), (384, 128), (4, 8)]),
   (0x1101024, [(4, 0x400000), (384, 128), (4, 8)]),
   (0x1101040, [(4, 0x400000), (384, 128), (4, 8)]),
   (0x1101044, [(4, 0x400000), (384, 128), (4, 8)]),
   (0x1101060, [(4, 0x400000), (384, 128), (4, 4)])]

def roQtr : List (Nat × List (Nat × Nat)) :=
  [(0x1010800, [(4, 0x400000), (4, 0x10000)]),
   (0x1010808, [(4, 0x400000), (4, 0x10000)]),
   (0x1010810, [(4, 0x400000), (4, 0x10000)]),
   (0x1010814, [(4, 0x400000), (4, 0x10000)]),
   (0x1010818, [(4, 0x400000), (4, 0x10000)]),
   (0x1010840, [(4, 0x400000), (4, 0x10000), (96, 4)]),
   (0x1010000, [(4, 0x400000), (4, 0x10000)]),
   (0x1010008, [(4, 0x400000), (4, 0x10000)]),
   (0x1010010, [(4, 0x400000), (4, 0x10000)]),
   (0x1010014, [(4, 0x400000), (4, 0x10000)]),
   (0x1010018, [(4, 0x400000), (4, 0x10000)]),
   (0x101001C, [(4, 0x400000), (4, 0x10000)]),
   (0x1010020, [(4, 0x400000), (4, 0x10000)]),
   (0x1010024, [(4, 0x400000), (4, 0x10000)]),
   (0x101002C, [(4, 0x400000), (4, 0x10000)]),
   (0x1010030, [(4, 0x400000), (4, 0x10000)]),
   (0x1010038, [(4, 0x400000), (4, 0x10000)]),
   (0x1010040, [(4, 0x400000), (4, 0x10000), (16, 4)]),
   (0x1010400, [(4, 0x400000), (4, 0x10000)]),
   (0x101040C, [(4, 0x400000), (4, 0x10000)]),
   (0x1010410, [(4, 0x400000), (4, 0x10000)]),
   (0x1010414, [(4, 0x400000), (4, 0x10000)]),
   (0x1010418, [(4, 0x400000), (4, 0x10000)])]

def roMem : List (Nat × List (Nat × Nat)) :=
  [(0x1200000, [(4, 0x400000)]),
   (0x120000C, [(4, 0x400000)]),
   (0x1200010, [(4, 0x400000)]),
   (0x1200014, [(4, 0x400000)]),
   (0x1200018, [(4, 0x400000)]),
   (0x120001C, [(4, 0x400000)]),
   (0x1200020, [(4, 0x400000)]),
   (0x1200024, [(4, 0x400000)]),
   (0x1200028, [(4, 0x400000)]),
   (0x120002C, [(4, 0x400000)]),
   (0x1200030, [(4, 0x400000)]),
   (0x1200038, [(4, 0x400000)]),
   (0x120003C, [(4, 0x400000)]),
   (0x1200040, [(4, 0x400000)]),
   (0x1200044, [(4, 0x400000)]),
   (0x1200048, [(4, 0x400000)]),
   (0x1200100, [(4, 0x400000), (64, 16)]),
   (0x1200104, [(4, 0x400000), (64, 16)]),
   (0x1200108, [(4, 0x400000), (64, 16)]),
   (0x120010C, [(4, 0x400000), (64, 16)])]

def roLink : List (Nat × List (Nat × Nat)) :=
  [(0x1300000, [(4, 0x400000)]),
   (0x1300010, [(4, 0x400000), (4, 16)]),
   (0x1300014, [(4, 0x400000), (4, 16)]),
   (0x1300018, [(4, 0x400000), (4, 16)]),
   (0x130001C, [(4, 0x400000), (4, 16)])]

def roRec : List (Nat × List (Nat × Nat)) :=
  [(0x0030000, []),
   (0x0030010, []),
   (0x0030014, []),
   (0x0030018, []),
   (0x003001C, []),
   (0x0030020, []),
   (0x0030024, []),
   (0x0030028, []),
   (0x003002C, []),
   (0x0030030, []),
   (0x0030034, []),
   (0x0030038, []),
   (0x003003C, []),
   (0x0030040, []),
   (0x0030100, [(64, 32), (8, 4)])]

def roChain : List (Nat × List (Nat × Nat)) :=
  [(0x0040000, []),
   (0x0040020, []),
   (0x0040024, []),
   (0x0040028, []),
   (0x004002C, []),
   (0x0040030, []),
   (0x0040034, []),
   (0x0040038, []),
   (0x004003C, []),
   (0x0040040, []),
   (0x0040044, []),
   (0x0040048, []),
   (0x0040060, []),
   (0x0040070, []),
   (0x0040078, []),
   (0x004007C, []),
   (0x0040080, []),
   (0x0040084, []),
   (0x0040088, []),
   (0x004008C, []),
   (0x0040090, []),
   (0x0040094, []),
   (0x0040098, [])]

def roPair : List (Nat × List (Nat × Nat)) :=
  [(0x0050000, []),
   (0x0050030, []),
   (0x0050034, []),
   (0x0050038, []),
   (0x005003C, []),
   (0x0050040, []),
   (0x0050044, []),
   (0x0050048, []),
   (0x005004C, []),
   (0x0050050, []),
   (0x0050054, []),
   (0x0050058, []),
   (0x005005C, []),
   (0x0050060, []),
   (0x0050064, []),
   (0x0050068, []),
   (0x0050118, [(8, 64)]),
   (0x005011C, [(8, 64)]),
   (0x0050120, [(8, 64)]),
   (0x0050124, [(8, 64)])]

def roSys : List (Nat × List (Nat × Nat)) :=
  [(0x0000000, []),
   (0x0000004, []),
   (0x0000008, []),
   (0x000000C, []),
   (0x0000010, []),
   (0x0000014, []),
   (0x0000018, []),
   (0x0000024, []),
   (0x0000028, []),
   (0x0000044, [(9, 4)])]

def roPwr : List (Nat × List (Nat × Nat)) :=
  [(0x0060000, []),
   (0x0060010, []),
   (0x0060014, []),
   (0x0060018, []),
   (0x0060020, [(4, 4)]),
   (0x0060030, []),
   (0x0060034, []),
   (0x0060038, []),
   (0x006003C, []),
   (0x0060040, [(3, 4)]),
   (0x0060050, []),
   (0x0060054, [])]

def roAio : List (Nat × List (Nat × Nat)) :=
  [(0x4000000, []),
   (0x4000010, []),
   (0x4000018, []),
   (0x400001C, []),
   (0x4000020, []),
   (0x4000024, []),
   (0x4000108, [(32, 64)]),
   (0x400010C, [(32, 64)]),
   (0x4000118, [(32, 64)]),
   (0x4000910, [(16, 64)]),
   (0x4000914, [(16, 64)]),
   (0x4000918, [(16, 64)]),
   (0x400091C, [(16, 64)]),
   (0x4000930, [(16, 64)]),
   (0x4000934, [(16, 64)])]

def roDio : List (Nat × List (Nat × Nat)) :=
  [(0x4100000, []),
   (0x410000C, []),
   (0x4100010, []),
   (0x4100014, []),
   (0x4100018, []),
   (0x410001C, []),
   (0x4100024, []),
   (0x4100030, []),
   (0x4100034, []),
   (0x4100044, []),
   (0x4100048, []),
   (0x410004C, []),
   (0x4100068, []),
   (0x410006C, []),
   (0x4100080, [(48, 4)]),
   (0x4100140, [(4, 16)]),
   (0x4100144, [(4, 16)]),
   (0x4100148, [(4, 16)]),
   (0x410014C, [(4, 16)]),
   (0x4100180, []),
   (0x4100184, [])]

def roRadio : List (Nat × List (Nat × Nat)) :=
  [(0x4200000, []),
   (0x420003C, []),
   (0x4200040, []),
   (0x4200044, []),
   (0x4200048, []),
   (0x420004C, []),
   (0x4200050, []),
   (0x4200054, []),
   (0x420100C, [(250, 32)]),
   (0x4201010, [(250, 32)]),
   (0x4201014, [(250, 32)]),
   (0x4201018, [(250, 32)]),
   (0x420101C, [(250, 32)])]

def roLoopdata : List (Nat × List (Nat × Nat)) :=
  [(0x4300000, []),
   (0x4300018, []),
   (0x4301000, [(48, 128)]),
   (0x4301004, [(48, 128)]),
   (0x4301008, [(48, 128)]),
   (0x430100C, [(48, 128)]),
   (0x4301010, [(48, 128), (8, 4)]),
   (0x4301030, [(48, 128), (4, 4)]),
   (0x4301040, [(48, 128), (4, 4)])]

def roAlm : List (Nat × List (Nat × Nat)) :=
  [(0x0070000, []),
   (0x007000C, []),
   (0x0070014, []),
   (0x0070018, []),
   (0x007001C, []),
   (0x0070020, []),
   (0x0070024, []),
   (0x0070028, []),
   (0x007002C, []),
   (0x007004C, []),
   (0x0070058, []),
   (0x0070060, []),
   (0x0070064, []),
   (0x0070068, []),
   (0x0070080, [(16, 4)]),
   (0x007050C, [(64, 16)]),
   (0x0070A00, [(256, 4)]),
   (0x007100C, []),
   (0x0071020, [(12, 4)]),
   (0x0072000, [(2048, 4)])]

def roDbg : List (Nat × List (Nat × Nat)) :=
  [(0x1050000, [(4, 0x400000)]),
   (0x1050018, [(4, 0x400000)])]

def roTag : List (Nat × List (Nat × Nat)) :=
  [(0x0080000, []),
   (0x0080010, []),
   (0x0080014, []),
   (0x0080018, []),
   (0x008001C, []),
   (0x0080020, []),
   (0x0080024, []),
   (0x0081000, [(64, 48), (12, 4)])]

def roPanel : List (Nat × List (Nat × Nat)) :=
  [(0x0090000, []),
   (0x009000C, []),
   (0x0090010, []),
   (0x0090020, [(16, 4)])]

def roSec : List (Nat × List (Nat × Nat)) :=
  [(0x00A0000, []),
   (0x00A000C, []),
   (0x00A0010, []),
   (0x00A0080, [(8, 8)]),
   (0x00A0084, [(8, 8)]),
   (0x00A00C0, [(8, 4)]),
   (0x00A0100, [(16, 4)]),
   (0x00A0140, [(16, 4)]),
   (0x00A0200, [(32, 8)]),
   (0x00A0204, [(32, 8)])]

def roHostif : List (Nat × List (Nat × Nat)) :=
  [(0x00B0000, []),
   (0x00B0020, []),
   (0x00B0024, []),
   (0x00B0028, []),
   (0x00B002C, []),
   (0x00B0030, []),
   (0x00B0034, []),
   (0x00B0040, []),
   (0x00B0044, []),
   (0x00B0048, []),
   (0x00B004C, []),
   (0x00B0050, []),
   (0x00B0054, []),
   (0x00B0080, [(8, 16)]),
   (0x00B0084, [(8, 16)]),
   (0x00B0088, [(8, 16)])]

/-- Every register whose access is RO. -/
def roRows : List (Nat × List (Nat × Nat)) :=
  roTime ++ roImg ++ roGw ++ roQtr ++ roMem ++ roLink ++ roRec ++ roChain ++ roPair ++ roSys ++ roPwr ++ roAio ++ roDio ++ roRadio ++ roLoopdata ++ roAlm ++ roDbg ++ roTag ++ roPanel ++ roSec ++ roHostif

/-- Registers whose value after power-on is not zero: the Reset column of the register tables; rows marked "stored" or
"factory" hold the values that log entry 3 names. -/
def resetRows : List (Nat × List (Nat × Nat) × BitVec 32) :=
  [(0x0010000, [], 0x00000001#32),
   (0x001001C, [], 0xFFFFFFFF#32),
   (0x0010030, [], 0x00002801#32),
   (0x0010034, [], 0x00FA0064#32),
   (0x0010038, [], 0x000000C8#32),
   (0x002003C, [], 0xFFFFFFFF#32),
   (0x110000C, [(4, 0x400000)], 0x00000101#32),
   (0x1010028, [(4, 0x400000), (4, 0x10000)], 0x00000008#32),
   (0x1200008, [(4, 0x400000)], 0x00000C01#32),
   (0x1300008, [(4, 0x400000)], 0x00000001#32),
   (0x0030008, [], 0x00000801#32),
   (0x0040008, [], 0x00001401#32),
   (0x004000C, [], 0x88B588B5#32),
   (0x0040010, [], 0x03808000#32),
   (0x0040014, [], 0x0000300D#32),
   (0x0040018, [], 0x0000023A#32),
   (0x004001C, [], 0x000003C0#32),
   (0x0040038, [], 0x0000FFFF#32),
   (0x004003C, [], 0x00000001#32),
   (0x0040040, [], 0x00000200#32)] ++
  [(0x0040044, [], 0x00000002#32),
   (0x0040048, [], 0x00000200#32),
   (0x0040054, [], 0xA9FE5A04#32),
   (0x0040058, [], 0xFFFF0000#32),
   (0x004005C, [], 0x0000FF01#32),
   (0x0050010, [], 0x0000640A#32),
   (0x0050014, [], 0x0007D002#32),
   (0x0050030, [], 0x02000000#32),
   (0x0050034, [], 0xFDFFFFFF#32),
   (0x0050080, [], 0x00003200#32),
   (0x0050118, [(8, 64)], 0x02000000#32),
   (0x005011C, [(8, 64)], 0xFDFFFFFF#32),
   (0x0000000, [], 0x00005A04#32),
   (0x0000004, [], 0x0000B0B0#32),
   (0x0000008, [], 0x00000001#32),
   (0x0000018, [], 0x00000011#32),
   (0x0000024, [], 0x00000001#32),
   (0x006000C, [], 0x14506400#32),
   (0x0060040, [(3, 4)], 0x00020000#32),
   (0x4000008, [], 0x00000001#32),
   (0x4000104, [(32, 64)], 0x00000005#32),
   (0x4000114, [(32, 64)], 0x42C80000#32),
   (0x4000124, [(32, 64)], 0xFFFFFFFF#32),
   (0x4000128, [(32, 64)], 0x40000000#32),
   (0x400012C, [(32, 64)], 0xBFFFFFFF#32),
   (0x4000908, [(16, 64)], 0x00030000#32),
   (0x400090C, [(16, 64)], 0xFFFCFFFF#32),
   (0x4000910, [(16, 64)], 0x00030000#32),
   (0x4000914, [(16, 64)], 0xFFFCFFFF#32),
   (0x4000924, [(16, 64)], 0xFFFFFFFF#32),
   (0x4000928, [(16, 64)], 0x40000000#32),
   (0x400092C, [(16, 64)], 0xBFFFFFFF#32),
   (0x4100008, [], 0x00000032#32),
   (0x410002C, [], 0xFFFFFFFF#32),
   (0x4100034, [], 0xFFFFFFFF#32),
   (0x4100050, [(6, 4)], 0x33333333#32),
   (0x0070008, [], 0x00000005#32),
   (0x0070010, [], 0x00007530#32),
   (0x0070034, [], 0xFFFFFFFF#32),
   (0x007003C, [], 0xFFFFFFFF#32),
   (0x0070044, [], 0x001B7740#32),
   (0x0070048, [], 0x0002BF20#32),
   (0x0071004, [], 0xFFFFFFFF#32),
   (0x0074004, [(4096, 8)], 0xFFFFFFFF#32),
   (0x0080008, [], 0x00000003#32),
   (0x0090008, [], 0x00000003#32),
   (0x0090020, [(16, 4)], 0x20202020#32),
   (0x00A0000, [], 0x00000010#32),
   (0x00B0008, [], 0x0000012C#32),
   (0x00A0080, [], 0xFAC905CB#32),
   (0x00A0084, [], 0xF93263C2#32),
   (0x00A00C0, [], 0x00000003#32)]

/-- The value register `a` holds after power-on (R6). -/
def resetFrom (a : Nat) : List (Nat × List (Nat × Nat) × BitVec 32) → Word
  | [] => 0#32
  | (b, ds, v) :: t => if inArr a b ds then v else resetFrom a t

/-- The value register `a` holds after power-on (R6). -/
def resetOf (a : Nat) : Word := resetFrom a resetRows

/-- The row of a writable register. -/
def rowFrom (a : Nat) : List RegRow → Option RegRow
  | [] => none
  | r :: t => if inArr a r.base r.dims then some r else rowFrom a t

/-- The row of a writable register. -/
def rowOf (a : Nat) : Option RegRow := rowFrom a writableRows

/-- Whether `a` is a read-only register that some chapter defines. -/
def isRo (a : Nat) : Bool := roRows.any (fun r => inArr a r.1 r.2)

/-- Whether some chapter defines a register at `a` (R16). -/
def isDefined (a : Nat) : Bool := (rowOf a).isSome || isRo a

end Sys2Proof.Machine
end

