-- ==== Sys2Proof/Machine/StAlarm.lean ====
section
/-! DEFINITION. State of the alarm engine and engineer call behind their registers (17_alarm_and_call.md). Setpoints, groups,
classes and the watch timer stand in their registers. -/

namespace Sys2Proof.Machine

/-- A point: state word (Table 17.2), TIMER, SHELVE, VALUE, ONSET, and AUX (R537): condition C, raw-bad run, die that last
wrote its score, whether its source was ever written or received, commits since. -/
structure PointSt where
  st : Nat
  timer : Nat
  shelve : Nat
  value : Nat
  onset : Nat
  c : Bool
  bad : Nat
  die : Nat
  ever : Bool
  age : Nat
  deriving DecidableEq, Repr

/-- A point that has never been evaluated. -/
def PointSt.zero : PointSt := ⟨0, 0, 0, 0, 0, false, 0, 0, false, 0⟩

/-- Where a command entry came from. -/
inductive EntryFrom where
  | almCmd
  | panel
  | frame (path : Path) (req : Nat) (group : Bool)
  | fwd (seq : Nat)
  deriving DecidableEq, Repr

/-- A command entry OP, INDEX, ARG with the role it carries (0 observer to 3 maintainer). -/
structure CmdEntry where
  op : Nat
  index : Nat
  arg : Nat
  role : Nat
  src : EntryFrom
  deriving DecidableEq, Repr

/-- The alarm engine. `points` by number, `ages` AGE by target. `queue` are entries for the next commit, `cmds` how many
ALM_CMD writes of this epoch are among them. `watched` to `shelved` hold within one commit: a watch reset, classes accepted,
targets seen, points shelved. `sent` are the CALL values last sent to each target, `changed` points whose state the last
commit changed. -/
structure AlmSt where
  points : List (Nat × PointSt)
  ages : List (Nat × Nat)
  queue : List CmdEntry
  cmds : Nat
  watched : Bool
  accepted : List Nat
  seen : List Nat
  shelved : List Nat
  sent : List (Nat × List Nat)
  changed : List Nat
  deriving DecidableEq, Repr

/-- The alarm engine with no point evaluated. -/
def AlmSt.zero : AlmSt :=
  { points := [], ages := [], queue := [], cmds := 0, watched := false, accepted := [], seen := [], shelved := [], sent := [],
    changed := [] }

end Sys2Proof.Machine
end

