-- ==== Sys2Proof/Machine/StChain.lean ====
section
/-! DEFINITION. State of the chain behind its registers: RCP, neighbours, PTP, HSR and the harbour vote (11_chain.md). -/

namespace Sys2Proof.Machine

/-- A response kept for a source (R332). -/
structure KeptResp where
  src : Nat
  sess : Nat
  req : Nat
  time : Nat
  typ : Nat
  body : List Byte
  deriving DecidableEq, Repr

/-- The chain. `seq` is the next SEQ, `dup` the duplicate table (source, SEQ, time), `left` the frames that have left a chain
port (source, SEQ, port, time), `shape` the alarm-class frames sent (time, wire bytes), `alarmQ` those queued (TYPE plus 256
for a response, destination, payload). `hello` are the times of the last HELLO on East and West, `peers` the HARB_STATE they carried. `ringT` is when
the last TIME_INFO left, `ringBack` that it returned. `infos` are TIME_INFO receipts (serial, time). `anns` are the Announce
messages by port with their time, `timePort` the chain port time is taken from, `gmHops` HOPS of the grandmaster's last TIME_INFO by
port, `syncT` the time of its last Sync by port, `twoStep` ports where a Follow_Up is due, `x5Delay` the measured delay on X5.
`hsrDup`, `hsrNodes` and `hsrSeq` serve HSR. -/
structure ChainSt where
  seq : Nat
  dup : List (Nat × Nat × Nat)
  left : List (Nat × Nat × Nat × Nat)
  shape : List (Nat × Nat)
  alarmQ : List (Nat × Nat × List Byte)
  kept : List KeptResp
  hello : List Nat
  peers : List Nat
  ringT : Nat
  ringBack : Bool
  infos : List (Nat × Nat)
  anns : List (Nat × AnnMsg × Nat)
  timePort : Nat
  gmHops : List (Nat × Nat)
  syncT : List Nat
  twoStep : List Nat
  x5Delay : Nat
  hsrDup : List (Nat × Nat × Nat)
  hsrNodes : List (Nat × Nat)
  hsrSeq : Nat
  deriving DecidableEq, Repr

/-- The harbour vote: T_sleep of the open or last proposal, serials that have accepted and that must, the SUB being repeated
and how often still, the WAKE being repeated and how often still, the last PROP_SEQ used; `slept` are the quarters R406 stopped
at the end of the last commit before b_h. -/
structure HarbSt where
  tSleep : Nat
  accepts : List Nat
  parts : List Nat
  closing : Option (Nat × Nat)
  wake : List Byte
  wakeLeft : Nat
  propSeq : Nat
  slept : List Nat
  deriving DecidableEq, Repr

/-- The chain with nobody heard; SEQ starts at 1 (R312). -/
def ChainSt.zero : ChainSt :=
  { seq := 1, dup := [], left := [], shape := [], alarmQ := [], kept := [], hello := copies 2 0, peers := copies 2 0, ringT := 0,
    ringBack := false, infos := [], anns := [], timePort := 0, gmHops := [], syncT := copies 2 0, twoStep := [], x5Delay := 0,
    hsrDup := [], hsrNodes := [], hsrSeq := 0 }

/-- No vote. -/
def HarbSt.zero : HarbSt :=
  { tSleep := 0, accepts := [], parts := [], closing := none, wake := [], wakeLeft := 0, propSeq := 0, slept := [] }

end Sys2Proof.Machine
end

