-- ==== Sys2Proof/Machine/Fp.lean ====
section
/-! DEFINITION. The arithmetic of the quarters: binary32 and BF16 with one rounding to nearest even (R207, R230),
the W192 format (R136, R137, R138), and the correctly rounded transcendental functions (R230, R234). Values are computed
exactly on integers and narrowed once. -/

namespace Sys2Proof.Machine

/-! ### Reading a binary32 pattern -/

/-- What a binary32 pattern stands for; a finite value is `n × 2^−149`, with its sign kept for zero. -/
inductive FVal where
  | nan
  | inf (neg : Bool)
  | fin (neg : Bool) (n : Nat)
  deriving DecidableEq, Repr

/-- The canonical quiet NaN (R207, R242). -/
def qnan32 : Nat := 0x7FC00000

/-- The value of a binary32 pattern. -/
def f32Val (w : Nat) : FVal :=
  let neg := bitOf w 31
  let ex := bitsOf w 30 23
  let fr := bitsOf w 22 0
  if ex = 255 then (if fr = 0 then .inf neg else .nan)
  else if ex = 0 then .fin neg fr
  else .fin neg ((2 ^ 23 + fr) * 2 ^ (ex - 1))

/-- A finite value as a signed multiple of 2^−149. -/
def FVal.int : FVal → Int
  | .fin true n => -(n : Int)
  | .fin false n => n
  | _ => 0

/-- Whether the value is finite. -/
def FVal.isFin : FVal → Bool
  | .fin _ _ => true
  | _ => false

/-- Whether the value is a NaN. -/
def FVal.isNan : FVal → Bool
  | .nan => true
  | _ => false

/-- Whether the value is an infinity. -/
def FVal.isInf : FVal → Bool
  | .inf _ => true
  | _ => false

/-- The sign. -/
def FVal.neg : FVal → Bool
  | .fin s _ => s
  | .inf s => s
  | .nan => false

/-! ### Rounding to nearest, ties to even -/

/-- A binary format: precision, exponent of its least subnormal, the pattern of +Inf, and the place of the sign. -/
structure FpFmt where
  prec : Nat
  emin : Int
  infPat : Nat
  signBit : Nat
  deriving DecidableEq, Repr

/-- IEEE 754 binary32. -/
def fmt32 : FpFmt := ⟨24, -149, 0x7F800000, 31⟩

/-- BF16: bits [31:16] of the binary32 pattern (Table 8.1). -/
def fmtBf16 : FpFmt := ⟨8, -133, 0x7F80, 15⟩

/-- `m / 2^s` rounded to nearest, ties to even. -/
def rneShift (m s : Nat) : Nat :=
  let q := m / 2 ^ s
  let r := m % 2 ^ s
  if s = 0 then m
  else if 2 ^ (s - 1) < r || (r == 2 ^ (s - 1) && q % 2 == 1) then q + 1 else q

/-- The pattern of `±m × 2^e` rounded once to the format. -/
def roundTo (f : FpFmt) (neg : Bool) (m : Nat) (e : Int) : Nat :=
  let sign := b2n neg * 2 ^ f.signBit
  if m = 0 then sign
  else
    let n : Int := (Nat.log2 m : Nat) + 1
    let q := max (e + n - f.prec) f.emin
    let k : Nat := if q ≤ e then m * 2 ^ (e - q).toNat else rneShift m (q - e).toNat
    let pat : Nat :=
      if k < 2 ^ (f.prec - 1) then k
      else (q - f.emin).toNat * 2 ^ (f.prec - 1) + k
    sign + (if f.infPat ≤ pat then f.infPat else pat)

/-- The binary32 pattern of an exact multiple `i × 2^e`; an exact zero takes the sign given. -/
def round32 (zeroNeg : Bool) (i : Int) (e : Int) : Nat :=
  if i = 0 then roundTo fmt32 zeroNeg 0 0 else roundTo fmt32 (decide (i < 0)) i.natAbs e

/-! ### binary32 operations -/

def f32Inf (neg : Bool) : Nat := 0x7F800000 + b2n neg * 2 ^ 31
def f32Zero (neg : Bool) : Nat := b2n neg * 2 ^ 31

/-- Sum. -/
def f32Add (a b : Nat) : Nat :=
  match f32Val a, f32Val b with
  | .nan, _ => qnan32
  | _, .nan => qnan32
  | .inf s, .inf t => if s = t then f32Inf s else qnan32
  | .inf s, .fin _ _ => f32Inf s
  | .fin _ _, .inf t => f32Inf t
  | .fin s m, .fin t n =>
    round32 (s && t) ((FVal.fin s m).int + (FVal.fin t n).int) (-149)

/-- The pattern with its sign inverted (a NaN stays a NaN). -/
def f32NegBits (b : Nat) : Nat := if bitOf b 31 then b - 2 ^ 31 else b + 2 ^ 31

/-- Difference. -/
def f32Sub (a b : Nat) : Nat := f32Add a (f32NegBits b)

/-- The canonical NaN of a format (R242). -/
def fnan (f : FpFmt) : Nat := f.infPat + 2 ^ (f.prec - 2)

/-- An infinity of a format. -/
def finf (f : FpFmt) (neg : Bool) : Nat := f.infPat + b2n neg * 2 ^ f.signBit

/-- `a × b + c` of binary32 operands, rounded once to the format. -/
def ffma (f : FpFmt) (a b c : Nat) : Nat :=
  match f32Val a, f32Val b, f32Val c with
  | .nan, _, _ => fnan f
  | _, .nan, _ => fnan f
  | _, _, .nan => fnan f
  | .fin s m, .fin t n, .fin u k =>
    let p : Int := (FVal.fin s m).int * (FVal.fin t n).int
    let i := p + (FVal.fin u k).int * 2 ^ 149
    if i = 0 then roundTo f ((xor s t) && u) 0 0 else roundTo f (decide (i < 0)) i.natAbs (-298)
  | .fin _ _, .fin _ _, .inf u => finf f u
  | x, y, z =>
    let zeroTimesInf := (x.isInf && y.int == 0 && y.isFin) || (y.isInf && x.int == 0 && x.isFin)
    let ps := xor x.neg y.neg
    if zeroTimesInf then fnan f
    else match z with
      | .inf u => if ps = u then finf f u else fnan f
      | _ => finf f ps

/-- Product and sum with one rounding: `a × b + c`. -/
def f32Fma (a b c : Nat) : Nat := ffma fmt32 a b c

/-- `a + b` rounded once to a format. -/
def fadd (f : FpFmt) (a b : Nat) : Nat := ffma f a 0x3F800000 b
/-- `a × b` rounded once to a format. -/
def fmul (f : FpFmt) (a b : Nat) : Nat := ffma f a b (b2n (xor (bitOf a 31) (bitOf b 31)) * 2 ^ 31)

/-- Product. -/
def f32Mul (a b : Nat) : Nat :=
  match f32Val a, f32Val b with
  | .nan, _ => qnan32
  | _, .nan => qnan32
  | .fin s m, .fin t n => round32 (xor s t) ((FVal.fin s m).int * (FVal.fin t n).int) (-298)
  | x, y =>
    if (x.isInf && y.isFin && y.int == 0) || (y.isInf && x.isFin && x.int == 0) then qnan32
    else f32Inf (xor x.neg y.neg)

/-- The pattern of the quotient `m / n × 2^e`, rounded once: 100 extra quotient bits and a sticky bit. -/
def roundQuot (f : FpFmt) (neg : Bool) (m n : Nat) (e : Int) : Nat :=
  let k := 100 + Nat.log2 n
  let q := m * 2 ^ k / n
  let sticky := b2n (m * 2 ^ k % n != 0)
  roundTo f neg (2 * q + sticky) (e - k - 1)

/-- Quotient. -/
def f32Div (a b : Nat) : Nat :=
  match f32Val a, f32Val b with
  | .nan, _ => qnan32
  | _, .nan => qnan32
  | .inf _, .inf _ => qnan32
  | .inf s, .fin t _ => f32Inf (xor s t)
  | .fin s _, .inf t => f32Zero (xor s t)
  | .fin s m, .fin t n =>
    if n = 0 then (if m = 0 then qnan32 else f32Inf (xor s t))
    else if m = 0 then f32Zero (xor s t)
    else roundQuot fmt32 (xor s t) m n 0

/-- The integer square root, bit by bit from bit `k` down. -/
def isqrtFrom (n : Nat) : Nat → Nat → Nat
  | 0, r => if (r + 1) * (r + 1) ≤ n then r + 1 else r
  | k + 1, r =>
    let r' := r + 2 ^ (k + 1)
    isqrtFrom n k (if r' * r' ≤ n then r' else r)

/-- ⌊√n⌋. -/
def isqrt (n : Nat) : Nat := isqrtFrom n (Nat.log2 n / 2 + 1) 0

/-- Square root. -/
def f32Sqrt (a : Nat) : Nat :=
  match f32Val a with
  | .nan => qnan32
  | .inf s => if s then qnan32 else f32Inf false
  | .fin s n =>
    if n = 0 then f32Zero s
    else if s then qnan32
    else
      -- n × 2^−149 = (n × 2^101) × 2^−250
      let v := n * 2 ^ 101
      let r := isqrt (v * 2 ^ 120)
      roundTo fmt32 false (2 * r + b2n (r * r != v * 2 ^ 120)) (-186)

/-- The order key of FMIN and FMAX: −0 below +0 (R207). -/
def f32Key (a : Nat) : Int := if bitOf a 31 then -((bitsOf a 30 0 : Nat) : Int) - 1 else (bitsOf a 30 0 : Nat)

def f32Min (a b : Nat) : Nat :=
  if (f32Val a).isNan || (f32Val b).isNan then qnan32 else if f32Key a ≤ f32Key b then a else b

def f32Max (a b : Nat) : Nat :=
  if (f32Val a).isNan || (f32Val b).isNan then qnan32 else if f32Key b ≤ f32Key a then a else b

/-- The value order, with +0 equal to −0; an infinity lies beyond every finite value. -/
def FVal.rank : FVal → Int
  | .inf true => -(2 ^ 300)
  | .inf false => 2 ^ 300
  | v => v.int

def f32Eq (a b : Nat) : Bool :=
  !(f32Val a).isNan && !(f32Val b).isNan && (f32Val a).rank == (f32Val b).rank
def f32Lt (a b : Nat) : Bool :=
  !(f32Val a).isNan && !(f32Val b).isNan && decide ((f32Val a).rank < (f32Val b).rank)
def f32Le (a b : Nat) : Bool :=
  !(f32Val a).isNan && !(f32Val b).isNan && decide ((f32Val a).rank ≤ (f32Val b).rank)

/-- Sign bit cleared, NaN to the canonical NaN (R207). -/
def f32Abs (a : Nat) : Nat := if (f32Val a).isNan then qnan32 else bitsOf a 30 0
/-- Sign bit inverted, NaN to the canonical NaN (R207). -/
def f32Neg (a : Nat) : Nat := if (f32Val a).isNan then qnan32 else f32NegBits a

/-- A signed integer times 2^e to binary32. -/
def f32OfInt (i : Int) (e : Int) : Nat := round32 false i e

/-- `i × 2^e` to the nearest integer, ties to even. -/
def rneInt (i : Int) (e : Int) : Int :=
  if 0 ≤ e then i * 2 ^ e.toNat
  else
    let m := rneShift i.natAbs (-e).toNat
    if i < 0 then -(m : Int) else m

/-- CVTFI: to signed 64-bit, nearest even, saturating, 0 for NaN (R207). -/
def f32ToI64 (a : Nat) : Int :=
  match f32Val a with
  | .nan => 0
  | .inf s => if s then -(2 ^ 63) else 2 ^ 63 - 1
  | v => clampInt (-(2 ^ 63)) (2 ^ 63 - 1) (rneInt v.int (-149))

/-! ### BF16 -/

/-- Widening (R230, R242): exact, NaNs to the canonical NaN. -/
def bf16To32 (h : Nat) : Nat := let w := h % 2 ^ 16 * 2 ^ 16; if (f32Val w).isNan then qnan32 else w

/-- Narrowing of a binary32 pattern, to nearest even (R242). -/
def f32ToBf16 (w : Nat) : Nat :=
  match f32Val w with
  | .nan => 0x7FC0
  | .inf s => 0x7F80 + b2n s * 2 ^ 15
  | .fin s n => roundTo fmtBf16 s n (-149)

/-! ### W192 (R136 to R138) -/

def w192Inf (neg : Bool) : Nat := if neg then 2 ^ 191 + 1 else 2 ^ 191 - 1
def w192Nan : Nat := 2 ^ 191
def w192IsNan (w : Nat) : Bool := w == w192Nan
def w192IsInf (w : Nat) : Bool := w == w192Inf false || w == w192Inf true
def w192IsFin (w : Nat) : Bool := !w192IsNan w && !w192IsInf w

/-- The integer N of the pattern (Table 5.3). -/
def w192Int (w : Nat) : Int := toSigned 192 w

/-- The pattern of an exact integer N, or the infinity of its sign beyond |N| ≤ 2^191 − 2 (Table 5.4). -/
def w192OfInt (i : Int) : Nat :=
  if i.natAbs ≤ 2 ^ 191 - 2 then ofSigned 192 i else w192Inf (decide (i < 0))

/-- W192 addition (Table 5.4). -/
def w192Add (a b : Nat) : Nat :=
  if w192IsNan a || w192IsNan b then w192Nan
  else if w192IsInf a then (if w192IsInf b && a != b then w192Nan else a)
  else if w192IsInf b then b
  else w192OfInt (w192Int a + w192Int b)

/-- W192 to binary32 (R138). -/
def w192To32 (w : Nat) : Nat :=
  if w192IsNan w then qnan32
  else if w192IsInf w then f32Inf (w == w192Inf true)
  else round32 false (w192Int w) (-96)

/-! ### Transcendental functions, correctly rounded (R230)

Fixed point with 256 fraction bits. An argument other than the exact cases has an irrational result, whose value lies
far enough from every rounding boundary of binary32 and BF16 for this precision, so a sticky bit below the computed
bits gives the correctly rounded result. -/

/-- ⌊ln 2 × 2^256⌋. -/
def ln2Fix : Int := 0xb17217f7d1cf79abc9e3b39803f2f6af40f343267298b62d8a0d175b8baafa2b
/-- ⌊π × 2^256⌋. -/
def piFix : Int := 0x3243f6a8885a308d313198a2e03707344a4093822299f31d0082efa98ec4e6c89
/-- 1 in fixed point. -/
def oneFix : Int := 2 ^ 256

/-- Σ_{j ≥ k} r^j/j! from term `t` = r^k/k!, `fuel` terms. -/
def expSeries (r : Int) : Nat → Nat → Int → Int
  | 0, _, _ => 0
  | fuel + 1, k, t => t + expSeries r fuel (k + 1) (t * r / (oneFix * ((k : Int) + 1)))

/-- Pattern of e^x for the finite value `i × 2^−149`, `i ≠ 0`. -/
def expRound (f : FpFmt) (i : Int) : Nat :=
  let x := i * 2 ^ 107
  if 89 * oneFix ≤ x then f.infPat
  else if x ≤ -(105 * oneFix) then 0
  else
    let k := (2 * x + ln2Fix) / (2 * ln2Fix)
    let r := x - k * ln2Fix
    let y := expSeries r 70 0 oneFix
    roundTo f false (2 * y.toNat + 1) (k - 257)

/-- Σ z^(2j+1)/(2j+1) from term `t` = z^n with n odd, `fuel` terms. -/
def atanhSeries (z2 : Int) : Nat → Nat → Int → Int
  | 0, _, _ => 0
  | fuel + 1, n, t => t / (n : Int) + atanhSeries z2 fuel (n + 2) (t * z2 / oneFix)

/-- Pattern of ln x for the value `n × 2^−149`, `n > 0` and the value not 1. -/
def lnRound (f : FpFmt) (n : Nat) : Nat :=
  -- n × 2^−149 = g × 2^k with 1 ≤ g < 2; take g/2 and k + 1 when g ≥ 3/2
  let lg := Nat.log2 n
  let g0 : Int := (n : Int) * 2 ^ 256 / 2 ^ lg
  let k0 : Int := (lg : Int) - 149
  let big := decide (3 * oneFix ≤ 2 * g0)
  let g := if big then g0 / 2 else g0
  let k := if big then k0 + 1 else k0
  let z := (g - oneFix) * oneFix / (g + oneFix)
  let s := k * ln2Fix + 2 * atanhSeries (z * z / oneFix) 70 1 z
  roundTo f (decide (s < 0)) (2 * s.natAbs + 1) (-257)

/-- Σ (−1)^j r^(2j+a)/(2j+a)! from term `t` of index `n`, `fuel` terms. -/
def trigSeries (r2 : Int) : Nat → Nat → Int → Int
  | 0, _, _ => 0
  | fuel + 1, n, t => t + trigSeries r2 fuel (n + 2) (-(t * r2 / (oneFix * (((n : Int) + 1) * ((n : Int) + 2)))))

/-- Pattern of a fixed-point value, sticky below. -/
def roundFix (neg : Bool) (i : Int) : Nat := roundTo fmt32 neg (2 * i.natAbs + 1) (-257)

/-- rn32(cos φ) and rn32(sin φ) for φ = 2πu/n, 0 < u < n/4. -/
def cosSinQuad (u n : Nat) : Nat × Nat :=
  let r := 2 * piFix * (u : Int) / (n : Int)
  let r2 := r * r / oneFix
  (roundFix false (trigSeries r2 40 0 oneFix), roundFix false (trigSeries r2 40 1 r))

/-- rn32(cos(2πt/n)) and rn32(sin(2πt/n)) for n a multiple of 4 and t < n (R234). -/
def cosSin (t n : Nat) : Nat × Nat :=
  let one := 0x3F800000
  let u := t % (n / 4)
  let (c, s) := if u = 0 then (one, 0) else cosSinQuad u n
  let ng (x : Nat) : Nat := if x = 0 then 0 else f32NegBits x
  match t / (n / 4) with
  | 0 => (c, s)
  | 1 => (ng s, c)
  | 2 => (ng c, ng s)
  | _ => (s, ng c)

/-- VEXP on a binary32 operand, result in `f` (Table 8.3). -/
def fexp (f : FpFmt) (a : Nat) : Nat :=
  match f32Val a with
  | .nan => fnan f
  | .inf s => if s then 0 else f.infPat
  | v => if v.int = 0 then roundTo f false 1 0 else expRound f v.int

/-- VLOG. -/
def flog (f : FpFmt) (a : Nat) : Nat :=
  match f32Val a with
  | .nan => fnan f
  | .inf s => if s then fnan f else f.infPat
  | .fin s n =>
    if n = 0 then f.infPat + 2 ^ f.signBit
    else if s then fnan f
    else if n = 2 ^ 149 then 0
    else lnRound f n

/-- VRCP. -/
def frcp (f : FpFmt) (a : Nat) : Nat :=
  match f32Val a with
  | .nan => fnan f
  | .inf s => b2n s * 2 ^ f.signBit
  | .fin s n => if n = 0 then f.infPat + b2n s * 2 ^ f.signBit else roundQuot f s 1 n 149

/-- VRSQRT. -/
def frsqrt (f : FpFmt) (a : Nat) : Nat :=
  match f32Val a with
  | .nan => fnan f
  | .inf s => if s then fnan f else 0
  | .fin s n =>
    if n = 0 then f.infPat + b2n s * 2 ^ f.signBit
    else if s then fnan f
    else
      -- 1/√(n × 2^−149) = √(2^150 / 2n) ; ⌊√(2^(150 + 800) / 2n)⌋ × 2^−400
      let q := 2 ^ 950 / (2 * n)
      let r := isqrt q
      let exact := r * r * (2 * n) == 2 ^ 950
      roundTo f false (2 * r + b2n (!exact)) (-401)

end Sys2Proof.Machine
end

