-- ==== Sys2Proof/Machine/Operands.lean ====
section
/-! DEFINITION. The operand forms of the long word (07_long_word_encoding.md): slot fields, register specifiers, the
illegal encodings of R203, the destinations of R205 and the sources of R169, and the scalar arithmetic of Table 7.4.
A slot is the number of its 128-bit little-endian value (R198). -/

namespace Sys2Proof.Machine

/-! ### Slot header (R199, R200) -/

/-- The 128-bit slot of opcode `op` whose bits [127:8] are `w`. -/
def slotOf (op : Nat) (w : BitVec 120) : Nat := op + 256 * w.toNat

/-- OP. -/
def slotOp (w : Nat) : Nat := bitsOf w 7 0
/-- PRED. -/
def slotPred (w : Nat) : Nat := bitsOf w 11 8

/-- Whether bits [hi:lo] are zero. -/
def zeroBits (w hi lo : Nat) : Bool := bitsOf w hi lo == 0

/-! ### Register specifiers (Table 7.2) -/

/-- The four files a specifier can name. -/
inductive RFile where
  | s | a | p | lc
  deriving DecidableEq, Repr

/-- A register of a file. -/
structure RegId where
  file : RFile
  idx : Nat
  deriving DecidableEq, Repr

/-- The register an 8-bit specifier names. -/
def specReg (x : Nat) : RegId :=
  match bitsOf x 7 6 with
  | 0 => ⟨.s, bitsOf x 5 0⟩
  | 1 => ⟨.a, bitsOf x 3 0⟩
  | 2 => ⟨.p, bitsOf x 2 0⟩
  | _ => ⟨.lc, bitsOf x 1 0⟩

/-- Whether the bits that Table 7.2 marks zero are zero. -/
def specOk (x : Nat) : Bool :=
  match bitsOf x 7 6 with
  | 0 => true
  | 1 => zeroBits x 5 4
  | 2 => zeroBits x 5 3
  | _ => zeroBits x 5 2

/-- Operand classes of Table 7.3. -/
inductive OpClass where
  | int | fp | pred | move | scalar
  deriving DecidableEq, Repr

/-- Files a source of the class admits. -/
def OpClass.src : OpClass → RFile → Bool
  | .int, f => f != .p
  | .fp, f => f == .s
  | .pred, f => f == .p
  | .move, _ => true
  | .scalar, f => f == .s

/-- Files a destination of the class admits. -/
def OpClass.dst : OpClass → RFile → Bool
  | .int, f => f == .s || f == .a
  | .fp, f => f == .s
  | .pred, f => f == .p
  | .move, f => f != .lc
  | .scalar, f => f == .s

/-- A legal source specifier of the class. -/
def srcOk (c : OpClass) (x : Nat) : Bool := specOk x && c.src (specReg x).file
/-- A legal destination specifier of the class. -/
def dstOk (c : OpClass) (x : Nat) : Bool := specOk x && c.dst (specReg x).file

/-! ### Scalar slots (R206, Table 7.4) -/

def sRD (w : Nat) : Nat := bitsOf w 23 16
def sRA (w : Nat) : Nat := bitsOf w 31 24
def sRB (w : Nat) : Nat := bitsOf w 39 32
def sRC (w : Nat) : Nat := bitsOf w 47 40
def sImmB (w : Nat) : Bool := bitOf w 48
def sImm (w : Nat) : Nat := bitsOf w 127 64

/-- The operand shape of a scalar opcode: classes of RD, RA and B, class of RC, and whether the FP rule on IMM64
[63:32] holds. `none` for an operand the opcode does not use. -/
structure SShape where
  rd : OpClass
  ra : Option OpClass
  rb : Option OpClass
  rc : Option OpClass
  immAllowed : Bool
  immOnly : Bool
  deriving DecidableEq, Repr

/-- Shapes by opcode (Table 7.4); `none` for a reserved opcode. -/
def sShape (op : Nat) : Option SShape :=
  if 0x01 ≤ op ∧ op ≤ 0x0F then some ⟨.int, some .int, some .int, none, true, false⟩
  else if 0x10 ≤ op ∧ op ≤ 0x15 then some ⟨.pred, some .int, some .int, none, true, false⟩
  else if op = 0x18 then some ⟨.int, none, none, none, false, true⟩
  else if op = 0x19 then some ⟨.int, some .int, some .int, some .pred, true, false⟩
  else if 0x1A ≤ op ∧ op ≤ 0x1C then some ⟨.pred, some .pred, some .pred, none, false, false⟩
  else if op = 0x1D then some ⟨.pred, some .pred, none, none, false, false⟩
  else if (0x20 ≤ op ∧ op ≤ 0x22) ∨ op = 0x24 ∨ op = 0x26 ∨ op = 0x27 then
    some ⟨.fp, some .fp, some .fp, none, true, false⟩
  else if op = 0x23 then some ⟨.fp, some .fp, some .fp, some .fp, true, false⟩
  else if op = 0x25 ∨ op = 0x2D ∨ op = 0x2E then some ⟨.fp, some .fp, none, none, false, false⟩
  else if 0x28 ≤ op ∧ op ≤ 0x2A then some ⟨.pred, some .fp, some .fp, none, true, false⟩
  else if op = 0x2B then some ⟨.fp, some .int, none, none, false, false⟩
  else if op = 0x2C then some ⟨.int, some .fp, none, none, false, false⟩
  else none

/-- A source field: legal for its class, or zero when the opcode does not use it. -/
def optSrc (c : Option OpClass) (x : Nat) : Bool :=
  match c with
  | some k => srcOk k x
  | none => x == 0

/-- Legality of the operand fields of a scalar slot. -/
def sLegal (w : Nat) : Bool :=
  match sShape (slotOp w) with
  | none => false
  | some h =>
    let fpImm := h.rb == some .fp
    dstOk h.rd (sRD w) && optSrc h.ra (sRA w) && optSrc h.rc (sRC w) && zeroBits w 63 49 &&
    (if sImmB w then h.immAllowed && sRB w == 0 && (!fpImm || zeroBits w 127 96)
     else optSrc h.rb (sRB w) && (h.immOnly || sImm w == 0))

/-! ### Control slot (R208, R209) -/

def cTarget (w : Nat) : Nat := bitsOf w 26 16
def cBrxRA (w : Nat) : Nat := bitsOf w 31 24
def cLC (w : Nat) : Nat := bitsOf w 17 16
def cEnd (w : Nat) : Nat := bitsOf w 28 18
def cLoopRA (w : Nat) : Nat := bitsOf w 39 32
def cCount (w : Nat) : Nat := bitsOf w 95 64

/-- Legality of a control slot in long word `i` (END not greater than `i` is reserved, R209). -/
def cLegal (i w : Nat) : Bool :=
  match slotOp w with
  | 0x01 => zeroBits w 127 27
  | 0x02 => srcOk .scalar (cBrxRA w) && zeroBits w 23 16 && zeroBits w 127 32
  | 0x03 => srcOk .scalar (cLoopRA w) && zeroBits w 31 29 && zeroBits w 127 40 && Nat.blt i (cEnd w)
  | 0x04 => zeroBits w 63 29 && zeroBits w 127 96 && Nat.blt i (cEnd w)
  | 0x0F => zeroBits w 127 16
  | _ => false

/-! ### Load and store slot (R213, R214) -/

def mData (w : Nat) : Nat := bitsOf w 23 16
def mBase (w : Nat) : Nat := bitsOf w 27 24
def mAM (w : Nat) : Nat := bitsOf w 29 28
def mIndex (w : Nat) : Nat := bitsOf w 37 32
def mScale (w : Nat) : Nat := bitsOf w 40 38
def mImm (w : Nat) : Nat := bitsOf w 95 64
def mcSrc (w : Nat) : Nat := bitsOf w 19 16
def mcDst (w : Nat) : Nat := bitsOf w 23 20
def mcLen (w : Nat) : Nat := bitsOf w 29 24
def mcLenImm (w : Nat) : Bool := bitOf w 30

/-- Whether the opcode is a load. -/
def isLoadOp (op : Nat) : Bool := Nat.ble 1 op && Nat.ble op 7
/-- Whether the opcode is a store. -/
def isStoreOp (op : Nat) : Bool := Nat.ble 8 op && Nat.ble op 0x0B

/-- Legality of an M slot. -/
def mLegal (w : Nat) : Bool :=
  let op := slotOp w
  if op = 0x10 then
    bitsOf w 31 31 == 0 && zeroBits w 63 32 && zeroBits w 127 96 &&
    (if mcLenImm w then mcLen w == 0 else mImm w == 0)
  else if isLoadOp op || isStoreOp op then
    zeroBits w 31 30 && zeroBits w 63 41 && zeroBits w 127 96 &&
    (if isLoadOp op then dstOk .int (mData w) else srcOk .int (mData w)) &&
    (match mAM w with
     | 0 => mIndex w == 0 && mScale w == 0
     | 1 => mImm w == 0 && mScale w != 7
     | 2 => mIndex w == 0 && mScale w == 0
     | _ => false)
  else false

/-! ### Span slots (R215, Tables 7.8 and 7.9) -/

def gSpan (w : Nat) : Nat := bitsOf w 22 16
def gGroup (w : Nat) : Nat := bitsOf w 25 23
def gRows (w : Nat) : Nat := bitsOf w 34 26
def gA (w : Nat) : Nat := bitsOf w 38 35
def gT (w : Nat) : Nat := bitsOf w 45 40
def gOpen (w : Nat) : Nat := bitsOf w 47 46
def gOsrc (w : Nat) : Nat := bitsOf w 51 48
def gClose (w : Nat) : Nat := bitsOf w 53 52
def gCdst (w : Nat) : Nat := bitsOf w 57 54
def gOvr (w : Nat) : Bool := bitOf w 58
def gMode (w : Nat) : Nat := bitsOf w 60 59
def gClog (w : Nat) : Nat := bitsOf w 64 61
def gStatus (w : Nat) : Nat := bitsOf w 70 65
def gStatusEn (w : Nat) : Bool := bitOf w 71
def gOpoff (w : Nat) : Nat := bitsOf w 86 72
def gBank (w : Nat) : Nat := bitsOf w 24 23
def gbS (w : Nat) : Nat := bitsOf w 28 25
def gbU (w : Nat) : Nat := bitsOf w 34 29
def gbX (w : Nat) : Nat := bitsOf w 38 35
def gbV (w : Nat) : Nat := bitsOf w 44 39

/-- Override fields: used with OVR, else zero; MODE 3, CHUNK_LOG2 above 12 and a chunk in exact mode are reserved. -/
def gOvrOk (w : Nat) : Bool :=
  if gOvr w then gMode w != 3 && Nat.ble (gClog w) 12 && (gMode w != 0 || gClog w == 0)
  else gMode w == 0 && gClog w == 0

/-- The status register field is zero unless STATUS_EN. -/
def gStatusOk (w : Nat) : Bool := gStatusEn w || gStatus w == 0

/-- Legality of a G slot. -/
def gLegal (w : Nat) : Bool :=
  match slotOp w with
  | 0x01 => zeroBits w 39 39 && zeroBits w 127 87 && gOpen w != 3 && (gOpen w == 2 || gOsrc w == 0) &&
      (Nat.ble 2 (gClose w) || gCdst w == 0) && gOvrOk w && gStatusOk w
  | 0x02 => zeroBits w 127 25
  | 0x03 => zeroBits w 127 45
  | 0x04 => zeroBits w 127 25
  | 0x05 => zeroBits w 45 35 && (gOpen w == 1 || gOpen w == 2) && (gOpen w == 2 || gOsrc w == 0) &&
      (gOpen w == 1 || gRows w == 0) && zeroBits w 57 52 && gOvrOk w && zeroBits w 127 65
  | 0x06 => zeroBits w 51 26 && gClose w != 0 && (Nat.ble 2 (gClose w) || gCdst w == 0) && zeroBits w 64 58 &&
      gStatusOk w && zeroBits w 127 87
  | _ => false

/-! ### Vector slot (R220, R611) -/

def vDst (w : Nat) : Nat := bitsOf w 19 16
def vSrc1 (w : Nat) : Nat := bitsOf w 23 20
def vSrc2 (w : Nat) : Nat := bitsOf w 27 24
def vLen (w : Nat) : Nat := bitsOf w 33 28
def vParam (w : Nat) : Nat := bitsOf w 39 34
def vFin (w : Nat) : Nat := bitsOf w 43 40
def vFout (w : Nat) : Nat := bitsOf w 47 44
def vKind (w : Nat) : Nat := bitsOf w 49 48
def vPort (w : Nat) : Nat := bitsOf w 51 50
def vStatus (w : Nat) : Nat := bitsOf w 57 52
def vStatusEn (w : Nat) : Bool := bitOf w 58

/-- The vector opcodes of Table 7.11. -/
def vOpOk (op : Nat) : Bool :=
  (Nat.ble 0x01 op && Nat.ble op 0x07) || (Nat.ble 0x10 op && Nat.ble op 0x13) || op == 0x18 || op == 0x19 ||
  op == 0x20 || op == 0x21 || (Nat.ble 0x28 op && Nat.ble op 0x2A) || op == 0x30 || op == 0x31 || op == 0x40

/-- Opcodes that use SRC2 (Table 7.11a). -/
def vUsesSrc2 (op : Nat) : Bool := Nat.ble 0x01 op && Nat.ble op 0x06
/-- Opcodes that use PARAM (Table 7.11a). -/
def vUsesParam (op : Nat) : Bool := op == 0x07 || op == 0x28 || op == 0x29 || op == 0x30 || op == 0x31

/-- Legality of a V slot. -/
def vLegal (w : Nat) : Bool :=
  let op := slotOp w
  vOpOk op && zeroBits w 127 59 && Nat.blt (vFin w) 8 && Nat.blt (vFout w) 8 && vKind w != 3 &&
  (vKind w == 0 || vSrc1 w == 0) && (vKind w == 2 || vPort w == 0) && (vUsesSrc2 op || vSrc2 w == 0) &&
  (vUsesParam op || vParam w == 0) && (vStatusEn w || vStatus w == 0)

/-! ### X slot (R221, Table 7.12) -/

def xTarget (w : Nat) : Nat := bitsOf w 19 16
def xCounter (w : Nat) : Nat := bitsOf w 23 20
def xWaitCtr (w : Nat) : Nat := bitsOf w 19 16
def xWaitV (w : Nat) : Nat := bitsOf w 25 20
def xWhich (w : Nat) : Nat := bitsOf w 25 24

/-- Legality of an X slot. -/
def xLegal (w : Nat) : Bool :=
  match slotOp w with
  | 0x01 => dstOk .move (sRD w) && srcOk .move (sRA w) && zeroBits w 127 32
  | 0x02 => zeroBits w 127 24
  | 0x03 => zeroBits w 127 26
  | 0x04 => zeroBits w 127 16
  | 0x05 => dstOk .scalar (sRD w) && xWhich w != 3 && zeroBits w 127 26
  | _ => false

/-! ### Whole long words -/

/-- Legality of slot `j` of long word `i` (R203): a NOP is all zero (R201), PRED 0b1000 and bits [15:12] other than
zero are illegal in every slot. -/
def slotLegal (i j w : Nat) : Bool :=
  if slotOp w = 0 then w == 0
  else
    slotPred w != 8 && zeroBits w 15 12 &&
    (match j with
     | 0 => sLegal w
     | 1 => sLegal w
     | 2 => cLegal i w
     | 3 => mLegal w
     | 4 => gLegal w
     | 5 => gLegal w
     | 6 => vLegal w
     | _ => xLegal w)

/-- The lowest illegal slot among `ws`, whose first is slot `j`. -/
def firstIllegal (i : Nat) : Nat → List Nat → Option Nat
  | _, [] => none
  | j, w :: ws => if slotLegal i j w then firstIllegal i (j + 1) ws else some j

/-- The destinations R205 counts for slot `j`; s0 and p0 never conflict. -/
def slotDests (j w : Nat) : List RegId :=
  let op := slotOp w
  let keep (r : RegId) : List RegId :=
    if (r.file = .s ∧ r.idx = 0) ∨ (r.file = .p ∧ r.idx = 0) then [] else [r]
  if op = 0 then []
  else match j with
  | 0 => keep (specReg (sRD w))
  | 1 => keep (specReg (sRD w))
  | 2 => []
  | 3 => (if isLoadOp op then keep (specReg (mData w)) else []) ++
         (if (isLoadOp op || isStoreOp op) && mAM w == 2 then [⟨.a, mBase w⟩] else [])
  | 6 => []
  | 7 => if op = 1 ∨ op = 5 then keep (specReg (sRD w)) else []
  | _ => if (op = 1 ∨ op = 6) ∧ gStatusEn w then keep ⟨.s, gStatus w⟩ else []

/-- The slot of the second naming of one destination (R222), slots in order. -/
def destConflict : Nat → List RegId → List Nat → Option Nat
  | _, _, [] => none
  | j, seen, w :: ws =>
    let ds := slotDests j w
    let twice : Bool := ds.any (fun d => seen.contains d) ||
      (match ds with
       | [d, e] => d == e
       | _ => false)
    if twice then some j else destConflict (j + 1) (seen ++ ds) ws

/-- The source registers a slot names, whose final values its long word waits for (R169): predicate and operands. -/
def slotSources (j w : Nat) : List RegId :=
  let op := slotOp w
  let pr : List RegId := [⟨.p, bitsOf (slotPred w) 2 0⟩]
  let s (i : Nat) : RegId := ⟨.s, i⟩
  let a (i : Nat) : RegId := ⟨.a, i⟩
  if op = 0 then []
  else pr ++ (match j with
  | 0 => [specReg (sRA w), specReg (sRB w), specReg (sRC w)]
  | 1 => [specReg (sRA w), specReg (sRB w), specReg (sRC w)]
  | 2 => if op = 2 then [specReg (cBrxRA w)] else if op = 3 then [specReg (cLoopRA w)] else []
  | 3 => if op = 0x10 then [a (mcSrc w), a (mcDst w), s (mcLen w)]
         else [a (mBase w), s (mIndex w)] ++ (if isStoreOp op then [specReg (mData w)] else [])
  | 6 => [a (vDst w), a (vSrc1 w), a (vSrc2 w), s (vLen w), s (vParam w)]
  | 7 => if op = 1 then [specReg (sRA w)] else if op = 3 then [s (xWaitV w)] else []
  | _ => if op = 3 then [a (gbS w), s (gbU w), a (gbX w), s (gbV w)]
         else [a (gA w), s (gT w), a (gOsrc w), a (gCdst w)])

/-- Every register whose pending write a long word waits for: its sources and its destinations (R169, R170). -/
def lwNeeds : Nat → List Nat → List RegId
  | _, [] => []
  | j, w :: ws => slotSources j w ++ slotDests j w ++
      (if j = 6 ∧ slotOp w ≠ 0 ∧ vStatusEn w then [⟨.s, vStatus w⟩] else []) ++ lwNeeds (j + 1) ws

/-! ### Scalar arithmetic (R206, R207) -/

/-- 2^64. -/
def two64 : Nat := 2 ^ 64

/-- The result of an integer opcode 0x01–0x0F on 64-bit operands. -/
def intResult (op a b : Nat) : Nat :=
  let sa := toSigned 64 a
  let sb := toSigned 64 b
  match op with
  | 0x01 => (a + b) % two64
  | 0x02 => (a + two64 - b) % two64
  | 0x03 => Nat.land a b
  | 0x04 => Nat.lor a b
  | 0x05 => Nat.xor a b
  | 0x06 => a * 2 ^ (b % 64) % two64
  | 0x07 => a / 2 ^ (b % 64)
  | 0x08 => ofSigned 64 (sa / 2 ^ (b % 64))
  | 0x09 => a * b % two64
  | 0x0A => a * b / two64
  | 0x0B => ofSigned 64 (sa * sb / 2 ^ 64)
  | 0x0C => if b = 0 then two64 - 1 else a / b
  | 0x0D => if b = 0 then two64 - 1 else ofSigned 64 (Int.tdiv sa sb)
  | 0x0E => if b = 0 then a else a % b
  | _ => if b = 0 then a else ofSigned 64 (Int.tmod sa sb)

/-- An integer comparison 0x10–0x15. -/
def cmpResult (op a b : Nat) : Bool :=
  match op with
  | 0x10 => a == b
  | 0x11 => a != b
  | 0x12 => Nat.blt a b
  | 0x13 => decide (toSigned 64 a < toSigned 64 b)
  | 0x14 => Nat.ble a b
  | _ => decide (toSigned 64 a ≤ toSigned 64 b)

/-- A predicate operation 0x1A–0x1D. -/
def predResult (op : Nat) (a b : Bool) : Bool :=
  match op with
  | 0x1A => a && b
  | 0x1B => a || b
  | 0x1C => xor a b
  | _ => !a

/-- A floating-point operation that writes a scalar register, on 64-bit operand values (low halves are read). -/
def fpResult (op a b c : Nat) : Nat :=
  let x := a % 2 ^ 32
  let y := b % 2 ^ 32
  let z := c % 2 ^ 32
  match op with
  | 0x20 => f32Add x y
  | 0x21 => f32Sub x y
  | 0x22 => f32Mul x y
  | 0x23 => f32Fma x y z
  | 0x24 => f32Div x y
  | 0x25 => f32Sqrt x
  | 0x26 => f32Min x y
  | 0x27 => f32Max x y
  | 0x2B => f32OfInt (toSigned 64 a) 0
  | 0x2C => ofSigned 64 (f32ToI64 x)
  | 0x2D => f32Abs x
  | _ => f32Neg x

/-- A floating-point comparison 0x28–0x2A. -/
def fcmpResult (op a b : Nat) : Bool :=
  let x := a % 2 ^ 32
  let y := b % 2 ^ 32
  match op with
  | 0x28 => f32Eq x y
  | 0x29 => f32Lt x y
  | _ => f32Le x y

/-- Whether the result of a scalar opcode lands later than the next step (Table 6.2: multiply, divide, FP). -/
def isLongLatency (op : Nat) : Bool :=
  (Nat.ble 0x09 op && Nat.ble op 0x0F) || (Nat.ble 0x20 op && Nat.ble op 0x2E)

end Sys2Proof.Machine
end

