-- ==== Sys2Proof/Machine/StCompute.lean ====
section
/-! DEFINITION. State of the compute package: sequencers, spans, accumulation groups, vector engines, grain banks and
their load engines, memory with its journal, and the recovery unit. Whatever the spec gives as a register stands in the
register file (State.regs); what stands here is the state behind it. -/

namespace Sys2Proof.Machine

/-! ### Sequencers (Table 6.1) -/

/-- The register files of one sequencer: s0–s63, a0–a15, p0–p7, lc0–lc3. -/
structure SeqRegs where
  s : List Dword
  a : List Dword
  p : List Bool
  lc : List Word
  deriving DecidableEq, Repr

/-- A running loop (R174, R209): its counter, the first and the last long word of its body. -/
structure LoopSt where
  ctr : Nat
  first : Nat
  last : Nat
  deriving DecidableEq, Repr

/-- A result on its way to a register (R170), with the memory operation it completes, if any. -/
structure PendingWrite where
  dest : RegId
  val : Nat
  memSeq : Option Nat
  deriving DecidableEq, Repr

/-- A SIGNAL waiting for its release point (R178). -/
structure PendingSignal where
  seq : Nat
  target : Nat
  ctr : Nat
  lw : Nat
  deriving DecidableEq, Repr

/-! ### Spans (R181 to R184) -/

/-- The operations that enter a span queue (Table 7.9). -/
inductive SpanKind where
  | span | bswitch | bload | brelease | gopen | gclose
  deriving DecidableEq, Repr

/-- An operation in a span queue, with the register values it read at issue. -/
structure SpanOp where
  kind : SpanKind
  lw : Nat
  slot : Nat
  seq : Nat
  group : Nat
  rows : Nat
  a : Nat
  t : Nat
  opn : Nat
  osrc : Nat
  cls : Nat
  cdst : Nat
  ovr : Option (Nat × Nat)
  status : Option Nat
  opoff : Nat
  bank : Nat
  src : Nat
  ustr : Nat
  xsrc : Nat
  xstr : Nat
  deriving DecidableEq, Repr

/-- An accumulation group (Table 5.5): state code, ROWS, mode, CHUNK_LOG2, product count n, and a LIMIT carried in. -/
structure GroupSt where
  st : Nat
  rows : Nat
  mode : Nat
  clog : Nat
  n : Nat
  limit : Bool
  deriving DecidableEq, Repr

/-- A pass in progress: its operation, and how many rows have reached egress. -/
structure PassSt where
  op : SpanOp
  done : Nat
  deriving DecidableEq, Repr

/-- A close whose output is being delivered (R154): form, tile status, its operation, and the words still to come for
the drain input. -/
structure DrainSt where
  op : SpanOp
  group : Nat
  status : Nat
  deriving DecidableEq, Repr

/-- One span: its queue, the pass in its grains, its groups, its drains, and INF and NAN of a streaming issue. -/
structure SpanSt where
  queue : List SpanOp
  pass : Option PassSt
  groups : List GroupSt
  drains : List DrainSt
  strm : Nat
  deriving DecidableEq, Repr

/-! ### Vector engine (R225, R239) -/

/-- A vector operation, with the register values it read at issue. -/
structure VecOp where
  op : Nat
  lw : Nat
  seq : Nat
  dst : Nat
  src1 : Nat
  src2 : Nat
  len : Nat
  param : Nat
  fin : Nat
  fout : Nat
  kind : Nat
  port : Nat
  status : Option Nat
  deriving DecidableEq, Repr

/-- A word at the drain input or a port: its form (true for W192), its pattern, and the span operation that made it. -/
structure FeedWord where
  wide : Bool
  pat : Nat
  lw : Nat
  slot : Nat
  deriving DecidableEq, Repr

/-! ### One quarter -/

/-- State of one quarter behind its registers. -/
structure Quarter where
  regs : SeqRegs
  snap : SeqRegs
  sc : List Word
  pc : Nat
  slot : Nat
  branch : Option Nat
  loops : List LoopSt
  pend : List PendingWrite
  waiting : Option (Nat × Nat)
  fence : Option Nat
  done : Option Nat
  lastLw : Option Nat
  lwCount : Nat
  nextSeq : Nat
  outst : List Nat
  signals : List PendingSignal
  spans : List (Nat × SpanSt)
  vq : List VecOp
  vcur : Option VecOp
  feeds : List (List FeedWord)
  faulted : Bool
  shadow : Option Nat
  faultRun : Nat
  credit : Nat
  tileFlags : Nat
  cntLimit : Nat
  cntNonfin : Nat
  cntClose : Nat
  vops : Nat
  vsat : Nat
  vnonfin : Nat
  vflags : Nat
  doneAt : Option Nat
  imem : List Byte
  entry : Nat
  count : Nat
  testRot : Nat
  testGap : Nat
  test : Option (Nat × Nat)
  deriving DecidableEq, Repr

/-! ### Grain banks -/

/-- A job of a weight-load engine: quarter, grain, bank, sources, and the CRC a restore checks (R109, R115). `kind` is
0 for a BLOAD, 1 for a restore at first use, 2 for a spare taking over, 3 for the weight fill. -/
structure LoadJob where
  q : Nat
  g : Nat
  b : Nat
  src : Nat
  xsrc : Nat
  crc : Option Nat
  kind : Nat
  lw : Nat
  slot : Nat
  seq : Nat
  started : Bool
  deriving DecidableEq, Repr

/-- What a rollback or skip puts back for a bank loaded in the epoch (R114). -/
structure BankUndo where
  wasEmpty : Bool
  crc : Nat
  deriving DecidableEq, Repr

/-- Grain arrays. `data` holds bank images, exponent tables and checksum columns at the window offsets of Table 20.3;
keys are grain numbers 96q + g, or bank numbers 4(96q + g) + b. `dead` lists grains that enter FAILED at the next rollback or
commit with the cause of Table 10.10, and `retire` those a RETIRE write awaits its commit for; `kept` is the hub's copy of which banks of a reset die hold weights
(R131). -/
structure Grains where
  data : List (Nat × Byte)
  jobs : List LoadJob
  undo : List (Nat × BankUndo)
  newSrc : List (Nat × Nat × Nat)
  actUndo : List (Nat × Nat)
  partials : List (Nat × List Int)
  faultEpochs : List (Nat × List Nat)
  spanFaults : List (Nat × List Nat)
  eccUncorr : List (Nat × Nat)
  dead : List (Nat × Nat)
  retire : List Nat
  kept : List Nat
  deriving DecidableEq, Repr

/-! ### Memory and recovery -/

/-- Memory behind the flat address space: bytes by home address, poisoned 64-byte blocks, the undo journals of the
attempt, newest first, as block address and previous content (no bytes: the block was poisoned), the journal of writes
made in DEBUG with the quarter in front, the accumulator memories and the number of launches so far. -/
structure MemSt where
  bytes : List (Nat × Byte)
  poison : List Nat
  journal : List (Nat × List Byte)
  acc : List (Nat × Byte)
  accGen : Nat
  dbgJournal : List (Nat × Nat × List Byte)
  linkReplays : List (Nat × Nat)
  deriving DecidableEq, Repr

/-- One 32-byte event record (Table 10.10), as fields. -/
structure EvtRec where
  epoch : Nat
  unitKind : Nat
  cause : Nat
  action : Nat
  attempts : Nat
  unitNo : Nat
  detail : Nat
  variant : Nat
  quarters : Nat
  capacity : Nat
  spares : Nat
  deriving DecidableEq, Repr

/-- Why an epoch ends without its program results. -/
inductive Stop where
  | program (q : Nat)
  | late
  | journalFull
  | pairWord
  | logLost
  | exhausted
  | unitLost
  | fenced
  deriving DecidableEq, Repr

/-- A detected fault waiting for its rollback: unit, cause and detail for the event record. -/
structure FaultNote where
  unitKind : Nat
  cause : Nat
  unitNo : Nat
  detail : Nat
  deriving DecidableEq, Repr

/-- Recovery state behind the REC registers (10_integrity_and_recovery.md). `copyA` and `copyB` are the two commit copies
as entries of key and pair word, `record` the commit record's bytes, `logBuf` the log buffer by epoch (R286). `stop` and
`notes` are what the running step has raised and not yet resolved. `after` says what follows the rollback in progress: 1 a
replay, 2 a skip. `chargeEpochs` lists per quarter the epochs with a fault charged to it, `attemptCharges` its charges in
the attempts of this epoch (Table 10.8). `wantLost` are quarters that become lost at the next skip, `lossNote` why.
`awaiting` are blocks asked of the partner (R389). `bootEvents` are losses of this bring-up whose event records wait for the
first epoch's number (R418), each with its action. `dead` is the condition of R303. -/
structure RecSt where
  copyA : List (Nat × Dword)
  copyB : List (Nat × Dword)
  record : List Byte
  logBuf : List (Nat × List Byte)
  stop : Option Stop
  notes : List FaultNote
  after : Nat
  chargedNow : List Nat
  chargeEpochs : List (Nat × List Nat)
  attemptCharges : List (Nat × Nat)
  wantLost : List Nat
  lossNote : Option FaultNote
  awaiting : List Nat
  bootEvents : List (Nat × FaultNote)
  reconfig : Bool
  dead : Bool
  deriving DecidableEq, Repr

/-- A sequencer's registers all zero (R166), p0 apart. -/
def SeqRegs.zero : SeqRegs := ⟨copies 64 0#64, copies 16 0#64, copies 8 false, copies 4 0#32⟩

/-- A quarter with nothing in it. -/
def Quarter.zero : Quarter :=
  { regs := .zero, snap := .zero, sc := copies 16 0#32, pc := 0, slot := 0, branch := none, loops := [], pend := [],
    waiting := none, fence := none, done := none, lastLw := none, lwCount := 0, nextSeq := 0, outst := [],
    signals := [], spans := [], vq := [], vcur := none, feeds := copies 5 [], faulted := false, shadow := none,
    faultRun := 0, credit := 0, tileFlags := 0, cntLimit := 0, cntNonfin := 0, cntClose := 0, vops := 0, vsat := 0,
    vnonfin := 0, vflags := 0, doneAt := none, imem := [], entry := 0, count := 0, testRot := 0, testGap := 0,
    test := none }

/-- Grain arrays in which nothing has been written. -/
def Grains.zero : Grains :=
  { data := [], jobs := [], undo := [], newSrc := [], actUndo := [], partials := [], faultEpochs := [], spanFaults := [],
    eccUncorr := [], dead := [], retire := [], kept := [] }

/-- Memory that lists nothing: every byte reads zero (R269). -/
def MemSt.zero : MemSt :=
  { bytes := [], poison := [], journal := [], acc := [], accGen := 0, dbgJournal := [], linkReplays := [] }

/-- Recovery with nothing committed. -/
def RecSt.zero : RecSt :=
  { copyA := [], copyB := [], record := [], logBuf := [], stop := none, notes := [], after := 0, chargedNow := [],
    chargeEpochs := [], attemptCharges := [], wantLost := [], lossNote := none, awaiting := [], bootEvents := [],
    reconfig := false, dead := false }

end Sys2Proof.Machine
end

