-- ==== Sys2Proof/Machine/StHost.lean ====
section
/-! DEFINITION. State of host access, the security engine, the debug windows and the front panel behind their registers
(18_tag_and_panel.md, 19_host_access_security.md, 20_address_map.md). -/

namespace Sys2Proof.Machine

/-- An open session (R562 to R564): number, credential slot, role, key K, when a request last verified, and the highest CTR
accepted. -/
structure SessSt where
  id : Nat
  cred : Nat
  role : Nat
  key : List Byte
  last : Nat
  ctr : Option Nat
  deriving DecidableEq, Repr

/-- What one access path keeps: its read snapshot (address of a high word and its value, R569), its write hold (address of a
low word and its value, R571), and its DBG_PAGE and DBG_PHYS by die (R585). -/
structure PathSt where
  path : Path
  snap : Option (Nat × Word)
  hold : Option (Nat × Word)
  page : List Word
  phys : List Dword
  deriving DecidableEq, Repr

/-- A security command whose store write is in progress (R576, R578): CMD, SLOT, ROLE and the staged key or secret. -/
structure SecOp where
  cmd : Nat
  slot : Nat
  role : Nat
  bytes : List Byte
  deriving DecidableEq, Repr

/-- Host access and security. `sess` are the eight entries of the session table. `fails` are the times of AUTH_FAIL answers by
source, `locks` the ends of lockouts (R567). `shadows` are epoch-class writes that wait for their commit, as address, bits
written and value, in order of their latest write (R573). `begun` is set from the first commit of a bring-up (R333). `keys`
and `creds` are the stored public keys and secrets, `groupRes` the reservations of R566, `credStage` what stands in
CRED_STAGE, `window` the end of the enrolment window (R579). -/
structure HostSt where
  sess : List (Option SessSt)
  paths : List PathSt
  fails : List (Nat × Nat)
  locks : List (Nat × Nat)
  shadows : List (Nat × Nat × Nat)
  begun : Bool
  keys : List (Option (List Byte))
  creds : List (Option (List Byte))
  groupRes : List Nat
  credStage : List Word
  window : Option Nat
  secOp : Option SecOp
  deriving DecidableEq, Repr

/-- The front panel: select mode with the channel shown, the last channel chosen, the message on the message screen with the
time it appeared, and the time of the last press. -/
structure PanelSt where
  sel : Option Nat
  last : Nat
  msg : Option (Nat × Nat)
  pressT : Nat
  deriving DecidableEq, Repr

/-- The open image key that stands in slot 0 when a node ships. The spec prints no bytes of it; these are the model's (DESIGN
CHOICE, log entry 3). -/
def openImageKey : List Byte := 0x58#8 :: List.replicate 31 0x66#8

/-- Host access with no session, no credential, and the open image key in slot 0. -/
def HostSt.zero : HostSt :=
  { sess := copies 8 none, paths := [], fails := [], locks := [], shadows := [], begun := false,
    keys := some openImageKey :: copies 7 none, creds := copies 16 none, groupRes := copies 16 0, credStage := copies 8 0#32,
    window := none, secOp := none }

/-- A panel that shows the overview. -/
def PanelSt.zero : PanelSt := ⟨none, 0, none, 0⟩

end Sys2Proof.Machine
end

