-- ==== Sys2Proof/Machine/StIo.lean ====
section
/-! DEFINITION. State behind the AIO and DIO registers: the carrier on the isolated side, and the hub's side of the lanes
(14_process_loops.md, 15_digital_io.md). -/

namespace Sys2Proof.Machine

/-- A finite binary64 value (−1)^neg × m × 2^e (R430, R445). -/
structure F64 where
  neg : Bool
  m : Nat
  e : Int
  deriving DecidableEq, Repr

/-- The I/O carrier. `timed` is set while it has chain time, `lastL3` and `lastOk` the chain times of the last accepted
lane-3 frame and of the last accepted frame of each lane, `hold` its time holdover, `safeOn` the lanes whose safe states are
in force, `echo` the SEQ last accepted on each lane, `pwRej` the lanes with a pair-word reject since their last upstream
frame, `iso` an isolated-side fault. `cfg` are the configuration words in force, `cfgNext` those received, with the
instant of receipt, until a boundary makes them apply. `aoWord` is the value of each output's last accepted carrier word, `aoSt` its state (Table 14.7).
`doSt` are the states of Table 15.5, `revG` the groups with a reversed supply. Each input's
filter holds its level, the value its current run of samples reads, and the length of the run. `ready` are items waiting for
an upstream frame, oldest first. -/
structure CarSt where
  up : Bool
  timed : Bool
  lastL3 : Nat
  hold : Bool
  lastOk : List Nat
  safeOn : List Bool
  echo : List Nat
  pwRej : List Bool
  iso : Bool
  cfg : List Nat
  cfgNext : List (Nat × Nat × Nat)
  aoWord : List Nat
  aoSt : List Nat
  doCmd : Nat
  doSt : List Nat
  revG : List Nat
  ext : List Nat
  miswire : Nat
  relays : Nat
  filt : List (Bool × Bool × Nat)
  ready : List (Nat × List Byte)
  deriving DecidableEq, Repr

/-- A record of an analogue input as logged: channel, range bit, PERIOD_US and trimmed samples, none when absent. -/
structure AiRec where
  ch : Nat
  range : Nat
  period : Nat
  samples : List (Option Int)
  deriving DecidableEq, Repr

/-- The hub's side. `aiBuf` are delivered samples not yet logged (channel, instant, nA before trim), `aiLast` the last
instant each channel's records have covered, `aiGrid` the grid (PERIOD_US, range) its records are on, `aiChange` the boundary
at which a new grid takes effect, `aiHist` the last valid trimmed samples, newest first, `aiRecs` the records of the epoch in
progress. `diBuf` are delivered instants with their 48 levels, `diLast` the last one covered, `diLevel` the levels there,
`diCount` the running edge counts. `lateUp` and `lateDn` are chain times of the last accepted frames, `rot` the next slot of the
rotation, `first` the slots to send first, `sent` the configuration words last sent. `frozen` is the output vector held in
RELEASING. `capZ` and `capS` are the captures of the trim session, `trimT` the time of its last action, `drive` the current
code an output session drives. -/
structure IoSt where
  aiBuf : List (Nat × Nat × Int)
  aiLast : List (Nat × Nat)
  aiGrid : List (Nat × Nat × Nat)
  aiChange : List (Nat × Nat)
  aiHist : List (Nat × List Int)
  aiRecs : List AiRec
  diBuf : List (Nat × Nat)
  diLast : Option Nat
  diLevel : Option Nat
  diCount : List Nat
  diRec : Option Nat
  lateUp : List Nat
  lateDn : List Nat
  rot : Nat
  first : List Nat
  sent : List Nat
  relay : Dword
  frozen : Option (List Dword)
  capZ : Option F64
  capS : Option F64
  trimT : Nat
  drive : Option Nat
  refIdx : Nat
  deriving DecidableEq, Repr

/-- A frame or message that has left a port: port code, kind, destination, body. Port 0–3 is a carrier lane, 4 East, 5 West,
6 X5, 7 the cable link, 8 the tag field, 9 the radio, 10 a loop's data link. -/
structure OutFrame where
  port : Nat
  kind : Nat
  dst : Nat
  body : List Byte
  deriving DecidableEq, Repr

/-- The carrier right after power-up of its isolated supply (R474). -/
def CarSt.zero : CarSt :=
  { up := true, timed := false, lastL3 := 0, hold := false, lastOk := copies 4 0, safeOn := copies 4 false,
    echo := copies 4 0, pwRej := copies 4 false, iso := false, cfg := 50 :: copies 127 0, cfgNext := [],
    aoWord := copies 16 (3 * 2 ^ 16), aoSt := copies 16 0, doCmd := 0, doSt := copies 32 0, revG := [], ext := [],
    miswire := 0, relays := 0, filt := copies 48 (false, false, 0), ready := [] }

/-- The hub's side with nothing delivered. -/
def IoSt.zero : IoSt :=
  { aiBuf := [], aiLast := [], aiGrid := [], aiChange := [], aiHist := [], aiRecs := [], diBuf := [], diLast := none,
    diLevel := none, diCount := copies 48 0, diRec := none, lateUp := copies 4 0, lateDn := copies 4 0, rot := 0, first := [],
    sent := [], relay := BitVec.ofNat 64 (pairWord 0), frozen := none, capZ := none, capS := none, trimT := 0, drive := none,
    refIdx := 0 }

end Sys2Proof.Machine
end

