-- ==== Sys2Proof/Machine/StModem.lean ====
section
/-! DEFINITION. State of the two modems on the carrier and of the hub's side of them (16_modems.md). -/

namespace Sys2Proof.Machine

/-- The receiver in the slot it has open (Table 16.4): `stage` 0 SEARCH, 1 TRIGGERED, 2 CORRELATED, 3 SYNCED or DECODING,
4 DONE; `best` is the furthest RESULT so far. -/
structure RxSt where
  sf : Nat
  slot : Nat
  stage : Nat
  best : Nat
  rssi : Int
  snr : Int
  resid : Int
  off : Int
  atLim : Bool
  synced : Bool
  iter : Nat
  ncw : Nat
  rate : Nat
  corr : Nat
  data : List Byte
  deriving DecidableEq, Repr

/-- A slot or dwell item as the hub keeps it: head fields, bytes expected and fragments received. -/
structure EntSt where
  instant : Nat
  key : Nat
  head : List Byte
  len : Nat
  data : List Byte
  deriving DecidableEq, Repr

/-- A radio command queued for a beacon: sequence, tag, bytes, state of RADIO_CMD_STATUS, superframe of its beacon. -/
structure TagCmd where
  seq : Nat
  tag : Nat
  bytes : List Byte
  st : Nat
  sf : Nat
  deriving DecidableEq, Repr

/-- What the hub remembers of a tag: OFFSET and AT_LIMIT of its last OK entry, slots since it, whether corrected since, and
the last correction. -/
structure TagMem where
  tag : Nat
  off : Int
  atLim : Bool
  missed : Nat
  done : Bool
  fix : Option Int
  deriving DecidableEq, Repr

/-- The radio: AFC values and superframes without SYNCED by slot, transmissions (time, channel, µs), mask inhibit; and on the
hub's side the entries delivered, the last slot end covered, the record's OK and other entries of the epoch, joins and tags
with an OK entry since the last window, the queue, and the window (header word, body). `quant` holds the latest valid value
of each tag quantity with its epoch. -/
structure RadioSt where
  afc : List (Nat × Int)
  afcMiss : List (Nat × Nat)
  rx : Option RxSt
  tx : List (Nat × Nat × Nat)
  maskHold : Bool
  ents : List EntSt
  last : Option Nat
  recs : List (List Byte)
  joins : List (Nat × Nat)
  oks : List Nat
  tags : List TagMem
  cmds : List TagCmd
  cmdSeq : Nat
  winHdr : Nat
  winBody : List Byte
  quant : List (Nat × Nat × Bool × Nat)
  deriving DecidableEq, Repr

/-- One loop of the loop-data link on the carrier (Table 16.14): state, map ids in use, the uplink table in force and the
tables issued, the device's tables, the averaged SNR of each subcarrier as a numerator over a power of 8, and its counters.
`give` says that a new table is due, `since` counts dwells since the last one. -/
structure LdLoop where
  st : Nat
  ulMap : Nat
  dlMap : Nat
  table : List Nat
  issued : List (Nat × List Nat)
  theirs : List (Nat × List Nat)
  rate : Nat
  snr : List (Int × Nat)
  noHdr : Nat
  noDec : Nat
  unack : Nat
  seq : Nat
  devSeq : Nat
  give : Bool
  robust : Bool
  since : Nat
  nextId : Nat
  off : Int
  deriving DecidableEq, Repr

/-- A dwell in progress on an engine: its number, loop, whether a downlink frame was sent, and what the uplink brought. -/
structure DwellSt where
  m : Nat
  loop : Nat
  sent : Bool
  isMsg : Bool
  result : Nat
  map : Nat
  kind : Nat
  dev : Nat
  seq : Nat
  iter : Nat
  ncw : Nat
  corr : Nat
  body : List Byte
  hdrOk : Bool
  deriving DecidableEq, Repr

/-- The loop-data link: loops and dwells in progress by engine, the message in the carrier's window (MSG_SEQ, dwells spent,
done); and on the hub's side entries delivered, the last dwell end covered, record entries of the epoch, the queue (MSG_SEQ,
loop, bytes), the window and whether its message has been reported. -/
structure LdSt where
  loops : List LdLoop
  dwells : List (Option DwellSt)
  msg : Option (Nat × Nat × Bool)
  ents : List EntSt
  last : Option Nat
  recs : List (List Byte)
  queue : List (Nat × Nat × List Byte)
  seq : Nat
  winHdr : Nat
  winBody : List Byte
  winBusy : Bool
  deriving DecidableEq, Repr

/-- A loop that is IDLE and holds nothing. -/
def LdLoop.zero : LdLoop :=
  { st := 0, ulMap := 0, dlMap := 0, table := copies 28 0, issued := [], theirs := [], rate := 0, snr := [], noHdr := 0,
    noDec := 0, unack := 0, seq := 0, devSeq := 0, give := false, robust := false, since := 0, nextId := 1, off := 0 }

/-- The radio with nothing received and nothing queued. -/
def RadioSt.zero : RadioSt :=
  { afc := [], afcMiss := [], rx := none, tx := [], maskHold := false, ents := [], last := none, recs := [], joins := [],
    oks := [], tags := [], cmds := [], cmdSeq := 0, winHdr := 0, winBody := [], quant := [] }

/-- The loop-data link with every loop IDLE. -/
def LdSt.zero : LdSt :=
  { loops := copies 48 LdLoop.zero, dwells := copies 4 none, msg := none, ents := [], last := none, recs := [], queue := [],
    seq := 0, winHdr := 0, winBody := [], winBusy := false }

end Sys2Proof.Machine
end

