-- ==== Sys2Proof/Machine/StNode.lean ====
section
/-! DEFINITION. State of the node's own units behind their registers: the commissioning tag and front panel. -/

namespace Sys2Proof.Machine

/-- The commissioning tag (18_tag_and_panel.md): its 8 KiB memory and the fault log entries waiting, as KIND and BODY. `quiet`
and `selected` are its states at the field port, `session` that an RF session is open and `lastField` the time of its last field
command, `mbxDue` that the mailbox has not been read since the last session, `applied` the SEQ and CHECK of the staging record
last applied, `modbus` the MODBUS_CFG a settings record has stored, `answered` the REQ_ID last answered, `booted` the IMAGE_ID and IMAGE_SEQ booted at the last bring-up. STAGE_PENDING
stands in TAG_STATUS. -/
structure TagSt where
  mem : List (Nat × Byte)
  logQ : List (Nat × List Byte)
  quiet : Bool
  selected : Bool
  session : Bool
  lastField : Nat
  mbxDue : Bool
  applied : Option (Nat × Nat)
  modbus : Option Word
  answered : Option Nat
  booted : Nat × Nat
  deriving DecidableEq, Repr

/-- Power, bring-up and restarts (13_power_bringup_harbour.md). `up` is set from power good, `ended` lists bring-up steps
that have ended, `marchBad` the grains (384d + 96q + g) whose bring-up march failed, `svc` an accepted SVC_ENTER (1) or
SVC_EXIT (2), `dieAsked` accepted die resets, `dieHeld` dies in reset, `selfRef` dies training after self-refresh, `fresh` dies reset since the last
RECONFIGURE, `refill` dies whose grains are marched and refilled once memory and links are up (R131, R403), `powering`
dies whose power is being removed on harbour entry, `exitWait` a harbour exit waiting for them, `restart` an accepted
RESTART, `thermalOff` OFF after a thermal shutdown, `warn` the sensors whose warning is set, `acqStart` the instant from
which the acquisition timeout counts, `stopTx` that carrier frames have stopped, `failed` the stored images (0 and 2 full, 1 and
3 overlays of slots A and B) that could not be read in this bring-up (R419), `hot` the tripped dies whose junction has not fallen
below 85 °C since (R415). -/
structure PwrSt where
  up : Bool
  ended : List Nat
  marchBad : List Nat
  svc : Option Nat
  dieAsked : List Nat
  dieHeld : List Nat
  selfRef : List Nat
  fresh : List Nat
  refill : List Nat
  powering : List Nat
  exitWait : Bool
  restart : Bool
  restartDue : Bool
  thermalOff : Bool
  warn : List Nat
  duty : Nat
  acqStart : Option Nat
  stopTx : Bool
  failed : List Nat
  hot : List Nat
  deriving DecidableEq, Repr

/-- The time unit and the epoch in progress (02_time_and_epochs.md). `phase` is 0 before the first epoch and after a commit,
1 from the close of the input log, 2 in RUN, 3 from a rollback to its replay. `offset` is the last measured offset,
`inBand` the sync intervals within ±100 ns, `stepAsked` and `freeStep` steps that wait for a commit and then a boundary
(`stepArmed`), `missed` a boundary that closed no log, `begun` that the first epoch of this bring-up has begun, `loaded`
that LOADING has cleared since the last boundary, `quiet` and `ceilRun` count per die, `short` are dies short of margin,
`railed` the dies whose rail has a setting. -/
structure TimeSt where
  phase : Nat
  offset : Int
  inBand : Nat
  lastSync : Nat
  heldAt : Nat
  stepAsked : Bool
  freeStep : Bool
  stepArmed : Bool
  begun : Bool
  loaded : Bool
  launchT : Nat
  deadline : Nat
  extended : Bool
  prevExtended : Bool
  displaced : Bool
  prevDisplaced : Bool
  outcome : Nat
  overran : Bool
  missed : Bool
  stepped : Bool
  absent : Nat
  captureT : Nat
  seen : Bool
  quiet : List Nat
  ceilRun : List Nat
  short : List Nat
  railed : List Nat
  deriving DecidableEq, Repr

/-- A blank tag. -/
def TagSt.zero : TagSt :=
  { mem := [], logQ := [], quiet := false, selected := false, session := false, lastField := 0, mbxDue := false,
    applied := none, modbus := none, answered := none, booted := (0, 0) }

/-- Power before power good. -/
def PwrSt.zero : PwrSt :=
  { up := false, ended := [], marchBad := [], svc := none, dieAsked := [], dieHeld := [], selfRef := [], fresh := [],
    refill := [], powering := [], exitWait := false, restart := false, restartDue := false, thermalOff := false, warn := [],
    duty := 0, acqStart := none, stopTx := false, failed := [], hot := [] }

/-- The time unit before any epoch. -/
def TimeSt.zero : TimeSt :=
  { phase := 0, offset := 0, inBand := 0, lastSync := 0, heldAt := 0, stepAsked := false, freeStep := false,
    stepArmed := false, begun := false, loaded := false, launchT := 0, deadline := 0, extended := false,
    prevExtended := false, displaced := false, prevDisplaced := false, outcome := 0, overran := false, missed := false,
    stepped := false, absent := 0, captureT := 0, seen := false, quiet := copies 4 0, ceilRun := copies 4 0, short := [],
    railed := [] }

end Sys2Proof.Machine
end

