-- ==== Sys2Proof/Machine/StPair.lean ====
section
/-! DEFINITION. State of the redundant pair behind the PAIR registers (12_redundant_pair.md). -/

namespace Sys2Proof.Machine

/-- What an arbiter holds for one pair beside ARB_k: whether the token is FREE through a RELEASE, the last releaser, the end of
the reservation, the first REQUEST since the token was last granted, whether the PREF unit has requested, whether the
quarantine of R360 holds, the latest health word and self-test result of each unit, and when the first result came. -/
structure ArbSt where
  released : Bool
  releaser : Option Nat
  reserve : Nat
  firstReq : Option Nat
  prefAsked : Bool
  holdoffOver : Bool
  quar : Bool
  health : List Nat
  results : List (Option Bool)
  resT : Option Nat
  deriving DecidableEq, Repr

/-- The pair. `portsT` is when the ports became ready, `gotRenew` that a RENEW has come since, `highGen` the highest GEN
known, `reason` the REASON of an open REQUEST (0 none), `granted` a handover grant that waits for its record, `handover`
the handover epoch, `handT` when HANDOVER was sent, `armed` and `armT` that and when outputs were armed, `switchAsk` the
cause of a controlled switch-over waiting for its commit, `arbT` when the arbiter last answered, `lagEpoch` the active's last
committed epoch, `records` mirror records not yet applied, `snapDone` that the snapshot is complete and `snapFrom` its
epoch, `replay` the epoch in replay with its attempts, `replayed` the last epoch replayed and whether its results stand,
`wantVariant` a variant to select (R374), `march`, `loopF`, `adc` failures since the last restart, `tested` banks tested since
SYNCING was left, `suspect` the own self-test result, `quiet` epochs without a point or level change, `mirrorOut` the record
to send from the next boundary, `txSeq` the next cable SEQ, `sentFrames` the last frames sent with their send counts,
`lastSend` when one was last sent, `arbs` the arbiter's entries, `macs` MAC addresses learned by serial, `cause` the cause of
the switch-over in progress, `fresh` that the next commit is the first as holder, `peer` the partner's last ACTIVE_ID,
OVERLAY_ID and CONFIG. -/
structure PairSt where
  portsT : Nat
  gotRenew : Bool
  highGen : Nat
  reason : Nat
  granted : Bool
  handover : Option Nat
  handT : Nat
  armed : Bool
  armT : Nat
  switchAsk : Option Nat
  arbT : Nat
  lagEpoch : Nat
  records : List (Nat × List (Nat × List Byte))
  snapDone : Bool
  snapFrom : Nat
  replay : Option (Nat × Nat)
  replayed : Option (Nat × Bool)
  wantVariant : Option Nat
  march : Bool
  loopF : Bool
  adc : Bool
  tested : List Nat
  suspect : Option Bool
  quiet : Nat
  mirrorOut : List (Nat × List Byte)
  mirrorEpoch : Nat
  txSeq : Nat
  sentFrames : List (Nat × Nat × List Byte)
  lastSend : Nat
  arbs : List ArbSt
  macs : List (Nat × Nat)
  cause : Nat
  fresh : Bool
  peer : Option (Nat × Nat × Nat)
  deriving DecidableEq, Repr

/-- An arbiter entry at reset: quarantined until a RENEW comes or the quarantine ends. -/
def ArbSt.zero : ArbSt := ⟨false, none, 0, none, false, false, true, [0, 0], [none, none], none⟩
/-- The pair record at reset. -/
def PairSt.zero : PairSt :=
  { portsT := 0, gotRenew := false, highGen := 0, reason := 0, granted := false, handover := none, handT := 0, armed := false,
    armT := 0, switchAsk := none, arbT := 0, lagEpoch := 0, records := [], snapDone := false, snapFrom := 0, replay := none,
    replayed := none, wantVariant := none, march := false, loopF := false, adc := false, tested := [], suspect := none,
    quiet := 0, mirrorOut := [], mirrorEpoch := 0, txSeq := 0, sentFrames := [], lastSend := 0, arbs := copies 8 ArbSt.zero,
    macs := [], cause := 0, fresh := false, peer := none }

end Sys2Proof.Machine
end

