-- ==== Sys2Proof/Machine/State.lean ====
section
/-! DEFINITION. The machine's state as plain data, the reasons a step can stop, and the state after reset. -/

namespace Sys2Proof.Machine

/-- No command of this block stops with a fault: every fault the spec describes is an effect on the state. -/
inductive Fault where
  deriving DecidableEq, Repr

/-- Refusals. -/
inductive Refusal where
  /-- Raised by an arm of exec whose command has no meaning yet; safe. -/
  | notModelled (mnemonic : String)
  deriving DecidableEq, Repr

/-- The whole machine. -/
structure State where
  pending : List Instr
  now : Nat
  freeCtr : Nat
  regs : List (Nat × Word)
  mem : MemSt
  grains : Grains
  rcv : RecSt
  quarters : List Quarter
  img : ImgSt
  time : TimeSt
  tag : TagSt
  pwr : PwrSt
  car : CarSt
  io : IoSt
  radio : RadioSt
  ld : LdSt
  alm : AlmSt
  chain : ChainSt
  harb : HarbSt
  pair : PairSt
  host : HostSt
  panel : PanelSt
  out : List OutFrame
  deriving DecidableEq, Repr

/-- The machine right after reset, before power good: every register at its reset, stored or factory value (Regs.lean lists
them), nothing in memory, no command waiting (log entries 3 and 4). -/
def State.reset : State :=
  { pending := [], now := 0, freeCtr := 0, regs := [], mem := MemSt.zero, grains := Grains.zero, rcv := RecSt.zero,
    quarters := copies 16 Quarter.zero, img := ImgSt.zero, time := TimeSt.zero, tag := TagSt.zero, pwr := PwrSt.zero,
    car := { CarSt.zero with up := false }, io := IoSt.zero, radio := RadioSt.zero, ld := LdSt.zero, alm := AlmSt.zero, chain := ChainSt.zero,
    harb := HarbSt.zero, pair := PairSt.zero, host := HostSt.zero, panel := PanelSt.zero, out := [] }

end Sys2Proof.Machine
end

