-- ==== Sys2Proof/Machine/Ops.lean ====
section
/-! DEFINITION. The named operations over the register file, the quarters and the event ring. Every read and write of a
register goes through `State.reg` and `State.setReg`. -/

namespace Sys2Proof.Machine

/-! ### Registers -/

/-- The register at `a`. -/
def State.reg (s : State) (a : Nat) : Word := kvGet resetOf a s.regs
/-- Its value as a number. -/
def State.regN (s : State) (a : Nat) : Nat := (s.reg a).toNat
/-- The state with register `a` holding `v`. -/
def State.setReg (s : State) (a : Nat) (v : Word) : State := { s with regs := kvSet resetOf a v s.regs }
/-- The same for a number, taken modulo 2^32. -/
def State.setRegN (s : State) (a n : Nat) : State := s.setReg a (BitVec.ofNat 32 n)
/-- A field of register `a`. -/
def State.getF (s : State) (a : Nat) (f : Fld) : Nat := f.get (s.reg a)
/-- The state with a field of register `a` set. -/
def State.setF (s : State) (a : Nat) (f : Fld) (v : Nat) : State := s.setReg a (f.set v (s.reg a))
/-- Whether a one-bit field is set. -/
def State.flag (s : State) (a : Nat) (f : Fld) : Bool := s.getF a f != 0
/-- Set a one-bit field. -/
def State.raise (s : State) (a : Nat) (f : Fld) : State := s.setF a f 1
/-- Clear a field. -/
def State.drop (s : State) (a : Nat) (f : Fld) : State := s.setF a f 0
/-- The 64-bit value of two consecutive registers, low word first. -/
def State.reg64 (s : State) (a : Nat) : Nat := s.regN a + 2 ^ 32 * s.regN (a + 4)
/-- Write a 64-bit value to two consecutive registers. -/
def State.setReg64 (s : State) (a n : Nat) : State := (s.setRegN a n).setRegN (a + 4) (n / 2 ^ 32)
/-- A counter that wraps. -/
def State.inc (s : State) (a : Nat) : State := s.setReg a (s.reg a + 1#32)
/-- A counter that stays at its top. -/
def State.incSat (s : State) (a : Nat) : State := s.setReg a (satInc (s.reg a))
/-- Add `n` to a counter that wraps. -/
def State.addReg (s : State) (a n : Nat) : State := s.setRegN a (s.regN a + n)
/-- A field counter that stays at its top. -/
def State.incF (s : State) (a : Nat) (f : Fld) : State :=
  if s.getF a f + 1 < 2 ^ f.width then s.setF a f (s.getF a f + 1) else s
/-- The pair word held in two consecutive registers: value, then complement (R20). -/
def State.setPair (s : State) (a v : Nat) : State := (s.setRegN a v).setRegN (a + 4) (compl32 v)

/-! ### Free values and time -/

/-- A fresh free value, and the state with the counter advanced. -/
def State.fresh (s : State) : Dword × State := (Config.freeWord s.freeCtr, { s with freeCtr := s.freeCtr + 1 })
/-- Chain time is at least `t` from here on. -/
def State.at (s : State) (t : Nat) : State := { s with now := max s.now t }

/-! ### Quarters -/

/-- Quarter 4d + q. -/
def State.qtr (s : State) (q : Nat) : Quarter := nth s.quarters q Quarter.zero
/-- Replace a quarter. -/
def State.setQtr (s : State) (q : Nat) (v : Quarter) : State := { s with quarters := setNth s.quarters q v }
/-- Change a quarter. -/
def State.modQ (s : State) (q : Nat) (f : Quarter → Quarter) : State := s.setQtr q (f (s.qtr q))
/-- STATE of a quarter (Table 6.4): 0 STOPPED, 1 IDLE, 2 RUNNING, 3 DONE, 4 HALTED, 5 DEBUG. -/
def State.qState (s : State) (q : Nat) : Nat := s.getF (R.QSTATUS q) F.QSTATUS_STATE
/-- Set a quarter's STATE. -/
def State.setQState (s : State) (q v : Nat) : State := s.setF (R.QSTATUS q) F.QSTATUS_STATE v
/-- Whether a quarter counts as active (R189): IDLE, RUNNING or DONE. -/
def State.qActive (s : State) (q : Nat) : Bool := Nat.ble 1 (s.qState q) && Nat.ble (s.qState q) 3
/-- The sixteen quarters. -/
def allQ : List Nat := List.range 16
/-- Whether a quarter is lost (LOST_Q). -/
def State.isLost (s : State) (q : Nat) : Bool := bitOf (s.regN R.LOST_Q) q
/-- The quarters of the configuration in force that are not lost. -/
def State.liveQ (s : State) : List Nat := allQ.filter (fun q => s.img.run.activeQ q && !s.isLost q)
/-- Apply a change for every element of a list, in order. -/
def State.each {α : Type} (s : State) (l : List α) (f : State → α → State) : State := l.foldl f s
/-- EPOCH as a 64-bit number. -/
def State.epoch (s : State) : Nat := s.reg64 R.EPOCH_LO
/-- Base of the scratchpad of quarter `q` (Table 9.1). -/
def scratchBase (q : Nat) : Nat := 0x2000000000 + q * 0x200000

/-! ### Grains -/

/-- STATE of a grain (Table 4.6): 0 OFF, 1 SPARE, 2 WORKING, 3 FAILED. -/
def State.gState (s : State) (q g : Nat) : Nat := s.getF (R.GSTATE q g) F.GSTATE_STATE
/-- A grain's active bank. -/
def State.gActive (s : State) (q g : Nat) : Nat := s.getF (R.GSTATE q g) F.GSTATE_ACTIVE_BANK
/-- The field of bank `b` in GSTATE. -/
def bankFld (b : Nat) : Fld := ⟨8 + 3 * b, 3⟩
/-- A bank's state (Table 4.3): 0 EMPTY, 1 LOADING, 2 LOADED, 3 STALE, 4 TESTING. -/
def State.bank (s : State) (q g b : Nat) : Nat := s.getF (R.GSTATE q g) (bankFld b)
/-- Set a bank's state. -/
def State.setBank (s : State) (q g b v : Nat) : State := s.setF (R.GSTATE q g) (bankFld b) v
/-- SPAN of a grain's present configuration word (Table 3.8). -/
def State.gSpanOf (s : State) (q g : Nat) : Nat := bitsOf (s.regN (R.GCFG q g)) 6 0
/-- K_POS of a grain's present configuration word. -/
def State.gKpos (s : State) (q g : Nat) : Nat := bitsOf (s.regN (R.GCFG q g)) 11 7
/-- WFMT: 0 I8, 1 I4, 2 B8. -/
def State.gWfmt (s : State) (q g : Nat) : Nat := bitsOf (s.regN (R.GCFG q g)) 13 12
/-- IFMT: 0 I8, 1 I4, 2 B8. -/
def State.gIfmt (s : State) (q g : Nat) : Nat := bitsOf (s.regN (R.GCFG q g)) 15 14
/-- The 96 grains of a quarter. -/
def allG : List Nat := List.range 96
/-- The working grain at K_POS `k` of span `sp`. -/
def State.grainAt (s : State) (q sp k : Nat) : Option Nat :=
  allG.find? (fun g => s.gSpanOf q g == sp && s.gKpos q g == k && s.gState q g == 2)
/-- The working grains of a span in increasing K_POS (R118). -/
def State.spanGrains (s : State) (q sp n : Nat) : List Nat :=
  (List.range n).filterMap (fun k => s.grainAt q sp k)
/-- Key of a grain among the node's grains. -/
def grainKey (q g : Nat) : Nat := 96 * q + g
/-- Key of a bank. -/
def bankKey (q g b : Nat) : Nat := 4 * (96 * q + g) + b
/-- Field of quarter `q` in GW_STATUS and GW_FAILED. -/
def gwFld (q : Nat) : Fld := ⟨8 * (q % 4), 7⟩
/-- Count the grains of a quarter in a state. -/
def State.countG (s : State) (q st : Nat) : Nat := (allG.filter (fun g => s.gState q g == st)).length
/-- GW_STATUS and GW_FAILED of a quarter brought up to date. -/
def State.recount (s : State) (q : Nat) : State :=
  (s.setF (R.GW_STATUS (q / 4)) (gwFld q) (s.countG q 1)).setF (R.GW_FAILED (q / 4)) (gwFld q) (s.countG q 3)
/-- Set a grain's STATE. -/
def State.setGState (s : State) (q g v : Nat) : State := (s.setF (R.GSTATE q g) F.GSTATE_STATE v).recount q
/-- Spare grains of the node. -/
def State.spareCount (s : State) : Nat := (allQ.map (fun q => s.getF (R.GW_STATUS (q / 4)) (gwFld q))).sum

/-! ### Capacity and event records (R309, Tables 10.10 and 10.13) -/

/-- Working grains in the spans of a quarter now. -/
def State.workingIn (s : State) (q : Nat) : Nat :=
  (allG.filter (fun g => s.gState q g == 2 && Nat.blt (s.gSpanOf q g) 96)).length
/-- Grains in the spans of the primary configuration's active quarters. -/
def RunCfg.primaryGrains (c : RunCfg) : Nat :=
  let p := { c with variant := 0 }
  ((allQ.filter p.activeQ).map
    (fun q => (allG.filter (fun g => grainWorks (p.grainWord q g) && Nat.blt (bitsOf (p.grainWord q g) 6 0) 96)).length)).sum
/-- Whether every quarter has been stopped by a loss (R305 steps 2 and 3). -/
def State.stoppedByLoss (s : State) : Bool :=
  s.flag R.REC_STATUS F.REC_STATUS_DEGRADED || s.flag R.REC_STATUS F.REC_STATUS_SWITCH_REQ
/-- The quarters active: those of the configuration in force that are not lost, none once a loss has stopped them all. -/
def State.activeQs (s : State) : List Nat := if s.stoppedByLoss then [] else s.liveQ
/-- How many. -/
def State.activeCount (s : State) : Nat := s.activeQs.length
/-- CAPACITY in per-mille. -/
def State.permille (s : State) : Nat :=
  let total := s.img.run.primaryGrains
  if total = 0 then 1000
  else 1000 * (s.activeQs.map s.workingIn).sum / total
/-- CAPACITY brought up to date. -/
def State.setCapacity (s : State) : State :=
  s.setRegN R.CAPACITY (s.permille + 2 ^ 16 * s.activeCount + 2 ^ 22 * min s.spareCount 1023)

/-- UNIT of an event record for a quarter, a span or a grain (Table 10.10). -/
def unitNo (q span grain : Nat) : Nat := q / 4 + 16 * (q % 4) + 2 ^ 8 * span + 2 ^ 15 * grain

/-- The 32 bytes of an event record (Table 10.10). -/
def eventBytes (r : EvtRec) : List Byte :=
  leBytes 8 r.epoch ++ leBytes 1 r.unitKind ++ leBytes 1 r.cause ++ leBytes 1 r.action ++ leBytes 1 r.attempts ++
  leBytes 4 r.unitNo ++ leBytes 8 r.detail ++ leBytes 1 r.variant ++ leBytes 1 r.quarters ++ leBytes 2 r.capacity ++
  leBytes 2 r.spares ++ leBytes 2 0

/-- Write a record into the ring of 64 (R309, R311). -/
def State.ringPut (s : State) (bs : List Byte) : State :=
  let n := s.getF R.EVT_HEAD F.EVT_HEAD_SEQ / 2
  let i := n % 64
  let s := s.each (List.range 8) (fun s w => s.setRegN (R.EVT_W i w) (fieldAt bs (4 * w) 4))
  let s := s.setF R.EVT_HEAD F.EVT_HEAD_NEWEST i
  let s := if n < 64 then s else s.raise R.EVT_HEAD F.EVT_HEAD_WRAPPED
  s.setF R.EVT_HEAD F.EVT_HEAD_SEQ (2 * (n + 1))

/-- Queue a fault log entry of a KIND and BODY; a full queue of 64 drops it and counts (R546). -/
def State.tagLog (s : State) (kind : Nat) (body : List Byte) : State :=
  if s.tag.logQ.length < 64 then { s with tag := { s.tag with logQ := s.tag.logQ ++ [(kind, body)] } }
  else s.inc R.FLOG_DROP_CNT

/-- Body of a fault log entry of KIND 2 to 5 (Table 18.3). -/
def State.eventBody (s : State) (cause : Nat) : List Byte :=
  leBytes 8 (s.reg64 R.COMMIT_EPOCH_LO) ++ leBytes 8 s.now ++ leBytes 2 (s.regN R.FEED_A_MV) ++
  leBytes 2 (s.regN R.FEED_B_MV) ++ leBytes 1 cause ++ leBytes 11 0

/-- ATTEMPTS of an event record: the attempts made at the epoch, with the replay that a rollback's REPLAYED, SPARE_REMAP or
BLOCK_REBUILT leads to (Table 10.11; DEDUCED, log entry 19). -/
def State.attempts (s : State) (action : Nat) : Nat :=
  let k := s.getF R.REC_STATUS F.REC_STATUS_ATTEMPT + 1
  let replay := [0, 1, 8].contains action && s.flag R.REC_STATUS F.REC_STATUS_ROLLING_BACK && s.rcv.wantLost.isEmpty
  if replay then min (k + 1) 4 else k

/-- Write an event record into the ring and the tag fault log (R309). -/
def State.event (s : State) (kind cause action unit detail : Nat) : State :=
  let r : EvtRec := ⟨s.epoch, kind, cause, action, s.attempts action, unit, detail,
    s.img.run.variant, s.activeCount, s.permille, s.spareCount⟩
  (s.ringPut (eventBytes r)).tagLog 1 (eventBytes r)

end Sys2Proof.Machine
end

