-- ==== Sys2Proof/Machine/Memory.lean ====
section
/-! DEFINITION. The flat address space (09_memory_and_die_fabric.md): homes, checks, reads, journalled writes, and how a
step notes a detected fault or a program fault. Memory is keyed by home address: direct-range address, or scratchpad
address. -/

namespace Sys2Proof.Machine

/-- The canonical form of a byte memory: addresses strictly rising, and no entry equal to what an unlisted address reads as. -/
def Memory.wf (m : List (Nat × Byte)) : Bool := kvWf byteDflt m

/-! ### Noting faults -/

/-- Note a detected fault of the running epoch; the step ends in a rollback (R293). -/
def State.detect (s : State) (unitKind cause unit detail : Nat) : State :=
  { s with rcv := { s.rcv with notes := s.rcv.notes ++ [⟨unitKind, cause, unit, detail⟩] } }

/-- Mark the quarters of a die as becoming lost (Table 10.8, R305). -/
def State.loseQ (s : State) (qs : List Nat) : State :=
  { s with rcv := { s.rcv with wantLost := s.rcv.wantLost ++ qs.filter (fun q => !s.isLost q && !s.rcv.wantLost.contains q) } }

/-- The four quarters of a die. -/
def dieQ (d : Nat) : List Nat := [4 * d, 4 * d + 1, 4 * d + 2, 4 * d + 3]

/-- Record a quarter fault in QFAULT and QFAULT_EPOCH (Table 6.7). -/
def State.putFault (s : State) (q code lw slot kind : Nat) : State :=
  (s.setRegN (R.QFAULT q) (code + 2 ^ 8 * lw + 2 ^ 19 * slot + 2 ^ 22 * kind)).setReg64 (R.QFAULT_EPOCH_LO q) s.epoch

/-- The error bit that a program fault also sets: ACC_ERR for Table 5.6, VE_ERR for Table 8.5. -/
def State.faultBit (s : State) (q code : Nat) : State :=
  if 0x10 ≤ code ∧ code ≤ 0x18 then
    let bit := [0, 1, 3, 2, 4, 5, 6, 7, 8].getD (code - 0x10) 0
    s.setF (R.ACC_ERR q) ⟨bit, 1⟩ 1
  else if 0x20 ≤ code ∧ code ≤ 0x28 then s.raise (R.VE_ERR q) F.VE_ERR_VE_FAULT
  else s

/-- Raise a program fault (R191, R192): recorded unless the epoch is already being stopped; a quarter that is not
RUNNING or DONE, such as one in DEBUG, only records it. -/
def State.progFault (s : State) (q code lw slot : Nat) : State :=
  if s.rcv.stop.isSome || !s.rcv.notes.isEmpty || (s.qtr q).faulted then s
  else
    let s := ((s.putFault q code lw slot 0).raise (R.QERR q) F.QERR_PROGRAM_FAULT).faultBit q code
    let s := s.modQ q (fun x => { x with faulted := true, credit := 0 })
    if s.qState q = 2 ∨ s.qState q = 3 then { s with rcv := { s.rcv with stop := some (.program q) } } else s

/-- Raise a hardware fault of a quarter (R193): detected in a quarter that is RUNNING or DONE, latent otherwise. -/
def State.hwFault (s : State) (q code lw slot unitKind cause unit : Nat) : State :=
  let s := (s.putFault q code lw slot 1).raise (R.QERR q) F.QERR_HARDWARE_FAULT
  if s.qState q = 2 ∨ s.qState q = 3 then s.detect unitKind cause unit code
  else
    let s := (s.inc R.LATENT_CNT).event unitKind cause 10 unit code
    { s with rcv := { s.rcv with chargedNow := s.rcv.chargedNow ++ [q] } }

/-! ### Homes (R249 to R251) -/

/-- Whether a byte of die `d`'s direct range at offset `off` backs an interleave window (R250, R251). -/
def RunCfg.hidden (c : RunCfg) (d off : Nat) : Bool :=
  let n := (setMembers (c.ilSet d)).length
  c.runs d && n != 0 &&
    (let lo := (c.ilBase d - 0x4000000000) / n
     Nat.ble lo off && Nat.blt off (lo + (c.ilLimit d - c.ilBase d + 1) / n))

/-- The die whose window holds an aperture address. -/
def RunCfg.windowDie (c : RunCfg) (a : Nat) : Option Nat :=
  (List.range 4).find? (fun d => c.runs d && c.ilSet d != 0 && Nat.ble (c.ilBase d) a && Nat.ble a (c.ilLimit d))

/-- Home of an address: die, home address, and whether it is a scratchpad. -/
def RunCfg.home (c : RunCfg) (a : Nat) : Option (Nat × Nat × Bool) :=
  if a < 0x1000000000 then
    let d := a / 0x400000000
    if c.hidden d (a % 0x400000000) then none else some (d, a, false)
  else if 0x2000000000 ≤ a ∧ a < 0x2002000000 then some ((a - 0x2000000000) / 0x800000, a, true)
  else if 0x4000000000 ≤ a ∧ a < 0x5000000000 then
    match c.windowDie a with
    | none => none
    | some d =>
      let ms := setMembers (c.ilSet d)
      let n := ms.length
      let x := a - c.ilBase d
      let g := x / 2 ^ c.ilLog2 d
      let die := nth ms (g % n) 0
      let off := (c.ilBase d - 0x4000000000) / n + g / n * 2 ^ c.ilLog2 d + x % 2 ^ c.ilLog2 d
      some (die, die * 0x400000000 + off, false)
  else none

/-- Offset of the hub area in a direct range (R250). -/
def hubArea : Nat := 0x3F0000000

/-- A quarter's rights in a hub area (Table 10.4). -/
def RunCfg.hubRight (c : RunCfg) (d off : Nat) (write : Bool) : Bool :=
  let o := off - hubArea
  (Nat.blt o 0x4000000 && !write && c.logDie == some d) || (Nat.ble 0x4000000 o && Nat.blt o 0x4010000)

/-- The 64-byte pieces of [a, a + n). -/
def pieces (a n : Nat) : List (Nat × Nat) :=
  if n = 0 then []
  else (List.range ((a + n - 1) / 64 - a / 64 + 1)).map (fun i =>
    let b := 64 * (a / 64 + i)
    let lo := max a b
    (lo, min (a + n) (b + 64) - lo))

/-- The home address of a byte that is mapped; the address itself otherwise. -/
def RunCfg.homeAddr (c : RunCfg) (a : Nat) : Nat :=
  match c.home a with
  | some (_, k, _) => k
  | none => a

/-! ### Access checks -/

/-- How an access can end before it moves a byte. -/
inductive Acc where
  | ok
  | wait
  | fault (code : Nat)
  | unavailable (die : Nat)
  | poison (addr : Nat)
  deriving DecidableEq, Repr

/-- Whether a byte is mapped for a quarter (R249, R250, R284). -/
def RunCfg.mapped (c : RunCfg) (q a : Nat) (write : Bool) : Bool :=
  match c.home a with
  | none => false
  | some (d, k, scr) =>
    c.runs d && c.linked (q / 4) d &&
    (scr || Nat.blt (k % 0x400000000) hubArea || c.hubRight d (k % 0x400000000) write)

/-- Whether die `d` lists home address `k` in a weight region (R262, R263). -/
def State.inWreg (s : State) (d k : Nat) : Bool :=
  (List.range (s.getF (R.WREG_COUNT d) F.WREG_COUNT_COUNT)).any
    (fun w => Nat.ble (s.reg64 (R.WREG_BASE_LO d w)) k && Nat.ble k (s.reg64 (R.WREG_LIMIT_LO d w)))

/-- The home die that refuses a quarter's access (R262). -/
def State.refuser (s : State) (q a : Nat) : Option Nat :=
  match s.img.run.home a with
  | none => none
  | some (d, k, _) =>
    if d ≠ q / 4 ∧ s.flag (R.MEM_STATUS d) F.MEM_STATUS_WCHECK ∧ s.inWreg d k then some d else none

/-- Field of link `l` in LINK_STATUS. -/
def linkFld (l : Nat) : Fld := ⟨3 * l, 3⟩
/-- State of link `l` of die `d` (Table 9.5); index 3 is the hub link. -/
def State.link (s : State) (d l : Nat) : Nat := s.getF (R.LINK_STATUS d) (linkFld l)
/-- STATE of a die's memory (Table 9.6). -/
def State.memState (s : State) (d : Nat) : Nat := s.getF (R.MEM_STATUS d) F.MEM_STATUS_STATE
/-- Whether traffic from die `a` to die `b` is detoured (R273). -/
def State.detoured (s : State) (a b : Nat) : Bool := s.flag (R.LINK_STATUS a) ⟨12 + linkIndex a b, 1⟩

/-- Whether the bytes homed in die `d` can be reached from die `r` now (R265, R274, R275). -/
def State.reach (s : State) (r d : Nat) : Acc :=
  if s.memState d ≠ 3 then .unavailable d
  else if r = d ∨ s.detoured r d then .ok
  else match s.link r (linkIndex r d) with
    | 2 => .ok
    | 1 => .wait
    | 3 => .wait
    | _ => .unavailable d

/-- Whether a block is poisoned (R276). -/
def State.poisoned (s : State) (k : Nat) : Bool := s.mem.poison.contains (k / 64 * 64)

/-- The first of a list of outcomes that is not ok. -/
def firstBad : List Acc → Acc
  | [] => .ok
  | .ok :: t => firstBad t
  | x :: _ => x

/-- Check a quarter's access to [a, a + n), block by block before any is moved (R176, R262, R275, R276, R279). -/
def State.check (s : State) (q a n : Nat) (write : Bool) : Acc :=
  let ps := pieces a n
  let c := s.img.run
  if !(ps.all (fun p => c.mapped q p.1 write)) then .fault 0x04
  else if ps.any (fun p => (s.refuser q p.1).isSome) then .fault 0x06
  else
    let go (p : Nat × Nat) : Acc :=
      match c.home p.1 with
      | none => .fault 0x04
      | some (d, k, _) =>
        match s.reach (q / 4) d with
        | .ok => if s.poisoned k ∧ ¬(write = true ∧ p.2 = 64) then .poison (k / 64 * 64) else .ok
        | x => x
    firstBad (ps.map go)

/-- Two checks, the first that is not ok. -/
def Acc.andThen (a b : Acc) : Acc := firstBad [a, b]

/-- The consequences of an access that ended badly: the program fault, REFUSED, UNAVAILABLE or UNCORR. -/
def State.accFault (s : State) (q lw slot a n : Nat) (r : Acc) : State :=
  match r with
  | .fault code =>
    let s := if code = 0x06 then
        match (pieces a n).findSome? (fun p => s.refuser q p.1) with
        | some d => (s.inc (R.REFUSE_CNT d)).raise (R.MEM_ERR d) F.MEM_ERR_REFUSED
        | none => s
      else s
    s.progFault q code lw slot
  | .unavailable d =>
    ((s.raise (R.MEM_ERR (q / 4)) F.MEM_ERR_UNAVAILABLE).detect 1 6 d 0).loseQ (dieQ d)
  | .poison k =>
    let d := if k < 0x1000000000 then k / 0x400000000 else (k - 0x2000000000) / 0x800000
    let f := if k < 0x1000000000 then F.MEM_ERR_UNCORR else F.MEM_ERR_SP_UNCORR
    (((s.raise (R.MEM_ERR d) f).setReg64 (R.FAIL_ADDR_LO d) k).incSat (R.MEM_UNCORR_CNT d)).detect 6 7 d k
  | _ => s

/-! ### Reads and writes -/

/-- Bytes [a, a + n) as the requester sees them, mapped bytes only. -/
def State.load (s : State) (a n : Nat) : List Byte :=
  ((pieces a n).map (fun p => memRead s.mem.bytes (s.img.run.homeAddr p.1) p.2)).flatten

/-- The little-endian number in [a, a + n). -/
def State.loadN (s : State) (a n : Nat) : Nat := leNat (s.load a n)

/-- Write bytes at a home address, with no journal (hub writes, zero fill, restores). -/
def State.poke (s : State) (k : Nat) (bs : List Byte) : State :=
  { s with mem := { s.mem with bytes := memWrite s.mem.bytes k bs } }

/-- Make a block poisoned or clean, MEM_STATUS.POISONED following. -/
def State.setPoison (s : State) (k : Nat) (on : Bool) : State :=
  let b := k / 64 * 64
  let d := if b < 0x1000000000 then b / 0x400000000 else (b - 0x2000000000) / 0x800000
  let ps := s.mem.poison.filter (fun x => x != b) ++ (if on then [b] else [])
  let s := { s with mem := { s.mem with poison := ps } }
  s.setF (R.MEM_STATUS d) F.MEM_STATUS_POISONED
    (b2n (ps.any (fun x => (if x < 0x1000000000 then x / 0x400000000 else (x - 0x2000000000) / 0x800000) == d)))

/-- Die that homes a home address. -/
def dieOf (k : Nat) : Nat := if k < 0x1000000000 then k / 0x400000000 else (k - 0x2000000000) / 0x800000

/-- What the journal keeps of a block: its bytes, or none when it is poisoned. -/
def State.blockImage (s : State) (b : Nat) : List Byte := if s.poisoned b then [] else memRead s.mem.bytes b 64

/-- Entries the journal of die `d` holds. -/
def State.journalLen (s : State) (d : Nat) : Nat := (s.mem.journal.filter (fun e => dieOf e.1 == d)).length

/-- Put a journal entry back (R294). -/
def State.restoreBlock (s : State) (e : Nat × List Byte) : State :=
  if e.2.isEmpty then s.setPoison e.1 true
  else
    let s := s.poke e.1 e.2
    if s.poisoned e.1 then s.setPoison e.1 false else s

/-- One piece of a quarter's write: journal the block on its first write of the attempt (R289), then store. A write that
needs one entry more than a die's journal holds is not performed (R291). -/
def State.storePiece (s : State) (q : Nat) (p : Nat × List Byte) : State :=
  if s.rcv.stop.isSome then s
  else
    let k := s.img.run.homeAddr p.1
    let b := k / 64 * 64
    let finish (s : State) : State :=
      let s := s.poke k p.2
      if p.2.length = 64 ∧ s.poisoned b then s.setPoison b false else s
    if s.qState q = 5 then
      if s.mem.dbgJournal.any (fun e => e.1 == q && e.2.1 == b) then finish s
      else finish { s with mem := { s.mem with dbgJournal := (q, b, s.blockImage b) :: s.mem.dbgJournal } }
    else if s.mem.journal.any (fun e => e.1 == b) then finish s
    else if s.journalLen (dieOf b) < 1048576 then
      finish { s with mem := { s.mem with journal := (b, s.blockImage b) :: s.mem.journal } }
    else { s with rcv := { s.rcv with stop := some .journalFull } }

/-- A quarter's write of bytes at `a`, piece by piece in increasing address. -/
def State.store (s : State) (q a : Nat) (bs : List Byte) : State :=
  ((pieces a bs.length).map (fun p => (p.1, (bs.drop (p.1 - a)).take p.2))).foldl (fun s p => s.storePiece q p) s

end Sys2Proof.Machine
end

