-- ==== Sys2Proof/Machine/Sequencer.lean ====
section
/-! DEFINITION. Issue of long words (06_sequencer_model.md, 07_long_word_encoding.md). Each slot of a long word is one
command. The first command of a long word makes the checks of R203, R205 and R169 and takes the snapshot that every slot
reads (R170); the last one that is not NOP ends the long word (R208 to R212). -/

namespace Sys2Proof.Machine

/-! ### Register files (Table 6.1) -/

/-- Read a register: s0 reads zero and p0 true. -/
def SeqRegs.get (r : SeqRegs) (i : RegId) : Nat :=
  match i.file with
  | .s => if i.idx = 0 then 0 else (nth r.s i.idx 0#64).toNat
  | .a => (nth r.a i.idx 0#64).toNat
  | .p => if i.idx = 0 then 1 else b2n (nth r.p i.idx false)
  | .lc => (nth r.lc i.idx 0#32).toNat

/-- Write a register: writes to s0 and p0 are discarded, and a predicate takes bit 0. -/
def SeqRegs.put (r : SeqRegs) (i : RegId) (v : Nat) : SeqRegs :=
  match i.file with
  | .s => if i.idx = 0 then r else { r with s := setNth r.s i.idx (BitVec.ofNat 64 v) }
  | .a => { r with a := setNth r.a i.idx (BitVec.ofNat 64 v) }
  | .p => if i.idx = 0 then r else { r with p := setNth r.p i.idx (v % 2 == 1) }
  | .lc => { r with lc := setNth r.lc i.idx (BitVec.ofNat 32 v) }

/-- The value of a scalar register in the snapshot. -/
def SeqRegs.sN (r : SeqRegs) (i : Nat) : Nat := r.get ⟨.s, i⟩
/-- The value of an address register. -/
def SeqRegs.aN (r : SeqRegs) (i : Nat) : Nat := r.get ⟨.a, i⟩

/-- Write a register of quarter `q`. -/
def State.putReg (s : State) (q : Nat) (i : RegId) (v : Nat) : State :=
  s.modQ q (fun x => { x with regs := x.regs.put i v })

/-- Send a result on its way to a register (R170). -/
def State.pendReg (s : State) (q : Nat) (i : RegId) (v : Nat) (m : Option Nat) : State :=
  s.modQ q (fun x => { x with pend := x.pend ++ [⟨i, v, m⟩] })

/-- A result lands in its register, and a memory operation it completes is no longer outstanding. -/
def landOne (x : Quarter) (p : PendingWrite) : Quarter :=
  { x with regs := x.regs.put p.dest p.val,
           outst := match p.memSeq with
             | some n => x.outst.filter (fun m => m != n)
             | none => x.outst }

/-- Land the results on their way to the registers of a list (R169, R170). -/
def landNeeded (x : Quarter) (need : List RegId) : Quarter :=
  let now := x.pend.filter (fun p => need.contains p.dest)
  now.foldl landOne { x with pend := x.pend.filter (fun p => !need.contains p.dest) }

/-! ### Fetch -/

/-- The eight slots of long word `i`. -/
def Quarter.lw (x : Quarter) (i : Nat) : List Nat :=
  (List.range 8).map (fun j => fieldAt x.imem (128 * i + 16 * j) 16)

/-- Whether the slot is enabled by its predicate (R172). -/
def predOn (r : SeqRegs) (w : Nat) : Bool :=
  let v := r.get ⟨.p, bitsOf (slotPred w) 2 0⟩ == 1
  if bitOf (slotPred w) 3 then !v else v

/-- State of span `sp`, every group CLOSED when nothing has used it in this epoch (R135). -/
def State.span (s : State) (q sp : Nat) : SpanSt :=
  match kvFind sp (s.qtr q).spans with
  | some x => x
  | none =>
    let n := match s.img.run.span q sp with
      | some d => d.groups
      | none => 0
    ⟨[], none, copies n ⟨0, 0, 0, 0, 0, false⟩, [], 0⟩

/-- Replace a span's state. -/
def State.setSpan (s : State) (q sp : Nat) (v : SpanSt) : State :=
  s.modQ q (fun x => { x with spans := kvPut sp v x.spans })

/-- Registers that a queued or running span or vector operation will write its status into (R184, R241). -/
def Quarter.statusDue (x : Quarter) : List RegId :=
  let ofOp (o : SpanOp) : List RegId := match o.status with
    | some i => [⟨.s, i⟩]
    | none => []
  let ofV (o : VecOp) : List RegId := match o.status with
    | some i => [⟨.s, i⟩]
    | none => []
  (x.spans.map (fun p => (p.2.queue.map ofOp).flatten ++ (match p.2.pass with
    | some y => ofOp y.op
    | none => []) ++ (p.2.drains.map (fun d => ofOp d.op)).flatten)).flatten ++
  ((x.vq ++ x.vcur.toList).map ofV).flatten

/-- Whether a unit that an enabled slot addresses cannot take its operation: a span queue of four or the vector queue of
eight is full (R181, R225). -/
def State.unitFull (s : State) (q : Nat) (r : SeqRegs) (ws : List Nat) : Bool :=
  let g (w : Nat) : Bool := slotOp w != 0 && predOn r w && Nat.ble 4 (s.span q (gSpan w)).queue.length
  g (nth ws 4 0) || g (nth ws 5 0) ||
  (let v := nth ws 6 0
   slotOp v != 0 && predOn r v && Nat.ble 8 (s.qtr q).vq.length)

/-! ### Issue -/

/-- Whether the quarter may issue slots: RUNNING, or in DEBUG with long words left to step; not waiting, not fenced, and
DONE not issued before this long word. -/
def State.mayIssue (s : State) (q : Nat) : Bool :=
  let x := s.qtr q
  (s.qState q == 2 || (s.qState q == 5 && Nat.blt 0 x.credit)) && !x.faulted &&
  (Nat.blt 0 x.slot || (x.waiting.isNone && x.fence.isNone && x.done.isNone))

/-- What offering a slot to the sequencer comes to. -/
inductive Issue where
  | blocked
  | fault (s : State)
  | slot (s : State) (w : Nat)
  deriving DecidableEq, Repr

/-- Start a long word: results it needs land, and the snapshot is taken. -/
def State.startLw (s : State) (q : Nat) (ws : List Nat) : State :=
  s.modQ q (fun x =>
    let y := landNeeded x (lwNeeds 0 ws)
    { y with snap := y.regs, lastLw := some x.pc, lwCount := x.lwCount + 1 })

/-- Offer the slot word `w` at slot `j`. Before the first slot of a long word, the illegal encodings (R203, R204) and the
destination conflicts (R205, R222) of the whole long word are decided; a register a span or vector status will write, or a
full queue, makes the long word wait (R169). -/
def State.offer (s : State) (q j w : Nat) : Issue :=
  let x := s.qtr q
  let ws := x.lw x.pc
  if !s.mayIssue q then .blocked
  else if x.slot = 0 then
    match firstIllegal x.pc 0 ws with
    | some k => .fault (s.progFault q 0x01 x.pc k)
    | none =>
      match destConflict 0 [] ws with
      | some k => .fault (s.progFault q 0x03 x.pc k)
      | none =>
        if nth ws j 0 ≠ w ∨ (ws.take j).any (fun v => v != 0) = true then .blocked
        else if (x.statusDue.any (fun r => (lwNeeds 0 ws).contains r)) then .blocked
        else
          let t := s.startLw q ws
          if t.unitFull q (t.qtr q).snap ws then .blocked else .slot t w
  else if j < x.slot ∨ nth ws j 0 ≠ w ∨ ((ws.take j).drop x.slot).any (fun v => v != 0) = true then .blocked
  else .slot s w

/-- Loops whose body holds the next long word keep running; the counter of every other one reads 0 (R211). Newest first. -/
def keepLoops (next : Nat) (x : Quarter) : Quarter :=
  let stay (l : LoopSt) : Bool := Nat.ble l.first next && Nat.ble next l.last
  { x with loops := x.loops.filter stay,
           regs := (x.loops.filter (fun l => !stay l)).foldl (fun r l => r.put ⟨.lc, l.ctr⟩ 0) x.regs }

/-- The back-edges of the running loops that end at long word `i`, newest first (R210): the registers afterwards, the
loops still running, and the next long word. -/
def backEdge (i : Nat) : List LoopSt → SeqRegs → SeqRegs × List LoopSt × Nat
  | [], r => (r, [], i + 1)
  | l :: t, r =>
    if l.last = i then
      let c := r.get ⟨.lc, l.ctr⟩ - 1
      let r := r.put ⟨.lc, l.ctr⟩ c
      if c ≠ 0 then (r, l :: t, l.first) else backEdge i t r
    else
      let (r, t', n) := backEdge i t r
      (r, l :: t', n)

/-- End the long word in issue: no next fetch after DONE (R212); else the branch target, a back-edge or the next long word,
which must lie below COUNT (R168). -/
def State.endLw (s : State) (q : Nat) : State :=
  let x := s.qtr q
  let i := x.pc
  if x.done.isSome then s.modQ q (fun x => { x with slot := 0, branch := none, credit := 0 })
  else
    let (y, next) := match x.branch with
      | some t => (x, t)
      | none =>
        let (r, ls, n) := backEdge i x.loops x.regs
        ({ x with regs := r, loops := ls }, n)
    let z := keepLoops next y
    let s := s.setQtr q { z with pc := next, slot := 0, branch := none, credit := x.credit - 1 }
    let s := if s.qState q = 5 then s.setRegN (R.DEBUG_PC q) (next % 2048) else s
    if next < x.count ∧ next < 2048 then s else s.progFault q 0x02 i 2

/-- Slot `j` has been dealt with: go on to the next slot that is not NOP, or end the long word. A slot that raised a fault
leaves the long word where it is. -/
def State.endSlot (s : State) (q j : Nat) : State :=
  let x := s.qtr q
  if x.faulted || s.rcv.stop.isSome || !s.rcv.notes.isEmpty then s
  else
    let s := s.modQ q (fun x => { x with slot := j + 1 })
    if ((x.lw x.pc).drop (j + 1)).all (fun v => v == 0) then s.endLw q else s

/-- Issue slot `j` holding opcode `op` with bits [127:8] `w`: `f` is what it does when its predicate enables it, `none` when
it must wait for earlier memory operations (R175). A slot that cannot issue now leaves the state unchanged. -/
def State.issueSlot (s : State) (q j op : Nat) (w : BitVec 120) (f : State → Nat → Option State) : State :=
  match s.offer q j (slotOf op w) with
  | .blocked => s
  | .fault t => t
  | .slot t v =>
    if predOn (t.qtr q).snap v then
      match f t v with
      | none => s
      | some t' => t'.endSlot q j
    else t.endSlot q j

/-! ### S0 and S1 (R206, R207) -/

/-- The value of a source specifier in the snapshot. -/
def State.src (s : State) (q x : Nat) : Nat := (s.qtr q).snap.get (specReg x)

/-- B of a scalar slot: the immediate or the register. -/
def State.srcB (s : State) (q w : Nat) : Nat := if sImmB w then sImm w else s.src q (sRB w)

/-- The result of a scalar slot: the value its destination receives. -/
def State.scalarResult (s : State) (q w : Nat) : Nat :=
  let op := slotOp w
  let a := s.src q (sRA w)
  let b := s.srcB q w
  if op ≤ 0x0F then intResult op a b
  else if op ≤ 0x15 then b2n (cmpResult op a b)
  else if op = 0x18 then sImm w
  else if op = 0x19 then (if s.src q (sRC w) = 1 then a else b)
  else if op ≤ 0x1D then b2n (predResult op (a == 1) (b == 1))
  else if 0x28 ≤ op ∧ op ≤ 0x2A then b2n (fcmpResult op a b)
  else fpResult op a b (s.src q (sRC w))

/-- A scalar slot: its result lands at once, or is on its way for the operations of more than one step (Table 6.2). -/
def State.scalarSlot (s : State) (q w : Nat) : Option State :=
  let d := specReg (sRD w)
  let v := s.scalarResult q w
  some (if isLongLatency (slotOp w) then s.pendReg q d v none else s.putReg q d v)

/-- Issue a scalar opcode in S0 or S1. -/
def State.scalar (s : State) (q : BitVec 4) (s1 : Bool) (op : Nat) (w : BitVec 120) : State :=
  s.issueSlot q.toNat (b2n s1) op w (fun t v => t.scalarSlot q.toNat v)

/-! ### C (R208, R209) -/

/-- Set up a loop: LOOP_BUSY when its counter's loop is running (R223); a trip count of 0 is a taken branch past END. -/
def State.setLoop (s : State) (q w trip : Nat) : State :=
  let x := s.qtr q
  if x.loops.any (fun l => l.ctr == cLC w) then s.progFault q 0x0F x.pc 2
  else
    let s := s.putReg q ⟨.lc, cLC w⟩ trip
    if trip = 0 then s.modQ q (fun x => { x with branch := some (cEnd w + 1) })
    else s.modQ q (fun x => { x with loops := ⟨cLC w, x.pc + 1, cEnd w⟩ :: x.loops })

/-- A control slot. -/
def State.controlSlot (s : State) (q w : Nat) : Option State :=
  match slotOp w with
  | 0x01 => some (s.modQ q (fun x => { x with branch := some (cTarget w) }))
  | 0x02 => some (s.modQ q (fun x => { x with branch := some (s.src q (cBrxRA w)) }))
  | 0x03 => some (s.setLoop q w (s.src q (cLoopRA w) % 2 ^ 32))
  | 0x04 => some (s.setLoop q w (cCount w))
  | _ => some (s.modQ q (fun x => { x with done := some x.pc }))

/-- Issue a control opcode. -/
def State.control (s : State) (q : BitVec 4) (op : Nat) (w : BitVec 120) : State :=
  s.issueSlot q.toNat 2 op w (fun t v => t.controlSlot q.toNat v)

/-! ### Memory order within a quarter (R175) -/

/-- An access that has been issued and not made: sequence number, first byte, length, and whether it writes. -/
structure PendingAccess where
  seq : Nat
  lo : Nat
  len : Nat
  write : Bool
  deriving DecidableEq, Repr

/-- Bytes of one input row of a span of `g` grains (R107); IFMT 0 I8, 1 I4, 2 B8. -/
def rowBytes (ifmt g : Nat) : Nat :=
  match ifmt with
  | 0 => g * 128
  | 1 => g * 64
  | _ => (g * 132 + 63) / 64 * 64

/-- WFMT and IFMT of a span, from its working grains. -/
def State.spanFmt (s : State) (q sp : Nat) : Nat × Nat :=
  match allG.find? (fun g => s.gSpanOf q g == sp && s.gState q g == 2) with
  | some g => (s.gWfmt q g, s.gIfmt q g)
  | none => (0, 0)

/-- Columns of a span's tile (R119). -/
def colsOf (wfmt : Nat) : Nat := if wfmt = 1 then 128 else 64

/-- Element size of Table 5.1. -/
def elemSize (mode wfmt : Nat) : Nat := if mode = 0 then 24 else if wfmt = 2 then 32 else 16

/-- Bytes of a close's output in memory: FULL is 24 bytes an element, STATE a record of Table 5.9. -/
def closeBytes (cls rows cols : Nat) : Nat := if cls = 2 then rows * cols * 24 else 64 + rows * cols * 32

/-- Accesses that a span operation has still to make. -/
def State.spanAccesses (s : State) (q sp : Nat) (o : SpanOp) : List PendingAccess :=
  let (wf, xf) := s.spanFmt q sp
  let cols := colsOf wf
  match s.img.run.span q sp with
  | none => []
  | some d =>
    let rows := match o.kind with
      | .gclose => (nth (s.span q sp).groups o.group ⟨0, 0, 0, 0, 0, false⟩).rows
      | _ => o.rows
    let opn := if o.opn = 2 then [⟨o.seq, o.osrc, 64 + 256 * cols * 32, false⟩] else []
    let cls := if 2 ≤ o.cls ∧ !d.streaming then [⟨o.seq, o.cdst, closeBytes o.cls (max rows 1) cols, true⟩] else []
    match o.kind with
    | .span =>
      let fused := match s.img.run.fusedWindow q sp with
        | some (off, _) => if d.fused = 1 ∨ d.fused = 2 then
            [⟨o.seq, scratchBase q + off + o.opoff * 64, rows * cols * 4, false⟩] else []
        | none => []
      ⟨o.seq, o.a, (rows - 1) * o.t + rowBytes xf d.grains, false⟩ :: (fused ++ opn ++ cls)
    | .gopen => opn
    | .gclose => cls
    | .bload => [⟨o.seq, o.src, (d.grains - 1) * o.ustr + 8192, false⟩] ++
        (if wf = 2 then [⟨o.seq, o.xsrc, (d.grains - 1) * o.xstr + 256, false⟩] else [])
    | _ => []

/-- Bytes that `len` elements of a vector format occupy (Table 8.1). -/
def vecBytes (fmt len : Nat) : Nat :=
  match fmt with
  | 0 => 4 * len
  | 1 => 2 * len
  | 2 => len
  | 3 => len / 2
  | 4 => (len + len / 32 + 63) / 64 * 64
  | 5 => 24 * len
  | 6 => 8 * len
  | _ => 4 * len

/-- Elements a vector operation writes at DST: one for VSUM and VRMAX, LEN otherwise. -/
def vecOutLen (op len : Nat) : Nat := if op = 0x18 ∨ op = 0x19 then 1 else len

/-- Accesses a vector operation has still to make. -/
def vecAccesses (o : VecOp) : List PendingAccess :=
  [⟨o.seq, o.dst, vecBytes o.fout (vecOutLen o.op o.len), true⟩] ++
  (if o.kind = 0 then [⟨o.seq, o.src1, vecBytes o.fin o.len, false⟩] else []) ++
  (if vUsesSrc2 o.op then [⟨o.seq, o.src2, vecBytes o.fin o.len, false⟩] else [])

/-- Every access the quarter has issued and not made: span queues, passes, drains, load jobs and vector operations. -/
def State.pendingAccesses (s : State) (q : Nat) : List PendingAccess :=
  let x := s.qtr q
  (x.spans.map (fun p =>
    ((p.2.queue ++ (p.2.pass.map PassSt.op).toList ++ p.2.drains.map DrainSt.op).map (s.spanAccesses q p.1)).flatten)).flatten ++
  ((s.grains.jobs.filter (fun j => j.q == q && Nat.ble j.kind 0)).map
    (fun j => [⟨j.seq, j.src, 8192, false⟩, ⟨j.seq, j.xsrc, 256, false⟩])).flatten ++
  ((x.vq ++ x.vcur.toList).map vecAccesses).flatten

/-- Whether two ranges share a 64-byte block. -/
def shareBlock (a n b m : Nat) : Bool :=
  n != 0 && m != 0 && Nat.ble (a / 64) ((b + m - 1) / 64) && Nat.ble (b / 64) ((a + n - 1) / 64)

/-- Whether an access issued as number `seq` may be made now: no earlier access to one of its blocks is still to come,
unless both read (R175). -/
def State.inOrder (s : State) (q seq a n : Nat) (write : Bool) : Bool :=
  !((s.pendingAccesses q).any (fun p => Nat.blt p.seq seq && (write || p.write) && shareBlock a n p.lo p.len))

/-! ### M (R213, R214) -/

/-- The next sequence number of the quarter's operations, in issue order (R171). -/
def State.takeSeq (s : State) (q : Nat) : Nat × State :=
  ((s.qtr q).nextSeq, s.modQ q (fun x => { x with nextSeq := x.nextSeq + 1 }))

/-- Bytes an M opcode moves. -/
def memSize (op : Nat) : Nat :=
  match op with
  | 0x01 => 1
  | 0x02 => 2
  | 0x03 => 4
  | 0x04 => 8
  | 0x05 => 1
  | 0x06 => 2
  | 0x07 => 4
  | 0x08 => 1
  | 0x09 => 2
  | 0x0A => 4
  | _ => 8

/-- Sign extension of a 32-bit immediate to 64 bits. -/
def sext32 (n : Nat) : Nat := ofSigned 64 (toSigned 32 n)

/-- The effective address of Table 7.6. -/
def State.effAddr (s : State) (q w : Nat) : Nat :=
  let r := (s.qtr q).snap
  match mAM w with
  | 0 => (r.aN (mBase w) + sext32 (mImm w)) % two64
  | 1 => (r.aN (mBase w) + r.sN (mIndex w) * 2 ^ mScale w) % two64
  | _ => r.aN (mBase w)

/-- The post-increment of AM 2 (Table 7.6). -/
def State.postInc (s : State) (q w : Nat) : State :=
  if mAM w = 2 then s.putReg q ⟨.a, mBase w⟩ ((s.qtr q).snap.aN (mBase w) + sext32 (mImm w)) else s

/-- A memory operation is outstanding until it completes. -/
def State.outstand (s : State) (q seq : Nat) : State :=
  s.modQ q (fun x => { x with outst := x.outst ++ [seq] })

/-- The value a load delivers: zero-extended, or sign-extended for 0x05 to 0x07. -/
def loadValue (op n : Nat) : Nat :=
  if 0x05 ≤ op ∧ op ≤ 0x07 then ofSigned 64 (toSigned (8 * memSize op) n) else n

/-- A load or a store (Table 7.7): MISALIGNED, then the checks of the address, then the access and the post-increment. -/
def State.loadStore (s : State) (q w : Nat) : Option State :=
  let op := slotOp w
  let n := memSize op
  let e := s.effAddr q w
  let x := s.qtr q
  let wr := isStoreOp op
  if e % n ≠ 0 then some (s.progFault q 0x05 x.pc 3)
  else match s.check q e n wr with
    | .wait => none
    | .ok =>
      let (seq, t) := s.takeSeq q
      if !s.inOrder q seq e n wr then none
      else if wr then
        some (((t.store q e (leBytes n (s.src q (mData w)))).outstand q seq).postInc q w)
      else
        some (((t.pendReg q (specReg (mData w)) (loadValue op (s.loadN e n)) (some seq)).outstand q seq).postInc q w)
    | r => some (s.accFault q x.pc 3 e n r)

/-- Issue a load or store. -/
def State.memory (s : State) (q : BitVec 4) (op : Nat) (w : BitVec 120) : State :=
  s.issueSlot q.toNat 3 op w (fun t v => t.loadStore q.toNat v)

/-- Copy 64-byte blocks in increasing address order, each read before it is written. -/
def State.copyBlocks (s : State) (q src dst : Nat) : Nat → State
  | 0 => s
  | n + 1 => (s.store q dst (s.load src 64)).copyBlocks q (src + 64) (dst + 64) n

/-- COPY (R214). -/
def State.copySlot (s : State) (q w : Nat) : Option State :=
  let x := s.qtr q
  let src := x.snap.aN (mcSrc w)
  let dst := x.snap.aN (mcDst w)
  let n := if mcLenImm w then mImm w else x.snap.sN (mcLen w) % 2 ^ 32
  if src % 64 ≠ 0 ∨ dst % 64 ≠ 0 ∨ n % 64 ≠ 0 then some (s.progFault q 0x05 x.pc 3)
  else
    let rd := s.check q src n false
    let wr := s.check q dst n true
    -- ADDR_RANGE of either range comes before a refusal of either (R279)
    let r := if rd = .fault 0x04 ∨ wr = .fault 0x04 then .fault 0x04 else rd.andThen wr
    match r with
    | .wait => none
    | .ok =>
      let (seq, t) := s.takeSeq q
      if !(s.inOrder q seq src n false && s.inOrder q seq dst n true) then none
      else some ((t.copyBlocks q src dst (n / 64)).outstand q seq)
    | r => some (if rd = .ok then s.accFault q x.pc 3 dst n r else s.accFault q x.pc 3 src n r)

/-! ### X (R221) -/

/-- MOV: a predicate destination takes bit 0. -/
def State.movSlot (s : State) (q w : Nat) : Option State :=
  some (s.putReg q (specReg (sRD w)) (s.src q (sRA w)))

/-- SIGNAL waits for every memory operation the quarter issued before it (R178). -/
def State.signalSlot (s : State) (q w : Nat) : Option State :=
  some (s.modQ q (fun x => { x with
    signals := x.signals ++ [⟨x.nextSeq, xTarget w, xCounter w, x.pc⟩]
    nextSeq := x.nextSeq + 1 }))

/-- WAIT holds issue until sc_c ≥ v (R179). -/
def State.waitSlot (s : State) (q w : Nat) : Option State :=
  let v := (s.qtr q).snap.sN (xWaitV w) % 2 ^ 32
  some ((s.modQ q (fun x => { x with waiting := some (xWaitCtr w, v) })).raise (R.QSTATUS q) F.QSTATUS_WAITING)

/-- FENCE holds issue until every earlier memory operation has completed (R177). -/
def State.fenceSlot (s : State) (q _w : Nat) : Option State :=
  some (s.modQ q (fun x => { x with fence := some x.nextSeq }))

/-- LIVE: chain time, deadline seen or rail code into a scalar register (R187). -/
def State.liveSlot (s : State) (q w : Nat) (seen : Bool) : Option State :=
  let v := match xWhich w with
    | 0 => s.now
    | 1 => b2n seen
    | _ => s.regN (R.RAIL (q / 4))
  some (((s.pendReg q (specReg (sRD w)) v none).raise (R.QSTATUS q) F.QSTATUS_LIVE_READ).raise (R.QERR q) F.QERR_LIVE_READ)

/-- Issue an X opcode. -/
def State.xslot (s : State) (q : BitVec 4) (op : Nat) (w : BitVec 120) (f : State → Nat → Option State) : State :=
  s.issueSlot q.toNat 7 op w f

/-! ### Completion of what was issued -/

/-- Whether every memory operation the quarter issued before number `seq` has completed (R177, R178). -/
def State.memDone (s : State) (q seq : Nat) : Bool :=
  (s.qtr q).outst.all (fun n => Nat.ble seq n) && (s.pendingAccesses q).all (fun p => Nat.ble seq p.seq)

/-- RESULT_WRITEBACK: result `i` on its way lands (R170). -/
def State.writeback (s : State) (q i : Nat) : State :=
  match (s.qtr q).pend[i]? with
  | none => s
  | some p => s.modQ q (fun x => landOne { x with pend := x.pend.eraseIdx i } p)

/-- WRITE_COMPLETE: outstanding store or copy `i`, one that no register awaits, becomes visible to all (R257). -/
def State.writeDone (s : State) (q i : Nat) : State :=
  let x := s.qtr q
  match (x.outst.filter (fun n => !x.pend.any (fun p => p.memSeq == some n)))[i]? with
  | none => s
  | some n => s.modQ q (fun x => { x with outst := x.outst.filter (fun m => m != n) })

/-- SIGNAL_DELIVERY of pending signal `i` (R178, R180): once the signaller's earlier memory operations are done, the
counter of a RUNNING or DONE target rises; else SYNC_TARGET. -/
def State.deliverSignal (s : State) (q i : Nat) : State :=
  match (s.qtr q).signals[i]? with
  | none => s
  | some g =>
    if !s.memDone q g.seq then s
    else
      let s := s.modQ q (fun x => { x with signals := x.signals.eraseIdx i })
      if s.qState g.target = 2 ∨ s.qState g.target = 3 then
        s.modQ g.target (fun x => { x with sc := setNth x.sc g.ctr (nth x.sc g.ctr 0#32 + 1#32) })
      else s.progFault q 0x0E g.lw 7

/-- WAIT_COMPLETE: the counter has reached the value (R179). -/
def State.endWait (s : State) (q : Nat) : State :=
  match (s.qtr q).waiting with
  | none => s
  | some (c, v) =>
    if v ≤ (nth (s.qtr q).sc c 0#32).toNat then
      (s.modQ q (fun x => { x with waiting := none })).drop (R.QSTATUS q) F.QSTATUS_WAITING
    else s

/-- FENCE_COMPLETE: every earlier memory operation has completed (R177). -/
def State.endFence (s : State) (q : Nat) : State :=
  match (s.qtr q).fence with
  | none => s
  | some n => if s.memDone q n then s.modQ q (fun x => { x with fence := none }) else s

end Sys2Proof.Machine
end

