-- ==== Sys2Proof/Machine/Spans.lean ====
section
/-! DEFINITION. Spans, banks and the weight-load engine (04_grains_and_spans.md), and accumulation groups
(05_accumulation.md). -/

namespace Sys2Proof.Machine

/-- A group that nothing has opened. -/
def GroupSt.closed : GroupSt := ⟨0, 0, 0, 0, 0, false⟩
/-- Group `g` of a span. -/
def SpanSt.group (x : SpanSt) (g : Nat) : GroupSt := nth x.groups g .closed
/-- Change group `g` of a span of quarter `q`. -/
def State.setGroup (s : State) (q sp g : Nat) (v : GroupSt) : State :=
  let x := s.span q sp
  s.setSpan q sp { x with groups := setNth x.groups g v }

/-! ### G0 and G1 (R181, R215) -/

/-- The operation a G slot queues, with the registers it reads at issue. -/
def spanOpOf (r : SeqRegs) (kind : SpanKind) (lw slot seq w : Nat) : SpanOp :=
  { kind := kind, lw := lw, slot := slot, seq := seq, group := gGroup w, rows := gRows w, a := r.aN (gA w),
    t := r.sN (gT w), opn := if kind = .gclose then 0 else gOpen w, osrc := r.aN (gOsrc w),
    cls := if kind = .span ∨ kind = .gclose then gClose w else 0, cdst := r.aN (gCdst w),
    ovr := if gOvr w then some (gMode w, gClog w) else none,
    status := if (kind = .span ∨ kind = .gclose) ∧ gStatusEn w then some (gStatus w) else none,
    opoff := gOpoff w, bank := gBank w, src := r.aN (gbS w), ustr := r.sN (gbU w), xsrc := r.aN (gbX w),
    xstr := r.sN (gbV w) }

/-- The kind of a G opcode (Table 7.9). -/
def spanKindOf (op : Nat) : SpanKind :=
  match op with
  | 0x01 => .span
  | 0x02 => .bswitch
  | 0x03 => .bload
  | 0x04 => .brelease
  | 0x05 => .gopen
  | _ => .gclose

/-- A G slot: SPAN_RANGE, ISSUE_CONFLICT of G1 with G0, then into the queue (R181). -/
def State.spanSlot (s : State) (q j w : Nat) : Option State :=
  let x := s.qtr q
  let sp := gSpan w
  let w0 := nth (x.lw x.pc) 4 0
  if (s.img.run.span q sp).isNone then some (s.progFault q 0x07 x.pc j)
  else if j = 5 ∧ slotOp w0 ≠ 0 ∧ predOn x.snap w0 = true ∧ gSpan w0 = sp then some (s.progFault q 0x0A x.pc 5)
  else
    let (seq, t) := s.takeSeq q
    let y := t.span q sp
    some (t.setSpan q sp { y with queue := y.queue ++ [spanOpOf x.snap (spanKindOf (slotOp w)) x.pc j seq w] })

/-- Issue a G opcode. -/
def State.gslot (s : State) (q : BitVec 4) (g1 : Bool) (op : Nat) (w : BitVec 120) : State :=
  s.issueSlot q.toNat (4 + b2n g1) op w (fun t v => t.spanSlot q.toNat (4 + b2n g1) v)

/-- The operation at the head of a span's queue when it may leave: nothing is still in the grains (R119). -/
def State.headOp (s : State) (q sp : Nat) (k : SpanKind) : Option SpanOp :=
  let x := s.span q sp
  match x.queue, x.pass with
  | o :: _, none => if o.kind = k then some o else none
  | _, _ => none

/-- Take the head operation out of its queue. -/
def State.popOp (s : State) (q sp : Nat) : State :=
  let x := s.span q sp
  s.setSpan q sp { x with queue := x.queue.drop 1 }

/-- Raise a fault of a queued operation. -/
def State.opFault (s : State) (q code : Nat) (o : SpanOp) : State := s.progFault q code o.lw o.slot

/-! ### Banks (Table 4.3, R109 to R116, R183, R216) -/

/-- Note the first load of a bank in the epoch, with what a discard puts back (R114). -/
def State.noteBank (s : State) (q g b : Nat) : State :=
  let k := bankKey q g b
  if (kvFind k s.grains.undo).isSome then s
  else { s with grains := { s.grains with
    undo := kvPut k ⟨s.bank q g b == 0 || s.bank q g b == 4, s.regN (R.BANK_CRC q g b)⟩ s.grains.undo } }

/-- Note the committed active bank of a grain before the first switch of the epoch (R114). -/
def State.noteActive (s : State) (q g : Nat) : State :=
  let k := grainKey q g
  if (kvFind k s.grains.actUndo).isSome then s
  else { s with grains := { s.grains with actUndo := kvPut k (s.gActive q g) s.grains.actUndo } }

/-- Append a job to the weight-load engine of its quarter, its bank LOADING. A test of the bank is pre-empted (R113). -/
def State.addJob (s : State) (j : LoadJob) : State :=
  let s := s.setBank j.q j.g j.b 1
  let s := s.modQ j.q (fun x => { x with test := if x.test = some (j.g, j.b) then none else x.test })
  { s with grains := { s.grains with jobs := s.grains.jobs ++ [j] } }

/-- Working grains of a span with their K_POS. -/
def State.kGrains (s : State) (q sp : Nat) (d : SpanDesc) : List (Nat × Nat) :=
  (List.range d.grains).filterMap (fun k => (s.grainAt q sp k).map (fun g => (k, g)))

/-- The address a queued load names for the grain at K_POS `k`: image, and exponent table of a B8 span. -/
def SpanOp.loadSrc (o : SpanOp) (k : Nat) : Nat := (o.src + k * o.ustr) % two64
def SpanOp.loadXsrc (o : SpanOp) (wf k : Nat) : Nat := if wf = 2 then (o.xsrc + k * o.xstr) % two64 else 0

/-- One load job for each grain of the span, in K_POS order (R109). -/
def State.queueLoads (s : State) (q sp wf : Nat) (o : SpanOp) (gs : List (Nat × Nat)) : State :=
  gs.foldl (fun s p => (s.noteBank q p.2 o.bank).addJob
    ⟨q, p.2, o.bank, o.loadSrc p.1, o.loadXsrc wf p.1, none, 0, o.lw, o.slot, o.seq, true⟩) (s.popOp q sp)

/-- BANK_LOAD_START: the address checks of R217, then ACTIVE_BANK_LOAD, then one job for each grain in K_POS order. -/
def State.startLoad (s : State) (q sp : Nat) : State :=
  match s.headOp q sp .bload, s.img.run.span q sp with
  | some o, some d =>
    let (wf, _) := s.spanFmt q sp
    let gs := s.kGrains q sp d
    let checks := gs.map (fun p => s.check q (o.loadSrc p.1) 8192 false) ++
      (if wf = 2 then gs.map (fun p => s.check q (o.loadXsrc wf p.1) 256 false) else [])
    if o.src % 64 ≠ 0 ∨ o.ustr % 64 ≠ 0 ∨ (wf = 2 ∧ (o.xsrc % 64 ≠ 0 ∨ o.xstr % 64 ≠ 0)) then s.opFault q 0x09 o
    else if checks.contains (.fault 0x04) then s.opFault q 0x04 o
    else if checks.contains (.fault 0x06) then
      match gs.find? (fun p => s.check q (o.loadSrc p.1) 8192 false = .fault 0x06) with
      | some p => s.accFault q o.lw o.slot (o.loadSrc p.1) 8192 (.fault 0x06)
      | none => match gs.find? (fun p => s.check q (o.loadXsrc wf p.1) 256 false = .fault 0x06) with
        | some p => s.accFault q o.lw o.slot (o.loadXsrc wf p.1) 256 (.fault 0x06)
        | none => s
    else if gs.any (fun p => s.gActive q p.2 == o.bank) then s.opFault q 0x0B o
    else s.queueLoads q sp wf o gs
  | _, _ => s

/-- Key of a byte of grain storage: bank images, exponent tables and checksum columns at 64 KiB a grain. -/
def grainByte (q g off : Nat) : Nat := grainKey q g * 65536 + off
/-- Offset of bank `b`'s image, and of its exponent table, in a grain's storage. -/
def bankOff (b : Nat) : Nat := b * 8192
def expOff (b : Nat) : Nat := 0x8000 + b * 256

/-- Bytes of a bank image. -/
def State.bankBytes (s : State) (q g b : Nat) : List Byte := memRead s.grains.data (grainByte q g (bankOff b)) 8192

/-- Store what a load has read into a bank (R109). -/
def State.fillBank (s : State) (q g b : Nat) (bs xs : List Byte) : State :=
  { s with grains := { s.grains with
      data := memWrite (memWrite s.grains.data (grainByte q g (bankOff b)) bs) (grainByte q g (expOff b)) xs } }

/-- The first job of a quarter's weight-load engine; jobs run in issue order (R110). -/
def State.headJob (s : State) (q : Nat) : Option LoadJob := s.grains.jobs.find? (fun j => j.q == q)
/-- Take it off. -/
def State.popJob (s : State) (j : LoadJob) : State :=
  { s with grains := { s.grains with jobs := s.grains.jobs.erase j } }

/-- Exponent bytes a job copies: 256 for a B8 grain, none otherwise. -/
def State.jobExp (s : State) (j : LoadJob) : Nat := if s.gWfmt j.q j.g = 2 then 256 else 0

/-- The check of a job's sources. -/
def State.jobCheck (s : State) (j : LoadJob) : Acc :=
  (s.check j.q j.src 8192 false).andThen (s.check j.q j.xsrc (s.jobExp j) false)

/-- The bytes a job copies are in its bank, with their CRC, and the bank is LOADED (R109). -/
def State.bankFilled (s : State) (q : Nat) (j : LoadJob) : State :=
  let bs := s.load j.src 8192
  let xs := s.load j.xsrc (s.jobExp j)
  (((s.popJob j).fillBank q j.g j.b bs xs).setBank q j.g j.b 2).setRegN (R.BANK_CRC q j.g j.b) (crc32 (bs ++ xs))
/-- The same for a BLOAD, whose source is noted for the commit. -/
def State.bankLoaded (s : State) (q : Nat) (j : LoadJob) : State :=
  let t := s.bankFilled q j
  { t with grains := { t.grains with newSrc := kvPut (bankKey q j.g j.b) (j.src, j.xsrc) t.grains.newSrc } }

/-- BANK_LOAD_COMPLETE: the head job of the quarter's engine, a BLOAD, has written its last byte: source and CRC recorded,
bank LOADED (R109). It waits for earlier writes to its source (R175). -/
def State.endLoad (s : State) (q : Nat) : State :=
  match s.headJob q with
  | none => s
  | some j =>
    let n := s.jobExp j
    if j.kind ≠ 0 ∨ !s.inOrder q j.seq j.src 8192 false ∨ !s.inOrder q j.seq j.xsrc n false then s
    else match s.jobCheck j with
      | .ok => s.bankLoaded q j
      | .wait => s
      | r => s.accFault q j.lw j.slot j.src 8192 r

/-- GERR and GW_ERR of a grain (Tables 4.7 and 4.8). -/
def State.grainErr (s : State) (q g : Nat) (f : Fld) : State :=
  (s.raise (R.GERR q g) f).raise (R.GW_ERR (q / 4)) F.GW_ERR_GRAIN_EVENT

/-- Begin restores of the STALE banks of a span that an operation uses, from their committed sources (R115). -/
def State.startRestores (s : State) (q : Nat) (o : SpanOp) (gbs : List (Nat × Nat)) : State :=
  (gbs.filter (fun p => s.bank q p.1 p.2 == 3)).foldl (fun s p =>
    (s.noteBank q p.1 p.2).addJob ⟨q, p.1, p.2, s.reg64 (R.BANK_SRC_LO q p.1 p.2), s.reg64 (R.BANK_XSRC_LO q p.1 p.2),
      some (s.regN (R.BANK_CRC q p.1 p.2)), 1, o.lw, o.slot, o.seq, true⟩) s

/-- Retire a grain (R122): FAILED, every bank EMPTY. -/
def State.failGrain (s : State) (q g : Nat) : State :=
  ((List.range 4).foldl (fun s b => s.setBank q g b 0) s).setGState q g 3

/-- A second uncorrectable ECC error since the restart of the die fails the grain (R124). -/
def State.eccGrain (s : State) (q g : Nat) : State :=
  let k := grainKey q g
  let n := kvGet (fun _ => 0) k s.grains.eccUncorr + 1
  let s := { s with grains := { s.grains with eccUncorr := kvPut k n s.grains.eccUncorr } }
  let s := s.grainErr q g F.GERR_ECC_UNCORR
  if 2 ≤ n then { s with grains := { s.grains with dead := s.grains.dead ++ [(k, 2)] } } else s

/-- A compute fault of a grain (R123, R124): counted; the second within 1,024 consecutive epochs fails it, the grain named
in `dead` until the rollback retires it. -/
def State.computeFault (s : State) (q g : Nat) : State :=
  let k := grainKey q g
  let es := kvGet (fun _ => []) k s.grains.faultEpochs
  let recent := es.any (fun e => Nat.blt s.epoch (e + 1024))
  let s := s.incSat (R.CHK_CNT q g)
  { s with grains := { s.grains with
      faultEpochs := kvPut k (es ++ [s.epoch]) s.grains.faultEpochs,
      dead := if recent then s.grains.dead ++ [(k, 0)] else s.grains.dead } }

/-- BANK_RESTORE_COMPLETE: the head job of the quarter's engine, a restore or a spare's load, has read its bytes; their CRC
must be the recorded one (R115, R122). `badEcc` is an uncorrectable error found as the bank becomes active (R125). -/
def State.endRestore (s : State) (q : Nat) (badEcc : Bool) : State :=
  match s.headJob q with
  | none => s
  | some j =>
    if j.kind = 0 then s
    else
      let n := s.jobExp j
      match s.check q j.src 8192 false, s.check q j.xsrc n false with
      | .ok, .ok =>
        let bs := s.load j.src 8192
        let xs := s.load j.xsrc n
        let t := s.popJob j
        if badEcc then
          ((t.setBank q j.g j.b 3).eccGrain q j.g).hwFault q 0x43 j.lw j.slot 4 2 (unitNo q 0 j.g)
        else if j.crc ≠ none ∧ j.crc ≠ some (crc32 (bs ++ xs)) then
          let t := (t.setBank q j.g j.b 3).grainErr q j.g F.GERR_SRC_CHANGED
          t.progFault q 0x0D j.lw j.slot
        else s.bankFilled q j
      | .wait, _ => s
      | .ok, .wait => s
      | .ok, r => s.accFault q j.lw j.slot j.xsrc n r
      | r, _ => s.accFault q j.lw j.slot j.src 8192 r

/-- BANK_SWITCH_EFFECT (R112, R183): EMPTY or TESTING raises BANK_NOT_READY, STALE starts its restore and waits, LOADING
waits; otherwise every grain of the span switches. -/
def State.switchBank (s : State) (q sp : Nat) : State :=
  match s.headOp q sp .bswitch, s.img.run.span q sp with
  | some o, some d =>
    let gs := (s.kGrains q sp d).map Prod.snd
    let st := gs.map (fun g => s.bank q g o.bank)
    if st.contains 0 ∨ st.contains 4 then s.opFault q 0x0C o
    else if st.contains 3 then s.startRestores q o (gs.map (fun g => (g, o.bank)))
    else if st.contains 1 then s
    else gs.foldl (fun s g => (s.noteActive q g).setF (R.GSTATE q g) F.GSTATE_ACTIVE_BANK o.bank) (s.popOp q sp)
  | _, _ => s

/-- BANK_RELEASE_EFFECT (R216): ACTIVE_BANK_LOAD when a grain has the bank active; else LOADED and STALE banks become EMPTY,
EMPTY and TESTING ones stay, and a LOADING one is released when its load completes. -/
def State.releaseBank (s : State) (q sp : Nat) : State :=
  match s.headOp q sp .brelease, s.img.run.span q sp with
  | some o, some d =>
    let gs := (s.kGrains q sp d).map Prod.snd
    if gs.any (fun g => s.gActive q g == o.bank) then s.opFault q 0x0B o
    else if gs.any (fun g => s.bank q g o.bank == 1) then s
    else gs.foldl (fun s g =>
      let st := s.bank q g o.bank
      if st = 2 ∨ st = 3 then (s.noteBank q g o.bank).setBank q g o.bank 0 else s) (s.popOp q sp)
  | _, _ => s

/-! ### Accumulator memory (R133, Table 5.1) -/

/-- A byte of the accumulator memory of quarter `q`: undefined until written in this launch (R135). -/
def State.accByte (s : State) (q off : Nat) : Byte :=
  match kvFind (q * 262144 + off) s.mem.acc with
  | some b => b
  | none => Config.accByte s.mem.accGen (q * 262144 + off)

/-- `n` bytes of it. -/
def State.accRead (s : State) (q off n : Nat) : List Byte := (List.range n).map (fun i => s.accByte q (off + i))

/-- List bytes from key `k` upward. -/
def kvPutAll (k : Nat) : List Byte → List (Nat × Byte) → List (Nat × Byte)
  | [], t => t
  | b :: bs, t => kvPutAll (k + 1) bs (kvPut k b t)

/-- Write bytes of it. -/
def State.accWrite (s : State) (q off : Nat) (bs : List Byte) : State :=
  { s with mem := { s.mem with acc := kvPutAll (q * 262144 + off) bs s.mem.acc } }

/-- An element of a group: the W192 sum or chunk sum as a pattern or an integer, the total and the error term. -/
structure Elem where
  cs : Nat
  t : Nat
  e : Nat
  deriving DecidableEq, Repr

/-- An element's bytes in accumulator memory. -/
def elemBytes (mode wf : Nat) (x : Elem) : List Byte :=
  if mode = 0 then leBytes 24 x.cs
  else if wf = 2 then leBytes 24 x.cs ++ leBytes 4 x.t ++ leBytes 4 x.e
  else leBytes 8 x.cs ++ leBytes 4 x.t ++ leBytes 4 x.e

/-- The element in those bytes. -/
def elemOf (mode wf : Nat) (bs : List Byte) : Elem :=
  if mode = 0 then ⟨fieldAt bs 0 24, 0, 0⟩
  else if wf = 2 then ⟨fieldAt bs 0 24, fieldAt bs 24 4, fieldAt bs 28 4⟩
  else ⟨fieldAt bs 0 8, fieldAt bs 8 4, fieldAt bs 12 4⟩

/-- Offset of element `i` of group `g` (R133). -/
def elemOff (d : SpanDesc) (mode wf g i : Nat) : Nat := d.accOff + g * d.grpBytes + i * elemSize mode wf

/-- Read an element. -/
def State.elem (s : State) (q : Nat) (d : SpanDesc) (mode wf g i : Nat) : Elem :=
  elemOf mode wf (s.accRead q (elemOff d mode wf g i) (elemSize mode wf))
/-- Write an element. -/
def State.setElem (s : State) (q : Nat) (d : SpanDesc) (mode wf g i : Nat) (x : Elem) : State :=
  s.accWrite q (elemOff d mode wf g i) (elemBytes mode wf x)

/-! ### The three modes (R147) -/

/-- Whether an FP32 pattern is finite. -/
def f32Fin (w : Nat) : Bool := (f32Val w).isFin

/-- fl32 of a chunk sum: a 64-bit integer for I8 and I4, a W192 pattern for B8. -/
def csTo32 (wf cs : Nat) : Nat := if wf = 2 then w192To32 cs else f32OfInt (toSigned 64 cs) 0

/-- chunk_end() of R147. -/
def chunkEnd (mode wf : Nat) (x : Elem) : Elem :=
  let y := csTo32 wf x.cs
  if mode = 1 then ⟨0, f32Add x.t y, x.e⟩
  else
    let sm := f32Add x.t y
    if f32Fin sm then
      let bb := f32Sub sm x.t
      let dd := f32Add (f32Sub x.t (f32Sub sm bb)) (f32Sub y bb)
      ⟨0, sm, f32Add x.e dd⟩
    else ⟨0, sm, x.e⟩

/-- Add the products of a row to an element, in increasing K index from `k` (R145, R147). A product is an integer for I8
and I4, and a W192 integer N for B8. -/
def addProducts (mode clog wf : Nat) : Nat → List Int → Elem → Elem
  | _, [], x => x
  | k, p :: ps, x =>
    let x :=
      if mode = 0 then { x with cs := w192Add x.cs (w192OfInt (if wf = 2 then p else p * 2 ^ 96)) }
      else
        let y := { x with cs := if wf = 2 then w192Add x.cs (w192OfInt p) else ofSigned 64 (toSigned 64 x.cs + p) }
        if (k + 1) % 2 ^ clog = 0 then chunkEnd mode wf y else y
    addProducts mode clog wf (k + 1) ps x

/-- The VALUE of an element at a close after `n` products (R147). -/
def elemValue (mode clog wf n : Nat) (x : Elem) : Nat :=
  if mode = 0 then w192To32 x.cs
  else
    let y := if n % 2 ^ clog = 0 then x else chunkEnd mode wf x
    if mode = 2 ∧ f32Fin y.t then f32Add y.t y.e else y.t

/-- Whether LIMIT is set by Table 5.7. -/
def overLimit (mode clog n : Nat) : Bool :=
  match mode with
  | 0 => Nat.blt (2 ^ 40) n
  | 1 => Nat.blt (2 ^ 24) n
  | _ => Nat.blt (2 ^ 28) n || Nat.blt (2 ^ 20) ((n + 2 ^ clog - 1) / 2 ^ clog)

/-! ### Opens (R140, R157) -/

/-- Why an open cannot take place now. The total and error bytes of an element whose mode has none of them
    count among the record's reserved bytes (DEDUCED, log 10). -/
def openFault (s : State) (d : SpanDesc) (wf : Nat) (o : SpanOp) (g : GroupSt) (rows : Nat) : Acc :=
  let cols := colsOf wf
  let mode := match o.ovr with
    | some (m, _) => m
    | none => d.mode
  if g.st = 1 then .fault 0x11
  else if o.opn = 1 then (if d.grpBytes < cols * rows * elemSize mode wf then .fault 0x14 else .ok)
  else
    let h := s.load o.osrc 64
    let m := fieldAt h 4 1
    let cl := fieldAt h 5 1
    let rs := fieldAt h 8 2
    let headBad := fieldAt h 0 4 != 0x5343415A || Nat.blt 2 m || Nat.blt 12 cl || (m == 0 && cl != 0) ||
      fieldAt h 6 2 != cols || rs == 0 || Nat.blt d.tileRows rs || Nat.blt d.grpBytes (cols * rs * elemSize m wf) ||
      fieldAt h 10 2 != 0 || Nat.blt 1 (fieldAt h 12 4) || fieldAt h 24 40 != 0
    let elBad := m != 0 && wf != 2 && (List.range (rs * cols)).any (fun i =>
      let v := s.loadN (o.osrc + 64 + 32 * i) 24
      !w192IsFin v || v % 2 ^ 96 != 0 || decide (w192Int v < -(2 ^ 159)) || decide (2 ^ 159 - 2 ^ 96 < w192Int v))
    let termBad := m != 2 && (List.range (rs * cols)).any (fun i =>
      let b := s.load (o.osrc + 64 + 32 * i + 24) 8
      fieldAt b 4 4 != 0 || (m == 0 && fieldAt b 0 4 != 0))
    if headBad || elBad || termBad then .fault 0x16 else .ok

/-- Open a group (R140): ZERO clears its rows; FROM loads the record's elements and counts. -/
def State.openGroup (s : State) (q sp : Nat) (d : SpanDesc) (wf : Nat) (o : SpanOp) (rows : Nat) : State :=
  let cols := colsOf wf
  if o.opn = 1 then
    let (m, cl) := o.ovr.getD (d.mode, d.clog)
    let s := s.accWrite q (elemOff d m wf o.group 0) (List.replicate (rows * cols * elemSize m wf) 0#8)
    s.setGroup q sp o.group ⟨1, rows, m, cl, 0, false⟩
  else
    let h := s.load o.osrc 64
    let m := fieldAt h 4 1
    let rs := fieldAt h 8 2
    let s := (List.range (rs * cols)).foldl (fun s i =>
      let b := s.load (o.osrc + 64 + 32 * i) 32
      let cs := fieldAt b 0 24
      let cs := if m ≠ 0 ∧ wf ≠ 2 then ofSigned 64 (w192Int cs / 2 ^ 96) else cs
      s.setElem q d m wf o.group i ⟨cs, fieldAt b 24 4, fieldAt b 28 4⟩) s
    s.setGroup q sp o.group ⟨1, rs, m, fieldAt h 5 1, fieldAt h 16 8, fieldAt h 12 4 == 1⟩

/-- Check of the memory a span operation names: its state record and its FULL or STATE destination (R217). -/
def State.opMemory (s : State) (q : Nat) (d : SpanDesc) (wf rows : Nat) (o : SpanOp) : Acc × Nat × Nat :=
  let cols := colsOf wf
  let recLen := 64 + (if o.opn = 2 then fieldAt (s.load o.osrc 64) 8 2 else 0) * cols * 32
  let outLen := closeBytes o.cls rows cols
  let rd := if o.opn = 2 then
      (match s.check q o.osrc 64 false with
       | .ok => s.check q o.osrc recLen false
       | r => r)
    else .ok
  let wr := if 2 ≤ o.cls ∧ !d.streaming then s.check q o.cdst outLen true else .ok
  if rd = .fault 0x04 ∨ wr = .fault 0x04 then (.fault 0x04, o.osrc, 64)
  else if rd ≠ .ok then (rd, o.osrc, recLen)
  else (wr, o.cdst, outLen)

/-- Alignment checks of R217 common to opens and closes. -/
def opMisaligned (d : SpanDesc) (o : SpanOp) : Bool :=
  (o.opn == 2 && o.osrc % 64 != 0) || (Nat.ble 2 o.cls && !d.streaming && o.cdst % 64 != 0)

/-- Group checks of a span issue (Table 5.6, R218, R219); `.wait` while the group is DRAINING (R142). -/
def State.passGroupCheck (s : State) (q sp : Nat) (d : SpanDesc) (wf : Nat) (o : SpanOp) : Acc :=
  let cols := colsOf wf
  let value := o.cls == 1 || (d.streaming && o.cls == 0)
  let fusedBad := (d.fused == 1 || d.fused == 2) && value &&
    (match s.img.run.fusedWindow q sp with
     | some (_, len) => Nat.blt len (o.opoff * 64 + o.rows * cols * 4)
     | none => true)
  if d.streaming then
    if o.group ≠ 0 then .fault 0x12
    else if o.cls = 3 ∨ o.opn ≠ 0 ∨ o.ovr.isSome then .fault 0x15
    else if fusedBad then .fault 0x18 else .ok
  else if d.groups ≤ o.group then .fault 0x12
  else
    let g := (s.span q sp).group o.group
    if g.st = 2 then .wait
    else
      let r := if o.opn = 0 then
          (if g.st = 0 then .fault 0x10 else if g.rows ≠ o.rows then .fault 0x13 else .ok)
        else openFault s d wf o g o.rows
      if r ≠ .ok then r
      else
        let mode := if o.opn = 0 then g.mode
          else if o.opn = 1 then (o.ovr.getD (d.mode, d.clog)).1 else s.loadN (o.osrc + 4) 1
        if o.cls = 2 ∧ mode ≠ 0 then .fault 0x15
        else if fusedBad then .fault 0x18 else .ok

/-- A checked span issue leaves its queue, opens its group if it says so, and its rows may enter (R141). -/
def State.passStarts (s : State) (q sp : Nat) (d : SpanDesc) (wf : Nat) (o : SpanOp) : State :=
  let s := s.popOp q sp
  let s := if o.opn ≠ 0 ∧ !d.streaming then s.openGroup q sp d wf o o.rows else s
  let g := (s.span q sp).group o.group
  if o.opn = 2 ∧ g.rows ≠ o.rows then s.opFault q 0x13 o
  else
    let x := s.span q sp
    s.setSpan q sp { x with pass := some ⟨o, 0⟩, strm := 0 }

/-- PASS_START (R107, R112, R141, R182, R217): the issue leaves its queue, is checked, opens its group if it says so, and
its rows may enter. A STALE active bank starts its restore and the issue waits. -/
def State.startPass (s : State) (q sp : Nat) : State :=
  match s.headOp q sp .span, s.img.run.span q sp with
  | some o, some d =>
    let (wf, xf) := s.spanFmt q sp
    let len := rowBytes xf d.grains
    let base := scratchBase q
    let last := o.a + (o.rows - 1) * o.t
    if o.rows = 0 ∨ d.tileRows < o.rows then s.opFault q 0x08 o
    else if o.a % 64 ≠ 0 ∨ o.t % 64 ≠ 0 ∨ o.t < len ∨ o.a < base ∨ base + 0x200000 < last + len ∨
        opMisaligned d o = true then s.opFault q 0x09 o
    else
      let recOk := o.opn != 2 || d.streaming || s.inOrder q o.seq o.osrc 64 false
      let (m, ma, mn) := if d.streaming then (.ok, 0, 0) else s.opMemory q d wf o.rows o
      if !recOk ∨ m = .wait then s
      else if m ≠ .ok then s.accFault q o.lw o.slot ma mn m
      else match s.passGroupCheck q sp d wf o with
        | .fault c => s.opFault q c o
        | .ok =>
          let gs := (s.kGrains q sp d).map Prod.snd
          let st := gs.map (fun g => s.bank q g (s.gActive q g))
          if st.contains 0 ∨ st.contains 4 then s.opFault q 0x0C o
          else if st.contains 3 then s.startRestores q o (gs.map (fun g => (g, s.gActive q g)))
          else if st.contains 1 then s
          else s.passStarts q sp d wf o
        | _ => s
  | _, _ => s

/-- GROUP_OPEN_EFFECT (R140, Table 7.9): a queued GOPEN. -/
def State.gopenEffect (s : State) (q sp : Nat) : State :=
  match s.headOp q sp .gopen, s.img.run.span q sp with
  | some o, some d =>
    let (wf, _) := s.spanFmt q sp
    if d.streaming then s.opFault q (if o.group ≠ 0 then 0x12 else 0x15) o
    else if o.opn = 1 ∧ (o.rows = 0 ∨ d.tileRows < o.rows) then s.opFault q 0x08 o
    else if opMisaligned d o then s.opFault q 0x09 o
    else
      let recOk := o.opn != 2 || s.inOrder q o.seq o.osrc 64 false
      let (m, ma, mn) := s.opMemory q d wf o.rows o
      if !recOk ∨ m = .wait then s
      else if m ≠ .ok then s.accFault q o.lw o.slot ma mn m
      else if d.groups ≤ o.group then s.opFault q 0x12 o
      else
        let g := (s.span q sp).group o.group
        if g.st = 2 then s
        else match openFault s d wf o g o.rows with
          | .fault c => s.opFault q c o
          | _ => (s.popOp q sp).openGroup q sp d wf o o.rows
  | _, _ => s

/-- A close leaves its queue, its group is DRAINING, and its output is to be delivered (R154). -/
def State.startDrain (s : State) (q sp : Nat) (o : SpanOp) : State :=
  let s := (s.popOp q sp).setGroup q sp o.group { (s.span q sp).group o.group with st := 2 }
  let x := s.span q sp
  s.setSpan q sp { x with drains := x.drains ++ [⟨o, o.group, 0⟩] }
/-- Whether the fused window is too short for the VALUE output of `rows` rows (R156). -/
def State.fusedShort (s : State) (q sp : Nat) (d : SpanDesc) (o : SpanOp) (rows cols : Nat) : Bool :=
  (d.fused == 1 || d.fused == 2) && o.cls == 1 &&
    (match s.img.run.fusedWindow q sp with
     | some (_, len) => Nat.blt len (o.opoff * 64 + rows * cols * 4)
     | none => true)

/-- GROUP_CLOSE_EFFECT (R154): a queued GCLOSE starts draining its group. -/
def State.gcloseEffect (s : State) (q sp : Nat) : State :=
  match s.headOp q sp .gclose, s.img.run.span q sp with
  | some o, some d =>
    let (wf, _) := s.spanFmt q sp
    let cols := colsOf wf
    let g := (s.span q sp).group o.group
    if d.streaming then s.opFault q (if o.group ≠ 0 then 0x12 else 0x15) o
    else if opMisaligned d o then s.opFault q 0x09 o
    else if d.groups ≤ o.group then s.opFault q 0x12 o
    else if g.st = 2 then s
    else
      let (m, ma, mn) := s.opMemory q d wf g.rows o
      if m = .wait then s
      else if g.st = 1 ∧ m ≠ .ok then s.accFault q o.lw o.slot ma mn m
      else if g.st = 0 then s.opFault q 0x10 o
      else if o.cls = 2 ∧ g.mode ≠ 0 then s.opFault q 0x15 o
      else
        if s.fusedShort q sp d o g.rows cols then s.opFault q 0x18 o
        else s.startDrain q sp o
  | _, _ => s

/-! ### Rows (R102, R103, R108, R118) -/

/-- Input element `i` of a row (R107). -/
def rowElem (xf : Nat) (row : List Byte) (i : Nat) : Int :=
  if xf = 1 then toSigned 4 ((nth row (i / 2) 0#8).toNat / 16 ^ (i % 2)) else toSigned 8 (nth row i 0#8).toNat

/-- The weight of row `r`, column `c` of a bank image (R104). -/
def weight (wf : Nat) (bank : List Byte) (r c : Nat) : Int :=
  if wf = 1 then toSigned 4 ((nth bank (r * 64 + c / 2) 0#8).toNat / 16 ^ (c % 2))
  else toSigned 8 (nth bank (r * 64 + c) 0#8).toNat

/-- The products that reach column `c` of one grain, in increasing row: integers for I8 and I4, W192 integers scaled by both
exponents for B8 (R105, R108). -/
def grainProducts (wf xf g k : Nat) (row bank exps : List Byte) (c : Nat) : List Int :=
  (List.range 128).map (fun i =>
    let p := rowElem xf row (128 * k + i) * weight wf bank i c
    if wf = 2 then
      let ex := toSigned 6 (nth row (g * 128 + 4 * k + i / 32) 0#8).toNat
      let ew := toSigned 6 (nth exps (i / 32 * 64 + c) 0#8).toNat
      p * 2 ^ (ex + ew + 96).toNat
    else p)

/-- The products of a row for each column of a span, in increasing K (R118, R145). -/
def State.rowProducts (s : State) (q sp : Nat) (d : SpanDesc) (row : List Byte) : List (List Int) :=
  let (wf, xf) := s.spanFmt q sp
  let gs := s.kGrains q sp d
  let banks := gs.map (fun p =>
    (p.1, s.bankBytes q p.2 (s.gActive q p.2), memRead s.grains.data (grainByte q p.2 (expOff (s.gActive q p.2))) 256))
  (List.range (colsOf wf)).map (fun c =>
    (banks.map (fun b => grainProducts wf xf d.grains b.1 row b.2.1 b.2.2 c)).flatten)

/-- The partials of a grain for one input row (R103), one for each column: B8 mantissa products before scaling. -/
def grainPartials (wf xf k : Nat) (row bank : List Byte) : List Int :=
  (List.range (colsOf wf)).map (fun c =>
    ((List.range 128).map (fun i => rowElem xf row (128 * k + i) * weight wf bank i c)).sum)

/-- Each grain of the span keeps the column partials of the last completed input row (Table 20.3). -/
def State.keepPartials (s : State) (q sp : Nat) (d : SpanDesc) (row : List Byte) : State :=
  let (wf, xf) := s.spanFmt q sp
  (s.kGrains q sp d).foldl (fun s p =>
    let ps := grainPartials wf xf p.1 row (s.bankBytes q p.2 (s.gActive q p.2))
    { s with grains := { s.grains with partials := kvPut (grainKey q p.2) ps s.grains.partials } }) s

/-- The exact W192 pattern of a column result (R118). -/
def colSum (wf : Nat) (ps : List Int) : Nat :=
  let t := ps.foldl (fun a b => a + b) 0
  w192OfInt (if wf = 2 then t else t * 2 ^ 96)

/-! ### VALUE output and fused operations (R156) -/

/-- One row of VALUE output from element values: fused addition, multiplication or side vectors. -/
def State.fuseRow (s : State) (q sp : Nat) (d : SpanDesc) (opoff r : Nat) (vs : List Nat) : List Nat :=
  let operand (c : Nat) : Nat :=
    match s.img.run.fusedWindow q sp with
    | some (off, _) => s.loadN (scratchBase q + off + opoff * 64 + (r * vs.length + c) * 4) 4
    | none => 0
  match d.fused with
  | 1 => vs.zipIdx.map (fun p => f32Add p.1 (operand p.2))
  | 2 => vs.zipIdx.map (fun p => f32Mul p.1 (operand p.2))
  | 3 => vs ++ [vs.foldl f32Max 0xFF800000, vs.foldl f32Add 0]
  | _ => vs

/-- The check of the fused operands that rows [r0, r0 + n) of VALUE output read (R156). -/
def State.fusedCheck (s : State) (q sp : Nat) (d : SpanDesc) (opoff cols r0 n : Nat) : Acc :=
  if d.fused = 1 ∨ d.fused = 2 then
    match s.img.run.fusedWindow q sp with
    | some (off, _) => s.check q (scratchBase q + off + opoff * 64 + r0 * cols * 4) (n * cols * 4) false
    | none => .ok
  else .ok

/-- INF and NAN of delivered FP32 values (R153). -/
def f32Flags (vs : List Nat) : Nat :=
  b2n (vs.any (fun v => (f32Val v).isInf)) + 2 * b2n (vs.any (fun v => (f32Val v).isNan))
/-- INF and NAN of delivered W192 values. -/
def w192Flags (vs : List Nat) : Nat := b2n (vs.any w192IsInf) + 2 * b2n (vs.any w192IsNan)

/-- Words arrive at input `k` of the vector engine: 0 the drain input, 1 to 4 the ports (R239). -/
def State.feed (s : State) (q k : Nat) (ws : List FeedWord) : State :=
  s.modQ q (fun x => { x with feeds := setNth x.feeds k (nth x.feeds k [] ++ ws) })

/-- VE_FORM_MISMATCH of a running operation: a word among the LEN it consumes has another form (R240). -/
def State.formCheck (s : State) (q : Nat) : State :=
  let x := s.qtr q
  match x.vcur with
  | none => s
  | some o =>
    if o.kind = 0 then s
    else
      let ws := (nth x.feeds (if o.kind = 1 then 0 else 1 + o.port) []).take o.len
      if ws.any (fun w => w.wide != (o.fin == 5)) then s.progFault q 0x24 o.lw 6 else s

/-- The tile status of a close or streaming issue reaches its register (R184) and is counted when the attempt commits
(R153); a quarter in DEBUG counts nothing. -/
def State.tileDone (s : State) (q : Nat) (o : SpanOp) (st : Nat) (isClose : Bool) : State :=
  let s := match o.status with
    | some i => s.pendReg q ⟨.s, i⟩ st none
    | none => s
  if s.qState q = 5 then s
  else s.modQ q (fun x =>
    { x with
      tileFlags := Nat.lor x.tileFlags st
      cntLimit := x.cntLimit + b2n (isClose && bitOf st 2)
      cntNonfin := x.cntNonfin + b2n (st % 4 != 0)
      cntClose := x.cntClose + b2n isClose })

/-- The end of a pass: a close starts draining, a streaming issue delivers its tile status, and a pass without a close
writes 0 to its status register (R184). -/
def State.endPass (s : State) (q sp : Nat) (d : SpanDesc) (o : SpanOp) : State :=
  let x := s.span q sp
  let s := s.setSpan q sp { x with pass := none }
  if d.streaming then s.tileDone q o x.strm false
  else
    let g := x.group o.group
    let s := s.setGroup q sp o.group { g with n := g.n + 128 * d.grains, st := if o.cls = 0 then 1 else 2 }
    if o.cls = 0 then
      match o.status with
      | some i => s.pendReg q ⟨.s, i⟩ 0 none
      | none => s
    else
      let y := s.span q sp
      s.setSpan q sp { y with drains := y.drains ++ [⟨o, o.group, 0⟩] }

/-- A row without a check error enters its group, or is streamed; the last one ends the pass (R118, R141). -/
def State.rowEnters (s : State) (q sp : Nat) (d : SpanDesc) (p : PassSt) : State :=
  let o := p.op
  let (wf, xf) := s.spanFmt q sp
  let row := s.load (o.a + p.done * o.t) (rowBytes xf d.grains)
  let cols := s.rowProducts q sp d row
  let s := s.keepPartials q sp d row
  let s := if d.streaming then
      let full := o.cls = 2
      let sums := cols.map (colSum wf)
      let vs := if full then sums else s.fuseRow q sp d o.opoff p.done (sums.map w192To32)
      let st := Nat.lor (s.span q sp).strm (if full then w192Flags vs else f32Flags vs)
      let s := s.feed q (1 + (s.img.run.spanPort q sp).getD 0) (vs.map (fun v => ⟨full, v, o.lw, o.slot⟩))
      let y := s.span q sp
      (s.setSpan q sp { y with strm := st }).formCheck q
    else
      let g := (s.span q sp).group o.group
      cols.zipIdx.foldl (fun s c =>
        let i := p.done * cols.length + c.2
        s.setElem q d g.mode wf o.group i
          (addProducts g.mode g.clog wf g.n c.1 (s.elem q d g.mode wf o.group i))) s
  let y := s.span q sp
  let s := s.setSpan q sp { y with pass := some { p with done := p.done + 1 } }
  if p.done + 1 = o.rows then s.endPass q sp d o else s

/-- SPAN_ROW_EGRESS (R118, R120, R123, R141, R154): the next row of the pass reaches egress. `badSum` names a grain whose
checksum column disagrees, `badHop` a grain at whose hop the chain residue disagrees: a compute fault, and the row enters
no group. -/
def State.rowEgress (s : State) (q sp : Nat) (badSum badHop : Option Nat) : State :=
  let x := s.span q sp
  match x.pass, s.img.run.span q sp with
  | some p, some d =>
    let o := p.op
    let (wf, xf) := s.spanFmt q sp
    let a := o.a + p.done * o.t
    let len := rowBytes xf d.grains
    if !s.inOrder q o.seq a len false then s
    else match (s.check q a len false).andThen
        (if d.streaming ∧ o.cls ≠ 2 then s.fusedCheck q sp d o.opoff (colsOf wf) p.done 1 else .ok) with
      | .ok =>
        if badSum.isSome ∨ badHop.isSome then
          let s := match badSum with
            | some g => ((s.grainErr q g F.GERR_CHECKSUM).computeFault q g).hwFault q 0x43 o.lw o.slot 4 0 (unitNo q sp g)
            | none => s
          match badHop with
          | some g =>
            let k := grainKey q sp
            let es := kvGet (fun _ => []) k s.grains.spanFaults
            let s := (s.grainErr q g F.GERR_CHAIN).hwFault q 0x43 o.lw o.slot 3 0 (unitNo q sp 0)
            let s := if es.any (fun e => Nat.blt s.epoch (e + 1024)) then s.loseQ [q] else s
            { s with grains := { s.grains with spanFaults := kvPut k (es ++ [s.epoch]) s.grains.spanFaults } }
          | none => s
        else s.rowEnters q sp d p
      | .wait => s
      | r => s.accFault q o.lw o.slot a len r
  | _, _ => s

/-! ### Drains (R154, Table 5.9) -/

/-- A chunk sum as the W192 value of a state record. -/
def csRecord (mode wf cs : Nat) : Nat := if mode ≠ 0 ∧ wf ≠ 2 then ofSigned 192 (toSigned 64 cs * 2 ^ 96) else cs

/-- The bytes of a STATE record. -/
def stateRecord (g : GroupSt) (wf : Nat) (limit : Bool) (es : List Elem) : List Byte :=
  leBytes 4 0x5343415A ++ leBytes 1 g.mode ++ leBytes 1 g.clog ++ leBytes 2 (colsOf wf) ++ leBytes 2 g.rows ++
  leBytes 2 0 ++ leBytes 4 (b2n limit) ++ leBytes 8 g.n ++ leBytes 40 0 ++
  (es.map (fun x => leBytes 24 (csRecord g.mode wf x.cs) ++ leBytes 4 x.t ++ leBytes 4 x.e)).flatten

/-- The elements of a group that is draining. -/
def State.drainElems (s : State) (q sp : Nat) (d : SpanDesc) (dr : DrainSt) : List Elem :=
  let g := (s.span q sp).group dr.group
  let wf := (s.spanFmt q sp).1
  (List.range (g.rows * colsOf wf)).map (s.elem q d g.mode wf dr.group)

/-- The close is over: the drain ends, the group is CLOSED, and the tile status `st` with LIMIT is on its way. -/
def State.drained (s : State) (q sp : Nat) (dr : DrainSt) (rest : List DrainSt) (g : GroupSt) (st : Nat) : State :=
  let s := (s.setSpan q sp { s.span q sp with drains := rest }).setGroup q sp dr.group .closed
  s.tileDone q dr.op (st + 4 * b2n (g.limit || overLimit g.mode g.clog g.n)) true

/-- A VALUE close delivers its words to the drain input (R154, R156). -/
def State.drainValue (s : State) (q sp : Nat) (d : SpanDesc) (dr : DrainSt) (rest : List DrainSt) : State :=
  let o := dr.op
  let g := (s.span q sp).group dr.group
  let wf := (s.spanFmt q sp).1
  let cols := colsOf wf
  let es := s.drainElems q sp d dr
  let rows := (List.range g.rows).map (fun r => s.fuseRow q sp d o.opoff r
    (((es.drop (r * cols)).take cols).map (elemValue g.mode g.clog wf g.n)))
  let vs := rows.flatten
  ((s.drained q sp dr rest g (f32Flags vs)).feed q 0 (vs.map (fun v => ⟨false, v, o.lw, o.slot⟩))).formCheck q

/-- A FULL or STATE close has written its bytes at CDST (Table 5.9). -/
def State.drainMemory (s : State) (q sp : Nat) (d : SpanDesc) (dr : DrainSt) (rest : List DrainSt) : State :=
  let o := dr.op
  let g := (s.span q sp).group dr.group
  let wf := (s.spanFmt q sp).1
  let es := s.drainElems q sp d dr
  let st := if o.cls = 2 then w192Flags (es.map Elem.cs)
    else if g.mode = 0 then w192Flags (es.map Elem.cs)
    else Nat.lor (f32Flags (es.map Elem.t)) (if wf = 2 then w192Flags (es.map Elem.cs) else 0)
  let bs := if o.cls = 2 then (es.map (fun e => leBytes 24 e.cs)).flatten
    else stateRecord g wf (g.limit || overLimit g.mode g.clog g.n) es
  (s.store q o.cdst bs).drained q sp dr rest g st

/-- Whether a VALUE close issued before number `seq` in quarter `q` is still to be delivered: the drain input carries the
outputs in the issue order of the operations that carry the closes (R239). -/
def State.closeAhead (s : State) (q seq : Nat) : Bool :=
  let early : SpanOp → Bool := fun o => o.cls == 1 && Nat.blt o.seq seq
  (s.qtr q).spans.any (fun p =>
    p.2.queue.any early || (p.2.pass.toList.map PassSt.op).any early || (p.2.drains.map DrainSt.op).any early)

/-- DRAIN_COMPLETE (R139, R153, R154, R184): the oldest close of the span has delivered its last byte: VALUE words to the
drain input, FULL or STATE bytes to memory; the group is CLOSED and the tile status on its way. -/
def State.endDrain (s : State) (q sp : Nat) : State :=
  let x := s.span q sp
  match x.drains, s.img.run.span q sp with
  | dr :: rest, some d =>
    let o := dr.op
    let g := x.group dr.group
    let (wf, _) := s.spanFmt q sp
    let cols := colsOf wf
    let out := closeBytes o.cls g.rows cols
    let fc := if o.cls = 1 then s.fusedCheck q sp d o.opoff cols 0 g.rows else .ok
    if o.cls = 1 ∧ s.closeAhead q o.seq = true then s
    else if fc ≠ .ok then (if fc = .wait then s else s.accFault q o.lw o.slot (scratchBase q) 64 fc)
    else if o.cls = 1 then s.drainValue q sp d dr rest
    else if !s.inOrder q o.seq o.cdst out true then s
    else match s.check q o.cdst out true with
      | .ok => s.drainMemory q sp d dr rest
      | .wait => s
      | r => s.accFault q o.lw o.slot o.cdst out r
  | _, _ => s

end Sys2Proof.Machine
end

