-- ==== Sys2Proof/Machine/Vector.lean ====
section
/-! DEFINITION. The vector engine (08_vector_engine.md): issue into its queue, the checks of R247, and the operations. -/

namespace Sys2Proof.Machine

/-! ### Issue (R185, R220, R225) -/

/-- A V slot enters the vector queue with the registers it reads at issue. -/
def State.vectorSlot (s : State) (q w : Nat) : Option State :=
  let r := (s.qtr q).snap
  let (seq, t) := s.takeSeq q
  let o : VecOp :=
    { op := slotOp w, lw := (s.qtr q).pc, seq := seq, dst := r.aN (vDst w), src1 := r.aN (vSrc1 w),
      src2 := r.aN (vSrc2 w), len := r.sN (vLen w) % 2 ^ 32, param := r.sN (vParam w), fin := vFin w, fout := vFout w,
      kind := vKind w, port := vPort w, status := if vStatusEn w then some (vStatus w) else none }
  let t := t.modQ q (fun x => { x with vq := x.vq ++ [o] })
  some (t.setF (R.VE_STATUS q) F.VE_STATUS_QUEUED (t.qtr q).vq.length)

/-- Issue a vector opcode. -/
def State.vslot (s : State) (q : BitVec 4) (op : Nat) (w : BitVec 120) : State :=
  s.issueSlot q.toNat 6 op w (fun t v => t.vectorSlot q.toNat v)

/-! ### Checks (Table 8.2, R226 to R229, R233, R235, R247) -/

/-- FP32 or BF16. -/
def isFp (f : Nat) : Bool := f == 0 || f == 1
/-- The quantized formats. -/
def isQ (f : Nat) : Bool := f == 2 || f == 3 || f == 4 || f == 7

/-- Whether the format pair is accepted (Table 8.2). -/
def vFmtOk (op fin fout : Nat) : Bool :=
  if (0x01 ≤ op ∧ op ≤ 0x07) ∨ (0x10 ≤ op ∧ op ≤ 0x13) ∨ op = 0x18 ∨ op = 0x19 then isFp fin && isFp fout
  else if op = 0x20 then fin == 5 && fout == 5
  else if op = 0x21 then fin == 5 && fout == 0
  else if op = 0x28 ∨ op = 0x29 then fin == 6 && fout == 6
  else if op = 0x2A then fin == 6 && fout == 0
  else if op = 0x30 then isFp fin && isQ fout
  else if op = 0x31 then isQ fin && isFp fout
  else fin == fout || (fin == 0 && fout == 1) || (fin == 1 && fout == 0)

/-- Whether the source kind is accepted (Table 8.2). -/
def vKindOk (op fin kind : Nat) : Bool :=
  if kind = 0 then true
  else if (0x01 ≤ op ∧ op ≤ 0x07) ∨ (0x10 ≤ op ∧ op ≤ 0x13) ∨ op = 0x30 then true
  else if op = 0x20 ∨ op = 0x21 then kind == 2
  else if op = 0x40 then fin == 0 || fin == 5
  else false

/-- Whether LEN is out of range for the operation (R228, R233). -/
def vLenBad (o : VecOp) : Bool :=
  Nat.blt 16777216 o.len ||
  ((o.fin == 3 || o.fout == 3) && o.len % 2 != 0) || ((o.fin == 4 || o.fout == 4) && o.len % 32 != 0) ||
  ((o.op == 0x18 || o.op == 0x19) && o.len == 0) ||
  ((o.op == 0x28 || o.op == 0x29) && !((List.range 15).any (fun m => Nat.ble 4 m && o.len == 2 ^ m)))

/-- Whether PARAM is out of range (R233, R235, R238). -/
def vParamBad (o : VecOp) : Bool :=
  if o.op = 0x28 ∨ o.op = 0x29 then Nat.blt 1 o.param
  else if o.op = 0x30 ∨ o.op = 0x31 then
    decide (toSigned 64 o.param < -64) || decide (63 < toSigned 64 o.param)
  else false

/-- The destination range: address and bytes. -/
def VecOp.dstLen (o : VecOp) : Nat := vecBytes o.fout (vecOutLen o.op o.len)
/-- Memory source ranges. -/
def VecOp.srcs (o : VecOp) : List (Nat × Nat) :=
  (if o.kind = 0 then [(o.src1, vecBytes o.fin o.len)] else []) ++
  (if vUsesSrc2 o.op then [(o.src2, vecBytes o.fin o.len)] else [])

/-- Whether two byte ranges meet without being identical (R227). -/
def badOverlap (a n b m : Nat) : Bool :=
  n != 0 && m != 0 && Nat.blt a (b + m) && Nat.blt b (a + n) && !(a == b && n == m)

/-- Whether [a, a + n) lies in the scratchpad of quarter `q`. -/
def inScratch (q a n : Nat) : Bool := Nat.ble (scratchBase q) a && Nat.ble (a + n) (scratchBase q + 0x200000)

/-- The first fault of R247, before the address checks. -/
def State.vecFault (s : State) (q : Nat) (o : VecOp) : Option Nat :=
  if !vFmtOk o.op o.fin o.fout then some 0x20
  else if !vKindOk o.op o.fin o.kind ∨ (o.kind = 2 ∧ !s.img.run.portRouted q o.port) then some 0x23
  else if vLenBad o then some 0x21
  else if vParamBad o then some 0x22
  else if (o.op = 0x28 ∨ o.op = 0x29) ∧
      !(inScratch q o.src1 (vecBytes o.fin o.len) && inScratch q o.dst o.dstLen) then some 0x26
  else if o.dst % 64 ≠ 0 ∨ o.srcs.any (fun p => p.1 % 64 != 0) then some 0x05
  else if o.srcs.any (fun p => badOverlap o.dst o.dstLen p.1 p.2) then some 0x25
  else none

/-- The address checks of an operation's ranges: ADDR_RANGE of any before REMOTE_WEIGHT of any (R247). -/
def State.vecCheck (s : State) (q : Nat) (o : VecOp) : Acc × Nat × Nat :=
  let rs := (o.srcs.map (fun p => (p.1, p.2, false))) ++ [(o.dst, o.dstLen, true)] ++
    (if o.op = 0x04 ∨ o.op = 0x20 then [(o.dst, o.dstLen, false)] else [])
  let cs := rs.map (fun r => (s.check q r.1 r.2.1 r.2.2, r.1, r.2.1))
  match cs.find? (fun c => c.1 == .fault 0x04) with
  | some c => c
  | none => (cs.find? (fun c => c.1 != .ok)).getD (.ok, 0, 0)

/-- The next operation leaves the vector queue. -/
def State.vecTake (s : State) (q : Nat) (rest : List VecOp) : State :=
  (s.modQ q (fun x => { x with vq := rest })).setF (R.VE_STATUS q) F.VE_STATUS_QUEUED rest.length
/-- The words an operation that reads an input finds there. -/
def State.vecWords (s : State) (q : Nat) (o : VecOp) : List FeedWord :=
  (nth (s.qtr q).feeds (if o.kind = 1 then 0 else 1 + o.port) []).take o.len
/-- A checked operation is in progress. -/
def State.vecStarts (s : State) (q : Nat) (o : VecOp) (rest : List VecOp) : State :=
  let t := ((s.vecTake q rest).modQ q (fun x => { x with vcur := some o })).raise (R.VE_STATUS q) F.VE_STATUS_BUSY
  (t.setF (R.VE_STATUS q) F.VE_STATUS_WAIT_INPUT (b2n (o.kind != 0 && Nat.blt (s.vecWords q o).length o.len))).formCheck q

/-- VE_OP_START (R225, R247): the next operation leaves the queue once none is in progress, and is checked. -/
def State.startVec (s : State) (q : Nat) : State :=
  let x := s.qtr q
  match x.vcur, x.vq with
  | none, o :: rest =>
    match s.vecFault q o with
    | some c => (s.vecTake q rest).progFault q c o.lw 6
    | none =>
      match s.vecCheck q o with
      | (.wait, _, _) => s
      | (.ok, _, _) => s.vecStarts q o rest
      | (r, a, n) => (s.vecTake q rest).accFault q o.lw 6 a n r
  | _, _ => s

/-! ### Elements (Table 8.1) -/

/-- Element `i` of a vector of `len` elements held in bytes: its pattern. B8 gives mantissa and exponent by `b8Exp`. -/
def vElem (fmt : Nat) (bs : List Byte) (i : Nat) : Nat :=
  match fmt with
  | 0 => fieldAt bs (4 * i) 4
  | 1 => fieldAt bs (2 * i) 2
  | 2 => fieldAt bs i 1
  | 3 => fieldAt bs (i / 2) 1 / 16 ^ (i % 2) % 16
  | 4 => fieldAt bs i 1
  | 5 => fieldAt bs (24 * i) 24
  | 6 => fieldAt bs (8 * i) 8
  | _ => fieldAt bs (4 * i) 4

/-- The exponent of element `i` of a B8 vector of `len` elements. -/
def b8Exp (bs : List Byte) (len i : Nat) : Int := toSigned 6 (fieldAt bs (len + i / 32) 1)

/-- Bytes of elements in a format other than I4 and B8. -/
def vBytes (fmt : Nat) (vs : List Nat) : List Byte :=
  let k := match fmt with
    | 1 => 2
    | 2 => 1
    | 5 => 24
    | 6 => 8
    | _ => 4
  (vs.map (leBytes k)).flatten

/-- Two I4 elements a byte. -/
def i4Bytes : List Nat → List Byte
  | a :: b :: t => BitVec.ofNat 8 (a % 16 + 16 * (b % 16)) :: i4Bytes t
  | [a] => [BitVec.ofNat 8 (a % 16)]
  | [] => []

/-- Widen an element to binary32. -/
def widen (fmt v : Nat) : Nat := if fmt = 1 then bf16To32 v else if (f32Val v).isNan then qnan32 else v
/-- The format descriptor of FP32 or BF16. -/
def fpFmtOf (fmt : Nat) : FpFmt := if fmt = 1 then fmtBf16 else fmt32
/-- Round a binary32 pattern to FP32 or BF16. -/
def narrow (fmt v : Nat) : Nat := if fmt = 1 then f32ToBf16 v else v

/-! ### Element-wise and reductions (R230, R231) -/

/-- Result of an element-wise or transcendental operation on binary32 operands (Table 8.3). -/
def elemOp (op fout a b c param : Nat) : Nat :=
  let f := fpFmtOf fout
  match op with
  | 0x01 => fadd f a b
  | 0x02 => fadd f a (f32NegBits b)
  | 0x03 => fmul f a b
  | 0x04 => ffma f a b c
  | 0x05 => narrow fout (f32Min a b)
  | 0x06 => narrow fout (f32Max a b)
  | 0x07 => fmul f a (param % 2 ^ 32)
  | 0x10 => fexp f a
  | 0x11 => flog f a
  | 0x12 => frcp f a
  | _ => frsqrt f a

/-- The lane sums and the pairwise tree of VSUM (R231). -/
def vsum (xs : List Nat) : Nat :=
  let lane (l : Nat) : Nat := (xs.zipIdx.filter (fun p => p.2 % 64 == l)).foldl (fun a p => f32Add a p.1) 0
  let tree (s : List Nat) (w : Nat) : List Nat := (List.range w).map (fun l => f32Add (nth s l 0) (nth s (l + w) 0))
  nth ([32, 16, 8, 4, 2, 1].foldl tree ((List.range 64).map lane)) 0 0

/-- VRMAX (R231): the greatest element by the order of FMAX, or NaN. -/
def vrmax : List Nat → Nat
  | [] => 0
  | x :: xs => xs.foldl f32Max x

/-! ### FFT (R234) -/

/-- A complex point: real and imaginary patterns. -/
structure Cpx where
  re : Nat
  im : Nat
  deriving DecidableEq, Repr

def Cpx.add (a b : Cpx) : Cpx := ⟨f32Add a.re b.re, f32Add a.im b.im⟩
def Cpx.sub (a b : Cpx) : Cpx := ⟨f32Sub a.re b.re, f32Sub a.im b.im⟩
/-- rot of R234: by −i forward, by +i inverse. -/
def Cpx.rot (z : Cpx) (inv : Bool) : Cpx :=
  if inv then ⟨f32NegBits z.im, z.re⟩ else ⟨z.im, f32NegBits z.re⟩
/-- cmul of R234. -/
def Cpx.mul (z w : Cpx) : Cpx :=
  ⟨f32Sub (f32Mul z.re w.re) (f32Mul z.im w.im), f32Add (f32Mul z.re w.im) (f32Mul z.im w.re)⟩
/-- Division of both parts by 2 or 4. -/
def Cpx.div (z : Cpx) (r : Nat) : Cpx := ⟨f32Div z.re (f32OfInt r 0), f32Div z.im (f32OfInt r 0)⟩
/-- Twiddle w(t, sg) of R234. -/
def twiddle (t n : Nat) (inv : Bool) : Cpx :=
  let (c, sn) := cosSin (t % n) n
  ⟨c, if inv then sn else if sn = 0 then 0 else f32NegBits sn⟩

/-- One butterfly: the outputs for points a, b (radix 2) or a, b, c, d (radix 4). -/
def butterfly (inv : Bool) (xs : List Cpx) : List Cpx :=
  match xs with
  | [a, b, c, d] =>
    let t0 := a.add c
    let t1 := a.sub c
    let t2 := b.add d
    let t3 := (b.sub d).rot inv
    [t0.add t2, t1.add t3, t0.sub t2, t1.sub t3]
  | [a, b] => [a.add b, a.sub b]
  | l => l

/-- One stage of length `len`, radix `r`. -/
def fftStage (n len r : Nat) (inv scale : Bool) (x : List Cpx) : List Cpx :=
  let qn := len / r
  let at0 (i : Nat) : Cpx := nth x i ⟨0, 0⟩
  (List.range n).map (fun i =>
    let b := i / len * len
    let j := (i - b) % qn
    let t := (i - b) / qn
    let ys := butterfly inv ((List.range r).map (fun k => at0 (b + j + k * qn)))
    let y := nth ys t ⟨0, 0⟩
    let y := if scale then y.div r else y
    if t * j = 0 then y else y.mul (twiddle (t * j * (n / len) % n) n inv))

/-- Every stage in turn, with the radices used (R234). -/
def fftStages (n : Nat) (inv scale : Bool) : Nat → Nat → List Cpx → List Cpx × List Nat
  | 0, _, x => (x, [])
  | fuel + 1, len, x =>
    if len ≤ 1 then (x, [])
    else
      let r := if 4 ≤ len then 4 else 2
      let (y, rs) := fftStages n inv scale fuel (len / r) (fftStage n len r inv scale x)
      (y, r :: rs)

/-- rev(k): the position whose most significant digit is k's least significant one. -/
def digitRev : List Nat → Nat → Nat → Nat
  | [], _, _ => 0
  | r :: rs, span, k => k % r * (span / r) + digitRev rs (span / r) (k / r)

/-- FFT or IFFT of a list of 2^m points. -/
def fft (inv scale : Bool) (x : List Cpx) : List Cpx :=
  let n := x.length
  let (y, rs) := fftStages n inv scale 14 n x
  (List.range n).map (fun k => nth y (digitRev rs n k) ⟨0, 0⟩)

/-! ### Quantize (R235 to R238) -/

/-- Limits of an integer format. -/
def qLimits (fmt : Nat) : Int × Int :=
  match fmt with
  | 3 => (-8, 7)
  | 7 => (-(2 ^ 31), 2 ^ 31 - 1)
  | _ => (-128, 127)

/-- Bits of an integer format. -/
def qBits (fmt : Nat) : Nat := if fmt = 3 then 4 else if fmt = 7 then 32 else 8

/-- QUANT of one element to an integer format: pattern and status bits (R235, R237). -/
def quantInt (fmt x : Nat) (p : Int) : Nat × Nat :=
  let (lo, hi) := qLimits fmt
  match f32Val x with
  | .nan => (0, 2)
  | .inf s => (ofSigned (qBits fmt) (if s then lo else hi), 1)
  | v =>
    let n := rneInt v.int (p - 149)
    (ofSigned (qBits fmt) (clampInt lo hi n), if n < lo ∨ hi < n then 8 else 0)

/-- QUANT of one block of 32 to B8: exponent, mantissas, status bits (R236, R237). -/
def quantBlock (xs : List Nat) (p : Int) : Nat × List Nat × Nat :=
  let mag (x : Nat) : Nat := match f32Val x with
    | .fin _ n => n
    | _ => 0
  let top := xs.foldl (fun a x => max a (mag x)) 0
  let big : Int := (Nat.log2 top : Nat) - 149 + p
  let e : Int := if top = 0 then -32 else clampInt (-32) 31 (big - 6)
  let ms := xs.map (fun x => match f32Val x with
    | .nan => 0
    | .inf s => ofSigned 8 (if s then -128 else 127)
    | v => ofSigned 8 (clampInt (-128) 127 (rneInt v.int (p - e - 149))))
  let sat : Bool := top != 0 && decide (31 < big - 6)
  (ofSigned 6 e, ms, f32Flags xs + 8 * b2n sat)

/-- Blocks of 32. -/
def blocks32 (xs : List Nat) : List (List Nat) :=
  (List.range (xs.length / 32)).map (fun i => (xs.drop (32 * i)).take 32)

/-- DEQUANT of one element: `i × 2^e` rounded once (R238). -/
def dequant (fout : Nat) (i e : Int) : Nat := roundTo (fpFmtOf fout) (decide (i < 0)) i.natAbs e

/-! ### Whole operations -/

/-- INF and NAN of values delivered in a format (R241). -/
def vFlags (fmt : Nat) (vs : List Nat) : Nat :=
  if fmt = 5 then w192Flags vs
  else if fmt = 6 then f32Flags ((vs.map (fun v => [v % 2 ^ 32, v / 2 ^ 32])).flatten)
  else if fmt = 0 then f32Flags vs
  else if fmt = 1 then f32Flags (vs.map (fun v => v * 2 ^ 16))
  else 0

/-- The output bytes and status of an operation from its source words, its second source and its old destination. -/
def vecResult (o : VecOp) (src1 : List Nat) (raw1 raw2 old : List Byte) : List Byte × Nat :=
  let n := o.len
  let a (i : Nat) : Nat := widen o.fin (nth src1 i 0)
  let p := toSigned 64 o.param
  let out (vs : List Nat) : List Byte × Nat := (vBytes o.fout vs, vFlags o.fout vs)
  if (0x01 ≤ o.op ∧ o.op ≤ 0x07) ∨ (0x10 ≤ o.op ∧ o.op ≤ 0x13) then
    out ((List.range n).map (fun i =>
      elemOp o.op o.fout (a i) (widen o.fin (vElem o.fin raw2 i)) (widen o.fout (vElem o.fout old i)) o.param))
  else if o.op = 0x18 then out [narrow o.fout (vsum ((List.range n).map a))]
  else if o.op = 0x19 then out [narrow o.fout (vrmax ((List.range n).map a))]
  else if o.op = 0x20 then out ((List.range n).map (fun i => w192Add (vElem 5 old i) (nth src1 i 0)))
  else if o.op = 0x21 then out ((List.range n).map (fun i => w192To32 (nth src1 i 0)))
  else if o.op = 0x28 ∨ o.op = 0x29 then
    let ys := fft (o.op == 0x29) (bitOf o.param 0) (src1.map (fun v => ⟨v % 2 ^ 32, v / 2 ^ 32⟩))
    out (ys.map (fun z => z.re + 2 ^ 32 * z.im))
  else if o.op = 0x2A then
    out (src1.map (fun v =>
      let re := v % 2 ^ 32
      let im := v / 2 ^ 32
      match f32Val re, f32Val im with
      | .fin s m, .fin t k =>
        let i := (FVal.fin s m).int ^ 2 + (FVal.fin t k).int ^ 2
        roundTo fmt32 false i.natAbs (-298)
      | .nan, _ => qnan32
      | _, .nan => qnan32
      | _, _ => f32Inf false))
  else if o.op = 0x30 then
    let xs := (List.range n).map a
    if o.fout = 4 then
      let bs := (blocks32 xs).map (fun b => quantBlock b p)
      (padTo (vecBytes 4 n) (vBytes 2 (bs.map (fun b => b.2.1)).flatten ++ vBytes 2 (bs.map Prod.fst)),
        bs.foldl (fun f b => Nat.lor f b.2.2) 0)
    else
      let qs := xs.map (fun x => quantInt o.fout x p)
      let vs := qs.map Prod.fst
      (if o.fout = 3 then i4Bytes vs else vBytes o.fout vs, qs.foldl (fun f b => Nat.lor f b.2) 0)
  else if o.op = 0x31 then
    out ((List.range n).map (fun i =>
      let v := vElem o.fin raw1 i
      let i0 := toSigned (qBits o.fin) v
      dequant o.fout i0 (p + if o.fin = 4 then b8Exp raw1 n i else 0)))
  else if o.fin = o.fout then
    if o.kind = 0 then (raw1, vFlags o.fin ((List.range n).map (vElem o.fin raw1)))
    else out src1
  else out ((List.range n).map (fun i => narrow o.fout (a i)))

/-- Count a finished operation's status for the commit (R241); DEBUG counts nothing. -/
def State.countVec (s : State) (q st : Nat) : State :=
  if s.qState q = 5 then s
  else s.modQ q (fun x =>
    { x with
      vops := x.vops + 1
      vsat := x.vsat + b2n (bitOf st 3)
      vnonfin := x.vnonfin + b2n (st % 4 != 0)
      vflags := Nat.lor x.vflags st
      tileFlags := Nat.lor x.tileFlags (st % 4) })

/-- The output bytes and the status of an operation whose input is there. -/
def State.vecOut (s : State) (q : Nat) (o : VecOp) : List Byte × Nat :=
  let raw1 := if o.kind = 0 then s.load o.src1 (vecBytes o.fin o.len) else []
  let src1 := if o.kind = 0 then (List.range o.len).map (vElem o.fin raw1) else (s.vecWords q o).map FeedWord.pat
  let raw2 := if vUsesSrc2 o.op then s.load o.src2 (vecBytes o.fin o.len) else []
  let old := if o.op = 0x04 ∨ o.op = 0x20 then s.load o.dst o.dstLen else []
  if o.len = 0 then ([], 0) else vecResult o src1 raw1 raw2 old

/-- The operation has consumed its words and written its last result; its status is on its way. -/
def State.vecEnds (s : State) (q : Nat) (o : VecOp) : State :=
  let k := if o.kind = 1 then 0 else 1 + o.port
  let (bs, st) := s.vecOut q o
  let s := if o.kind = 0 then s
    else s.modQ q (fun x => { x with feeds := setNth x.feeds k ((nth x.feeds k []).drop o.len) })
  let s := (s.store q o.dst bs).modQ q (fun x => { x with vcur := none })
  let s := (s.drop (R.VE_STATUS q) F.VE_STATUS_BUSY).drop (R.VE_STATUS q) F.VE_STATUS_WAIT_INPUT
  let s := s.countVec q st
  match o.status with
  | some i => s.pendReg q ⟨.s, i⟩ st none
  | none => s

/-- VE_OP_COMPLETE (R240, R241, R246): the operation in progress has its input, writes its last result and sends its status
on its way. `badCheck` is a residue mismatch or an uncorrectable buffer error. It waits for words that have not arrived and
for earlier accesses to its blocks. -/
def State.endVec (s : State) (q : Nat) (badCheck : Bool) : State :=
  let x := s.qtr q
  match x.vcur with
  | none => s
  | some o =>
    if badCheck then
      (s.raise (R.VE_ERR q) F.VE_ERR_CHECK).hwFault q 0x43 o.lw 6 2 0 (unitNo q 0 0)
    else if o.kind ≠ 0 ∧ (s.vecWords q o).length < o.len then s
    else if !(o.srcs.all (fun p => s.inOrder q o.seq p.1 p.2 false) && s.inOrder q o.seq o.dst o.dstLen true) then s
    else match s.vecCheck q o with
      | (.ok, _, _) => s.vecEnds q o
      | (.wait, _, _) => s
      | (r, a, n) => s.accFault q o.lw 6 a n r

/-! ### Input with no consumer, consumer with no input (R244) -/

/-- Whether the next long word waits on a full span or vector queue, or on a register that a span or vector operation
writes. -/
def State.lwStuck (s : State) (q : Nat) : Bool :=
  let x := s.qtr q
  let ws := x.lw x.pc
  (x.slot == 0 && x.waiting.isNone && x.done.isNone && x.fence.isNone) &&
  (x.statusDue.any (fun r => (lwNeeds 0 ws).contains r) || s.unitFull q (landNeeded x (lwNeeds 0 ws)).regs ws)

/-- Whether the sequencer cannot issue for one of the reasons of R244. -/
def State.cannotIssue (s : State) (q : Nat) : Bool :=
  let x := s.qtr q
  (x.done.isSome && x.slot == 0) || x.fence.isSome || s.lwStuck q

/-- Whether an operation of the engine reads input `k`. -/
def Quarter.reads (x : Quarter) (k : Nat) : Bool :=
  (x.vq ++ x.vcur.toList).any (fun o => o.kind != 0 && (if o.kind = 1 then 0 else 1 + o.port) == k)

/-- Raise VE_UNDRAINED: an input holds words that no operation reads while the sequencer cannot issue. -/
def State.checkUndrained (s : State) (q : Nat) : State :=
  let x := s.qtr q
  if !(s.qState q == 2 || s.qState q == 5) || !s.cannotIssue q then s
  else match (List.range 5).findSome? (fun k =>
      if x.reads k then none else (nth x.feeds k []).head?) with
    | some w => s.progFault q 0x27 w.lw w.slot
    | none => s

/-- Whether an issued span operation will still deliver words to input `k`. -/
def State.willFeed (s : State) (q k : Nat) : Bool :=
  (s.qtr q).spans.any (fun p =>
    match s.img.run.span q p.1 with
    | none => false
    | some d =>
      let ops := p.2.queue ++ (p.2.pass.map PassSt.op).toList ++ p.2.drains.map DrainSt.op
      if d.streaming then k == 1 + (s.img.run.spanPort q p.1).getD 0 && ops.any (fun o => o.kind = .span)
      else k == 0 && ops.any (fun o => o.cls == 1))

/-- VE_STARVED (R244): the operation in progress waits for words that no issued span operation will deliver, and the
sequencer cannot issue; VE_UNDRAINED goes first. -/
def State.starved (s : State) (q : Nat) : State :=
  let s := s.checkUndrained q
  if (s.qtr q).faulted then s
  else match (s.qtr q).vcur with
    | none => s
    | some o =>
      let k := if o.kind = 1 then 0 else 1 + o.port
      if o.kind ≠ 0 ∧ (nth (s.qtr q).feeds k []).length < o.len ∧ !s.willFeed q k ∧ s.cannotIssue q then
        s.progFault q 0x28 o.lw 6
      else s

end Sys2Proof.Machine
end

