-- ==== Sys2Proof/Machine/Grain.lean ====
section
/-! DEFINITION. Quarter control (R189, R190, R195, R196), grain retirement, spare remap, self-test and scrubbing
(R114, R122 to R127, R304). -/

namespace Sys2Proof.Machine

/-- POWER_STATE (Table 13.1): 0 OFF, 1 BRINGUP, 2 ON, 3 HARBOUR, 4 SERVICE. -/
def State.power (s : State) : Nat := s.getF R.SYS_STATE F.SYS_STATE_POWER_STATE

/-! ### Launch (R135, R166, R245) -/

/-- Address of the epoch header of epoch `n` (R167, R285). -/
def State.headerAddr (s : State) (n : Nat) : Nat :=
  (s.img.run.logDie.getD 0) * 0x400000000 + hubArea + n % 8 * 0x800000

/-- The quarter as RUN begins, a replay begins or DEBUG is entered: R166's registers, nothing queued, nothing counted. -/
def Quarter.launched (x : Quarter) (q header variant : Nat) : Quarter :=
  let r := ((SeqRegs.zero.put ⟨.a, 0⟩ header).put ⟨.s, 1⟩ q).put ⟨.s, 2⟩ variant
  { Quarter.zero with
    regs := r, snap := r, pc := x.entry, shadow := x.shadow, faultRun := x.faultRun, imem := x.imem, entry := x.entry,
    count := x.count, testRot := x.testRot, testGap := x.testGap, test := x.test }

/-- Start a quarter at ENTRY on the log of epoch `n` (R166); the vector engine and the groups are empty. -/
def State.launchAt (s : State) (q n : Nat) : State :=
  let s := s.modQ q (fun x => x.launched q (s.headerAddr n) s.img.run.variant)
  let s := s.setReg64 (R.LOG_BASE_LO q) (s.headerAddr n)
  (s.setRegN (R.VE_STATUS q) 0).drop (R.QSTATUS q) F.QSTATUS_LIVE_READ
/-- Start a quarter on the log of the present epoch. -/
def State.launchQ (s : State) (q : Nat) : State := s.launchAt q s.epoch

/-- What a stop, a rollback or a skip leaves of a quarter's work: nothing (R129, R163, R245). -/
def State.abandonQ (s : State) (q : Nat) : State :=
  let s := s.modQ q (fun x => { x.launched q 0 0 with lastLw := x.lastLw, lwCount := x.lwCount, faulted := x.faulted })
  (s.setRegN (R.VE_STATUS q) 0).drop (R.QSTATUS q) F.QSTATUS_WAITING

/-! ### QCMD and QDBG (R190, R196) -/

/-- A START (1) or STOP (2) goes into the command shadow of its quarter; the last one before the commit counts. -/
def State.qcmd (s : State) (q v : Nat) : State :=
  let s := s.modQ q (fun x => { x with shadow := some v })
  (s.setF (R.QSTATUS q) F.QSTATUS_START_PENDING (b2n (v == 1))).setF (R.QSTATUS q) F.QSTATUS_STOP_PENDING (b2n (v == 2))

/-- The shadowed command takes effect, or is refused, at the end of a commit (R190). -/
def State.applyQcmd (s : State) (q : Nat) : State :=
  match (s.qtr q).shadow with
  | none => s
  | some v =>
    let s := s.modQ q (fun x => { x with shadow := none })
    let s := (s.drop (R.QSTATUS q) F.QSTATUS_START_PENDING).drop (R.QSTATUS q) F.QSTATUS_STOP_PENDING
    if v = 2 then (if s.qActive q then s.setQState q 0 else s)
    else if !s.img.run.activeQ q || s.isLost q || !s.img.run.runs (q / 4) || s.memState (q / 4) != 3 ||
        (dieQ (q / 4)).any (fun k => s.qState k == 5) then s.raise (R.QERR q) F.QERR_CMD_REJECT
    else if s.qState q = 0 ∨ s.qState q = 4 then s.setQState q 1 else s

/-- DEBUG_ENTER (R196): a STOPPED quarter in SERVICE, else CMD_REJECT. -/
def State.debugEnter (s : State) (q : Nat) : State :=
  if s.power = 4 ∧ s.qState q = 0 then
    let s := (s.launchQ q).setQState q 5
    s.setRegN (R.DEBUG_PC q) ((s.qtr q).entry % 2048)
  else s.raise (R.QERR q) F.QERR_CMD_REJECT

/-- DEBUG_EXIT (R196): the quarter's debug writes are put back, newest first, and it is STOPPED. -/
def State.debugExit (s : State) (q : Nat) : State :=
  if s.qState q = 5 then
    let mine := s.mem.dbgJournal.filter (fun e => e.1 == q)
    let s := mine.foldl (fun s e => s.restoreBlock e.2) s
    let s := { s with mem := { s.mem with dbgJournal := s.mem.dbgJournal.filter (fun e => e.1 != q) } }
    ((s.abandonQ q).setQState q 0).setRegN (R.DEBUG_PC q) 0
  else s.raise (R.QERR q) F.QERR_CMD_REJECT

/-- STEP of `n` long words (R196). -/
def State.debugStep (s : State) (q n : Nat) : State :=
  if n = 0 then s.raise (R.QERR q) F.QERR_BAD_WRITE
  else if s.qState q = 5 then s.modQ q (fun x => { x with credit := x.credit + n })
  else s.raise (R.QERR q) F.QERR_CMD_REJECT

/-! ### Retirement and remap (R122, R304) -/

/-- The spare that can take the place of a grain of span `sp` (R304). -/
def State.findSpare (s : State) (q sp : Nat) : Option Nat :=
  ((s.img.run.spares q).find? (fun r => s.gState q r.1 == 1 && (r.2 == 0xFF || r.2 == sp))).map Prod.fst

/-- Put spare `n` in the place of grain `g` (R122): its word, its committed sources and CRCs, its committed active bank; its
banks load. -/
def State.remap (s : State) (q g n : Nat) : State :=
  let w := s.regN (R.GCFG q g)
  let act := (kvFind (grainKey q g) s.grains.actUndo).getD (s.gActive q g)
  let s := s.setRegN (R.GCFG q n) (w % 2 ^ 16 + act * 2 ^ 16)
  let s := (s.setGState q n 2).setF (R.GSTATE q n) F.GSTATE_ACTIVE_BANK act
  let d := s.img.run.span q (w % 128)
  (List.range 4).foldl (fun s b =>
    let src := s.reg64 (R.BANK_SRC_LO q g b)
    let xsrc := s.reg64 (R.BANK_XSRC_LO q g b)
    let crc := s.regN (R.BANK_CRC q g b)
    let home := match d with
      | some d => d.bankHome (bitsOf w 11 7) b
      | none => 0
    let from0 := if src = 0 ∧ crc = 0 then home else src
    let s := (s.setReg64 (R.BANK_SRC_LO q n b) from0).setReg64 (R.BANK_XSRC_LO q n b) xsrc
    let s := s.setRegN (R.BANK_CRC q n b) crc
    s.addJob ⟨q, n, b, from0, xsrc, if src = 0 ∧ crc = 0 then none else some crc, 2, 0, 0, 0, true⟩) s

/-- Retire a grain for a cause of Table 10.10: a working grain's spare takes its place, or its quarter becomes lost. -/
def State.retireGrain (s : State) (k cause : Nat) : State :=
  let q := k / 96
  let g := k % 96
  let st := s.gState q g
  let sp := s.gSpanOf q g
  if st = 0 ∨ st = 3 then s
  else
    let s := if cause = 15 then s.grainErr q g F.GERR_RETIRED else s
    if st = 1 then (s.failGrain q g).event 4 cause 10 (unitNo q sp g) 0
    else match s.findSpare q sp with
      | some n =>
        let act := s.failGrain q g
        ((act.remap q g n).event 4 cause 1 (unitNo q sp g) 0).setCapacity
      | none =>
        let t := (s.failGrain q g).loseQ [q]
        { t with rcv := { t.rcv with lossNote := some ⟨4, cause, unitNo q sp g, 0⟩ } }

/-- Retire every grain that has been found bad (R124). -/
def State.retireDead (s : State) : State :=
  let ds := s.grains.dead
  ds.foldl (fun s d => s.retireGrain d.1 d.2) { s with grains := { s.grains with dead := [] } }

/-- RETIRE writes take effect at their commit (R124). -/
def State.retireAsked (s : State) : State :=
  let ds := s.grains.retire
  ds.foldl (fun s k => s.retireGrain k 15) { s with grains := { s.grains with retire := [] } }

/-! ### Self-test (R126, R127) and scrubbing (R125) -/

/-- Whether a bank may be tested (R126, R127). -/
def State.eligible (s : State) (q g b : Nat) : Bool :=
  let only := s.flag (R.SELFTEST_CTRL (q / 4)) F.SELFTEST_CTRL_SPARES_ONLY
  (s.gState q g == 1 && s.bank q g b != 4) ||
  (s.gState q g == 2 && !only && s.bank q g b == 0 && s.gActive q g != b)

/-- SELFTEST_START (R126): GAP launches after the last start, the next eligible bank in rotation is TESTING. -/
def State.startTest (s : State) (q : Nat) : State :=
  let x := s.qtr q
  let c := R.SELFTEST_CTRL (q / 4)
  if !s.flag c F.SELFTEST_CTRL_ENABLE || x.testGap < s.getF c F.SELFTEST_CTRL_GAP || x.test.isSome then s
  else
    match ((List.range 384).map (fun i => (x.testRot + i) % 384)).find? (fun k => s.eligible q (k / 4) (k % 4)) with
    | none => s
    | some k =>
      (s.setBank q (k / 4) (k % 4) 4).modQ q
        (fun x => { x with test := some (k / 4, k % 4), testRot := (k + 1) % 384, testGap := 0 })

/-- MARCH_TEST_COMPLETE (R127): the bank becomes EMPTY; a failure is a latent fault and the grain fails at the start of the
commit. -/
def State.endTest (s : State) (q : Nat) (failed : Bool) : State :=
  match (s.qtr q).test with
  | none => s
  | some (g, b) =>
    let s := (s.modQ q (fun x => { x with test := none })).setBank q g b 0
    let s := s.inc (R.MARCH_CNT q g)
    if failed then
      let s := (s.grainErr q g F.GERR_MARCH).raise (R.GW_ERR (q / 4)) F.GW_ERR_MARCH_FAIL
      let s := (s.inc R.LATENT_CNT).event 4 3 10 (unitNo q (s.gSpanOf q g) g) 0
      { s with grains := { s.grains with dead := s.grains.dead ++ [(grainKey q g, 3)] } }
    else s.inc (R.SELFTEST_PASSES (q / 4))

/-- GRAIN_SCRUB (R125): `err` 1 is a correctable error, 2 or 3 an uncorrectable one, of a non-active LOADED bank. -/
def State.scrubGrain (s : State) (q g b err : Nat) : State :=
  if s.bank q g b ≠ 2 ∨ s.gActive q g = b then s
  else if err = 0 then s
  else if err = 1 then s.incSat (R.ECC_CNT q g)
  else
    let s := ((s.noteBank q g b).setBank q g b 3).eccGrain q g
    (s.inc R.LATENT_CNT).event 4 2 10 (unitNo q (s.gSpanOf q g) g) 0

/-! ### Discard of an epoch's bank changes (R114) -/

/-- Banks loaded and actives switched in the epoch return to their committed states; loads of the epoch are abandoned. -/
def State.undoBanks (s : State) : State :=
  let s := s.grains.undo.foldl (fun s e =>
    let k := e.1
    let (q, g, b) := (k / 384, k / 4 % 96, k % 4)
    let s := s.setRegN (R.BANK_CRC q g b) e.2.crc
    if s.gState q g = 3 then s else s.setBank q g b (if e.2.wasEmpty then 0 else 3)) s
  let s := s.grains.actUndo.foldl (fun s e =>
    s.setF (R.GSTATE (e.1 / 96) (e.1 % 96)) F.GSTATE_ACTIVE_BANK e.2) s
  -- a restore in progress leaves its bank STALE; a spare's load goes on
  let s := (s.grains.jobs.filter (fun j => j.kind == 1)).foldl (fun s j => s.setBank j.q j.g j.b 3) s
  { s with grains := { s.grains with
      undo := [], actUndo := [], newSrc := [], jobs := s.grains.jobs.filter (fun j => j.kind == 2) } }

/-- A commit makes the epoch's bank states and sources the committed ones (R114). -/
def State.keepBanks (s : State) : State :=
  let s := s.grains.newSrc.foldl (fun s e =>
    let k := e.1
    let (q, g, b) := (k / 384, k / 4 % 96, k % 4)
    (s.setReg64 (R.BANK_SRC_LO q g b) e.2.1).setReg64 (R.BANK_XSRC_LO q g b) e.2.2) s
  { s with grains := { s.grains with undo := [], actUndo := [], newSrc := [] } }

end Sys2Proof.Machine
end

