-- ==== Sys2Proof/Machine/Power.lean ====
section
/-! DEFINITION. Feeds, temperatures, fans, die power and the PWR_CMD and SYS_CMD commands (13_power_bringup_harbour.md). -/

namespace Sys2Proof.Machine

/-- Whether the hub firmware runs: from the end of bring-up step 3 (Table 13.2) until supply is lost. -/
def State.firmware (s : State) : Bool := s.pwr.ended.contains 3 && s.power != 0
/-- Change the power state record. -/
def State.modP (s : State) (f : PwrSt → PwrSt) : State := { s with pwr := f s.pwr }

/-! ### Feeds (R394) -/

/-- FEED_OK of a feed: A for false, B for true. -/
def feedFld (b : Bool) : Fld := if b then F.PWR_STATUS_FEED_B_OK else F.PWR_STATUS_FEED_A_OK
/-- FEED_A_MV or FEED_B_MV. -/
def feedMv (b : Bool) : Nat := if b then R.FEED_B_MV else R.FEED_A_MV

/-- FEED_LOST: below 17.0 V for 1 ms. -/
def State.feedLost (s : State) (b : Bool) (mv : Nat) : State :=
  if mv < 17000 then
    ((s.setRegN (feedMv b) mv).drop R.PWR_STATUS (feedFld b)).raise R.PWR_ERR F.PWR_ERR_FEED_LOST
  else s

/-- FEED_RESTORED: at or above 18.0 V for 100 ms. -/
def State.feedRestored (s : State) (b : Bool) (mv : Nat) : State :=
  if 18000 ≤ mv then (s.setRegN (feedMv b) (mv % 65536)).raise R.PWR_STATUS (feedFld b) else s

/-! ### Die power (R131, R265, R268, R270) -/

/-- DIE_ON of die `d`. -/
def dieOnFld (d : Nat) : Fld := ⟨3 + d, 1⟩
/-- DIE_TRIPPED of die `d`. -/
def dieTripFld (d : Nat) : Fld := ⟨7 + d, 1⟩
/-- Whether die `d` is powered. -/
def State.dieOn (s : State) (d : Nat) : Bool := s.flag R.PWR_STATUS (dieOnFld d)

/-- Set both ends of the link between dies `a` and `b`. -/
def State.setLink (s : State) (a b st : Nat) : State :=
  (s.setF (R.LINK_STATUS a) (linkFld (linkIndex a b)) st).setF (R.LINK_STATUS b) (linkFld (linkIndex b a)) st

/-- The links of die `d` become DISABLED, detours over them end (Table 9.5). -/
def State.linksOff (s : State) (d : Nat) : State :=
  let s := ((List.range 4).filter (fun b => b != d)).foldl (fun s b =>
    let s := s.setLink d b 0
    (s.setF (R.LINK_STATUS d) ⟨12 + linkIndex d b, 1⟩ 0).setF (R.LINK_STATUS b) ⟨12 + linkIndex b d, 1⟩ 0) s
  s.setF (R.LINK_STATUS d) (linkFld 3) 0

/-- Every bank of the die EMPTY (R131); jobs and tests on them end. The hub's copy keeps which banks hold weights. -/
def State.emptyBanks (s : State) (d : Nat) : State :=
  let ks := ((dieQ d).map (fun q => (allG.map (fun g => (List.range 4).map (fun b => (q, g, b)))).flatten)).flatten
  let held := ks.filter (fun k => s.bank k.1 k.2.1 k.2.2 == 2 || s.bank k.1 k.2.1 k.2.2 == 3)
  let s := held.foldl (fun s k => s.setBank k.1 k.2.1 k.2.2 0) s
  let s := (ks.filter (fun k => s.bank k.1 k.2.1 k.2.2 != 0)).foldl (fun s k => s.setBank k.1 k.2.1 k.2.2 0) s
  let s := (dieQ d).foldl (fun s q => s.modQ q (fun x => { x with test := none })) s
  let keys := held.map (fun k => bankKey k.1 k.2.1 k.2.2)
  { s with grains := { s.grains with
      jobs := s.grains.jobs.filter (fun j => j.q / 4 != d)
      kept := s.grains.kept.filter (fun k => k / 1536 != d) ++ keys } }

/-- Forget memory of die `d`: direct range and scratchpads read zero again after the fill (R269, R270). -/
def State.clearDie (s : State) (d : Nat) : State :=
  let m := memClear (memClear s.mem.bytes (d * 0x400000000) 0x400000000) (0x2000000000 + d * 0x800000) 0x800000
  let s := { s with mem := { s.mem with bytes := m, poison := s.mem.poison.filter (fun k => dieOf k != d) } }
  s.setF (R.MEM_STATUS d) F.MEM_STATUS_POISONED 0

/-- Power is removed from die `d`: memory OFF, links DISABLED, banks EMPTY, memory lost. Sensors that are off warn of nothing; the
junction of a tripped die is still watched (R415). -/
def State.dieOff (s : State) (d : Nat) : State :=
  let s := (s.drop R.PWR_STATUS (dieOnFld d)).setF (R.MEM_STATUS d) F.MEM_STATUS_STATE 0
  let s := ((s.linksOff d).emptyBanks d).clearDie d
  let s := (s.setRegN (R.TEMP_DIE d) 0).setRegN (R.RAIL d) 0
  let s := { s with time := { s.time with railed := s.time.railed.filter (fun x => x != d) } }
  let s := s.modP (fun p => { p with warn := p.warn.filter (fun k => k != 4 + d && (k != d || p.hot.contains d)) })
  let s := s.setF R.PWR_STATUS F.PWR_STATUS_THERM_WARN (b2n (!s.pwr.warn.isEmpty))
  (dieQ d).foldl (fun s q => if s.qState q = 0 then s else (s.abandonQ q).setQState q 0) s

/-- The links of die `d` train: its hub link, and its links with powered dies that the configuration enables (R265). -/
def State.linksTrain (s : State) (d : Nat) : State :=
  let s := s.setF (R.LINK_STATUS d) (linkFld 3) 1
  ((List.range 4).filter (fun b => b != d && s.dieOn b && s.img.run.linked d b)).foldl (fun s b => s.setLink d b 1) s

/-- Power is applied to die `d` (step 6 of Table 13.2): memory and links train. -/
def State.dieUp (s : State) (d : Nat) : State :=
  let s := (s.raise R.PWR_STATUS (dieOnFld d)).setF (R.MEM_STATUS d) F.MEM_STATUS_STATE 1
  let s := s.modP (fun p => { p with selfRef := p.selfRef.filter (fun x => x != d) })
  s.linksTrain d

/-- A die is lost to a power fault of its rails or to a trip (Table 10.8, R415): rollback, and loss resolved at the skip. -/
def State.diePowerFault (s : State) (d : Nat) : State :=
  if s.dieOn d then ((s.dieOff d).detect 1 13 d 0).loseQ (dieQ d) else s

/-- DIE_TRIP (R415). -/
def State.dieTrip (s : State) (d : Nat) : State :=
  if s.dieOn d then
    let s := (s.raise R.PWR_STATUS (dieTripFld d)).raise R.PWR_ERR F.PWR_ERR_DIE_TRIP
    let s := s.modP (fun p => { p with hot := d :: p.hot })
    (s.inc R.TRIP_CNT).diePowerFault d
  else s

/-! ### Temperatures and fans (R413 to R417, Table 13.7) -/

/-- The sensors of TEMPERATURE_READING: 0–3 die junctions, 4–7 memory devices, 8 hub, 9 inlet air, 10 outlet air, 11
coolant inlet. Warning threshold in 0.1 °C. -/
def warnAt (k : Nat) : Option Int :=
  if k < 4 then some 950 else if k < 8 then some 850 else if k = 8 then some 1000 else if k = 9 then some 550
  else if k = 11 then some 400 else none

/-- Trip threshold in 0.1 °C. -/
def tripAt (k : Nat) : Option Int := if k < 8 then some 1050 else if k = 8 then some 1150 else none

/-- The register of a sensor. -/
def tempReg (k : Nat) : Option Nat :=
  if k < 4 then some (R.TEMP_DIE k) else if k < 8 then none else if k = 8 then some R.TEMP_HUB
  else if k = 9 then some R.TEMP_INLET else if k = 10 then some R.TEMP_OUTLET else if k = 11 then some R.TEMP_COOLANT
  else none

/-- The temperature a register holds, in 0.1 °C. -/
def State.temp (s : State) (a : Nat) : Int := toSigned 16 (s.regN a)

/-- Whether a fan has failed. -/
def State.fanFailed (s : State) : Bool :=
  (List.range 3).any (fun k => s.flag (R.FAN k) F.FAN_PRESENT && s.flag (R.FAN k) F.FAN_FAIL)

/-- The common fan duty (R407, R413, R414). Between its bounds the law is the node's own, so the duty is a free value there;
it falls by at most 5 from one reading to the next. -/
def State.setDuty (s : State) : State :=
  let lo := s.getF R.FAN_CTRL F.FAN_CTRL_FAN_MIN
  let hotCeil := s.flag R.TIME_STATUS F.TIME_STATUS_PACE_AT_CEIL &&
    (List.range 4).any (fun d => decide (900 < s.temp (R.TEMP_DIE d)))
  if s.flag R.FAN_CTRL F.FAN_CTRL_MANUAL then
    s.modP (fun p => { p with duty := s.getF R.FAN_CTRL F.FAN_CTRL_DUTY })
  else if !s.pwr.warn.isEmpty || hotCeil || s.fanFailed then s.modP (fun p => { p with duty := 100 })
  else if s.power = 3 then s.modP (fun p => { p with duty := lo })
  else
    let (v, s) := s.fresh
    let floor := max lo (s.pwr.duty - 5)
    s.modP (fun p => { p with duty := floor + v.toNat % (101 - min floor 100) })

/-- Warnings of Table 13.7: set at the threshold, cleared 5 °C lower. -/
def State.warnings (s : State) (k : Nat) (t : Int) : State :=
  match warnAt k with
  | none => s
  | some w =>
    let was := s.pwr.warn.contains k
    let s := if w ≤ t ∧ !was then
        let s := (s.modP (fun p => { p with warn := p.warn ++ [k] })).raise R.PWR_ERR F.PWR_ERR_THERM_WARN
        if k = 11 then s.raise R.PWR_ERR F.PWR_ERR_COOLANT_HOT else s
      else if t ≤ w - 50 ∧ was then s.modP (fun p => { p with warn := p.warn.filter (fun x => x != k) })
      else s
    s.setF R.PWR_STATUS F.PWR_STATUS_THERM_WARN (b2n (!s.pwr.warn.isEmpty))

/-- A reading lands in its register with VALID, and its warning follows; absent sensors (outlet and inlet air of a ZN-4-L,
coolant of a ZN-4-A) read nothing, and the register of a die that is off shows nothing. A tripped die below 85 °C is no longer hot
(R415). -/
def State.takeTemp (s : State) (k : Nat) (t : Int) : State :=
  let liquid := s.flag R.PWR_STATUS F.PWR_STATUS_COOLING
  if (k = 11 ∧ !liquid) ∨ (k = 9 ∧ liquid) ∨ (k < 4 ∧ !s.dieOn k ∧ !s.flag R.PWR_STATUS (dieTripFld k)) ∨ (4 ≤ k ∧ k < 8 ∧ !s.dieOn (k - 4)) then s
  else
    let s := if t < 850 then s.modP (fun p => { p with hot := p.hot.filter (fun d => d != k) }) else s
    let s := match tempReg k with
      | some a => if k < 4 ∧ !s.dieOn k then s else s.setRegN a (ofSigned 16 t + 2 ^ 16)
      | none => s
    (s.warnings k t).setDuty

/-- FAN_FAIL (R417). -/
def State.fanFail (s : State) (k : Nat) : State :=
  if s.flag (R.FAN k) F.FAN_PRESENT then
    let s := ((s.raise (R.FAN k) F.FAN_FAIL).raise R.PWR_ERR F.PWR_ERR_FAN_FAIL).raise R.PWR_STATUS F.PWR_STATUS_FAN_FAIL
    s.setDuty
  else s

/-- FAN_CTRL_WRITE (R414): reserved duty, target or minimum is BAD_WRITE; MANUAL only in SERVICE. -/
def State.fanCtrl (s : State) (v : Nat) : State :=
  let f (x : Fld) : Nat := x.get (BitVec.ofNat 32 v)
  let bad := !(Nat.ble 20 (f F.FAN_CTRL_DUTY) && Nat.ble (f F.FAN_CTRL_DUTY) 100 && Nat.ble 60 (f F.FAN_CTRL_TARGET) &&
    Nat.ble (f F.FAN_CTRL_TARGET) 90 && Nat.ble 10 (f F.FAN_CTRL_FAN_MIN) && Nat.ble (f F.FAN_CTRL_FAN_MIN) 50)
  if bad then s.raise R.PWR_ERR F.PWR_ERR_BAD_WRITE
  else if f F.FAN_CTRL_MANUAL = 1 ∧ s.power ≠ 4 then s.raise R.PWR_ERR F.PWR_ERR_CMD_REJECT
  else (s.setRegN R.FAN_CTRL (Nat.land v 0xFFFFFF01)).setDuty

/-- DRAM_TEMP_READING (R278): MR4 of die `d` in °C. -/
def State.dramTemp (s : State) (d : Nat) (t : Int) : State :=
  if s.dieOn d then
    let s := s.setRegN (R.DRAM_TEMP d) (ofSigned 8 t + 256)
    let s := s.setF (R.MEM_STATUS d) F.MEM_STATUS_REFRESH_2X (b2n (decide (85 < t)))
    s.setF (R.MEM_STATUS d) F.MEM_STATUS_HOT (b2n (decide (95 < t)))
  else s

/-! ### PWR_CMD (R403, R411) -/

/-- STATE of the unit in its pair (Table 12.2): 0 SINGLE, 1 DETACHED, 2 SYNCING, 3 STANDBY, 4 TAKING, 5 ACTIVE,
6 RELEASING, 7 FENCED. -/
def State.pairState (s : State) : Nat := s.getF R.PAIR_STATUS F.PAIR_STATUS_STATE
/-- Whether the unit holds the pair token. -/
def State.holdsToken (s : State) : Bool := s.pairState == 4 || s.pairState == 5

/-- SVC_ENTER or SVC_EXIT written: accepted in ON without the token, or in SERVICE. -/
def State.svcCmd (s : State) (v : Nat) : State :=
  if (v = 1 ∧ s.power = 2 ∧ !s.holdsToken) ∨ (v = 2 ∧ s.power = 4) then s.modP (fun p => { p with svc := some v })
  else s.raise R.PWR_ERR F.PWR_ERR_CMD_REJECT

/-- An accepted service command takes effect at the end of the commit; MANUAL fan control ends with SERVICE (R414). -/
def State.applySvc (s : State) : State :=
  match s.pwr.svc with
  | none => s
  | some v =>
    let s := s.modP (fun p => { p with svc := none })
    if v = 1 then (if s.power = 2 then s.setF R.SYS_STATE F.SYS_STATE_POWER_STATE 4 else s)
    else if s.power = 4 then
      ((s.setF R.SYS_STATE F.SYS_STATE_POWER_STATE 2).setF R.FAN_CTRL F.FAN_CTRL_MANUAL 0).setDuty
    else s

/-- DIE_RESET written (R403): every quarter of the die STOPPED or HALTED, or the die lost; a die that tripped must have
cooled below 85 °C (R415). -/
def State.dieResetCmd (s : State) (d : Nat) : State :=
  let idle := (dieQ d).all (fun q => s.qState q == 0 || s.qState q == 4)
  let lost := (dieQ d).all s.isLost
  if (idle || lost) && !s.pwr.hot.contains d then s.modP (fun p => { p with dieAsked := p.dieAsked ++ [d] })
  else s.raise R.PWR_ERR F.PWR_ERR_CMD_REJECT

/-- Accepted die resets begin at the end of the commit: memory in self-refresh, links DISABLED, banks EMPTY (R131, R403). -/
def State.beginDieResets (s : State) : State :=
  let ds := s.pwr.dieAsked
  ds.foldl (fun s d =>
    let s := if s.dieOn d ∧ s.memState d = 3 then
        (s.setF (R.MEM_STATUS d) F.MEM_STATUS_STATE 4).modP (fun p => { p with selfRef := p.selfRef ++ [d] })
      else s
    let s := (s.linksOff d).emptyBanks d
    let s := (dieQ d).foldl (fun s q => (s.abandonQ q).setQState q 0) s
    s.modP (fun p => { p with dieHeld := p.dieHeld ++ [d] })) (s.modP (fun p => { p with dieAsked := [] }))

/-- A die leaves reset: powered and training again, to be filled and refilled (R403). -/
def State.dieReleased (s : State) (d : Nat) : State :=
  let s := s.modP (fun p => { p with
    dieHeld := p.dieHeld.filter (fun x => x != d)
    fresh := p.fresh ++ [d]
    refill := p.refill ++ [d] })
  let s := s.drop R.PWR_STATUS (dieTripFld d)
  if !s.dieOn d then s.dieUp d
  else
    let s := if s.memState d = 4 then s.setF (R.MEM_STATUS d) F.MEM_STATUS_STATE 1 else s
    s.linksTrain d

/-- DIE_RESET_RELEASE (R403): training of memory and links begins; a memory that is FAILED stays so (Table 9.6). A die that had
been powered off is powered up. -/
def State.dieRelease (s : State) (d : Nat) : State :=
  if s.pwr.dieHeld.contains d then s.dieReleased d
  else s

/-! ### SYS_CMD (R402) -/

/-- RESTART written: accepted in ON, HARBOUR or SERVICE, and only with FORCE while the token is held. -/
def State.restartCmd (s : State) (force : Bool) : State :=
  if (s.power = 2 ∨ s.power = 3 ∨ s.power = 4) ∧ (!s.holdsToken || force) = true then
    s.modP (fun p => { p with restart := true })
  else s.raise R.SYS_ERR F.SYS_ERR_CMD_REJECT

end Sys2Proof.Machine
end

