-- ==== Sys2Proof/Machine/Time.lean ====
section
/-! DEFINITION. The time unit, the grid and pacing (02_time_and_epochs.md). The commands carry chain times, so the slew of
R31 shows in them alone. -/

namespace Sys2Proof.Machine

/-- Change the time record. -/
def State.modT (s : State) (f : TimeSt → TimeSt) : State := { s with time := f s.time }

/-- STATE of the time unit: 0 FREE, 1 ACQUIRE, 2 LOCKED, 3 HOLDOVER. -/
def State.timeState (s : State) : Nat := s.getF R.TIME_STATUS F.TIME_STATUS_STATE
/-- Enter a time unit state. -/
def State.setTimeState (s : State) (v : Nat) : State :=
  let s := s.setF R.TIME_STATUS F.TIME_STATUS_STATE v
  if v = 3 then s.modT (fun t => { t with heldAt := s.now, inBand := 0 }) else s

/-! ### The grid (R32, R35, R38) -/

/-- b_n. -/
def State.boundary (s : State) (n : Nat) : Nat := n * s.img.run.period + s.img.run.phase
/-- D_n. -/
def State.deadlineOf (s : State) (n : Nat) : Nat := s.boundary n + s.img.run.period - 20000
/-- The RUN window, P − 20.4 µs. -/
def State.runWindow (s : State) : Nat := s.img.run.period - 20400
/-- The epoch number of an instant (R32). -/
def State.epochAt (s : State) (t : Nat) : Nat := (t - s.img.run.phase) / s.img.run.period
/-- The number of the next epoch: the one after the last, or after a step the first whose boundary lies ahead. -/
def State.nextEpoch (s : State) : Nat :=
  if s.time.begun && !s.time.stepped then s.epoch + 1
  else
    let n := s.epochAt s.now
    if s.boundary n < s.now then n + 1 else n
/-- Whether a configuration with a grid is in force. -/
def State.hasGrid (s : State) : Bool := s.img.run.period != 0
/-- Show epoch `n` in EPOCH and EPOCH_PW. -/
def State.setEpoch (s : State) (n : Nat) : State := (s.setReg64 R.EPOCH_LO n).setPair R.EPOCH_PW_LO (n % 2 ^ 32)

/-- The 32-byte epoch header (Table 2.3). -/
def headerBytes (n capture flags absent : Nat) : List Byte :=
  leBytes 8 n ++ leBytes 8 capture ++ leBytes 8 (pairWord (n % 2 ^ 32)) ++ leBytes 4 flags ++ leBytes 4 absent

/-- FLAGS of the header now being formed (Table 2.3). -/
def State.headerFlags (s : State) : Nat :=
  s.time.outcome + 4 * b2n s.time.missed + 8 * b2n s.time.stepped + 16 * s.timeState +
  64 * b2n (s.flag R.TIME_STATUS F.TIME_STATUS_ALIGN_LOST) + 128 * b2n s.time.overran

/-! ### Measured offsets (R31, R61 to R66) -/

/-- OFFSET saturates at ±(2^31 − 1). -/
def offsetReg (off : Int) : Nat := ofSigned 32 (clampInt (-(2 ^ 31 - 1)) (2 ^ 31 - 1) off)

/-- A source on `port` (1 X5, 2 East, 3 West) is `off` ns ahead of chain time. Before the first epoch the time unit steps.
After it, an offset within ±1 s is slewed; a forward one while never LOCKED waits for a boundary to be stepped; any other
beyond ±1 s enters HOLDOVER with DIVERGED. -/
def State.measure (s : State) (port : Nat) (off : Int) : State :=
  let s := (s.setRegN R.OFFSET (offsetReg off)).setF R.TIME_STATUS F.TIME_STATUS_SOURCE port
  let s := s.modT (fun t => { t with offset := off, lastSync := s.now })
  let never := !s.flag R.TIME_STATUS F.TIME_STATUS_EVER_LOCKED
  let big : Bool := decide (1000000000 < off.natAbs)
  let band (s : State) : State :=
    s.modT (fun t => { t with inBand := if off.natAbs ≤ 100 then t.inBand + 1 else 0 })
  if !s.time.begun then
    let s := if s.timeState = 2 then s else s.setTimeState 1
    if off.natAbs ≤ 100 then band s
    else
      let s := { s with now := ((s.now : Int) + off).toNat }
      s.modT (fun t => { t with inBand := 0, lastSync := s.now })
  else if never ∧ 0 < off ∧ (big ∨ s.timeState = 0 ∨ s.time.freeStep) then
    (s.setTimeState 1).modT (fun t => { t with freeStep := true, inBand := 0 })
  else if big then
    let s := if s.flag R.TIME_STATUS F.TIME_STATUS_DIVERGED then s
      else (s.raise R.TIME_STATUS F.TIME_STATUS_DIVERGED).raise R.TIME_ERR F.TIME_ERR_DIVERGED
    if s.timeState = 3 then s else s.setTimeState 3
  else
    let s := s.drop R.TIME_STATUS F.TIME_STATUS_DIVERGED
    let s := if s.timeState = 0 ∨ s.timeState = 3 then s.setTimeState 1 else s
    band s

/-- TIME_LOCKED (Table 2.1): 16 consecutive sync intervals within ±100 ns; ALIGN_LOST clears (R62). -/
def State.timeLocked (s : State) : State :=
  if s.timeState = 1 ∧ 16 ≤ s.time.inBand then
    let s := (s.setTimeState 2).raise R.TIME_STATUS F.TIME_STATUS_EVER_LOCKED
    s.drop R.TIME_STATUS F.TIME_STATUS_ALIGN_LOST
  else s

/-- TIME_SOURCE_LOST (R61): no sync message for 3 s by chain time `t`. -/
def State.sourceLost (s : State) (t : Nat) : State :=
  if (s.timeState = 1 ∨ s.timeState = 2) ∧ s.time.lastSync + 3000000000 ≤ t ∧ s.getF R.TIME_STATUS F.TIME_STATUS_SOURCE ≠ 0 then
    ((s.at t).setTimeState 3).setF R.TIME_STATUS F.TIME_STATUS_SOURCE 0
  else s

/-- ALIGN_LOST (R62): 20 s of HOLDOVER. -/
def State.alignLost (s : State) (t : Nat) : State :=
  if s.timeState = 3 ∧ s.time.heldAt + 20000000000 ≤ t then
    ((s.at t).raise R.TIME_STATUS F.TIME_STATUS_ALIGN_LOST).raise R.TIME_ERR F.TIME_ERR_ALIGN_LOST
  else s

/-- ACCEPT_STEP (R64, R65). -/
def State.acceptStep (s : State) : State :=
  if s.flag R.TIME_STATUS F.TIME_STATUS_DIVERGED ∧ 0 < s.time.offset then
    s.modT (fun t => { t with stepAsked := true })
  else s.raise R.TIME_ERR F.TIME_ERR_CMD_REJECT

/-- Chain time steps forward by a measured offset (R64, R66). -/
def State.stepForward (s : State) (off : Int) : State :=
  let s := { s with now := s.now + off.toNat }
  let s := (s.raise R.TIME_ERR F.TIME_ERR_TIME_STEP).drop R.TIME_STATUS F.TIME_STATUS_DIVERGED
  let s := s.setRegN R.OFFSET 0
  (s.setTimeState 1).modT (fun t => { t with stepped := true, offset := 0, inBand := 0, lastSync := s.now })

/-- TIME_STEP (R64, R66): at the first boundary after the commit, step forward by the offset measured there; `present` says
whether the source is there. Otherwise an ACCEPT_STEP lapses with CMD_REJECT. -/
def State.timeStep (s : State) (present : Bool) (off : Int) : State :=
  if !s.time.stepArmed then s
  else
    let asked := s.time.stepAsked
    let s := s.modT (fun t => { t with stepArmed := false, stepAsked := false, freeStep := false })
    if !present ∨ off ≤ 0 then (if asked then s.raise R.TIME_ERR F.TIME_ERR_CMD_REJECT else s)
    else s.stepForward off

/-- The time unit enters FREE (R66, R398). -/
def State.enterFree (s : State) : State :=
  if s.timeState = 1 ∧ s.getF R.TIME_STATUS F.TIME_STATUS_SOURCE = 0 ∧ !s.time.begun ∧
      !s.flag R.TIME_STATUS F.TIME_STATUS_EVER_LOCKED then s.setTimeState 0
  else s

/-- ACQ_TIMEOUT (R66, R398): ACQ_TIMEOUT × 10 ms after the first link, no source message. -/
def State.acqTimeout (s : State) (t : Nat) : State :=
  match s.pwr.acqStart with
  | none => s
  | some t0 => if t0 + s.getF R.ACQ_TIMEOUT F.ACQ_TIMEOUT_TIMEOUT * 10000000 ≤ t then (s.at t).enterFree else s

/-- TIME_SLOW (R420). -/
def State.timeSlow (s : State) : State :=
  if s.timeState = 1 ∧ s.getF R.TIME_STATUS F.TIME_STATUS_SOURCE ≠ 0 then s.raise R.SYS_ERR F.SYS_ERR_TIME_SLOW else s

/-! ### Pacing (R43 to R47, R58, R59) -/

/-- The active quarters of a die. -/
def State.dieActive (s : State) (d : Nat) : List Nat := (dieQ d).filter s.qActive

/-- Slack of a quarter: D_n less its reported done instant, 0 when it was not done by D_n (R43). -/
def State.slackOf (s : State) (q : Nat) : Nat :=
  match (s.qtr q).doneAt with
  | some t => s.deadlineOf s.epoch - t
  | none => 0
/-- Whether a quarter was not done by D_n. -/
def State.lateQ (s : State) (q : Nat) : Bool :=
  match (s.qtr q).doneAt with
  | some t => Nat.blt (s.deadlineOf s.epoch) t
  | none => true

/-- A die's slack, the least of its active quarters'. -/
def State.dieSlack (s : State) (d : Nat) : Nat :=
  match (s.dieActive d).map s.slackOf with
  | [] => 0
  | x :: xs => xs.foldl min x

/-- The step R44 asks for. -/
def paceStep (slack lo hi w quiet : Nat) : Int :=
  if slack = 0 then 4
  else if slack < lo * w / 2000 then 2
  else if slack < lo * w / 1000 then 1
  else if hi * w / 1000 < slack ∧ 8 ≤ quiet then -1
  else 0

/-- Pace one die after the commit (R44, R58). -/
def State.paceDie (s : State) (d : Nat) : State :=
  let code := s.regN (R.RAIL d)
  let ceil := s.getF R.PACE_CTRL F.PACE_CTRL_CEIL_CODE
  let floor := s.getF R.PACE_CTRL F.PACE_CTRL_FLOOR_CODE
  let st := paceStep (s.dieSlack d) (s.getF R.PACE_BAND F.PACE_BAND_LO) (s.getF R.PACE_BAND F.PACE_BAND_HI)
    s.runWindow (nth s.time.quiet d 0)
  let code2 := (clampInt floor ceil ((code : Int) + st)).toNat
  let asks : Bool := code == ceil && decide (0 < st)
  let s := s.setRegN (R.RAIL d) code2
  let s := if asks then
      (s.raise R.TIME_STATUS F.TIME_STATUS_PACE_AT_CEIL).raise R.TIME_ERR F.TIME_ERR_PACE_CEIL
    else s
  s.modT (fun t => { t with
    quiet := setNth t.quiet d (if st ≠ 0 then 0 else nth t.quiet d 0 + 1)
    ceilRun := setNth t.ceilRun d (if asks then nth t.ceilRun d 0 + 1 else 0) })

/-- Set the rail of die `d`, its counts begun anew. -/
def State.setRail (s : State) (d code : Nat) : State :=
  (s.setRegN (R.RAIL d) code).modT (fun t => { t with quiet := setNth t.quiet d 0, ceilRun := setNth t.ceilRun d 0 })

/-- Slack and rail of every die after the commit of an epoch that ran programs (R43, R44, R47). CEIL_CNT rises once for an
epoch in which a die asked to rise at the ceiling. -/
def State.pace (s : State) : State :=
  let ds := (List.range 4).filter (fun d => !(s.dieActive d).isEmpty)
  let s := ds.foldl (fun s d =>
    let late := (s.dieActive d).any s.lateQ
    s.setRegN (R.SLACK d) (s.dieSlack d + 2 ^ 31 * b2n late)) s
  let s := match ds.map s.dieSlack with
    | [] => s
    | x :: xs => s.setRegN R.SLACK_MIN (xs.foldl min x)
  let s := s.drop R.TIME_STATUS F.TIME_STATUS_PACE_AT_CEIL
  let s := if s.flag R.PACE_CTRL F.PACE_CTRL_ENABLE then ds.foldl (fun s d => s.paceDie d) s
    else ds.foldl (fun s d => s.setRail d 20) s
  if s.flag R.TIME_STATUS F.TIME_STATUS_PACE_AT_CEIL then s.inc R.CEIL_CNT else s

/-- Rail of a die that starts: 0.75 V; one that is off, in reset or without active quarters has none (R47). -/
def State.railOf (s : State) (d : Nat) : State :=
  let on := !(s.dieActive d).isEmpty
  if on && !s.time.railed.contains d then (s.setRail d 20).modT (fun t => { t with railed := t.railed ++ [d] })
  else if !on && s.time.railed.contains d then
    (s.setRail d 0).modT (fun t => { t with railed := t.railed.filter (fun x => x != d) })
  else s

/-- Rails of all dies, as their quarters stand. -/
def State.rails (s : State) : State := (List.range 4).foldl (fun s d => s.railOf d) s

/-- A live write of PACE_CTRL: with pacing disabled each running die's rail is held at 0.75 V (R47). -/
def State.paceHeld (s : State) : State :=
  if s.flag R.PACE_CTRL F.PACE_CTRL_ENABLE then s else s.time.railed.foldl (fun s d => s.setRail d 20) s

/-- SHORT_OF_MARGIN (R59): 1,000 consecutive epochs asking at the ceiling. -/
def State.shortOfMargin (s : State) (d : Nat) : State :=
  if 1000 ≤ nth s.time.ceilRun d 0 ∧ !s.time.short.contains d then s.modT (fun t => { t with short := t.short ++ [d] })
  else s

end Sys2Proof.Machine
end

