-- ==== Sys2Proof/Machine/Recovery.lean ====
section
/-! DEFINITION. Fault charges, rollback, rebuild of poisoned blocks, copy repair, link and memory events
(09_memory_and_die_fabric.md, 10_integrity_and_recovery.md). -/

namespace Sys2Proof.Machine

/-- Change the recovery record. -/
def State.modR (s : State) (f : RecSt → RecSt) : State := { s with rcv := f s.rcv }

/-- Count a pair-word mismatch at a place of Table 10.1 (R283). -/
def State.pwMismatch (s : State) (place : Nat) : State :=
  ((s.inc R.PW_MISMATCH_CNT).setRegN R.PW_LAST place).raise R.REC_ERR F.REC_ERR_PW_MISMATCH

/-! ### Charges (Table 10.8) -/

/-- Charge a hardware fault of the running epoch to quarter `q`; the epoch counts once. -/
def State.chargeQ (s : State) (q : Nat) : State :=
  let es := (kvGet (fun _ => []) q s.rcv.chargeEpochs).filter (fun e => Nat.blt s.epoch (e + 1024))
  let es := if es.contains s.epoch then es else es ++ [s.epoch]
  let s := s.modR (fun r => { r with chargeEpochs := kvPut q es r.chargeEpochs })
  if s.getF R.REC_CTRL F.REC_CTRL_QLOSS_LIMIT ≤ es.length then s.loseQ [q] else s

/-- Charge the faults of an attempt: a quarter charged in all four attempts is lost. -/
def State.chargeAttempt (s : State) (q : Nat) : State :=
  let n := kvGet (fun _ => 0) q s.rcv.attemptCharges + 1
  let s := (s.modR (fun r => { r with attemptCharges := kvPut q n r.attemptCharges })).chargeQ q
  if 4 ≤ n then s.loseQ [q] else s

/-- The quarter an event record's UNIT names. -/
def unitQ (u : Nat) : Nat := 4 * (u % 16) + u / 16 % 16

/-- Charge everything noted and not yet charged. -/
def State.charge (s : State) : State :=
  let ns := s.rcv.notes.filter (fun n => n.unitKind == 2)
  let s := ns.foldl (fun s n => s.chargeAttempt (unitQ n.unitNo)) s
  let ls := s.rcv.chargedNow
  ls.foldl (fun s q => s.chargeQ q) (s.modR (fun r => { r with chargedNow := [] }))

/-! ### Undoing the epoch (R294) -/

/-- Stop the quarters that run, and put back memory, banks, groups and queues. RUNNING and DONE become IDLE (Table 6.4). -/
def State.undoEpoch (s : State) : State :=
  let qs := allQ.filter (fun q => s.qState q == 2 || s.qState q == 3)
  let s := qs.foldl (fun s q => (s.abandonQ q).setQState q 1) s
  let s := s.mem.journal.foldl (fun s e => s.restoreBlock e) s
  let s := { s with mem := { s.mem with journal := [] } }
  s.undoBanks

/-! ### Poisoned blocks (R299, R307) -/

/-- The mirror map in force: records of the MIRROR section, or the default map of R79 as none of its ranges. -/
def RunCfg.mirrorRecs (c : RunCfg) : Option (List (List Byte)) := (c.sec 7 0).map tableRecs

/-- Memory ranges of the mirror map as mode, base and length. -/
def RunCfg.mirrorRanges (c : RunCfg) : List (Nat × Nat × Nat) :=
  ((c.mirrorRecs.getD []).filter (fun r => fieldAt r 0 1 == 0)).map (fun r => (fieldAt r 1 1, fieldAt r 8 8, fieldAt r 4 4))

/-- Whether the whole map is in full mode: some record of it is. -/
def RunCfg.fullRange (c : RunCfg) (b : Nat) : Bool :=
  c.mirrorRanges.any (fun r => r.1 == 0 && (pieces r.2.1 r.2.2).any (fun p => c.homeAddr p.1 / 64 * 64 == b))

/-- The bytes the image gives a whole block, in a DATA region of KIND 0 or 1. -/
def RunCfg.imageBlock (c : RunCfg) (b : Nat) : Option (List Byte) :=
  c.dataRegions.findSome? (fun r =>
    if r.2.2.1 = 2 then none
    else (pieces r.1 r.2.1).findSome? (fun p =>
      if p.2 = 64 ∧ c.homeAddr p.1 = b then some ((r.2.2.2.drop (p.1 - r.1)).take 64) else none))

/-- The block of the running epoch's log slot as the log buffer holds it (R299). -/
def State.logBlock (s : State) (b : Nat) : Option (List Byte) :=
  match kvFind s.epoch s.rcv.logBuf with
  | some bs =>
    let h := s.headerAddr s.epoch
    if h ≤ b ∧ b < h + 0x800000 then some (slice bs (b - h) 64) else none
  | none => none

/-- Whether a block lies in the log ring of the log die. -/
def State.inLogRing (s : State) (b : Nat) : Bool :=
  let base := (s.img.run.logDie.getD 0) * 0x400000000 + hubArea
  Nat.ble base b && Nat.blt b (base + 0x4000000)

/-- Whether a block lies in the result area of its die, which the hub zeroes before each launch (R287). -/
def inResult (b : Nat) : Bool :=
  let o := b % 0x400000000
  Nat.blt b 0x1000000000 && Nat.ble (hubArea + 0x4000000) o && Nat.blt o (hubArea + 0x4010000)

/-- The block holds `bs` again, and BLOCK_REBUILT is recorded. -/
def State.rebuilt (s : State) (b : Nat) (bs : List Byte) : State :=
  let s := (s.poke b bs).setPoison b false
  (s.raise R.REC_ERR F.REC_ERR_BLOCK_REBUILT).event 6 7 8 0 b

/-- The quarters a block's home unit takes with it: the quarter of a scratchpad, the quarters of a die. -/
def blockQ (b : Nat) : List Nat :=
  if b < 0x1000000000 then dieQ (b / 0x400000000) else [(b - 0x2000000000) / 0x200000]

/-- Rebuild one poisoned block after the journal has been put back; `ask` says that the partner can be asked. -/
def State.rebuildBlock (s : State) (b : Nat) : State :=
  if !s.poisoned b then (s.raise R.REC_ERR F.REC_ERR_BLOCK_REBUILT).event 6 7 8 0 b
  else if inResult b then s.rebuilt b (copies 64 0#8)
  else if s.inLogRing b then
    match s.logBlock b with
    | some bs => (s.poke b bs).setPoison b false
    | none => (s.raise R.REC_ERR F.REC_ERR_LOG_LOST).modR (fun r => { r with stop := some .logLost })
  else match s.img.run.imageBlock b with
    | some bs => s.rebuilt b bs
    | none =>
      if s.pairState = 5 ∧ s.img.run.fullRange b = true then s.modR (fun r => { r with awaiting := r.awaiting ++ [b] })
      else
        let s := s.loseQ (blockQ b)
        s.modR (fun r => { r with lossNote := some ⟨6, 7, 0, b⟩ })

/-! ### Rollback (R294 to R298, R310) -/

/-- Begin a rollback. Charges, remaps and rebuilds are done while the node stands at the last commit point; they decide
whether a replay or a skip follows it. -/
def State.startRollback (s : State) : State :=
  let again := s.flag R.REC_STATUS F.REC_STATUS_ROLLING_BACK
  let ns := s.rcv.notes
  let s := s.charge.modR (fun r => { r with notes := [], stop := none })
  let s := s.undoEpoch
  let s := if again then s else (s.inc R.ROLLBACK_CNT).raise R.REC_ERR F.REC_ERR_ROLLBACK
  let s := s.raise R.REC_STATUS F.REC_STATUS_ROLLING_BACK
  let dead := s.grains.dead
  let s := s.retireDead
  let poison := (ns.filter (fun n => n.cause == 7)).map FaultNote.detail
  let s := poison.foldl (fun s b => s.rebuildBlock b) s
  let first := ns.find? (fun n => n.cause != 7 && !dead.any (fun k => n.unitKind == 4 &&
    n.unitNo / 32768 == k.1 % 96 && unitQ n.unitNo == k.1 / 96))
  let skipNow := !s.rcv.wantLost.isEmpty || s.rcv.stop.isSome
  let spent := s.getF R.REC_STATUS F.REC_STATUS_ATTEMPT = 3
  let s : State := match s.rcv.lossNote, ns with
    | none, n :: _ => if s.rcv.wantLost.isEmpty then s else s.modR (fun r => { r with lossNote := some n })
    | _, _ => s
  let s := if s.rcv.stop = some .logLost then s.event 0 14 6 0 0 else s
  let s := if skipNow then s
    else if spent then
      match ns with
      | n :: _ => ((s.inc R.EXHAUST_CNT).raise R.REC_ERR F.REC_ERR_EXHAUSTED).event n.unitKind n.cause 6 n.unitNo n.detail
      | [] => s
    else match first with
      | some n => if again then s else s.event n.unitKind n.cause 0 n.unitNo n.detail
      | none => s
  (s.modT (fun t => { t with phase := 3 })).modR (fun r =>
    { r with stop := none, after := if skipNow || spent then 2 else 1 })

/-- The earliest D_m, m from `n` on, at least RUN_BOUND after a launch at `t` (R296). -/
def State.replayDeadline (s : State) (n t : Nat) : Nat :=
  let want := t + s.img.run.runBound
  if want ≤ s.deadlineOf n then n else n + (want - s.deadlineOf n + s.img.run.period - 1) / s.img.run.period

/-! ### Launch (R37, R287, R295) -/

/-- The hub writes zero to the whole result area of every running die, without journal. -/
def State.clearResults (s : State) : State :=
  ((List.range 4).filter s.img.run.runs).foldl (fun s d =>
    let b := d * 0x400000000 + hubArea + 0x4000000
    let mem := { s.mem with bytes := memClear s.mem.bytes b 0x10000
                            poison := s.mem.poison.filter (fun k => Nat.blt k b || Nat.ble (b + 0x10000) k) }
    { s with mem := mem }) s

/-- Every IDLE quarter starts on the log of epoch `n`. -/
def State.launchOn (s : State) (n : Nat) : State :=
  let s := s.clearResults
  let s := { s with mem := { s.mem with acc := [], accGen := s.mem.accGen + 1 } }
  (allQ.filter (fun q => s.qState q == 1)).foldl (fun s q => (s.launchAt q n).setQState q 2) s
/-- Every IDLE quarter starts RUN at chain time `t`. -/
def State.launchAll (s : State) (t : Nat) : State :=
  ((s.at t).launchOn s.epoch).modT (fun x => { x with phase := 2, launchT := t })

/-- REPLAY_LAUNCH (R295, R296), 400 ns after the rollback has ended. -/
def State.replayLaunch (s : State) : State :=
  if s.time.phase = 3 ∧ s.rcv.after = 1 ∧ !s.flag R.REC_STATUS F.REC_STATUS_ROLLING_BACK then
    let t := s.now + 400
    let s := s.inc R.REPLAY_CNT
    let s := s.setF R.REC_STATUS F.REC_STATUS_ATTEMPT (s.getF R.REC_STATUS F.REC_STATUS_ATTEMPT + 1)
    let m := s.replayDeadline s.epoch t
    let s := s.modT (fun x => { x with deadline := s.deadlineOf m, displaced := m != s.epoch })
    let s := s.setF R.REC_STATUS F.REC_STATUS_DISPLACED (b2n (m != s.epoch))
    (s.launchAll t).modR (fun r => { r with after := 0 })
  else s

/-! ### Copies (R301 to R303) -/

/-- The recovery guarantee is withdrawn (R302). -/
def State.unrecoverable (s : State) (kind cause unit detail : Nat) : State :=
  (s.raise R.REC_STATUS F.REC_STATUS_UNRECOVERABLE).event kind cause 9 unit detail

/-- Both commit copies fail (R303). -/
def State.copiesLost (s : State) : State :=
  let s := s.unrecoverable 7 2 0 0
  let s := (allQ.filter (fun q => s.qState q != 0)).foldl (fun s q => (s.abandonQ q).setQState q 0) s
  (s.modP (fun p => { p with stopTx := true })).modR (fun r => { r with dead := true })

/-- The bad copy of an entry takes the good one (R283). -/
def State.copyRepaired (s : State) (k : Nat) (a b : Dword) (badA badB pair : Bool) : State :=
  let s := s.modR (fun r => { r with copyA := kvPut k (if badA then b else a) r.copyA,
                                     copyB := kvPut k (if badB then a else b) r.copyB })
  let s := (s.raise R.REC_ERR F.REC_ERR_COPY_REPAIR).inc R.COPY_REPAIR_CNT
  let s := if pair then s.pwMismatch 3 else s
  s.event 7 (if pair then 8 else 2) 7 0 0

/-- COPY_PATROL of entry `k`: which copies fail their check, by a pair or CRC check (`pair`) or by SECDED. -/
def State.copyPatrol (s : State) (k : Nat) (badA badB pair : Bool) : State :=
  match kvFind k s.rcv.copyA, kvFind k s.rcv.copyB with
  | some a, some b =>
    if badA && badB then s.copiesLost
    else if badA || badB then s.copyRepaired k a b badA badB pair
    else s
  | _, _ => s

/-! ### Links (R264, R265, R272 to R274) -/

/-- The two ends of link `l` of die `d` as die and index; the hub link has one. -/
def linkEnds (d l : Nat) : List (Nat × Nat) :=
  if l = 3 then [(d, 3)] else [(d, l), (linkPeer d l, linkIndex (linkPeer d l) d)]

/-- Set the state of link `l` of die `d` at both ends. -/
def State.setLinkState (s : State) (d l v : Nat) : State :=
  (linkEnds d l).foldl (fun s e => s.setF (R.LINK_STATUS e.1) (linkFld e.2) v) s

/-- A bad flit is counted; `same` tells that it is a replay of the one before (R264). -/
def State.flitCounted (s : State) (d l : Nat) (same : Bool) : State :=
  let k := 4 * d + l
  let s := (s.incSat (R.LINK_CRC_CNT d l)).incSat (R.LINK_REPLAY_CNT d l)
  let s := if l = 3 then s else s.raise (R.LINK_ERR d) F.LINK_ERR_REPLAY
  let n := if same then kvGet (fun _ => 0) k s.mem.linkReplays + 1 else 1
  { s with mem := { s.mem with linkReplays := kvPut k n s.mem.linkReplays } }

/-- FLIT_ERROR: receiver `d` discards from the bad flit on and asks for a replay (R264). Consecutive replays of one flit
(`same`) count toward R265. -/
def State.flitError (s : State) (d l : Nat) (same : Bool) : State :=
  if s.link d l = 2 then s.flitCounted d l same
  else s

/-- LINK_RETRAIN: a fourth consecutive replay of one flit or a loss of lane lock (R265). -/
def State.linkRetrain (s : State) (d l : Nat) (lockLost : Bool) : State :=
  if s.link d l = 2 ∧ (lockLost = true ∨ 4 ≤ kvGet (fun _ => 0) (4 * d + l) s.mem.linkReplays) then
    let s := { s with mem := { s.mem with linkReplays := kvErase (4 * d + l) s.mem.linkReplays } }
    let s := (linkEnds d l).foldl (fun s e =>
      s.raise (R.LINK_ERR e.1) (if l = 3 then F.LINK_ERR_HUB_RETRAIN else F.LINK_ERR_RETRAIN)) s
    s.setLinkState d l 3
  else s

/-- RETRAIN_COMPLETE (R265). -/
def State.retrainDone (s : State) (d l : Nat) : State :=
  if s.link d l = 3 then
    (linkEnds d l).foldl (fun s e => s.incSat (R.LINK_RETRAIN_CNT e.1 e.2)) (s.setLinkState d l 2)
  else s

/-- Links UP at an end die. -/
def State.linksUp (s : State) (d : Nat) : Nat := ((List.range 3).filter (fun l => s.link d l == 2)).length

/-- The detour around a link that is DOWN (R273): the lowest running die whose links to both ends are UP. -/
def State.detourDie (s : State) (a b : Nat) : Option Nat :=
  if s.flag (R.LINK_CTRL a) F.LINK_CTRL_DETOUR_EN && s.flag (R.LINK_CTRL b) F.LINK_CTRL_DETOUR_EN then
    (List.range 4).find? (fun c => c != a && c != b && s.img.run.runs c && s.link c (linkIndex c a) == 2 &&
      s.link c (linkIndex c b) == 2)
  else none

/-- A link enters DOWN. A die link sets up its detour or loses a die (Table 10.8); a hub link loses its die. -/
def State.linkDown (s : State) (d l : Nat) : State :=
  let s := s.setLinkState d l 4
  if l = 3 then
    ((s.raise (R.LINK_ERR d) F.LINK_ERR_HUB_DOWN).detect 5 5 (d + 16 * 3) 0).loseQ (dieQ d)
  else
    let b := linkPeer d l
    let s := (linkEnds d l).foldl (fun s e => s.raise (R.LINK_ERR e.1) F.LINK_ERR_DOWN) s
    let s := s.detect 5 5 (d + 16 * l) 0
    match s.detourDie d b with
    | some _ =>
      (linkEnds d l).foldl (fun s e =>
        (s.setF (R.LINK_STATUS e.1) ⟨12 + e.2, 1⟩ 1).raise (R.LINK_ERR e.1) F.LINK_ERR_DETOUR) s
    | none =>
      let gone := if s.linksUp d < s.linksUp b then d else if s.linksUp b < s.linksUp d then b else max d b
      s.loseQ (dieQ gone)

/-- RETRAIN_TIMEOUT (R265, R272). -/
def State.retrainTimeout (s : State) (d l : Nat) : State := if s.link d l = 3 then s.linkDown d l else s

/-- LINK_TRAINING_COMPLETE (R265). -/
def State.linkTrained (s : State) (d l : Nat) : State := if s.link d l = 1 then s.setLinkState d l 2 else s

/-- LINK_TRAINING_TIMEOUT (R265): not complete within 10 ms. -/
def State.linkTrainTimeout (s : State) (d l : Nat) : State := if s.link d l = 1 then s.linkDown d l else s

/-! ### Memory events (R267 to R271, R276, R277) -/

/-- MEM_TRAINING_TIMEOUT (R268): the memory FAILED, the die lost. -/
def State.memTrainTimeout (s : State) (d : Nat) : State :=
  if s.memState d = 1 then
    let s := (s.setF (R.MEM_STATUS d) F.MEM_STATUS_STATE 5).raise (R.MEM_ERR d) F.MEM_ERR_TRAIN_FAIL
    let s := s.loseQ (dieQ d)
    s.modR (fun r => { r with lossNote := some ⟨1, 6, d, 0⟩ })
  else s

/-- MEM_SCRUB (R271, R277): the patrol reads the block at home address `k`; `err` 1 is a single-bit error, 2 or 3 an
uncorrectable one. -/
def State.memScrub (s : State) (k err : Nat) : State :=
  let d := dieOf k
  if ¬(k < 0x1000000000 ∨ (0x2000000000 ≤ k ∧ k < 0x2002000000)) then s
  else if !s.flag (R.MEM_CTRL d) F.MEM_CTRL_SCRUB_EN ∨ s.memState d ≠ 3 ∨ err = 0 then s
  else if err = 1 then s.incSat (if k < 0x1000000000 then R.MEM_CORR_CNT d else R.SP_CORR_CNT d)
  else if s.poisoned k then s
  else
    let s := (s.setPoison k true).raise (R.MEM_ERR d) F.MEM_ERR_SCRUB_UNCORR
    let s := (s.setReg64 (R.FAIL_ADDR_LO d) (k / 64 * 64)).incSat (R.MEM_UNCORR_CNT d)
    (s.inc R.LATENT_CNT).event 6 7 10 0 (k / 64 * 64)

end Sys2Proof.Machine
end

