-- ==== Sys2Proof/Machine/Aio.lean ====
section
/-! DEFINITION. Analogue inputs and outputs: records, means, classes, output states and trims (14_process_loops.md). -/

namespace Sys2Proof.Machine

/-- Change the hub's I/O record. -/
def State.modIo (s : State) (f : IoSt → IoSt) : State := { s with io := f s.io }
/-- Change the carrier. -/
def State.modC (s : State) (f : CarSt → CarSt) : State := { s with car := f s.car }
/-- A frame leaves a port. -/
def State.send (s : State) (port kind dst : Nat) (body : List Byte) : State :=
  { s with out := s.out ++ [⟨port, kind, dst, body⟩] }

/-! ### binary64 (R430, R445, R446) -/

/-- Round to 53 bits, to nearest even. Every value here lies well inside the exponent range. -/
def F64.norm (neg : Bool) (m : Nat) (e : Int) : F64 :=
  let k := (Nat.log2 m + 1) - 53
  if m = 0 then ⟨neg, 0, 0⟩ else ⟨neg, rneShift m k, e + k⟩
/-- An integer. -/
def F64.ofInt (i : Int) : F64 := .norm (decide (i < 0)) i.natAbs 0
/-- Signed significand at exponent `e0`. -/
def F64.at (a : F64) (e0 : Int) : Int :=
  let v : Int := a.m * 2 ^ (a.e - e0).toNat
  if a.neg then -v else v
/-- Sum, rounded once. -/
def F64.add (a b : F64) : F64 :=
  let e0 := min a.e b.e
  let v := a.at e0 + b.at e0
  if v = 0 then ⟨a.neg && b.neg, 0, 0⟩ else .norm (decide (v < 0)) v.natAbs e0
/-- The opposite. -/
def F64.opp (a : F64) : F64 := ⟨!a.neg, a.m, a.e⟩
/-- Difference, rounded once. -/
def F64.sub (a b : F64) : F64 := a.add b.opp
/-- Product, rounded once. -/
def F64.mul (a b : F64) : F64 := .norm (xor a.neg b.neg) (a.m * b.m) (a.e + b.e)
/-- Quotient by a divisor that is not zero, rounded once: 64 extra bits and a sticky bit. -/
def F64.div (a b : F64) : F64 :=
  let k := Nat.log2 b.m + 66
  let n := a.m * 2 ^ k
  let st := b2n (n % b.m != 0)
  .norm (xor a.neg b.neg) (2 * (n / b.m) + st) (a.e - b.e - k - 1)
/-- The binary32 pattern, rounded once. -/
def F64.to32 (a : F64) : Nat := roundTo fmt32 a.neg a.m a.e
/-- A finite binary32 value. -/
def F64.of32 (w : Nat) : Option F64 :=
  match f32Val w with
  | .fin neg n => some (.norm neg n (-149))
  | _ => none
/-- Nearest integer to the value times 2^k, ties to even. -/
def F64.roundInt (a : F64) (k : Int) : Int :=
  let v := rneInt (a.m : Int) (a.e + k)
  if a.neg then -v else v

/-! ### Input grids (R425, R428, R450, R477) -/

/-- RANGE of input `c`. -/
def State.aiRange (s : State) (c : Nat) : Nat := s.getF (R.AI_CFG c) F.AI_CFG_RANGE
/-- PERIOD_US of input `c`. -/
def State.aiPeriod (s : State) (c : Nat) : Nat := s.getF (R.AI_CFG c) F.AI_CFG_PERIOD_US
/-- L in nA of a range bit. -/
def rangeLow (r : Nat) : Int := if r = 1 then 0 else 4000000
/-- Span in nA of a range bit. -/
def rangeSpan (r : Nat) : Int := if r = 1 then 20000000 else 16000000

/-- Instants between two of a channel's grid: T_s, or in HARBOUR the first multiple of it that reaches 10 ms (R450). -/
def State.aiStep (s : State) (p : Nat) : Nat :=
  if s.power = 3 ∧ p < 10000 ∧ p ≠ 0 then 1000 * p * ((10000 + p - 1) / p) else 1000 * p

/-- The first instant of grid φ + k·T at or after `t`. -/
def State.gridUp (s : State) (T t : Nat) : Nat :=
  let φ := s.img.run.phase
  if t ≤ φ then φ - (φ - t) / T * T else φ + (t - φ + T - 1) / T * T

/-- The last instant of the grid at or before `t`; none before the grid's first. -/
def State.gridDown (s : State) (T t : Nat) : Option Nat :=
  let φ := s.img.run.phase
  let first := φ % T
  if t < first then none else some (first + (t - first) / T * T)

/-- The instants first, first + T, … up to `last`. -/
def instants (T first : Nat) (last : Nat) : List Nat :=
  if last < first then [] else (List.range ((last - first) / T + 1)).map (fun k => first + k * T)

/-! ### The AI_SAMPLES record (R428, R429) -/

/-- The trimmed sample (R429). -/
def trimSample (raw z g l : Int) : Int :=
  let t := (raw + z - l) * g
  let v := rneInt (t.natAbs : Int) (-30)
  l + (if t < 0 then -v else v)

/-- A trim register pair's value: zero trim signed, span trim unsigned. -/
def State.zTrim (s : State) (a : Nat) : Int := toSigned 32 (s.regN a)

/-- Delivered samples of a channel, oldest first. -/
def State.aiDelivered (s : State) (c : Nat) : List (Nat × Int) :=
  (s.io.aiBuf.filter (fun p => p.1 == c)).map Prod.snd

/-- The instants the record of a channel covers when the log closes at `b` on grid `T`, bounded by `stop`. `none` is a first
record that covers none. -/
def State.aiSpan (s : State) (c T b : Nat) (stop : Option Nat) : Option (List Nat) :=
  let ds := (s.aiDelivered c).map Prod.fst
  let lastDue := (s.gridDown T (b - 40000)).getD 0
  let lastDel := (ds.filter (fun t => Nat.blt t b)).foldl max 0
  let upTo := match stop with
    | some e => min (max lastDue lastDel) e
    | none => max lastDue lastDel
  match kvFind c s.io.aiLast with
  | some l => some (instants T (l + T) upTo)
  | none =>
    match ds with
    | [] => none
    | d :: dt => some (instants T (max (s.gridUp T (b - s.img.run.period)) (dt.foldl min d)) upTo)

/-- FLAGS of the record: an absent sample, the range, CHECK_FAIL, LP_OVERLOAD, MISWIRE (Table 14.2). -/
def State.aiFlags (s : State) (c range : Nat) (absent : Bool) : Nat :=
  b2n absent + 2 * range + 4 * s.getF (R.AI_STATUS c) F.AI_STATUS_CHECK_FAIL +
  8 * s.getF (R.AI_STATUS c) F.AI_STATUS_LP_OVERLOAD + 16 * s.getF (R.AI_STATUS c) F.AI_STATUS_MISWIRE

/-- Put a record's bytes on a 64-byte boundary. -/
def padRec (bs : List Byte) : List Byte := padTo ((bs.length + 63) / 64 * 64) bs

/-- The record of channel `c` on a grid: its bytes, and the state with what it covered taken. FIRST_T of an empty record is a
free value: the table gives it no instant. -/
def State.aiRecord (s : State) (c period range b : Nat) (stop : Option Nat) : List Byte × State :=
  let T := s.aiStep period
  let sp := s.aiSpan c T b stop
  let ts := sp.getD []
  let ds := s.aiDelivered c
  let z := s.zTrim (R.AI_ZERO_TRIM_LO c)
  let g : Int := s.regN (R.AI_SPAN_TRIM_LO c)
  let val (t : Nat) : Option Int := (ds.find? (fun d => d.1 == t)).map (fun d => trimSample d.2 z g (rangeLow range))
  let xs := ts.map val
  let absent := (xs.filter Option.isNone).length
  let (free, s1) := s.fresh
  let (firstT, s2) := match ts with
    | t :: _ => (t, s)
    | [] => (free.toNat, s1)
  let body := leBytes 8 firstT ++ leBytes 4 period ++ leBytes 4 ts.length ++
    leBytes 1 (s.aiFlags c range (absent != 0)) ++ copies 7 0#8 ++
    (xs.map (fun x => leBytes 4 (match x with
      | some i => ofSigned 32 i
      | none => 0x80000000))).flatten
  let bytes := leBytes 2 1 ++ leBytes 2 c ++ leBytes 4 (32 + 4 * ts.length) ++ body
  let cnt := min (s.regN (R.AI_ABSENT_CNT c) + absent) 0xFFFFFFFF
  let s := s2.setRegN (R.AI_ABSENT_CNT c) cnt
  let keep := max 4 ((100000 + period - 1) / (max period 1))
  let hist := ((xs.filterMap id).reverse ++ kvGet (fun _ => []) c s.io.aiHist).take keep
  let s := s.modIo (fun io => { io with
    aiLast := match ts.getLast? with
      | some t => kvPut c t io.aiLast
      | none => io.aiLast
    aiBuf := match ts.getLast? with
      | some t => io.aiBuf.filter (fun p => p.1 != c || Nat.blt t p.2.1)
      | none => io.aiBuf
    aiHist := kvPut c hist io.aiHist
    aiRecs := io.aiRecs ++ [⟨c, range, period, xs⟩] })
  (padRec bytes, s)

/-- A changed grid of channel `c` starts: its next record is a first record, samples of the old grid are dropped. -/
def State.aiNewGrid (s : State) (c from0 : Nat) : State :=
  s.modIo (fun io => { io with
    aiGrid := kvPut c (s.aiPeriod c, s.aiRange c) io.aiGrid
    aiChange := kvErase c io.aiChange
    aiLast := kvErase c io.aiLast
    aiHist := kvErase c io.aiHist
    aiBuf := io.aiBuf.filter (fun p => p.1 != c || Nat.ble from0 p.2.1) })

/-- Log channel `c` at boundary `b` (R428, R477): a pending grid change waits until no instant of the old grid is left. -/
def State.aiLog (s : State) (c b : Nat) : List Byte × State :=
  let (p, r) := kvGet (fun _ => (0, 0)) c s.io.aiGrid
  match kvFind c s.io.aiChange with
  | none => if p = 0 then ([], s) else s.aiRecord c p r b none
  | some bk =>
    let T := s.aiStep p
    let oldLeft : Bool := p != 0 && Nat.ble bk b &&
      (match kvFind c s.io.aiLast with
       | some l => Nat.blt (l + T) bk
       | none => false)
    if p = 0 ∨ (bk ≤ b ∧ !oldLeft) then
      let s := s.aiNewGrid c bk
      let (p, r) := kvGet (fun _ => (0, 0)) c s.io.aiGrid
      if p = 0 then ([], s) else s.aiRecord c p r b none
    else s.aiRecord c p r b (if bk ≤ b then some (bk - 1) else none)

/-- A late value for an instant already recorded is discarded and counted; any other waits for its record. -/
def State.aiDeliver (s : State) (c t : Nat) (raw : Int) : State :=
  match kvFind c s.io.aiLast with
  | some l => if t ≤ l then s.incSat (R.AI_ABSENT_CNT c) else s.modIo (fun io => { io with aiBuf := io.aiBuf ++ [(c, t, raw)] })
  | none => s.modIo (fun io => { io with aiBuf := io.aiBuf ++ [(c, t, raw)] })

/-- A write of AI_CFG has taken effect at a commit: the grid changes at boundary `bk` when PERIOD_US or RANGE did. -/
def State.aiCfgChanged (s : State) (c bk : Nat) : State :=
  if kvGet (fun _ => (0, 0)) c s.io.aiGrid = (s.aiPeriod c, s.aiRange c) then s
  else s.modIo (fun io => { io with aiChange := kvPut c bk io.aiChange })

/-! ### Means, engineering values and classes (R430, R431) -/

/-- CLASS of a mean. -/
def aiClass (range : Nat) (m : Int) : Nat :=
  if 21000000 < m then 4
  else if 20500000 < m then 2
  else if range = 1 then (if m < -200000 then 3 else 0)
  else if m < 3600000 then 3
  else if m < 3800000 then 1
  else 0

/-- AI_MEAN, AI_EU and AI_STATUS at the commit from the epoch's record. -/
def State.aiCommit (s : State) (r : AiRec) : State :=
  let xs := r.samples.filterMap id
  let s := s.setF (R.AI_STATUS r.ch) F.AI_STATUS_RANGE_ACTIVE r.range
  if xs.isEmpty then s.setF (R.AI_STATUS r.ch) F.AI_STATUS_CLASS 6
  else
    let m := (F64.ofInt xs.sum).div (F64.ofInt xs.length)
    let mean := m.roundInt 0
    let s := s.setRegN (R.AI_MEAN r.ch) (ofSigned 32 mean)
    let s := s.setF (R.AI_STATUS r.ch) F.AI_STATUS_CLASS (aiClass r.range mean)
    match F64.of32 (s.regN (R.AI_EU_LO r.ch)), F64.of32 (s.regN (R.AI_EU_HI r.ch)) with
    | some lo, some hi =>
      let ma := m.div (F64.ofInt 1000000)
      let f := (ma.sub (F64.ofInt (rangeLow r.range / 1000000))).div (F64.ofInt (rangeSpan r.range / 1000000))
      s.setRegN (R.AI_EU r.ch) ((lo.add (f.mul (hi.sub lo))).to32)
    | _, _ => s

/-- The inputs at the commit of the epoch. -/
def State.aiCommitAll (s : State) : State :=
  let s := s.io.aiRecs.foldl (fun s r => s.aiCommit r) s
  (List.range 32).foldl (fun s c => if s.aiPeriod c = 0 then s.setF (R.AI_STATUS c) F.AI_STATUS_CLASS 5 else s) s

/-! ### Output commands (R432 to R440, Tables 14.4 to 14.7) -/

/-- Whether a command word follows Table 14.4 outside the carrier. -/
def aoWordOk (v : Nat) : Bool :=
  Nat.blt v (2 ^ 18) && (if bitsOf v 17 16 = 0 then Nat.ble (v % 65536) 60000 else v % 65536 == 0)

/-- A value write of output `o` at a commit (R439): committed command, and the range shadow takes effect (R440). -/
def State.aoWrite (s : State) (o v : Nat) : State :=
  let s := s.setPair (R.AO_COMMITTED_LO o) v
  let s := s.setF (R.AO_STATUS o) F.AO_STATUS_RANGE_ACTIVE (s.getF (R.AO_CFG o) F.AO_CFG_RANGE_SHADOW)
  s.raise (R.AO_STATUS o) F.AO_STATUS_WRITTEN

/-- The window of a range as codes (Table 14.5). -/
def aoWindow (range : Nat) : Nat × Nat := if range = 0 then (9500, 51250) else if range = 1 then (0, 51250) else (0, 60000)

/-- Set the carrier's state of output `o`, shown in AO_STATUS. -/
def State.aoSet (s : State) (o st : Nat) : State :=
  (s.modC (fun c => { c with aoSt := setNth c.aoSt o st })).setF (R.AO_STATUS o) F.AO_STATUS_STATE st

/-- A carrier word reaches output `o` (Table 14.7, R434). -/
def State.aoTake (s : State) (o v : Nat) : State :=
  let st := nth s.car.aoSt o 0
  let mode := bitsOf v 17 16
  let arm := bitOf v 20
  let (lo, hi) := aoWindow (bitsOf v 19 18)
  let code := v % 65536
  let s := s.modC (fun c => { c with aoWord := setNth c.aoWord o v })
  let s := s.setF (R.AO_STATUS o) F.AO_STATUS_CLAMPED (b2n (mode == 0 && (Nat.blt code lo || Nat.blt hi code)))
  if mode = 3 then s.aoSet o 0
  else if st = 0 then s.aoSet o (if arm then 1 else 2)
  else s

/-- AO_RELEASE_SEEN (R436). -/
def State.aoRelease (s : State) (o : Nat) : State := if nth s.car.aoSt o 0 = 1 then s.aoSet o 2 else s

/-- AO_THERMAL_FOLDBACK (R435). -/
def State.aoFoldback (s : State) (o : Nat) : State :=
  if nth s.car.aoSt o 0 = 2 then
    ((s.aoSet o 3).raise (R.AO_STATUS o) F.AO_STATUS_THERMAL).incSat (R.AO_FLT_CNT o)
  else s

/-- AO_THERMAL_RESTORE (R435). -/
def State.aoRestore (s : State) (o : Nat) : State := if nth s.car.aoSt o 0 = 3 then s.aoSet o 2 else s

/-- LOAD_HIGH (R452). -/
def State.loadHigh (s : State) (o : Nat) : State :=
  if nth s.car.aoSt o 0 = 2 ∧ !s.flag (R.AO_STATUS o) F.AO_STATUS_LOAD_HIGH then
    (s.raise (R.AO_STATUS o) F.AO_STATUS_LOAD_HIGH).incSat (R.AO_FLT_CNT o)
  else s

/-- AO_READBACK_FAULT (R453, R302). -/
def State.aoIsoFault (s : State) (o : Nat) : State :=
  if nth s.car.aoSt o 0 = 2 then
    let s := (s.aoSet o 0).modC (fun c => { c with iso := true })
    (s.raise R.AIO_ERR F.AIO_ERR_ISO_FAULT).unrecoverable 8 12 0 0
  else s

/-- MISWIRE (R451) of input 0–31 or output 32–47; `ext` says that a supply drives current into an output. -/
def State.miswire (s : State) (k : Nat) (ext : Bool) : State :=
  if k < 32 then s.raise (R.AI_STATUS k) F.AI_STATUS_MISWIRE
  else
    let o := k - 32
    let was := s.flag (R.AO_STATUS o) F.AO_STATUS_MISWIRE
    let s := (s.raise (R.AO_STATUS o) F.AO_STATUS_MISWIRE).setF (R.AO_STATUS o) F.AO_STATUS_EXT_SOURCE (b2n ext)
    if was then s else s.incSat (R.AO_FLT_CNT o)

/-- MISWIRE_CLEAR (R451). -/
def State.miswireClear (s : State) (k : Nat) : State :=
  if k < 32 then s.drop (R.AI_STATUS k) F.AI_STATUS_MISWIRE
  else (s.drop (R.AO_STATUS (k - 32)) F.AO_STATUS_MISWIRE).drop (R.AO_STATUS (k - 32)) F.AO_STATUS_EXT_SOURCE

/-- LP_OVERLOAD (R427). -/
def State.lpOverload (s : State) (c : Nat) : State :=
  if s.flag (R.AI_CFG c) F.AI_CFG_LP_EN then s.raise (R.AI_STATUS c) F.AI_STATUS_LP_OVERLOAD else s

/-- LP_RETRY (R427); `below` says that the current stays below the limit. -/
def State.lpRetry (s : State) (c : Nat) (below : Bool) : State :=
  if below then s.drop (R.AI_STATUS c) F.AI_STATUS_LP_OVERLOAD else s

/-- REFERENCE_CHECK (R449): the reference reading, and the means of the next enabled input's own converter and of the check
converter. -/
def State.refCheck (s : State) (ref own chk : Int) : State :=
  if !s.flag R.AIO_CTRL F.AIO_CTRL_REFCHK_EN then s
  else
    let ok := decide ((ref - 10000000).natAbs ≤ 1000)
    let s := ((s.inc R.REFCHK_CNT).setRegN R.REF_READING (ofSigned 32 ref)).setF R.AIO_STATUS F.AIO_STATUS_REF_OK (b2n ok)
    let s := if ok then s else s.raise R.AIO_ERR F.AIO_ERR_REF_FAIL
    match ((List.range 32).map (fun i => (s.io.refIdx + i) % 32)).find? (fun c => s.aiPeriod c != 0) with
    | none => s
    | some c =>
      let s := s.modIo (fun io => { io with refIdx := (c + 1) % 32 })
      if rangeSpan (s.aiRange c) / 2000 < (own - chk).natAbs then s.raise (R.AI_STATUS c) F.AI_STATUS_CHECK_FAIL else s

/-! ### Trim sessions (R445 to R448) -/

/-- Whether the unit may hold a session: alone, or with the token. -/
def State.mayTrim (s : State) : Bool := s.pairState == 0 || s.holdsToken
/-- SESSION of TRIM_STATUS. -/
def State.trimKind (s : State) : Nat := s.getF R.TRIM_STATUS F.TRIM_STATUS_SESSION
/-- CHANNEL of the session. -/
def State.trimCh (s : State) : Nat := s.getF R.TRIM_STATUS F.TRIM_STATUS_CHANNEL
/-- Set LAST_RESULT. -/
def State.trimResult (s : State) (v : Nat) : State := s.setF R.TRIM_STATUS F.TRIM_STATUS_LAST_RESULT v
/-- A TRIM_CMD is refused. -/
def State.trimRefuse (s : State) : State := (s.raise R.AIO_ERR F.AIO_ERR_CMD_REJECT).trimResult 7

/-- The session ends with a result. -/
def State.trimEnd (s : State) (v : Nat) : State :=
  let s := (s.setRegN R.TRIM_STATUS 0).trimResult v
  s.modIo (fun io => { io with capZ := none, capS := none, drive := none })

/-- Open a session of a kind (1 panel, 2 command). -/
def State.trimOpen (s : State) (kind ch : Nat) : State :=
  if s.trimKind ≠ 0 ∨ !s.mayTrim ∨ 48 ≤ ch ∨ (32 ≤ ch ∧ (kind ≠ 2 ∨ s.power ≠ 4)) then s.trimRefuse
  else
    let s := (s.setRegN R.TRIM_STATUS (kind + 4 * ch)).modIo (fun io => { io with capZ := none, capS := none, trimT := s.now })
    if 32 ≤ ch then s.modIo (fun io => { io with drive := some 10000 }) else s

/-- The mean in mA of the last N valid trimmed samples, when there are that many (R445). -/
def State.trimMean (s : State) (c : Nat) : Option F64 :=
  let n := max 4 (100000 / max (s.aiPeriod c) 1)
  let xs := (kvGet (fun _ => []) c s.io.aiHist).take n
  if xs.length < n ∨ s.aiPeriod c = 0 then none
  else some (((F64.ofInt xs.sum).div (F64.ofInt n)).div (F64.ofInt 1000000))

/-- Whether a mean lies within 1 mA of `k` mA. -/
def within1mA (m : F64) (k : Int) : Bool :=
  let d := m.sub (F64.ofInt k)
  let e := d.sub (F64.ofInt 1)
  let g := d.add (F64.ofInt 1)
  (e.neg || e.m == 0) && (!g.neg || g.m == 0)

/-- Hold a capture, zero or span. -/
def State.trimHold (s : State) (span : Bool) (m : F64) : State :=
  if span then
    ((s.modIo (fun io => { io with capS := some m })).setRegN R.TRIM_CAP_S m.to32).raise R.TRIM_STATUS F.TRIM_STATUS_SPAN_HELD
  else
    ((s.modIo (fun io => { io with capZ := some m })).setRegN R.TRIM_CAP_Z m.to32).raise R.TRIM_STATUS F.TRIM_STATUS_ZERO_HELD

/-- CAPTURE_ZERO or CAPTURE_SPAN in a session of `kind`. -/
def State.trimCapture (s : State) (kind : Nat) (span : Bool) : State :=
  if s.trimKind ≠ kind then s.trimRefuse
  else
    let s := s.modIo (fun io => { io with trimT := s.now })
    let c := s.trimCh
    if c < 32 then
      let l := rangeLow (s.aiRange c) / 1000000
      match s.trimMean c with
      | none => s.trimResult 6
      | some m => if within1mA m (if span then 20 else l) then s.trimHold span m else s.trimResult 4
    else
      match F64.of32 (s.regN R.TRIM_MEAS) with
      | none => s.trimResult 4
      | some m => (s.trimHold span m).modIo (fun io => { io with drive := some 50000 })

/-- The new trims of an input (R445), in mA and as a factor. -/
def inTrims (z0 g0 l h : F64) (cz cs : Option F64) : F64 × F64 :=
  let (z, rl) := match cz with
    | some r => (z0.sub ((r.sub l).div g0), r)
    | none => (z0, l)
  let g := match cs with
    | some r => (g0.mul (h.sub l)).div (r.sub rl)
    | none => g0
  (z, g)

/-- The new trims of an output (R446); none when the readings are equal. -/
def outTrims (z0 g0 ml mh : F64) : Option (F64 × F64) :=
  let d := mh.sub ml
  if d.m = 0 then none
  else
    let g := ((F64.ofInt 16).mul g0).div d
    some (z0.add (((F64.ofInt 4).sub ml).mul g), g)

/-- Commit new trims of channel `ch`, or LIMIT (R445, Table 14.9). -/
def State.trimPut (s : State) (ch : Nat) (zg : Option (F64 × F64)) : State :=
  match zg with
  | none => s.trimEnd 5
  | some (z, g) =>
    let zi := (z.mul (F64.ofInt 1000000)).roundInt 0
    let gi := g.roundInt 30
    if zi < -200000 ∨ 200000 < zi ∨ gi * 100 < 98 * 2 ^ 30 ∨ 102 * 2 ^ 30 < gi * 100 then s.trimEnd 5
    else
      let (za, ga) := if ch < 32 then (R.AI_ZERO_TRIM_LO ch, R.AI_SPAN_TRIM_LO ch)
        else (R.AO_ZERO_TRIM_LO (ch - 32), R.AO_SPAN_TRIM_LO (ch - 32))
      ((s.setPair za (ofSigned 32 zi)).setPair ga gi.toNat).trimEnd 1

/-- COMMIT of a session of `kind`. -/
def State.trimCommit (s : State) (kind : Nat) : State :=
  let ch := s.trimCh
  let (za, ga) := if ch < 32 then (R.AI_ZERO_TRIM_LO ch, R.AI_SPAN_TRIM_LO ch)
    else (R.AO_ZERO_TRIM_LO (ch - 32), R.AO_SPAN_TRIM_LO (ch - 32))
  let z0 := (F64.ofInt (s.zTrim za)).div (F64.ofInt 1000000)
  let g0 := F64.norm false (s.regN ga) (-30)
  if s.trimKind ≠ kind then s.trimRefuse
  else if ch < 32 then
    let l := F64.ofInt (rangeLow (s.aiRange ch) / 1000000)
    s.trimPut ch (some (inTrims z0 g0 l (F64.ofInt 20) s.io.capZ s.io.capS))
  else match s.io.capZ, s.io.capS with
    | some ml, some mh => s.trimPut ch (outTrims z0 g0 ml mh)
    | _, _ => s.trimRefuse

/-- ABORT of a session of `kind`. -/
def State.trimAbort (s : State) (kind : Nat) : State := if s.trimKind = kind then s.trimEnd 2 else s.trimRefuse

/-- A TRIM_CMD code at the commit. -/
def State.trimCmd (s : State) (kind v : Nat) : State :=
  match v % 16 with
  | 1 => s.trimOpen kind (v / 16 % 64)
  | 2 => s.trimCapture kind false
  | 3 => s.trimCapture kind true
  | 4 => s.trimCommit kind
  | 5 => s.trimAbort kind
  | _ => s

/-- TRIM_TIMEOUT (R447). -/
def State.trimTimeout (s : State) (t : Nat) : State :=
  if s.trimKind ≠ 0 ∧ s.io.trimT + 60000000000 ≤ t then (s.at t).trimEnd 3 else s

end Sys2Proof.Machine
end

