-- ==== Sys2Proof/Machine/Dio.lean ====
section
/-! DEFINITION. Digital inputs and outputs, call relays, and the carrier's filters (15_digital_io.md). -/

namespace Sys2Proof.Machine

/-! ### Filters and instants (R456, R457) -/

/-- N of a filter code (Table 15.2). -/
def filterN (code : Nat) : Nat :=
  nth [1, 2, 4, 8, 12, 20, 40, 80, 120, 200, 400, 800, 1200, 2000, 4000] code 1

/-- One sample `v` enters a filter of length `n`: level, run value, run length. -/
def filterStep (n : Nat) (f : Bool × Bool × Nat) (v : Bool) : Bool × Bool × Nat :=
  let k := if v = f.2.1 then f.2.2 + 1 else 1
  let k := min k 4000
  (if n ≤ k then v else f.1, v, k)

/-- Filter code of input `i` in the carrier's configuration words 7–12. -/
def CarSt.filterCode (c : CarSt) (i : Nat) : Nat :=
  let w := nth c.cfg (7 + i / 8) 0
  bitsOf w (4 * (i % 8) + 3) (4 * (i % 8))

/-- The first epoch boundary after `t`, from configuration words 5 and 6; none without a grid. -/
def CarSt.nextBoundary (c : CarSt) (t : Nat) : Option Nat :=
  let per := 1000 * nth c.cfg 5 0
  let φ := nth c.cfg 6 0
  if per = 0 then none
  else some (if t < φ % per then φ % per else φ % per + ((t - φ % per) / per + 1) * per)
/-- Whether a word received at `r` is in force at `t` (R469). -/
def CarSt.wordDue (c : CarSt) (r t : Nat) : Bool :=
  match c.nextBoundary r with
  | some b => Nat.ble b t
  | none => false
/-- Configuration words whose boundary has come are in force (R469). -/
def CarSt.settleCfg (c : CarSt) (t : Nat) : CarSt :=
  { c with
    cfg := (c.cfgNext.filter (fun p => c.wordDue p.2.2 t)).foldl (fun l p => setNth l p.1 p.2.1) c.cfg
    cfgNext := c.cfgNext.filter (fun p => !c.wordDue p.2.2 t) }

/-- Bits of a number as a list, lowest first. -/
def bitList (n w : Nat) : List Bool := (List.range w).map (bitOf n)
/-- The number with these bits. -/
def bitNat : List Bool → Nat
  | [] => 0
  | b :: bs => b2n b + 2 * bitNat bs

/-- The filters of the 48 inputs after one more sample `levels`; inputs that are mis-wired read 0 (R457, R480). -/
def CarSt.filtered (c : CarSt) (levels : Nat) : List (Bool × Bool × Nat) :=
  let lv := (bitList levels 48).zipIdx.map (fun p => p.1 && !bitOf c.miswire p.2)
  (c.filt.zip lv).zipIdx.map (fun p => filterStep (filterN (c.filterCode p.2)) p.1.1 p.1.2)

/-- DI_SAMPLING_INSTANT `j` with the 48 levels at the terminals (R456, R457). Inputs that are mis-wired read 0 (R480). No
sample is taken before word 5 is non-zero (R474). -/
def State.diSample (s : State) (j levels : Nat) : State :=
  let c := s.car.settleCfg (25000 * j)
  if !c.up ∨ nth c.cfg 5 0 = 0 then { s with car := c }
  else
    let fs := c.filtered levels
    let item := leBytes 2 j ++ leBytes 6 (bitNat (fs.map Prod.fst))
    { s with car := { c with filt := fs, ready := c.ready ++ [(2, item)] } }

/-- The channels with a sampling instant at `t`, with their values (R425, R450). -/
def State.aiDue (s : State) (t : Nat) (vals : List (Nat × Int)) : List (Nat × Int) :=
  let c := s.car.settleCfg t
  let p (i : Nat) : Nat := bitsOf (nth c.cfg (16 + i) 0) 21 2
  let φ := nth c.cfg 6 0
  let onGrid (i : Nat) : Bool :=
    p i != 0 && (let T := s.aiStep (p i)
                 ((t : Int) - φ) % T == 0)
  (List.range 32).filterMap (fun i => if onGrid i then (vals.find? (fun v => v.1 == i)) else none)
/-- The items that carry samples of the instant `t`, at most 12 channels in each. -/
def aiItems (t : Nat) (due : List (Nat × Int)) : List (Nat × List Byte) :=
  let code (x : Int) : Nat := ofSigned 24 (Int.tdiv (clampInt (-1000000) 25000000 x) 4)
  let item (l : List (Nat × Int)) : Nat × List Byte :=
    (1, leBytes 4 t ++ leBytes 4 ((l.map (fun v => 2 ^ v.1)).sum) ++ (l.map (fun v => leBytes 3 (code v.2))).flatten)
  ([due.take 12, (due.drop 12).take 12, due.drop 24].filter (fun l => !l.isEmpty)).map item

/-- AI_SAMPLING_INSTANT `t` (R425, R426): the sinc³ outputs in nA of the inputs that have an instant there, held to
−1.0 mA to 25.0 mA, twelve inputs an item in units of 4 nA. -/
def State.aiSample (s : State) (t : Nat) (vals : List (Nat × Int)) : State :=
  let c := s.car.settleCfg t
  if !c.up ∨ nth c.cfg 5 0 = 0 ∨ (s.aiDue t vals).isEmpty then { s with car := c }
  else { s with car := { c with ready := c.ready ++ aiItems t (s.aiDue t vals) } }

/-! ### The DI record (R458 to R460) -/

/-- An edge: time, input, new level. -/
def edgesAt (n : Nat → Nat) (t before after : Nat) : List (Nat × Nat × Nat) :=
  (List.range 48).filterMap (fun i =>
    if bitOf before i == bitOf after i then none else some (t - (n i - 1) * 25000, i, b2n (bitOf after i)))

/-- Walk the instants of a record: levels, edges so far, whether one was absent. -/
def diWalk (get : Nat → Option Nat) (n : Nat → Nat) : List Nat → Option Nat → List (Nat × Nat × Nat) → Bool →
    Option Nat × List (Nat × Nat × Nat) × Bool
  | [], lv, es, ab => (lv, es, ab)
  | t :: ts, lv, es, ab =>
    match get t, lv with
    | none, _ => diWalk get n ts lv es true
    | some v, none => diWalk get n ts (some v) es ab
    | some v, some u => diWalk get n ts (some v) (es ++ edgesAt n t u v) ab

/-- Order of edges: edge time, then input. -/
def edgeLe (a b : Nat × Nat × Nat) : Bool := Nat.blt a.1 b.1 || (a.1 == b.1 && Nat.ble a.2.1 b.2.1)

/-- Insert into a sorted list of edges. -/
def edgeInsert (e : Nat × Nat × Nat) : List (Nat × Nat × Nat) → List (Nat × Nat × Nat)
  | [] => [e]
  | x :: xs => if edgeLe e x then e :: x :: xs else x :: edgeInsert e xs

/-- The DI record when the log closes at `b`, and the state with what it covered taken. FIRST_T of an empty record is a free
value. -/
def State.diLog (s : State) (b : Nat) : List Byte × State :=
  let T := 25000
  let ds := s.io.diBuf.map Prod.fst
  let lastDue := (b - 40000) / T * T
  let upTo := max lastDue ((ds.filter (fun t => Nat.blt t b)).foldl max 0)
  let ts := match s.io.diLast with
    | some l => instants T (l + T) upTo
    | none =>
      match ds with
      | [] => []
      | d :: dt => instants T (max ((b - s.img.run.period + T - 1) / T * T) (dt.foldl min d)) upTo
  let n (i : Nat) : Nat := filterN (bitsOf (s.regN (R.DI_FILTER (i / 8))) (4 * (i % 8) + 3) (4 * (i % 8)))
  let get (t : Nat) : Option Nat := (s.io.diBuf.find? (fun p => p.1 == t)).map Prod.snd
  let (lv, es, ab) := diWalk get n ts s.io.diLevel [] false
  let es := es.foldr edgeInsert []
  let counts := (List.range 48).map (fun i =>
    (nth s.io.diCount i 0 + (es.filter (fun e => e.2.1 == i && e.2.2 == 1)).length) % 2 ^ 32)
  let (free, s1) := s.fresh
  let (firstT, s2) := match ts with
    | t :: _ => (t, s)
    | [] => (free.toNat, s1)
  let mis := s.regN R.DI_MISWIRE_LO + s.regN R.DI_MISWIRE_HI
  let bytes := leBytes 2 2 ++ leBytes 2 0 ++ leBytes 4 (256 + 16 * es.length) ++ leBytes 8 firstT ++
    leBytes 4 ts.length ++ leBytes 4 es.length ++ leBytes 6 (lv.getD 0) ++ copies 2 0#8 ++
    leBytes 4 (b2n ab + 2 * b2n (mis != 0)) ++ copies 28 0#8 ++ (counts.map (leBytes 4)).flatten ++
    (es.map (fun e => leBytes 8 e.1 ++ leBytes 1 e.2.1 ++ leBytes 1 e.2.2 ++ copies 6 0#8)).flatten
  let s := s2.modIo (fun io => { io with
    diLast := match ts.getLast? with
      | some t => some t
      | none => io.diLast
    diBuf := match ts.getLast? with
      | some t => io.diBuf.filter (fun p => Nat.blt t p.1)
      | none => io.diBuf
    diLevel := lv
    diCount := counts
    diRec := lv })
  (padRec bytes, s)

/-- A delivered instant of levels: an instant already covered is discarded. -/
def State.diDeliver (s : State) (t lv : Nat) : State :=
  match s.io.diLast with
  | some l => if t ≤ l then s else s.modIo (fun io => { io with diBuf := io.diBuf ++ [(t, lv)] })
  | none => s.modIo (fun io => { io with diBuf := io.diBuf ++ [(t, lv)] })

/-- DI_STATE and DI_COUNT at the commit. -/
def State.diCommit (s : State) : State :=
  let s := match s.io.diRec with
    | some v => (s.setRegN R.DI_STATE_LO v).setRegN R.DI_STATE_HI (v / 2 ^ 32)
    | none => s
  s.io.diCount.zipIdx.foldl (fun s p => s.setRegN (R.DI_COUNT p.2) p.1) s

/-! ### Digital outputs (Table 15.5) -/

/-- State of digital output `i` on the carrier. -/
def State.doSt (s : State) (i : Nat) : Nat := nth s.car.doSt i 0
/-- Set it, shown in DO_ARMED. -/
def State.doSet (s : State) (i v : Nat) : State :=
  let s := s.modC (fun c => { c with doSt := setNth c.doSt i v })
  s.setF R.DO_ARMED ⟨i, 1⟩ (b2n (v == 1))

/-- A command bit and an arm bit reach output `i`. -/
def State.doTake (s : State) (i : Nat) (cmd arm : Bool) : State :=
  let st := s.doSt i
  if !cmd then s.doSet i 0
  else if s.car.revG.contains (i / 16) then s.doSet i 0
  else if st = 0 then s.doSet i (if arm then 1 else 2)
  else s

/-- The relay carrier word (R464): bit k energises relay k, an arm bit at once as well. -/
def State.relayTake (s : State) (v : Nat) : State :=
  (s.modC (fun c => { c with relays := v % 16 })).setRegN R.RELAY_STATE (v % 16)

/-- DO_RELEASE_SEEN (R463). -/
def State.doRelease (s : State) (i : Nat) : State := if s.doSt i = 1 then s.doSet i 2 else s

/-- DO_CURRENT_LIMIT (R478). -/
def State.doLimit (s : State) (i : Nat) (on : Bool) : State :=
  if on ∧ s.doSt i = 2 then (s.doSet i 3).setF R.DO_LIMIT ⟨i, 1⟩ 1
  else if !on ∧ s.doSt i = 3 then (s.doSet i 2).setF R.DO_LIMIT ⟨i, 1⟩ 0
  else s

/-- DO_THERMAL_SHUTDOWN (R478). -/
def State.doTrip (s : State) (i : Nat) : State :=
  if s.doSt i = 3 then
    let s := ((s.doSet i 4).setF R.DO_LIMIT ⟨i, 1⟩ 0).setF R.DO_TRIPPED ⟨i, 1⟩ 1
    (s.inc R.DO_TRIP_CNT).raise R.DIO_ERR F.DIO_ERR_TRIP
  else s

/-- DO_THERMAL_RESTART (R461): the command is still 1. -/
def State.doRestart (s : State) (i : Nat) : State :=
  if s.doSt i = 4 ∧ bitOf s.car.doCmd i = true then s.doSet i 2 else s

/-- SWITCH_FAILED_ON (R479, R302). -/
def State.doFailedOn (s : State) (i : Nat) : State :=
  let st := s.doSt i
  if (st = 0 ∨ st = 1 ∨ st = 4) ∧ !s.car.ext.contains i then
    let s := s.modC (fun c => { c with iso := true })
    ((s.raise R.DIO_ERR F.DIO_ERR_ISO_FAULT).raise R.DIO_STATUS F.DIO_STATUS_ISO_FAULT).unrecoverable 8 12 0 0
  else s

/-- DO_EXT_SOURCE (R480): begins or ends for an output that is OFF or ARMED. -/
def State.doExt (s : State) (i : Nat) (on : Bool) : State :=
  if on then
    if s.doSt i = 0 ∨ s.doSt i = 1 then
      (s.modC (fun c => { c with ext := c.ext.filter (fun k => k != i) ++ [i] })).setF R.DO_EXT ⟨i, 1⟩ 1
    else s
  else (s.modC (fun c => { c with ext := c.ext.filter (fun k => k != i) })).setF R.DO_EXT ⟨i, 1⟩ 0

/-- DI_MISWIRE (R480): begins, or has ended for 1 s. -/
def State.diMiswire (s : State) (i : Nat) (on : Bool) : State :=
  let m := s.car.miswire
  let m' := if on == bitOf m i then m else if on then m + 2 ^ i else m - 2 ^ i
  let s := s.modC (fun c => { c with miswire := m' })
  (s.setRegN R.DI_MISWIRE_LO m').setRegN R.DI_MISWIRE_HI (m' / 2 ^ 32)

/-- SUPPLY_REV (R480): group `g` (0 or 1) has a reversed supply, or no longer; its outputs are held open meanwhile. -/
def State.supplyRev (s : State) (g : Nat) (on : Bool) : State :=
  let rs := s.car.revG.filter (fun k => k != g) ++ (if on then [g] else [])
  let s := s.modC (fun c => { c with revG := rs })
  let s := s.setF R.DIO_STATUS F.DIO_STATUS_SUPPLY_REV (b2n (!rs.isEmpty))
  if on then (List.range 16).foldl (fun s i => s.doSet (16 * g + i) 0) s else s

/-- SUPPLY_g_OK of a group. -/
def supplyFld (g : Nat) : Fld := if g = 0 then F.DIO_STATUS_SUPPLY_1_OK else F.DIO_STATUS_SUPPLY_2_OK
/-- LPLUS_g_MV of a group. -/
def lplus (g : Nat) : Nat := if g = 0 then R.LPLUS_1_MV else R.LPLUS_2_MV

/-- GROUP_SUPPLY_LOW (R481): below 17.0 V for 10 ms. -/
def State.supplyLow (s : State) (g mv : Nat) : State :=
  if mv < 17000 then ((s.setRegN (lplus g) mv).drop R.DIO_STATUS (supplyFld g)).raise R.DIO_ERR F.DIO_ERR_SUPPLY_LOW else s

/-! ### Safe states (R441, R473, R474) -/

/-- Code of a 2-bit field in a configuration word. -/
def CarSt.code2 (c : CarSt) (w i : Nat) : Nat := bitsOf (nth c.cfg w 0) (2 * i + 1) (2 * i)

/-- Output `o` goes to its safe state. -/
def State.aoSafe (s : State) (o : Nat) : State :=
  let range := bitsOf (nth s.car.aoWord o 0) 19 18
  let drive (mode : Nat) : State :=
    (s.modC (fun c => { c with aoWord := setNth c.aoWord o (mode * 2 ^ 16 + range * 2 ^ 18) })).aoSet o 2
  match s.car.code2 3 o with
  | 0 => s.aoSet o 0
  | 1 => drive 1
  | 2 => drive 2
  | _ => s

/-- Digital output `i` goes to its safe state. -/
def State.doSafe (s : State) (i : Nat) : State :=
  match s.car.code2 (1 + i / 16) (i % 16) with
  | 0 => s.doSet i 0
  | 1 => if s.car.revG.contains (i / 16) then s.doSet i 0 else if s.doSt i = 3 ∨ s.doSt i = 4 then s else s.doSet i 2
  | _ => s

/-- The relays go to their safe states. -/
def State.relaySafe (s : State) : State :=
  let bit (k : Nat) : Nat := match s.car.code2 4 k with
    | 0 => 0
    | 1 => 1
    | _ => b2n (bitOf s.car.relays k)
  s.relayTake (bit 0 + 2 * bit 1 + 4 * bit 2 + 8 * bit 3)

/-- Analogue outputs carried on a lane (Table 15.7). -/
def laneAo (l : Nat) : List Nat :=
  if l = 0 then [0, 1, 2, 3, 4, 5] else if l = 1 then [6, 7, 8, 9, 10, 11] else if l = 2 then [12, 13, 14, 15] else []

/-- The outputs of lane `l` take their safe states (R441, R473). -/
def State.laneSafe (s : State) (l : Nat) : State :=
  let s := s.modC (fun c => { c with safeOn := setNth c.safeOn l true })
  let s := (laneAo l).foldl (fun s o => s.aoSafe o) s
  let s := if l = 2 then (List.range 32).foldl (fun s i => s.doSafe i) s else s
  if l = 3 then s.relaySafe else s

/-- SAFE_STATE_TIMEOUT of lane `l` by chain time `t`. -/
def State.safeTimeout (s : State) (l t : Nat) : State :=
  let c := s.car.settleCfg t
  let s := { s with car := c }
  if !c.up ∨ t < nth c.lastOk l 0 + nth c.cfg 0 50 * 1000000 ∨ nth c.safeOn l false = true then s
  else (s.at t).laneSafe l

end Sys2Proof.Machine
end

