-- ==== Sys2Proof/Machine/Ldpc.lean ====
section
/-! DEFINITION. The coding both modems share (R486, R487). The three parity-check matrices are those of IEEE 802.11-2020
clause 19.3.11.7 for n = 648, which the spec names and does not print (PRESUMED, log entry 31). -/

namespace Sys2Proof.Machine

/-! ### Whitening -/

/-- One step of the PN9 register x⁹ + x⁵ + 1. -/
def pn9Step (r : Nat) : Nat := r / 2 + (r % 2 + r / 32 % 2) % 2 * 256
/-- Eight steps. -/
def pn9Byte (r : Nat) : Nat := pn9Step (pn9Step (pn9Step (pn9Step (pn9Step (pn9Step (pn9Step (pn9Step r)))))))
/-- XOR with the PN9 sequence, least significant bit first. -/
def whitenFrom : Nat → List Byte → List Byte
  | _, [] => []
  | r, b :: bs => (b ^^^ BitVec.ofNat 8 r) :: whitenFrom (pn9Byte r) bs
/-- Whiten or dewhiten a frame's info bytes. -/
def whiten (bs : List Byte) : List Byte := whitenFrom 0x1FF bs

/-! ### Matrices: block rows as (block column, shift) -/

/-- Rate 1/2. -/
def ldpc12 : List (List (Nat × Nat)) :=
  [[(0, 0), (4, 0), (5, 0), (8, 0), (11, 0), (12, 1), (13, 0)],
   [(0, 22), (1, 0), (4, 17), (6, 0), (7, 0), (8, 12), (13, 0), (14, 0)],
   [(0, 6), (2, 0), (4, 10), (8, 24), (10, 0), (14, 0), (15, 0)],
   [(0, 2), (3, 0), (4, 20), (8, 25), (9, 0), (15, 0), (16, 0)],
   [(0, 23), (4, 3), (8, 0), (10, 9), (11, 11), (16, 0), (17, 0)],
   [(0, 24), (2, 23), (3, 1), (4, 17), (6, 3), (8, 10), (17, 0), (18, 0)],
   [(0, 25), (4, 8), (8, 7), (9, 18), (12, 0), (18, 0), (19, 0)],
   [(0, 13), (1, 24), (4, 0), (6, 8), (8, 6), (19, 0), (20, 0)],
   [(0, 7), (1, 20), (3, 16), (4, 22), (5, 10), (8, 23), (20, 0), (21, 0)],
   [(0, 11), (4, 19), (8, 13), (10, 3), (11, 17), (21, 0), (22, 0)],
   [(0, 25), (2, 8), (4, 23), (5, 18), (7, 14), (8, 9), (22, 0), (23, 0)],
   [(0, 3), (4, 16), (7, 2), (8, 25), (9, 5), (12, 1), (23, 0)]]

/-- Rate 2/3. -/
def ldpc23 : List (List (Nat × Nat)) :=
  [[(0, 25), (1, 26), (2, 14), (4, 20), (6, 2), (8, 4), (11, 8), (13, 16), (15, 18), (16, 1), (17, 0)],
   [(0, 10), (1, 9), (2, 15), (3, 11), (5, 0), (7, 1), (10, 18), (12, 8), (14, 10), (17, 0), (18, 0)],
   [(0, 16), (1, 2), (2, 20), (3, 26), (4, 21), (6, 6), (8, 1), (9, 26), (11, 7), (18, 0), (19, 0)],
   [(0, 10), (1, 13), (2, 5), (3, 0), (5, 3), (7, 7), (10, 26), (13, 13), (15, 16), (19, 0), (20, 0)],
   [(0, 23), (1, 14), (2, 24), (4, 12), (6, 19), (8, 17), (12, 20), (14, 21), (16, 0), (20, 0), (21, 0)],
   [(0, 6), (1, 22), (2, 9), (3, 20), (5, 25), (7, 17), (9, 8), (11, 14), (13, 18), (21, 0), (22, 0)],
   [(0, 14), (1, 23), (2, 21), (3, 11), (4, 20), (6, 24), (8, 18), (10, 19), (15, 22), (22, 0), (23, 0)],
   [(0, 17), (1, 11), (2, 11), (3, 20), (5, 21), (7, 26), (9, 3), (12, 18), (14, 26), (16, 1), (23, 0)]]

/-- Rate 3/4. -/
def ldpc34 : List (List (Nat × Nat)) :=
  [[(0, 16), (1, 17), (2, 22), (3, 24), (4, 9), (5, 3), (6, 14), (8, 4), (9, 2), (10, 7), (12, 26), (14, 2), (16, 21),
    (18, 1), (19, 0)],
   [(0, 25), (1, 12), (2, 12), (3, 3), (4, 3), (5, 26), (6, 6), (7, 21), (9, 15), (10, 22), (12, 15), (14, 4), (17, 16),
    (19, 0), (20, 0)],
   [(0, 25), (1, 18), (2, 26), (3, 16), (4, 22), (5, 23), (6, 9), (8, 0), (10, 4), (12, 4), (14, 8), (15, 23), (16, 11),
    (20, 0), (21, 0)],
   [(0, 9), (1, 7), (2, 0), (3, 1), (4, 17), (7, 7), (8, 3), (10, 3), (11, 23), (13, 16), (16, 21), (18, 0), (21, 0),
    (22, 0)],
   [(0, 24), (1, 5), (2, 26), (3, 7), (4, 1), (7, 15), (8, 24), (9, 15), (11, 8), (13, 13), (15, 13), (17, 11), (22, 0),
    (23, 0)],
   [(0, 2), (1, 2), (2, 19), (3, 14), (4, 24), (5, 1), (6, 15), (7, 19), (9, 21), (11, 2), (13, 24), (15, 3), (17, 2),
    (18, 1), (23, 0)]]

/-- The matrix of a rate code: 0 1/2, 1 2/3, 2 3/4. -/
def ldpcRows (rate : Nat) : List (List (Nat × Nat)) := if rate = 0 then ldpc12 else if rate = 1 then ldpc23 else ldpc34
/-- Info bytes of a codeword. -/
def infoBytes (rate : Nat) : Nat := if rate = 0 then 40 else if rate = 1 then 54 else 60

/-- The variables of check `z` of a block row. -/
def checkVars (row : List (Nat × Nat)) (z : Nat) : List Nat := row.map (fun p => 27 * p.1 + (z + p.2) % 27)

/-! ### Layered min-sum (R487) -/

/-- Saturation of posteriors. -/
def sat63 (x : Int) : Int := clampInt (-63) 63 x

/-- The message of a check to each of its variables, from the inputs `t`. -/
def checkMsgs (t : List Int) : List Int :=
  (List.range t.length).map (fun i =>
    let others := t.eraseIdx i
    let m := others.foldl (fun a x => min a x.natAbs) 63
    let negs := (others.filter (fun x => decide (x < 0))).length
    let r : Int := (3 * m / 4 : Nat)
    if negs % 2 = 1 then -r else r)

/-- One check: posteriors and its messages, updated. -/
def checkStep (q : List Int) (r : List Int) (vs : List Nat) : List Int × List Int :=
  let t := (vs.zip r).map (fun p => sat63 (nth q p.1 0 - p.2))
  let r' := checkMsgs t
  ((vs.zip (t.zip r')).foldl (fun q p => setNth q p.1 (sat63 (p.2.1 + p.2.2))) q, r')

/-- One iteration over all checks, with their messages. -/
def ldpcIter : List (List Nat) → List (List Int) → List Int → List Int × List (List Int)
  | vs :: cs, r :: rs, q =>
    let (q, r') := checkStep q r vs
    let (q, rs') := ldpcIter cs rs q
    (q, r' :: rs')
  | _, rs, q => (q, rs)

/-- Hard decisions: positive means bit 0. -/
def hardBits (q : List Int) : List Bool := q.map (fun x => decide (x < 0))

/-- Whether every check holds. -/
def syndromeZero (cs : List (List Nat)) (h : List Bool) : Bool :=
  cs.all (fun vs => (vs.filter (fun v => nth h v false)).length % 2 == 0)

/-- Iterate at most `n` times more; iteration number reached, decoded or not, posteriors. -/
def ldpcLoop (cs : List (List Nat)) : Nat → Nat → List (List Int) → List Int → Nat × Bool × List Int
  | 0, it, _, q => (it, false, q)
  | n + 1, it, rs, q =>
    let (q, rs) := ldpcIter cs rs q
    if syndromeZero cs (hardBits q) then (it + 1, true, q) else ldpcLoop cs n (it + 1) rs q

/-- A decoded codeword: info bytes when the syndrome is zero, ITER and CORR. -/
def ldpcDecode (rate iterMax : Nat) (llr : List Int) : Option (List Byte) × Nat × Nat :=
  let llr := (llr.map (clampInt (-31) 31) ++ copies 648 0).take 648
  let cs := ((ldpcRows rate).map (fun row => (List.range 27).map (checkVars row))).flatten
  let (it, ok, q) := ldpcLoop cs iterMax 0 (cs.map (fun vs => copies vs.length 0)) llr
  let h := hardBits q
  let corr := ((h.zip (hardBits llr)).filter (fun p => p.1 != p.2)).length
  let byte (i : Nat) : Byte := BitVec.ofNat 8 (((List.range 8).map (fun b => b2n (nth h (8 * i + b) false) * 2 ^ b)).sum)
  (if ok then some ((List.range (infoBytes rate)).map byte) else none, it, corr)

/-- A frame's codewords: its info bytes still whitened, when every codeword decoded, the largest ITER, the sum of CORR. -/
def ldpcFrame (rate iterMax : Nat) (cws : List (List Int)) : Option (List Byte) × Nat × Nat :=
  let ds := cws.map (ldpcDecode rate iterMax)
  let bytes := ds.foldr (fun d acc => match d.1, acc with
    | some b, some bs => some (b ++ bs)
    | _, _ => none) (some [])
  (bytes, (ds.map (fun d => d.2.1)).foldl max 0, (ds.map (fun d => d.2.2)).sum)

/-! ### Header CRC (R466, Table 16.3) -/

/-- CRC-16/CCITT-FALSE holds over `n` low bytes of a header, kept in the 16 bits above them. -/
def hdrOk (h n : Nat) : Bool := crc16 (leBytes n h) == h / 2 ^ (8 * n) % 65536

end Sys2Proof.Machine
end

