-- ==== Sys2Proof/Machine/Radio.lean ====
section
/-! DEFINITION. The wireless tag link: slots, packet finding, frequency correction, beacons, windows and the radio record
(16_modems.md). -/

namespace Sys2Proof.Machine

/-- Change the radio. -/
def State.modRad (s : State) (f : RadioSt → RadioSt) : State := { s with radio := f s.radio }
/-- Configuration word 48 + i in force at the carrier (Table 16.1). -/
def CarSt.mw (c : CarSt) (i : Nat) : Nat := nth c.cfg (48 + i) 0
/-- A field of such a word. -/
def CarSt.mf (c : CarSt) (i hi lo : Nat) : Nat := bitsOf (c.mw i) hi lo
/-- An item waits for an upstream frame. -/
def State.addItem (s : State) (tag : Nat) (body : List Byte) : State :=
  s.modC (fun c => { c with ready := c.ready ++ [(tag, body)] })

/-! ### Plan of slots (R488, R506) -/

/-- SF_LEN, SLOT_US, NSLOTS, BEACON_SLOTS, JOIN_FIRST, JOIN_COUNT. -/
structure SlotPlan where
  len : Nat
  slot : Nat
  n : Nat
  beacon : Nat
  first : Nat
  count : Nat
  deriving DecidableEq, Repr

/-- The plan of two register words. -/
def planOf (sf join : Nat) : SlotPlan :=
  ⟨bitsOf sf 15 0, bitsOf sf 31 16, bitsOf join 9 0, bitsOf join 13 10, bitsOf join 23 14, bitsOf join 27 24⟩
/-- A superframe's length in ns. -/
def SlotPlan.span (p : SlotPlan) (period : Nat) : Nat := p.len * period
/-- Whether the carrier opens slot `k`. -/
def SlotPlan.opens (p : SlotPlan) (period k : Nat) : Bool :=
  Nat.ble p.beacon k && Nat.blt k p.n && Nat.ble ((k + 1) * p.slot * 1000) (p.span period)
/-- Whether slot `k` is a join slot. -/
def SlotPlan.joins (p : SlotPlan) (k : Nat) : Bool := Nat.ble p.first k && Nat.blt k (p.first + p.count)
/-- Whether superframe `sf` runs: all of them, or in HARBOUR the multiples of HARB_DIV. -/
def State.sfRuns (s : State) (sf div : Nat) : Bool := s.power != 3 || sf % max div 1 == 0

/-- Symbol rate in ksym/s of RADIO_CFG. -/
def symRate (cfg : Nat) : Nat := 25 * max (bitsOf cfg 8 5) 1
/-- Time in ns of `n` symbols. -/
def symTime (cfg n : Nat) : Nat := n * 1000000 / symRate cfg

/-! ### The receiver (R490 to R492, Table 16.4) -/

/-- Order of RESULT codes by how far they reach. -/
def rank (r : Nat) : Nat := if r = 0 then 6 else if r = 1 then 1 else r
/-- Keep the furthest RESULT. -/
def RxSt.reach (x : RxSt) (r : Nat) : RxSt := if rank x.best < rank r then { x with best := r } else x
/-- Change the receiver. -/
def State.modRx (s : State) (f : RxSt → RxSt) : State := s.modRad (fun r => { r with rx := r.rx.map f })
/-- A_k. -/
def State.afc (s : State) (k : Nat) : Int := kvGet (fun _ => 0) k s.radio.afc

/-- RADIO_SLOT_OPEN: slot `k` of superframe `sf` (R488). -/
def State.slotOpen (s : State) (sf k : Nat) : State :=
  let c := s.car.settleCfg s.now
  let s := { s with car := c }
  let p := planOf (c.mw 1) (c.mw 2)
  let period := 1000 * nth c.cfg 5 0
  if !c.up ∨ !bitOf (c.mw 0) 0 ∨ period = 0 ∨ !s.sfRuns sf (c.mf 7 23 16) ∨ k < p.beacon ∨ p.n ≤ k then s
  else if !p.opens period k then s.raise R.RADIO_ERR F.RADIO_ERR_PLAN
  else s.modRad (fun r => { r with rx := some ⟨sf, k, 0, 1, 0, 0, 0, 0, false, false, 0, 0, 0, 0, []⟩ })

/-- RADIO_TRIGGERED: strength `rssi` (0.5 dBm) over 8 symbols, `dt` ns after the slot's start (R491). -/
def State.radioTrigger (s : State) (rssi : Int) (dt : Nat) : State :=
  let c := s.car
  let thr : Int := (c.mf 3 7 0 : Nat) - 280
  let window := 2 * (4000 * c.mf 5 23 16) + symTime (c.mw 0) (c.mf 3 31 24)
  match s.radio.rx with
  | some x => if x.stage = 0 ∧ thr ≤ rssi ∧ dt ≤ window then s.modRx (fun x => { x with stage := 1, rssi := rssi }) else s
  | none => s

/-- RADIO_CORRELATED: correlation in 1/256, residual `e` in 10 Hz, SNR (R491, R492); `inTime` says that it came within
PRE_SYM symbols of the trigger. -/
def State.radioCorrelate (s : State) (corr : Nat) (inTime : Bool) (e snr : Int) : State :=
  match s.radio.rx with
  | some x =>
    if x.stage ≠ 1 then s
    else if inTime ∧ s.car.mf 3 15 8 ≤ corr then s.modRx (fun x => { x with stage := 2, resid := e, snr := snr })
    else s.modRx (fun x => { x.reach 2 with stage := 0 })
  | none => s

/-- e / 2 rounded to nearest even, added and clamped (R492). -/
def afcNext (a e lim : Int) : Int :=
  let h := rneInt e.natAbs (-1)
  clampInt (-lim) lim (a + (if e < 0 then -h else h))

/-- RADIO_SYNCED: the sync word with `errs` bit errors, within 64 symbols or not. Join slots keep A_k = 0. -/
def State.radioSync (s : State) (errs : Nat) (inTime : Bool) : State :=
  match s.radio.rx with
  | some x =>
    if x.stage ≠ 2 then s
    else if inTime ∧ errs ≤ s.car.mf 3 19 16 then
      let lim : Int := s.car.mf 7 15 0
      let a := s.afc x.slot
      let isJoin := (planOf (s.car.mw 1) (s.car.mw 2)).joins x.slot
      let a' := if isJoin then 0 else afcNext a x.resid lim
      let h := rneInt x.resid.natAbs (-1)
      let raw := a + (if x.resid < 0 then -h else h)
      let lims := !isJoin && decide (raw ≠ a')
      let s := s.modRx (fun x => { x with stage := 3, off := a + x.resid, synced := true, atLim := lims, ncw := 0 })
      s.modRad (fun r => { r with afc := kvSet (fun _ => 0) x.slot a' r.afc, afcMiss := kvErase x.slot r.afcMiss })
    else s.modRx (fun x => { x.reach 2 with stage := 0 })
  | none => s

/-- RADIO_HEADER: the 32 header bits, `dt` ns after the slot's start at the header's end (Table 16.3, R490). -/
def State.radioHeader (s : State) (h dt : Nat) : State :=
  match s.radio.rx with
  | some x =>
    if x.stage ≠ 3 ∨ x.ncw ≠ 0 then s
    else
      let ncw := bitsOf h 3 0
      let bits := if bitOf h 6 then 2 else 1
      let ends := dt + symTime (s.car.mw 0) (ncw * 648 / bits)
      let slot := 1000 * (planOf (s.car.mw 1) (s.car.mw 2)).slot
      if hdrOk h 2 ∧ ncw ≠ 0 ∧ bitsOf h 5 4 ≠ 3 ∧ ends + 100000 + 70000 * ncw ≤ slot then
        s.modRx (fun x => { x with ncw := ncw, rate := bitsOf h 5 4 })
      else s.modRx (fun x => { x.reach 3 with stage := 0, ncw := 0 })
  | none => s

/-- A tag frame's bytes when its LEN and CRC are right (Table 16.5). -/
def tagFrame (bs : List Byte) : Option (List Byte) :=
  let len := fieldAt bs 12 2
  if 20 ≤ len ∧ len ≤ bs.length ∧ crc32c (bs.take (len - 4)) = fieldAt bs (len - 4) 4 then some (bs.take len) else none

/-- The codewords of the frame being received have been decoded (R486, R487). -/
def State.decoded (s : State) (x : RxSt) (llrs : List (List Int)) : State :=
  let (bs, it, corr) := ldpcFrame x.rate (s.car.mf 5 13 8) llrs
  let out := bs.bind (fun b => tagFrame (whiten b))
  let res := match bs, out with
    | none, _ => 4
    | some _, none => 5
    | some _, some _ => 0
  s.modRx (fun x => { x.reach res with stage := 4, iter := it, corr := corr, data := out.getD [] })

/-- RADIO_DECODE_DONE: the channel LLRs of the codewords (R487). -/
def State.radioDecode (s : State) (llrs : List (List Int)) : State :=
  match s.radio.rx with
  | some x =>
    if x.stage ≠ 3 ∨ x.ncw = 0 ∨ llrs.length ≠ x.ncw then s
    else s.decoded x llrs
  | none => s

/-- Cut bytes into fragments of 42. -/
def frags : Nat → List Byte → List (List Byte)
  | 0, _ => []
  | n + 1, bs => if bs.isEmpty then [] else bs.take 42 :: frags n (bs.drop 42)

/-- The end of an uplink slot: its result and its data go to the node, and a missed slot is counted (R492, R496). -/
def State.slotOver (s : State) (x : RxSt) : State :=
  let c := s.car
  let p := planOf (c.mw 1) (c.mw 2)
  let t := nth c.cfg 6 0 + x.sf * p.len * (1000 * nth c.cfg 5 0) + (x.slot + 1) * p.slot * 1000
  let data := if x.best = 0 then x.data else []
  let head := leBytes 4 t ++ leBytes 2 x.slot ++ leBytes 1 x.best ++ leBytes 1 (b2n x.atLim) ++
    leBytes 2 (ofSigned 16 x.rssi) ++ leBytes 2 (ofSigned 16 x.snr) ++
    leBytes 4 (if x.synced then ofSigned 32 x.off else 0) ++ leBytes 1 x.iter ++ leBytes 1 x.ncw ++
    leBytes 2 x.corr ++ leBytes 2 data.length
  let s := (s.at t).addItem 0x10 head
  let s := (frags data.length data).zipIdx.foldl (fun s f =>
    s.addItem 0x11 (leBytes 2 x.slot ++ leBytes 1 f.2 ++ [0#8] ++ f.1)) s
  let s := s.modRad (fun r => { r with rx := none })
  if x.synced ∨ p.joins x.slot then s
  else s.modRad (fun r => { r with afcMiss := kvPut x.slot (kvGet (fun _ => 0) x.slot r.afcMiss + 1) r.afcMiss })

/-- RADIO_SLOT_END: the 0x10 item and its data (R488, Table 16.16). -/
def State.slotEnd (s : State) : State :=
  match s.radio.rx with
  | none => s
  | some x => s.slotOver x

/-- AFC_RESET of slot `k` (R492). -/
def State.afcReset (s : State) (k : Nat) : State :=
  if 64 ≤ kvGet (fun _ => 0) k s.radio.afcMiss then
    s.modRad (fun r => { r with afc := kvErase k r.afc, afcMiss := kvErase k r.afcMiss })
  else s

/-- A write of RADIO_CFG, RADIO_MISC or a FIR word: AFC values return to 0 for the first two (R492), a mask inhibit is lifted
by RADIO_CFG and FIR (R495). -/
def State.radioWritten (s : State) (afc mask : Bool) : State :=
  let s := if afc then s.modRad (fun r => { r with afc := [], afcMiss := [] }) else s
  if mask then (s.modRad (fun r => { r with maskHold := false })).drop R.RADIO_STATUS F.RADIO_STATUS_MASK_HOLD else s

/-! ### Beacons (R493 to R495, R505) -/

/-- Codewords of `n` info bytes at a rate. -/
def codewords (rate n : Nat) : Nat := (n + infoBytes rate - 1) / infoBytes rate
/-- Symbols of a beacon with `n` info bytes, CRC included. -/
def beaconSyms (cfg det n : Nat) : Nat :=
  let bits := if bitOf cfg 4 then 2 else 1
  bitsOf det 31 24 + 64 + codewords (bitsOf cfg 10 9) n * 648 / bits
/-- Whether a body fits the beacon slots. -/
def beaconFits (cfg det : Nat) (p : SlotPlan) (body : Nat) : Bool :=
  Nat.ble (symTime cfg (beaconSyms cfg det (body + 4))) (p.beacon * p.slot * 1000) &&
  Nat.ble (codewords (bitsOf cfg 10 9) (body + 4)) 15

/-- The channel of superframe `sf` (Table 16.7). -/
def beaconChannel (cfg sf : Nat) : Nat := if bitsOf cfg 3 2 = 1 then (7 * sf + bitsOf cfg 18 11) % 50 else bitsOf cfg 18 11

/-- Whether a transmission of `us` on `ch` at `t` stays within the preset's transmit time. -/
def dutyOk (tx : List (Nat × Nat × Nat)) (preset t ch us : Nat) : Bool :=
  if preset = 1 then
    Nat.ble (((tx.filter (fun e => e.2.1 == ch && Nat.blt t (e.1 + 20000000000))).map (fun e => e.2.2)).sum + us) 400000
  else Nat.ble (((tx.filter (fun e => Nat.blt t (e.1 + 3600000000000))).map (fun e => e.2.2)).sum + us) 36000000

/-- The beacon of superframe `sf`, whole or bare, or not sent when the band was busy or its duty is used up (R493, R505). -/
def State.beaconGoes (s : State) (sf : Nat) (masked : Bool) : State :=
  let c := s.car
  let cfg := c.mw 0
  let p := planOf (c.mw 1) (c.mw 2)
  let hdr := nth c.cfg 111 0
  let len := hdr % 65536
  let harb := s.power == 3
  let whole := ((List.range 47).map (fun i => leBytes 4 (nth c.cfg (64 + i) 0))).flatten
  let bare := hdr / 65536 != sf % 65536 || Nat.blt 188 len || Nat.blt len 8 || !beaconFits cfg (c.mw 3) p len
  let body := if bare then leBytes 4 sf ++ leBytes 1 (b2n harb + 4) ++ copies 3 0#8 else whole.take len
  let us := symTime cfg (beaconSyms cfg (c.mw 3) (body.length + 4)) / 1000
  let ch := beaconChannel cfg sf
  let status (r : Nat) (s : State) : State := s.addItem 0x15 (leBytes 1 0 ++ leBytes 1 r ++ leBytes 2 sf)
  if s.radio.maskHold then status 2 s
  else if !dutyOk s.radio.tx (bitsOf cfg 3 2) s.now ch us then status 2 s
  else
    let s := s.send 9 0 ch (body ++ leBytes 4 (crc32c body))
    let s := s.modRad (fun r => { r with tx := r.tx ++ [(s.now, ch, us)], maskHold := masked })
    let s := status (b2n bare) s
    s.addItem 0x16 (leBytes 4 us ++ leBytes 1 (b2n masked) ++ copies 3 0#8)

/-- BEACON of superframe `sf`: the window when its header names `sf` and it fits, else a bare beacon (R505); `masked` is the
monitor's verdict. -/
def State.beacon (s : State) (sf : Nat) (masked : Bool) : State :=
  let c := s.car.settleCfg s.now
  let s := { s with car := c }
  let cfg := c.mw 0
  if !c.up ∨ !bitOf cfg 0 ∨ !bitOf cfg 1 ∨ nth c.safeOn 3 false = true ∨ !s.sfRuns sf (c.mf 7 23 16) then s
  else s.beaconGoes sf masked

/-! ### The hub's side: items and the record (R496) -/

/-- The slot end in whole chain time from its low 32 bits. -/
def nearTime (now lo : Nat) : Nat :=
  let base := now / 2 ^ 32 * 2 ^ 32 + lo % 2 ^ 32
  if now + 2 ^ 31 < base then base - 2 ^ 32 else if base + 2 ^ 31 < now then base + 2 ^ 32 else base

/-- A 0x10 item arrives. -/
def State.radioItem (s : State) (b : List Byte) : State :=
  let t := nearTime s.now (fieldAt b 0 4)
  s.modRad (fun r => { r with ents := r.ents ++ [⟨t, fieldAt b 4 2, b, fieldAt b 20 2, []⟩] })

/-- A data fragment joins the newest entry of its key. -/
def addFrag (key : Nat) (d : List Byte) (es : List EntSt) : List EntSt :=
  match es.reverse.find? (fun e => e.key == key) with
  | none => es
  | some e => es.map (fun x => if x == e then { x with data := (x.data ++ d).take x.len } else x)

/-- A 0x11 item arrives. -/
def State.radioFrag (s : State) (b : List Byte) : State :=
  s.modRad (fun r => { r with ents := addFrag (fieldAt b 0 2) (b.drop 4) r.ents })

/-- A 0x15 item arrives: radio results 0 sent, 1 bare, 2 not sent. -/
def State.radioWindowItem (s : State) (b : List Byte) : State :=
  match fieldAt b 1 1 with
  | 0 => (s.inc R.BEACON_CNT).drop R.RADIO_STATUS F.RADIO_STATUS_DUTY_HOLD
  | 1 => (((s.inc R.BEACON_CNT).inc R.BARE_CNT).raise R.RADIO_ERR F.RADIO_ERR_BARE).drop R.RADIO_STATUS F.RADIO_STATUS_DUTY_HOLD
  | 2 => if s.radio.maskHold then s
    else (s.raise R.RADIO_STATUS F.RADIO_STATUS_DUTY_HOLD).raise R.RADIO_ERR F.RADIO_ERR_DUTY
  | _ => s

/-- A 0x16 item arrives: transmit time and the monitor's verdict. -/
def State.radioTxItem (s : State) (b : List Byte) : State :=
  let s := s.setRegN R.TX_TIME ((s.radio.tx.filter (fun e => Nat.blt s.now (e.1 + 3600000000000))).map (fun e => e.2.2)).sum
  if fieldAt b 4 1 = 1 then
    (s.raise R.RADIO_ERR F.RADIO_ERR_MASK_FAIL).raise R.RADIO_STATUS F.RADIO_STATUS_MASK_HOLD
  else s

/-- The enabled tag of slot `k`. -/
def State.slotTag (s : State) (k : Nat) : Option Nat :=
  (List.range 250).find? (fun t => s.regN (R.RTAG_SLOT t) == k && k != 0)
/-- The enabled tag with an EUI. -/
def State.euiTag (s : State) (e : Nat) : Option Nat :=
  (List.range 250).find? (fun t => s.regN (R.RTAG_SLOT t) != 0 && s.reg64 (R.RTAG_EUI_LO t) == e)

/-- The slots a record can cover with their ends, between `lo` (not included) and `hi`. -/
def State.slotEnds (s : State) (lo hi : Nat) : List (Nat × Nat) :=
  let p := planOf (s.regN R.RADIO_SF) (s.regN R.RADIO_JOIN)
  let per := s.img.run.period
  let φ := s.img.run.phase
  let span := p.len * per
  if span = 0 then []
  else
    let sf0 := (lo - φ) / span
    ((List.range ((hi - φ) / span + 1 - sf0)).map (fun i =>
      let sf := sf0 + i
      if !s.sfRuns sf (s.getF R.RADIO_MISC F.RADIO_MISC_HARB_DIV) then []
      else ((List.range p.n).filter (p.opens per)).filterMap (fun k =>
        let t := φ + sf * span + (k + 1) * p.slot * 1000
        if lo < t ∧ t ≤ hi then some (t, k) else none))).flatten

/-- An entry of the record (Table 16.8): head and info bytes, padded to a multiple of 8. -/
def radioEntry (t tag res slot : Nat) (h data : List Byte) : List Byte :=
  let head := leBytes 8 t ++ leBytes 1 tag ++ leBytes 1 res ++ leBytes 2 slot ++ slice h 8 4 ++ slice h 12 4 ++
    slice h 16 1 ++ slice h 17 1 ++ slice h 18 2 ++ leBytes 2 data.length ++ slice h 7 1 ++ copies 5 0#8
  padTo ((32 + data.length + 7) / 8 * 8) (head ++ data)

/-- The entry of one covered slot, or none. -/
def State.slotEntry (s : State) (t k : Nat) : Option (List Byte) :=
  let p := planOf (s.regN R.RADIO_SF) (s.regN R.RADIO_JOIN)
  let e := s.radio.ents.find? (fun e => e.instant == t && e.key == k)
  let isJoin := p.joins k
  let owner := s.slotTag k
  if !isJoin ∧ owner.isNone then none
  else match e with
    | none => some (radioEntry t (owner.getD 0xFF) 6 k (copies 22 0#8) [])
    | some e =>
      let res := fieldAt e.head 6 1
      if isJoin ∧ res = 1 then none
      else
        let tag := if isJoin then (s.euiTag (fieldAt e.data 0 8)).getD 0xFF else owner.getD 0xFF
        some (radioEntry t (if isJoin ∧ res ≠ 0 then 0xFF else tag) res k e.head e.data)

/-- The RADIO record when the log closes at `b`, and the state with what it covered taken. -/
def State.radioLog (s : State) (b : Nat) : List Byte × State :=
  if !s.flag R.RADIO_CFG F.RADIO_CFG_EN then ([], s)
  else
    let ds := s.radio.ents.map EntSt.instant
    let hi := max (b - 40000) ((ds.filter (fun t => Nat.blt t b)).foldl max 0)
    let lo := match s.radio.last with
      | some l => some l
      | none => match ds with
        | [] => none
        | d :: dt => some (max (b - s.img.run.period) (dt.foldl min d) - 1)
    let slots := match lo with
      | some l => s.slotEnds l hi
      | none => []
    let es := slots.filterMap (fun p => s.slotEntry p.1 p.2)
    let absent := es.any (fun e => fieldAt e 9 1 == 6)
    let body := leBytes 4 es.length ++ leBytes 4 (b2n absent) ++ copies 48 0#8 ++ es.flatten
    let bytes := leBytes 2 3 ++ leBytes 2 0 ++ leBytes 4 (8 + body.length) ++ body
    let covered := match slots.getLast? with
      | some p => some p.1
      | none => s.radio.last
    (padRec bytes, s.modRad (fun r => { r with
      last := covered
      ents := match covered with
        | some l => r.ents.filter (fun e => Nat.blt l e.instant)
        | none => r.ents
      recs := es }))

/-! ### Commit: tags, joins, commands, windows (R493, R504) -/

/-- What the hub remembers of a tag. -/
def State.tagMem (s : State) (t : Nat) : TagMem := (s.radio.tags.find? (fun m => m.tag == t)).getD ⟨t, 0, false, 0, true, none⟩
/-- Remember it. -/
def State.setTagMem (s : State) (m : TagMem) : State :=
  s.modRad (fun r => { r with tags := r.tags.filter (fun x => x.tag != m.tag) ++ [m] })

/-- The quantity entries of a tag frame. -/
def quantities (d : List Byte) : List (Nat × Bool × Nat) :=
  (List.range (min (fieldAt d 11 1) 20)).map (fun q =>
    (fieldAt d (16 + 8 * q) 1, bitOf (fieldAt d (17 + 8 * q) 1) 0, fieldAt d (20 + 8 * q) 4))

/-- A command answered by CMD_ACK is ACKED. -/
def State.cmdAcked (s : State) (tag seq : Nat) : State :=
  match s.radio.cmds.find? (fun c => c.tag == tag && c.seq == seq && c.st == 2) with
  | none => s
  | some c =>
    let s := s.modRad (fun r => { r with cmds := r.cmds.filter (fun x => x != c) })
    if s.getF R.RADIO_CMD_STATUS F.RADIO_CMD_STATUS_CMD_SEQ = seq then
      s.setF R.RADIO_CMD_STATUS F.RADIO_CMD_STATUS_STATE 3
    else s

/-- One committed entry. -/
def State.radioCommitEntry (s : State) (e : List Byte) : State :=
  let res := fieldAt e 9 1
  let tag := fieldAt e 8 1
  let d := (e.drop 32).take (fieldAt e 24 2)
  let kind := fieldAt d 10 1
  let off := toSigned 32 (fieldAt e 16 4)
  if res ≠ 0 then
    if 250 ≤ tag then s
    else
      let m := s.tagMem tag
      (if res = 6 then s else s.inc (R.RTAG_FAIL_CNT tag)).setTagMem { m with missed := m.missed + 1 }
  else if 250 ≤ tag then (if kind = 1 then s.inc R.UNKNOWN_CNT else s)
  else
    let lim := bitOf (fieldAt e 26 1) 0
    let s := (s.inc (R.RTAG_OK_CNT tag)).setRegN (R.RTAG_LINK tag) (fieldAt e 12 4)
    let s := s.setRegN (R.RTAG_OFFSET tag) (ofSigned 24 off + 2 ^ 24 * b2n lim)
    let s := s.setRegN (R.RTAG_LAST tag) s.epoch
    let s := s.setTagMem { s.tagMem tag with off := off, atLim := lim, missed := 0, done := false }
    let s := s.modRad (fun r => { r with oks := r.oks ++ [tag] })
    let s := (quantities d).foldl (fun s q =>
      let k := 256 * tag + q.1
      s.modRad (fun r => { r with quant := r.quant.filter (fun x => x.1 != k) ++ [(k, q.2.2, q.2.1, s.epoch)] })) s
    if kind = 1 then s.modRad (fun r => { r with joins := r.joins ++ [(fieldAt d 0 8, tag)] })
    else if kind = 2 then s.cmdAcked tag (fieldAt d 14 1)
    else s

/-- TAG_OFF_RANGE (R504). -/
def State.tagOffRange (s : State) (t : Nat) : State :=
  let m := s.tagMem t
  if m.atLim ∧ 8 ≤ m.missed ∧ t < 250 then s.setF (R.RTAG_OFFSET t) F.TAG_OFFSET_OFF_RANGE 1 else s

/-- RADIO_CMD SEND at its commit: the queue holds 16. -/
def State.radioCmd (s : State) (v : Nat) : State :=
  if !bitOf v 15 then s
  else if 16 ≤ (s.radio.cmds.filter (fun c => c.st == 1)).length then s.raise R.RADIO_ERR F.RADIO_ERR_CMD_REJECT
  else
    let seq := (s.radio.cmdSeq + 1) % 256
    let bytes := (((List.range 20).map (fun w => leBytes 4 (s.regN (R.RADIO_CMD_DATA w)))).flatten).take (bitsOf v 14 8)
    let s := s.modRad (fun r => { r with cmds := r.cmds ++ [⟨seq, v % 256, bytes, 1, 0⟩], cmdSeq := seq })
    s.setRegN R.RADIO_CMD_STATUS (seq + 2 ^ 8)

/-- RADIO_CMD_FAILED: four superframes after its beacon without an acknowledgement. -/
def State.radioCmdFailed (s : State) : State :=
  match s.radio.cmds.find? (fun c => c.st == 2 && Nat.blt (c.sf + 4) (s.reg64 R.SF_NUM_LO)) with
  | none => s
  | some c =>
    let s := s.modRad (fun r => { r with cmds := r.cmds.filter (fun x => x != c) })
    if s.getF R.RADIO_CMD_STATUS F.RADIO_CMD_STATUS_CMD_SEQ = c.seq then
      s.setF R.RADIO_CMD_STATUS F.RADIO_CMD_STATUS_STATE 4
    else s

/-- Order corrections by |OFFSET|, largest first. -/
def insertFix (m : TagMem) : List TagMem → List TagMem
  | [] => [m]
  | x :: xs => if x.off.natAbs < m.off.natAbs then m :: x :: xs else x :: insertFix m xs

/-- Tags that are due a correction, in order; repeats of R504 come last. -/
def State.fixes (s : State) : List TagMem :=
  let lim := s.getF R.RADIO_MISC F.RADIO_MISC_OFF_LIMIT
  let due := s.radio.tags.filter (fun m => !m.done && Nat.ble (3 * lim) (4 * m.off.natAbs))
  let again := s.radio.tags.filter (fun m => m.fix.isSome && s.flag (R.RTAG_OFFSET m.tag) F.TAG_OFFSET_OFF_RANGE)
  (due.foldl (fun l m => insertFix m l) []) ++ again

/-- Bytes of a beacon body from its parts. -/
def beaconBody (sf flags div : Nat) (oks : List Nat) (asg : List (List Byte)) (fix : List (List Byte)) (cmd : List Byte) :
    List Byte :=
  let ack := (List.range 32).map (fun i =>
    BitVec.ofNat 8 ((List.range 8).map (fun b => b2n (oks.contains (8 * i + b)) * 2 ^ b)).sum)
  leBytes 4 sf ++ leBytes 1 (flags + 2 * b2n (!cmd.isEmpty)) ++ leBytes 1 div ++ leBytes 1 asg.length ++
  leBytes 1 fix.length ++ ack ++ asg.flatten ++ fix.flatten ++ cmd

/-- Drop items, command first, then corrections, then assignments, until `fits` holds. -/
def trimBody (fits : List (List Byte) → List (List Byte) → List Byte → Bool) :
    Nat → List (List Byte) → List (List Byte) → List Byte → List (List Byte) × List (List Byte) × List Byte
  | 0, a, f, c => (a, f, c)
  | n + 1, a, f, c =>
    if fits a f c then (a, f, c)
    else if !c.isEmpty then trimBody fits n a f []
    else if !f.isEmpty then trimBody fits n a f.dropLast c
    else trimBody fits n a.dropLast f c

/-- The window of superframe `sf` (R493). -/
def State.writeWindow (s : State) (sf : Nat) : State :=
  let cfg := s.regN R.RADIO_CFG
  let det := s.regN R.RADIO_DETECT
  let p := planOf (s.regN R.RADIO_SF) (s.regN R.RADIO_JOIN)
  let div := s.getF R.RADIO_MISC F.RADIO_MISC_HARB_DIV
  let asg := (s.radio.joins.take 4).map (fun j =>
    leBytes 8 j.1 ++ leBytes 2 (s.regN (R.RTAG_SLOT j.2)) ++ leBytes 1 j.2 ++ [0#8])
  let fs := s.fixes.take 4
  let fixVal (m : TagMem) : Int := if m.done then m.fix.getD m.off else m.off
  let fix := fs.map (fun m => leBytes 1 m.tag ++ [0#8] ++ leBytes 2 (ofSigned 16 (fixVal m)))
  let cmd := s.radio.cmds.find? (fun c => c.st == 1)
  let cb := match cmd with
    | some c => leBytes 1 c.tag ++ leBytes 1 c.seq ++ leBytes 1 c.bytes.length ++ [0#8] ++ c.bytes
    | none => []
  let body := beaconBody sf (b2n (s.power == 3)) div s.radio.oks
  let fits (a f : List (List Byte)) (c : List Byte) : Bool :=
    let n := (body a f c).length
    Nat.ble n 188 && beaconFits cfg det p n
  let (a, f, c) := trimBody fits 9 asg fix cb
  let out := body a f c
  let s := (fs.take f.length).foldl (fun s m => s.setTagMem { m with done := true, fix := some (fixVal m) }) s
  let s := s.modRad (fun r => { r with
    winHdr := out.length + 65536 * (sf % 65536)
    winBody := out
    joins := r.joins.drop a.length
    oks := []
    cmds := if c.isEmpty then r.cmds else r.cmds.map (fun x => if some x = cmd then { x with st := 2, sf := sf } else x) })
  match cmd with
  | some x =>
    if !c.isEmpty ∧ s.getF R.RADIO_CMD_STATUS F.RADIO_CMD_STATUS_CMD_SEQ = x.seq then
      s.setF R.RADIO_CMD_STATUS F.RADIO_CMD_STATUS_STATE 2
    else s
  | none => s

/-- Whether TX_EN is sent (R484). -/
def State.txEn (s : State) : Bool := s.pairState == 0 || s.holdsToken

/-- The radio at the commit of epoch `n`. -/
def State.radioCommit (s : State) (n : Nat) : State :=
  let s := s.radio.recs.foldl (fun s e => s.radioCommitEntry e) s
  let s := s.modRad (fun r => { r with recs := [] })
  let len := s.getF R.RADIO_SF F.RADIO_SF_SF_LEN
  let s := (s.setF R.RADIO_STATUS F.RADIO_STATUS_TX_ACTIVE (b2n s.txEn)).setF R.RADIO_CFG F.RADIO_CFG_TX_EN (b2n s.txEn)
  if len ≠ 0 ∧ (n + 2) % len = 0 ∧ s.flag R.RADIO_CFG F.RADIO_CFG_EN ∧ s.txEn then s.writeWindow ((n + 2) / len) else s

end Sys2Proof.Machine
end

