-- ==== Sys2Proof/Machine/Loopdata.lean ====
section
/-! DEFINITION. The loop-data link: dwells, frames, bit loading, the message window and its record (16_modems.md,
R497 to R503). -/

namespace Sys2Proof.Machine

/-- Change the loop-data link. -/
def State.modLd (s : State) (f : LdSt → LdSt) : State := { s with ld := f s.ld }
/-- Loop `l`. -/
def State.loop (s : State) (l : Nat) : LdLoop := nth s.ld.loops l LdLoop.zero
/-- Change loop `l`. -/
def State.modLoop (s : State) (l : Nat) (f : LdLoop → LdLoop) : State :=
  s.modLd (fun d => { d with loops := setNth d.loops l (f (nth d.loops l LdLoop.zero)) })

/-! ### Settings (Table 16.21, as configuration words 61 to 63) -/

/-- Fields of LD_EN, LD_CFG1, LD_CFG2. -/
structure LdCfg where
  en : Nat
  dwell : Nat
  margin : Nat
  minBits : Nat
  iterMax : Nat
  rate : Nat
  lost : Nat
  retry : Nat
  harb : Nat
  tx : Bool
  deriving DecidableEq, Repr

/-- The settings in three words. -/
def ldCfgOf (e c1 c2 : Nat) : LdCfg :=
  ⟨e + 2 ^ 32 * bitsOf c1 15 0, bitsOf c1 23 16, bitsOf c1 31 24, bitsOf c2 7 0, bitsOf c2 13 8, bitsOf c2 15 14,
    bitsOf c2 19 16, bitsOf c2 23 20, bitsOf c2 30 24, bitOf c2 31⟩
/-- At the carrier. -/
def CarSt.ldCfg (c : CarSt) : LdCfg := ldCfgOf (c.mw 13) (c.mw 14) (c.mw 15)
/-- At the hub. -/
def State.ldRegs (s : State) : LdCfg := ldCfgOf (s.regN R.LD_EN) (s.regN R.LD_CFG1) (s.regN R.LD_CFG2)
/-- The enabled loops of engine `e`. -/
def LdCfg.loops (c : LdCfg) (e : Nat) : List Nat := (List.range 48).filter (fun l => l % 4 == e && bitOf c.en l)
/-- Whether dwell `m` runs: every one, or in HARBOUR the multiples of HARB_DIV (R506). -/
def State.dwellRuns (s : State) (c : LdCfg) (m : Nat) : Bool := s.power != 3 || m % max c.harb 1 == 0

/-! ### Tables and loading (Tables 16.11 and 16.12, R498) -/

/-- The subcarrier of data subcarrier `d`. -/
def dataCarriers : List Nat := (List.range 32).filter (fun k => k % 8 != 3)
/-- TABLE as 14 bytes. -/
def tableBytes (t : List Nat) : List Byte :=
  (List.range 14).map (fun i => BitVec.ofNat 8 (nth t (2 * i) 0 + 16 * nth t (2 * i + 1) 0))
/-- The table in 14 bytes, when no entry is reserved. -/
def tableOf (bs : List Byte) : Option (List Nat) :=
  let t := (List.range 28).map (fun d => bitsOf (fieldAt bs (d / 2) 1) (4 * (d % 2) + 3) (4 * (d % 2)))
  if t.all (fun b => Nat.ble b 6) then some t else none
/-- T_b in quarter dB at a rate. -/
def loadThr (rate b : Nat) : Int :=
  (nth [0, 12, 24, 40, 50, 64, 74] b 0 : Nat) + (if rate = 0 then 0 else if rate = 1 then 6 else 10)
/-- Whether an averaged SNR reaches `x` quarter dB. -/
def snrGe (v : Int × Nat) (x : Int) : Bool := decide (x * 8 ^ v.2 ≤ v.1)
/-- The largest b that qualifies. -/
def loadBits (rate margin : Nat) (v : Int × Nat) : Nat :=
  ((List.range 6).filter (fun i => snrGe v (loadThr rate (i + 1) + margin))).foldl (fun a i => max a (i + 1)) 0
/-- b_d after a dwell: it falls at once and rises only with 1 dB to spare. -/
def nextBits (rate margin b : Nat) (v : Int × Nat) : Nat :=
  let n := loadBits rate margin v
  if n ≤ b then n else if snrGe v (loadThr rate (b + 1) + margin + 4) then n else b
/-- The average of R498: weight 1/8; the first value stands alone. -/
def snrAvg (old : Option (Int × Nat)) (x : Int) : Int × Nat :=
  match old with
  | none => (x, 0)
  | some (n, k) => (7 * n + x * 8 ^ k, k + 1)
/-- An averaged SNR in quarter dB, rounded down. -/
def snrQ (v : Int × Nat) : Int := v.1 / 8 ^ v.2
/-- As one byte. -/
def snrByte (v : Int × Nat) : Byte := BitVec.ofNat 8 (clampInt 0 255 (snrQ v)).toNat
/-- Averages of all 32 subcarriers, (0, 0) before the first measure. -/
def LdLoop.snrAt (l : LdLoop) (k : Nat) : Int × Nat := nth l.snr k (0, 0)

/-! ### The downlink frame (Tables 16.10 and 16.11, R499, R501) -/

/-- Symbols of a frame: preamble, header, payload. -/
def frameSyms (ncw bits : Nat) : Nat := 4 + (ncw * 648 + bits - 1) / bits
/-- The table and rate of the map a node sends in. -/
def LdLoop.dlTable (l : LdLoop) (c : LdCfg) : Nat × Nat :=
  match kvFind l.dlMap l.theirs with
  | some t => if l.dlMap = 0 ∨ l.st = 3 then (28, 0) else (t.sum, c.rate)
  | none => (28, 0)
/-- Codewords of a frame with `n` body bytes. -/
def ldCodewords (rate n : Nat) : Nat := codewords rate (16 + n + 4)
/-- Whether a body of `n` bytes leaves 31 symbols for the uplink (R501). -/
def LdLoop.fits (l : LdLoop) (c : LdCfg) (n : Nat) : Bool :=
  let t := l.dlTable c
  Nat.ble (frameSyms (ldCodewords t.2 n) (max t.1 1) + 1 + 31) c.dwell && Nat.ble (ldCodewords t.2 n) 15
/-- The 56 header bits as 7 bytes. -/
def ldHeader (addr kind map rate ncw seq ack : Nat) : List Byte :=
  let b := leBytes 5 (addr + 2 ^ 8 * kind + 2 ^ 12 * map + 2 ^ 14 * rate + 2 ^ 16 * ncw + 2 ^ 20 * seq + 2 ^ 32 * ack)
  b ++ leBytes 2 (crc16 b)

/-- Loops enter IDLE when disabled, ROBUST when enabled (Table 16.14). -/
def State.ldEnables (s : State) (en : Nat) : State :=
  s.modLd (fun d => { d with loops := d.loops.zipIdx.map (fun p =>
    if !bitOf en p.2 then LdLoop.zero else if p.1.st = 0 then { p.1 with st := 1 } else p.1) })

/-- The window's message when it is for loop `l` and not done (R502): MSG_SEQ and bytes. -/
def State.windowMsg (s : State) (l : Nat) : Option (Nat × List Byte) :=
  let h := s.car.mw 79
  let len := min (bitsOf h 11 6) 60
  let seq := bitsOf h 31 16
  let sentOff := match s.ld.msg with
    | some (q, _, done) => q == seq && done
    | none => false
  if len = 0 ∨ bitsOf h 5 0 ≠ l ∨ sentOff = true then none
  else some (seq, (((List.range 15).map (fun i => leBytes 4 (s.car.mw (64 + i)))).flatten).take len)

/-- Dwell `m` of engine `e` begins on loop `l`: a downlink frame goes out when it may, and the uplink is listened for
(R497, R499, R502). -/
def State.dwellBegins (s : State) (e m l : Nat) : State :=
  let car := s.car
  let c := car.ldCfg
  let lp := s.loop l
  let tx := c.tx && !(nth car.safeOn 3 false)
  let msg := s.windowMsg l
  let sendMsg := tx && (match msg with
    | some (_, b) => lp.fits c b.length
    | none => false)
  let body := if sendMsg then (msg.map Prod.snd).getD [] else []
  let t := lp.dlTable c
  let map := if t.1 = 28 ∧ t.2 = 0 ∧ (lp.dlMap = 0 ∨ lp.st = 3) then 0 else lp.dlMap
  let give := lp.give && !lp.robust && Nat.ble (max c.minBits 1) lp.table.sum
  let seq := (lp.seq + 1) % 256
  let info := leBytes 1 (if give then lp.nextId else 0) ++ [0#8] ++
    (if give then tableBytes lp.table else copies 14 0#8) ++ body
  let frame := ldHeader 0 (b2n sendMsg) map t.2 (ldCodewords t.2 body.length) seq lp.devSeq ++ info ++
    leBytes 4 (crc32c info)
  let s := s.modLd (fun d => { d with
    dwells := setNth d.dwells e (some ⟨m, l, tx, sendMsg, 1, 0, 0, 0, 0, 0, 0, 0, [], false⟩)
    msg := if sendMsg then
        (match msg, d.msg with
         | some (q, _), some (q', n, dn) => if q = q' then some (q', n, dn) else some (q, 0, false)
         | some (q, _), none => some (q, 0, false)
         | none, x => x)
      else d.msg })
  if !tx then s.modLoop l (fun x => { x with dlMap := 0, unack := 0 })
  else
    (s.modLoop l (fun x => { x with
      seq := seq
      unack := x.unack + 1
      give := false
      robust := if x.give then false else x.robust
      since := if x.give then 0 else x.since
      issued := if give then ((x.nextId, x.table) :: x.issued.filter (fun i => i.1 != x.nextId)).take 2 else x.issued
      nextId := if give then x.nextId % 3 + 1 else x.nextId })).send 10 (b2n sendMsg) l frame

/-- LD_DWELL_START of dwell `m` on engine `e`. -/
def State.dwellStart (s : State) (e m : Nat) : State :=
  let car := s.car.settleCfg s.now
  let s := { s with car := car }
  let c := car.ldCfg
  let s := s.ldEnables c.en
  let ls := c.loops e
  match nth (ls.map some) (m % max ls.length 1) none with
  | none => s.modLd (fun d => { d with dwells := setNth d.dwells e none })
  | some l =>
    if !car.up ∨ !s.dwellRuns c m then s
    else s.dwellBegins e m l

/-! ### The uplink frame (R497, R500) -/

/-- Where a frame's info bytes end: the shortest length of at least 20 whose CRC holds with zeros after it. -/
def ldBody (bs : List Byte) : Option (List Byte) :=
  ((List.range (bs.length + 1)).find? (fun n =>
    Nat.ble 20 n && crc32c (bs.take (n - 4)) == fieldAt bs (n - 4) 4 && (bs.drop n).all (fun b => b == 0#8))).map
      (fun n => bs.take (n - 4))

/-- Whether 56 header bits are a correct uplink header. -/
def ldHdrOk (h : Nat) : Bool :=
  hdrOk h 5 && bitsOf h 7 0 == 1 && Nat.ble (bitsOf h 11 8) 2 && bitsOf h 15 14 != 3 && bitsOf h 19 16 != 0 &&
    bitsOf h 31 28 == 0

/-- Change the dwell of engine `e`. -/
def State.modDwell (s : State) (e : Nat) (f : DwellSt → DwellSt) : State :=
  s.modLd (fun d => { d with dwells := setNth d.dwells e ((nth d.dwells e none).map f) })

/-- A device's table is taken up for the next downlink frame (R499); a node that sends none starts in map 0 later (R507). -/
def LdLoop.adopt (l : LdLoop) (minBits id : Nat) (t : List Nat) (sends : Bool) : LdLoop :=
  { l with theirs := kvPut id t l.theirs, dlMap := if sends = true ∧ minBits ≤ t.sum then id else 0 }

/-- The message is acknowledged (R502). -/
def State.ldAcked (s : State) (l seq : Nat) : State :=
  match s.ld.msg with
  | some (q, n, false) =>
    if q = seq ∧ bitsOf (s.car.mw 79) 5 0 = l then
      (s.modLd (fun d => { d with msg := some (q, n, true) })).addItem 0x15 (leBytes 1 1 ++ leBytes 1 3 ++ leBytes 2 q)
    else s
  | _ => s

/-- The uplink frame of the dwell of engine `e`: its header, its codewords and its body (R487, R499, R500). -/
def State.uplinkTaken (s : State) (e : Nat) (w : DwellSt) (off : Int) (h : Nat) (llrs : List (List Int)) : State :=
  let c := s.car.ldCfg
  let l := w.loop
  if !ldHdrOk h then s.modDwell e (fun w => { w with result := 2 })
  else
    let map := bitsOf h 13 12
    let ncw := bitsOf h 19 16
    let rate := if map = 0 then 0 else bitsOf h 15 14
    let seq := bitsOf h 27 20
    let held := map == 0 || (kvFind map (s.loop l).issued).isSome
    let s := s.modDwell e (fun w => { w with map := map, kind := bitsOf h 11 8, seq := seq, ncw := ncw, hdrOk := true })
    let s := s.modLoop l (fun x => { x with
      noHdr := 0
      rate := bitsOf h 15 14
      devSeq := seq
      off := off
      unack := if bitsOf h 39 32 = x.seq then 0 else x.unack
      ulMap := if held then map else x.ulMap
      st := if x.st = 3 then 1 else if x.st = 1 ∧ map ≠ 0 ∧ held = true then 2 else x.st })
    if 3000 < off.natAbs then s.modDwell e (fun w => { w with result := 5 })
    else if !held ∨ llrs.length ≠ ncw then s.modDwell e (fun w => { w with result := 3 })
    else
      let (bs, it, corr) := ldpcFrame rate c.iterMax llrs
      let s := s.modDwell e (fun w => { w with iter := it, corr := corr })
      match bs with
      | none => s.modDwell e (fun w => { w with result := 3 })
      | some b => match ldBody (whiten b) with
        | none => s.modDwell e (fun w => { w with result := 4 })
        | some info =>
          let s := s.modDwell e (fun w => { w with result := 0, dev := fieldAt info 1 1, body := info.drop 16 })
          let id := bitsOf (fieldAt info 0 1) 1 0
          let s := match id, tableOf (slice info 2 14) with
            | 0, _ => s
            | _, none => s
            | _, some t => s.modLoop l (fun x => x.adopt c.minBits id t w.sent)
          if bitsOf h 11 8 = 2 then s.ldAcked l (fieldAt info 16 2) else s

/-- LD_UPLINK_FRAME on engine `e`: clock offset in 0.1 ppm, the 56 header bits, channel LLRs of the payload. -/
def State.uplinkFrame (s : State) (e : Nat) (off : Int) (h : Nat) (llrs : List (List Int)) : State :=
  match nth s.ld.dwells e none with
  | none => s
  | some w =>
    if w.result ≠ 1 then s
    else s.uplinkTaken e w off h llrs

/-! ### The end of a dwell (R498, Table 16.14) -/

/-- New SNR averages and table after a dwell; `snr` is empty when nothing was measured. -/
def LdLoop.load (l : LdLoop) (c : LdCfg) (snr : List Int) : LdLoop :=
  if snr.length ≠ 32 then { l with since := l.since + 1 }
  else
    let avg := snr.zipIdx.map (fun p => snrAvg (if l.snr.isEmpty then none else some (l.snrAt p.2)) p.1)
    let t := dataCarriers.zipIdx.map (fun p => nextBits c.rate c.margin (nth l.table p.2 0) (nth avg p.1 (0, 0)))
    let falls := (t.zip l.table).any (fun p => Nat.blt p.1 p.2)
    let low := Nat.blt t.sum c.minBits
    { l with
      snr := avg
      table := if t != l.table ∧ (falls = true ∨ 16 ≤ l.since + 1) then t else l.table
      give := l.give || (t != l.table && (falls || Nat.ble 16 (l.since + 1)))
      since := l.since + 1
      st := if l.st = 2 ∧ low = true then 1 else l.st
      ulMap := if low then 0 else l.ulMap }

/-- The smallest SNR over the loaded data subcarriers of the map used. -/
def LdLoop.minSnr (l : LdLoop) (map : Nat) : Int :=
  let t := if map = 0 then copies 28 1 else (kvFind map l.issued).getD (copies 28 1)
  let vs := (dataCarriers.zipIdx.filter (fun p => nth t p.2 0 != 0)).map (fun p => snrQ (l.snrAt p.1))
  match vs with
  | [] => 0
  | v :: vs => vs.foldl min v

/-- The channel report of loop `l` (Table 16.16). -/
def State.channelReport (s : State) (l : Nat) : State :=
  let x := s.loop l
  s.addItem 0x14 (leBytes 1 l ++ leBytes 1 x.st ++ leBytes 1 x.ulMap ++ leBytes 1 x.dlMap ++
    (List.range 32).map (fun k => snrByte (x.snrAt k)))

/-- The end of the dwell `w` of engine `e`: what was measured, the tables, and its items for the node (R498, R503). -/
def State.dwellOver (s : State) (e : Nat) (w : DwellSt) (snr : List Int) : State :=
  let c := s.car.ldCfg
  let l := w.loop
  let t := nth s.car.cfg 6 0 + (w.m + 1) * c.dwell * 400000
  let s := (s.at t).modLoop l (fun x =>
    let x := x.load c snr
    let nd := if w.result = 3 then x.noDec + 1 else 0
    { x with
      noHdr := if w.hdrOk then 0 else x.noHdr + 1
      noDec := if x.st = 2 ∧ 2 ≤ nd then 0 else nd
      robust := x.robust || (x.st == 2 && Nat.ble 2 nd)
      give := x.give || (x.st == 2 && Nat.ble 2 nd)
      st := if x.st = 2 ∧ 2 ≤ nd then 1 else x.st
      dlMap := if 2 ≤ x.unack then 0 else x.dlMap })
  let x := s.loop l
  let body := if w.result = 0 then w.body else []
  let s := s.addItem 0x12 (leBytes 4 t ++ leBytes 1 l ++ leBytes 1 w.result ++ leBytes 1 w.map ++ leBytes 1 w.kind ++
    leBytes 1 w.dev ++ leBytes 1 w.seq ++ leBytes 2 (ofSigned 16 (x.minSnr w.map)) ++
    leBytes 2 (if w.hdrOk then ofSigned 16 x.off else 0) ++ leBytes 1 w.iter ++ leBytes 1 w.ncw ++ leBytes 2 w.corr ++
    leBytes 2 body.length)
  let s := (frags body.length body).zipIdx.foldl (fun s f =>
    s.addItem 0x13 (leBytes 1 l ++ leBytes 1 f.2 ++ [0#8, 0#8] ++ f.1)) s
  let s := s.channelReport l
  s.modLd (fun d => { d with
    dwells := setNth d.dwells e none
    msg := if w.isMsg then d.msg.map (fun m => (m.1, m.2.1 + 1, m.2.2)) else d.msg })

/-- LD_DWELL_END on engine `e`, with the SNR measured per subcarrier in quarter dB. -/
def State.dwellEnd (s : State) (e : Nat) (snr : List Int) : State :=
  match nth s.ld.dwells e none with
  | none => s
  | some w => s.dwellOver e w snr

/-- LD_LOOP_LOST: LOST_DWELLS dwells without a correct header. -/
def State.loopLost (s : State) (l : Nat) : State :=
  let x := s.loop l
  if (x.st = 1 ∨ x.st = 2) ∧ max s.car.ldCfg.lost 1 ≤ x.noHdr then
    (s.modLoop l (fun x => { x with st := 3, dlMap := 0 })).channelReport l
  else s

/-- LD_MSG_FAILED: DL_RETRY dwells without MSG_ACK (R502). -/
def State.ldMsgFailed (s : State) : State :=
  match s.ld.msg with
  | some (q, n, false) =>
    if max s.car.ldCfg.retry 1 ≤ n then
      (s.modLd (fun d => { d with msg := some (q, n, true) })).addItem 0x15 (leBytes 1 1 ++ leBytes 1 4 ++ leBytes 2 q)
    else s
  | _ => s

/-! ### The hub's side -/

/-- A 0x12 item arrives. -/
def State.ldItem (s : State) (b : List Byte) : State :=
  s.modLd (fun d => { d with ents := d.ents ++ [⟨nearTime s.now (fieldAt b 0 4), fieldAt b 4 1, b, fieldAt b 18 2, []⟩] })
/-- A 0x13 item arrives. -/
def State.ldFrag (s : State) (b : List Byte) : State :=
  s.modLd (fun d => { d with ents := addFrag (fieldAt b 0 1) (b.drop 4) d.ents })
/-- A 0x14 item arrives: the loop's registers. -/
def State.ldChannel (s : State) (b : List Byte) : State :=
  let l := fieldAt b 0 1 % 48
  let x := s.loop l
  let st := fieldAt b 1 1 % 4
  let s := if st = 3 ∧ s.getF (R.LDL_STATE l) F.LD_STATE_STATE ≠ 3 then s.raise R.LD_ERR F.LD_ERR_LOST else s
  let ul := if fieldAt b 2 1 = 0 then copies 28 1 else (kvFind (fieldAt b 2 1) x.issued).getD (copies 28 0)
  let dl := if fieldAt b 3 1 = 0 then copies 28 1 else (kvFind (fieldAt b 3 1) x.theirs).getD (copies 28 0)
  let s := s.setRegN (R.LDL_STATE l) (st + 4 * (fieldAt b 2 1 % 4) + 16 * (fieldAt b 3 1 % 4) + 64 * (ul.sum % 256))
  let s := s.each (List.range 8) (fun s i => s.setRegN (R.LDL_SNR l i) (fieldAt b (4 + 4 * i) 4))
  s.each (List.range 4) (fun s i =>
    (s.setRegN (R.LDL_UL_BITS l i) (fieldAt (tableBytes ul) (4 * i) 4)).setRegN (R.LDL_DL_BITS l i)
      (fieldAt (tableBytes dl) (4 * i) 4))
/-- A 0x15 item for the loop-data window arrives: 3 ACKED, 4 FAILED. -/
def State.ldWindowItem (s : State) (b : List Byte) : State :=
  let r := fieldAt b 1 1
  if r ≠ 3 ∧ r ≠ 4 then s
  else
    let s := s.modLd (fun d => { d with winBusy := false })
    let s := if r = 4 then s.raise R.LD_ERR F.LD_ERR_MSG_FAIL else s
    if s.getF R.LD_MSG_STATUS F.LD_MSG_STATUS_MSG_SEQ = fieldAt b 2 2 then s.setF R.LD_MSG_STATUS F.LD_MSG_STATUS_STATE r
    else s

/-- Ends of the dwells a record can cover, between `lo` (not included) and `hi`, with each loop served. -/
def State.dwellEnds (s : State) (lo hi : Nat) : List (Nat × Nat) :=
  let c := s.ldRegs
  let φ := s.img.run.phase
  let len := c.dwell * 400000
  if len = 0 then []
  else
    let m0 := (lo - φ) / len - 1
    ((List.range ((hi - φ) / len + 1 - m0)).map (fun i =>
      let m := m0 + i
      let t := φ + (m + 1) * len
      if lo < t ∧ t ≤ hi ∧ s.dwellRuns c m = true then
        let ls := (List.range 4).filterMap (fun e => nth ((c.loops e).map some) (m % max (c.loops e).length 1) none)
        ((List.range 48).filter ls.contains).map (fun l => (t, l))
      else [])).flatten

/-- An entry of the record (Table 16.15), padded to a multiple of 8. -/
def ldEntry (t l res : Nat) (h data : List Byte) : List Byte :=
  padTo ((32 + data.length + 7) / 8 * 8) (leBytes 8 t ++ leBytes 1 l ++ leBytes 1 res ++ slice h 6 12 ++
    leBytes 2 data.length ++ copies 8 0#8 ++ data)

/-- The LOOPDATA record when the log closes at `b` (R503), and the state with what it covered taken. -/
def State.ldLog (s : State) (b : Nat) : List Byte × State :=
  if s.ldRegs.en = 0 then ([], s)
  else
    let ds := s.ld.ents.map EntSt.instant
    let hi := max (b - 40000) ((ds.filter (fun t => Nat.blt t b)).foldl max 0)
    let lo := match s.ld.last with
      | some l => some l
      | none => match ds with
        | [] => none
        | d :: dt => some (max (b - s.img.run.period) (dt.foldl min d) - 1)
    let ends := match lo with
      | some l => s.dwellEnds l hi
      | none => []
    let es := ends.map (fun p => match s.ld.ents.find? (fun e => e.instant == p.1 && e.key == p.2) with
      | none => ldEntry p.1 p.2 6 (copies 20 0#8) []
      | some e => ldEntry p.1 p.2 (fieldAt e.head 5 1) e.head e.data)
    let absent := es.any (fun e => fieldAt e 9 1 == 6)
    let body := leBytes 4 es.length ++ leBytes 4 (b2n absent) ++ copies 48 0#8 ++ es.flatten
    let bytes := leBytes 2 4 ++ leBytes 2 0 ++ leBytes 4 (8 + body.length) ++ body
    let covered := match ends.getLast? with
      | some p => some p.1
      | none => s.ld.last
    (padRec bytes, s.modLd (fun r => { r with
      last := covered
      ents := match covered with
        | some l => r.ents.filter (fun e => Nat.blt l e.instant)
        | none => r.ents
      recs := es }))

/-- LD_MSG_CMD SEND at its commit: the queue holds 16. -/
def State.ldMsgCmd (s : State) (v : Nat) : State :=
  if !bitOf v 12 then s
  else if 16 ≤ s.ld.queue.length then s.raise R.LD_ERR F.LD_ERR_CMD_REJECT
  else
    let seq := (s.ld.seq + 1) % 65536
    let bytes := (((List.range 15).map (fun w => leBytes 4 (s.regN (R.LD_MSG_DATA w)))).flatten).take (bitsOf v 11 6)
    let s := s.modLd (fun d => { d with queue := d.queue ++ [(seq, bitsOf v 5 0, bytes)], seq := seq })
    s.setRegN R.LD_MSG_STATUS (seq + 2 ^ 16)

/-- The loop-data link at a commit: counters, TX_EN and the next message of the queue (R484, R502). -/
def State.ldCommit (s : State) : State :=
  let s := s.ld.recs.foldl (fun s e =>
    let l := fieldAt e 8 1 % 48
    if fieldAt e 9 1 = 6 then s
    else if fieldAt e 9 1 = 0 then (s.inc (R.LDL_OK_CNT l)).setRegN (R.LDL_OFFSET l) (fieldAt e 16 2)
    else if fieldAt e 9 1 < 3 then s.inc (R.LDL_FAIL_CNT l)
    else (s.inc (R.LDL_FAIL_CNT l)).setRegN (R.LDL_OFFSET l) (fieldAt e 16 2)) s
  let s := s.modLd (fun d => { d with recs := [] })
  let s := (s.setF R.LD_STATUS F.LD_STATUS_TX_ACTIVE (b2n s.txEn)).setF R.LD_CFG2 F.LD_CFG2_TX_EN (b2n s.txEn)
  match s.ld.queue with
  | (seq, l, bytes) :: rest =>
    if s.ld.winBusy then s
    else
      let s := s.modLd (fun d => { d with
        queue := rest
        winHdr := l + 2 ^ 6 * bytes.length + 2 ^ 16 * seq
        winBody := bytes
        winBusy := true })
      if s.getF R.LD_MSG_STATUS F.LD_MSG_STATUS_MSG_SEQ = seq then s.setF R.LD_MSG_STATUS F.LD_MSG_STATUS_STATE 2 else s
  | [] => s

end Sys2Proof.Machine
end

