-- ==== Sys2Proof/Machine/Carrier.lean ====
section
/-! DEFINITION. The isolation crossing: carrier frames in both directions, their checks, configuration words, and the
carrier's power-up and time (15_digital_io.md, R465 to R476; carrier words, R433). -/

namespace Sys2Proof.Machine

/-! ### What the hub sends (Tables 15.6 to 15.8, 16.1) -/

/-- Four bytes `4i` of a window body, as a word. -/
def bodyWord (b : List Byte) (i : Nat) : Nat := fieldAt b (4 * i) 4
/-- SAFE of the sixteen analogue outputs, 2 bits each. -/
def State.aoSafeWord (s : State) : Nat :=
  ((List.range 16).map (fun o => s.getF (R.AO_CFG o) F.AO_CFG_SAFE * 4 ^ o)).sum
/-- Configuration word `i`. -/
def State.cfgWord (s : State) (i : Nat) : Nat :=
  if i = 0 then s.regN R.ISO_TIMEOUT
  else if i = 1 then s.regN R.DO_SAFE_LO
  else if i = 2 then s.regN R.DO_SAFE_HI
  else if i = 3 then s.aoSafeWord
  else if i = 4 then s.regN R.RELAY_SAFE
  else if i = 5 then s.img.run.period / 1000
  else if i = 6 then s.img.run.phase
  else if i < 13 then s.regN (R.DI_FILTER (i - 7))
  else if i < 16 then 0
  else if i < 48 then s.regN (R.AI_CFG (i - 16))
  else if i < 60 then
    nth [s.regN R.RADIO_CFG, s.regN R.RADIO_SF, s.regN R.RADIO_JOIN, s.regN R.RADIO_DETECT, s.regN R.RADIO_SYNC,
      s.regN R.RADIO_TX, s.regN R.RADIO_CUSTOM, s.regN R.RADIO_MISC, s.regN (R.RADIO_FIR 0), s.regN (R.RADIO_FIR 1),
      s.regN (R.RADIO_FIR 2), s.regN (R.RADIO_FIR 3)] (i - 48) 0
  else if i = 60 then 0
  else if i = 61 then s.regN R.LD_EN
  else if i = 62 then s.regN R.LD_CFG1
  else if i = 63 then s.regN R.LD_CFG2
  else if i < 111 then bodyWord s.radio.winBody (i - 64)
  else if i = 111 then s.radio.winHdr
  else if i < 127 then bodyWord s.ld.winBody (i - 112)
  else s.ld.winHdr
/-- All of them. -/
def State.cfgWords (s : State) : List Nat := (List.range 128).map s.cfgWord

/-- How the carrier's outputs stand to the pair (R351, R377, R468): 0 driven, 1 held, 2 armed, 3 released. -/
def State.outMode (s : State) : Nat :=
  match s.pairState with
  | 0 => 0
  | 5 => 0
  | 6 => 1
  | 4 => if s.pair.armed then 2 else 3
  | _ => 3

/-- The committed pair words of the 18 outputs: AO 0–15, DO, call relays. -/
def State.committed (s : State) : List Dword :=
  (List.range 16).map (fun o => BitVec.ofNat 64 (s.reg64 (R.AO_COMMITTED_LO o))) ++
    [BitVec.ofNat 64 (s.reg64 R.DO_COMMITTED_LO), s.io.relay]

/-- Set the bits `m` (a 14-bit value for [31:18]) in the value half and clear them in the complement half (R433). -/
def carrierWord (pair : Dword) (m : Nat) : Dword :=
  (pair ||| BitVec.ofNat 64 (m * 2 ^ 18)) &&& ~~~(BitVec.ofNat 64 (m * 2 ^ 50))

/-- The pair word that output `i` of the vector carries (R433, R446, R468). -/
def State.outWord (s : State) (i : Nat) : Dword :=
  let base := match s.outMode with
    | 1 => nth (s.io.frozen.getD s.committed) i 0#64
    | 3 => BitVec.ofNat 64 (pairWord (if i < 16 then 3 * 2 ^ 16 else 0))
    | _ => nth s.committed i 0#64
  let arm := b2n (s.outMode == 2)
  if i < 16 then
    let base := match s.io.drive with
      | some code => if s.trimKind ≠ 0 ∧ s.trimCh = 32 + i then BitVec.ofNat 64 (pairWord code) else base
      | none => base
    carrierWord base (s.getF (R.AO_STATUS i) F.AO_STATUS_RANGE_ACTIVE + 4 * arm)
  else base

/-- The arm word of the digital outputs and the relay word's arm bits. -/
def State.doArm (s : State) : Nat := if s.outMode = 2 then (nth s.committed 16 0#64).toNat % 2 ^ 32 else 0

/-- The relay carrier word: relays in [3:0], arm bits in [7:4]. -/
def State.relayWord (s : State) : Dword :=
  let w := s.outWord 17
  if s.outMode = 2 then BitVec.ofNat 64 (pairWord (w.toNat % 16 + 16 * (w.toNat % 16))) else w

/-- Bytes of a 64-bit word. -/
def dwBytes (w : Dword) : List Byte := leBytes 8 w.toNat

/-- Start of frame `j` on lane `l` (R465). -/
def frameStart (l j : Nat) : Nat := 25000 * j + 6250 * l

/-- Close a frame with its CRC. -/
def frameOf (bs : List Byte) : List Byte := bs ++ leBytes 2 (crc16 bs)

/-- The payload of lane `l`, with `slot` for lane 3 (Table 15.7). -/
def State.downPayload (s : State) (l j slot : Nat) : List Byte :=
  if l < 2 then ((laneAo l).map (fun o => dwBytes (s.outWord o))).flatten
  else if l = 2 then ((laneAo 2).map (fun o => dwBytes (s.outWord o))).flatten ++ dwBytes (s.outWord 16) ++
    leBytes 8 (pairWord s.doArm)
  else leBytes 8 (frameStart 3 j) ++ dwBytes s.relayWord ++
    ((List.range 4).map (fun k => leBytes 8 (pairWord (s.cfgWord (4 * slot + k))))).flatten

/-- The slots whose words differ from those last noted go first, in increasing index (R469). -/
def State.noteChanged (s : State) : State :=
  let ws := s.cfgWords
  if ws == s.io.sent then s
  else
    let ch := (List.range 32).filter (fun k =>
      (List.range 4).any (fun w => nth ws (4 * k + w) 0 != nth s.io.sent (4 * k + w) 0))
    s.modIo (fun io => { io with
      first := (List.range 32).filter (fun k => ch.contains k || io.first.contains k)
      sent := ws })

/-- The configuration slot the next lane-3 frame carries: one with changed words first, else the next of the rotation
(R469). -/
def State.cfgSlot (s : State) : Nat × State :=
  match s.io.first with
  | k :: ks => (k, s.modIo (fun io => { io with first := ks }))
  | [] => (s.io.rot % 32, s.modIo (fun io => { io with rot := (io.rot + 1) % 32 }))
/-- The bytes of downstream frame `j` of lane `l` (R466, R467). -/
def State.downBytes (s : State) (l j slot : Nat) : List Byte :=
  frameOf (leBytes 1 (0x10 + l) ++ leBytes 1 slot ++ leBytes 2 j ++ leBytes 4 (s.regN R.COMMIT_EPOCH_LO) ++
    s.downPayload l j slot)

/-- DOWNSTREAM_FRAME_SEND: frame `j` of lane `l`, sent from the end of bring-up step 3 on (R465). -/
def State.downSend (s : State) (l j : Nat) : State :=
  let s := s.at (frameStart l j)
  if !s.pwr.ended.contains 3 ∨ s.pwr.stopTx ∨ s.power = 0 then s
  else
    let s := if l = 3 then s.noteChanged else s
    let (slot, s) := if l ≠ 3 then (0, s) else s.cfgSlot
    s.send l 0x10 j (s.downBytes l j slot)

/-! ### The carrier's checks (R471, R475, R476) -/

/-- Whether `seq` is `j` mod 2^16 give or take 1. -/
def seqNear (seq j : Nat) : Bool := (j + 65536 - seq + 1) % 65536 < 3

/-- A CRC or sequence reject of a downstream frame, as the carrier reports it. -/
def State.dnCrc (s : State) (l : Nat) : State :=
  (s.setF (R.LANE_CRC l) F.LANE_CRC_DN (satInc16 (s.getF (R.LANE_CRC l) F.LANE_CRC_DN))).raise R.DIO_ERR F.DIO_ERR_CRC
/-- Steps 2 to 4. -/
def State.dnSeq (s : State) (l : Nat) : State :=
  (s.setF (R.LANE_SEQ l) F.LANE_CRC_DN (satInc16 (s.getF (R.LANE_SEQ l) F.LANE_CRC_DN))).raise R.DIO_ERR F.DIO_ERR_SEQ

/-- The pair words of a payload: all of it, TIME apart on lane 3. -/
def payloadPairs (l : Nat) (p : List Byte) : List Nat :=
  (List.range (if l = 3 then 5 else 6)).map (fun i => fieldAt p (8 * i + (if l = 3 then 8 else 0)) 8)

/-- A configuration word arrives: words 5 and 6 apply at once, the others at the next boundary (R469). -/
def CarSt.takeWord (c : CarSt) (t i v : Nat) : CarSt :=
  if 128 ≤ i then c
  else if i = 5 ∨ i = 6 then { c with cfg := setNth c.cfg i v }
  else { c with cfgNext := kvPut i (v, t) c.cfgNext }

/-- The commands of an accepted payload take effect. -/
def State.takePayload (s : State) (l slot t : Nat) (p : List Byte) : State :=
  let v (i : Nat) : Nat := fieldAt p (8 * i) 4
  let s := (laneAo l).zipIdx.foldl (fun s o => s.aoTake o.1 (v o.2)) s
  if l = 2 then
    let s := s.modC (fun c => { c with doCmd := v 4 })
    (List.range 32).foldl (fun s i => s.doTake i (bitOf (v 4) i) (bitOf (v 5) i)) s
  else if l = 3 then
    (s.relayTake (v 1)).modC (fun c =>
      (List.range 4).foldl (fun c k => c.takeWord t (4 * slot + k) (v (2 + k))) c)
  else s

/-- The carrier accepts downstream frame `seq` of lane `l`: the lane is alive, its outputs leave their safe states, and
the payload is taken (R471). -/
def State.downTaken (s : State) (l t seq slot : Nat) (p : List Byte) : State :=
  (s.modC (fun c => { c with
    lastOk := setNth c.lastOk l t
    echo := setNth c.echo l seq
    safeOn := setNth c.safeOn l false
    lastL3 := if l = 3 then t else c.lastL3
    hold := if l = 3 then false else c.hold })).takePayload l slot t p

/-- DOWNSTREAM_FRAME: 58 bytes reach the carrier on lane `l`, their first bit at `t` of the carrier's time. A carrier without
time takes it from a lane-3 frame whose CRC and KIND are right, and accepts nothing else. -/
def State.downFrame (s : State) (l : Nat) (bytes : List Byte) (t : Nat) : State :=
  let f := padTo 58 bytes
  let c := s.car.settleCfg t
  let timed := c.timed && Nat.blt t (c.lastL3 + 1000000000)
  let s := { s with car := { c with timed := timed } }
  if !c.up then s
  else if crc16 (f.take 56) ≠ fieldAt f 56 2 then s.dnCrc l
  else if fieldAt f 0 1 ≠ 0x10 + l then s.dnSeq l
  else
    let p := slice f 8 48
    let time := fieldAt p 0 8
    let t := if !timed ∧ l = 3 then time else t
    let seq := fieldAt f 2 2
    let s := if l = 3 then s.modC (fun c => { c with timed := true }) else s
    let near (j : Nat) : Bool := decide ((time : Int) - frameStart 3 j ≤ 1000 ∧ (frameStart 3 j : Int) - time ≤ 1000)
    let j0 := (t - 6250 * l) / 25000
    let slots := [j0 - 1, j0, j0 + 1].filter (fun j => j % 65536 == seq)
    if (!timed ∧ l ≠ 3) ∨ !seqNear seq j0 then s.dnSeq l
    else if l = 3 ∧ !slots.any near then s.dnSeq l
    else if !(payloadPairs l p).all isPairWord then s.modC (fun c => { c with pwRej := setNth c.pwRej l true })
    else s.downTaken l t seq (fieldAt f 1 1) p

/-- CARRIER_TIME_HOLDOVER (R476): 1 ms without an accepted lane-3 frame by carrier time `t`. -/
def State.carrierHold (s : State) (t : Nat) : State :=
  if s.car.up ∧ s.car.timed ∧ s.car.lastL3 + 1000000 ≤ t then (s.at t).modC (fun c => { c with hold := true }) else s

/-- CARRIER_POWER_UP: every output off, defaults, and nothing kept by the modems on the carrier. -/
def State.carrierUp (s : State) : State :=
  let s := { s with car := { CarSt.zero with lastOk := copies 4 s.now } }
  let s := (List.range 16).foldl (fun s o => s.setF (R.AO_STATUS o) F.AO_STATUS_STATE 0) s
  let s := ((s.setRegN R.DO_ARMED 0).setRegN R.DO_LIMIT 0).setRegN R.RELAY_STATE 0
  let s := s.modRad (fun r => { r with afc := [], afcMiss := [], rx := none, tx := [], maskHold := false })
  s.modLd (fun d => { d with loops := copies 48 LdLoop.zero, dwells := copies 4 none, msg := none })

/-! ### Upstream (Tables 15.6 and 15.9, R470) -/

/-- Fill a payload: each item in turn where it fits whole; the items left over. -/
def fillPayload : List (Nat × List Byte) → List Byte → List Byte × List (Nat × List Byte)
  | [], acc => (acc, [])
  | it :: rest, acc =>
    if acc.length + 2 + it.2.length ≤ 48 then
      fillPayload rest (acc ++ leBytes 1 it.1 ++ leBytes 1 it.2.length ++ it.2)
    else
      let (a, r) := fillPayload rest acc
      (a, it :: r)

/-- The AO status item of output `o`: readback nA, terminal mV, supply mV, junction °C (Table 15.9). -/
def State.aoStatusItem (s : State) (o : Nat) (nA : Int) (mv sup : Nat) (temp : Int) : List Byte :=
  let st := s.reg (R.AO_STATUS o)
  leBytes 1 o ++ [0#8] ++ leBytes 4 (ofSigned 32 nA) ++ leBytes 2 mv ++ leBytes 2 sup ++ leBytes 1 (ofSigned 8 temp) ++
  leBytes 1 (F.AO_STATUS_THERMAL.get st + 2 * F.AO_STATUS_LOAD_HIGH.get st + 4 * F.AO_STATUS_MISWIRE.get st +
    8 * F.AO_STATUS_EXT_SOURCE.get st + 16 * b2n (nth s.car.aoSt o 0 == 1))

/-- Digital outputs in a state, as a mask. -/
def CarSt.doMask (c : CarSt) (p : Nat → Bool) : Nat := bitNat (c.doSt.map p)

/-- The DO status item. -/
def State.doStatusItem (s : State) (mv1 mv2 : Nat) : List Byte :=
  leBytes 4 (s.car.doMask (fun v => v == 2 || v == 3)) ++ leBytes 4 (s.car.doMask (fun v => v == 3)) ++
  leBytes 4 (s.car.doMask (fun v => v == 4)) ++ leBytes 4 ((s.car.ext.map (fun i => 2 ^ i)).sum) ++
  leBytes 2 mv1 ++ leBytes 2 mv2 ++ leBytes 6 s.car.miswire ++ [0#8, 0#8]

/-- Upstream frame `j` of lane `l` goes out with what is ready and the statuses `ao` and `dio`; items that do not fit wait
(R470). -/
def State.upGoes (s : State) (l j : Nat) (ao : List (Nat × Int × Nat × Nat × Int)) (dio : Option (Nat × Nat)) : State :=
  let c := s.car
  let news := ao.map (fun a => (3, s.aoStatusItem (a.1 % 16) a.2.1 a.2.2.1 a.2.2.2.1 a.2.2.2.2)) ++
    (match dio with
     | some (a, b) => [(4, s.doStatusItem a b)]
     | none => [])
  let all := c.ready ++ news
  let order := all.filter (fun i => Nat.ble i.1 2) ++ all.filter (fun i => Nat.blt 2 i.1)
  let (p, rest) := fillPayload order []
  let flags := b2n c.iso + 2 * b2n (nth c.safeOn l false) + 4 * b2n (nth c.pwRej l false) + 8 * b2n c.hold
  let bs := leBytes 1 (0x20 + l) ++ leBytes 1 flags ++ leBytes 2 j ++ leBytes 2 (nth c.echo l 0) ++
    leBytes 1 p.length ++ [0#8] ++ padTo 48 p
  (s.modC (fun c => { c with ready := rest, pwRej := setNth c.pwRej l false })).send l 0x20 j (frameOf bs)

/-- UPSTREAM_FRAME_SEND: frame `j` of lane `l`. `ao` are the status measures of outputs whose millisecond falls in this slot
(output, nA, mV, supply mV, °C), `dio` the group supplies when a DO status is due. AI and DI items go first. -/
def State.upSend (s : State) (l j : Nat) (ao : List (Nat × Int × Nat × Nat × Int)) (dio : Option (Nat × Nat)) : State :=
  let s := s.at (frameStart l j)
  let c := s.car.settleCfg s.now
  let s := { s with car := c }
  if !c.up then s else s.upGoes l j ao dio

/-- The items of a payload. -/
def itemsOf : Nat → List Byte → List (Nat × List Byte)
  | 0, _ => []
  | n + 1, bs =>
    match bs with
    | tag :: len :: rest =>
      if rest.length < len.toNat then [] else (tag.toNat, rest.take len.toNat) :: itemsOf n (rest.drop len.toNat)
    | _ => []

/-- Members of a 32-bit mask, in increasing order. -/
def maskBits (m : Nat) : List Nat := (List.range 32).filter (bitOf m)

/-- One item at the hub (Tables 15.9 and 16.16). -/
def State.takeItem (s : State) (tag : Nat) (b : List Byte) : State :=
  match tag with
  | 1 =>
    let t := nearTime s.now (fieldAt b 0 4)
    (maskBits (fieldAt b 4 4)).zipIdx.foldl (fun s c =>
      s.aiDeliver c.1 t (4 * toSigned 24 (fieldAt b (8 + 3 * c.2) 3))) s
  | 2 =>
    let j0 := s.now / 25000
    let j := if (fieldAt b 0 2 + 65536 - j0 % 65536) % 65536 < 32768 then j0 + (fieldAt b 0 2 + 65536 - j0 % 65536) % 65536
      else j0 - (j0 % 65536 + 65536 - fieldAt b 0 2) % 65536
    s.diDeliver (25000 * j) (fieldAt b 2 6)
  | 3 =>
    let o := fieldAt b 0 1 % 16
    let s := ((s.setRegN (R.AO_READBACK o) (fieldAt b 2 4)).setRegN (R.AO_LOOP_V o) (fieldAt b 6 2)).setRegN (R.AO_SUPPLY o)
      (fieldAt b 8 2 + 2 ^ 16 * ofSigned 16 (toSigned 8 (fieldAt b 10 1)))
    s.setF (R.AO_STATUS o) F.AO_STATUS_LOAD_HIGH (b2n (bitOf (fieldAt b 11 1) 1))
  | 4 =>
    let s := ((s.setRegN R.DO_ON (fieldAt b 0 4)).setRegN R.DO_LIMIT (fieldAt b 4 4)).setRegN R.DO_EXT (fieldAt b 12 4)
    let s := (s.setRegN R.LPLUS_1_MV (fieldAt b 16 2)).setRegN R.LPLUS_2_MV (fieldAt b 18 2)
    let ok (s : State) (g mv : Nat) : State := if 17000 ≤ mv then s.raise R.DIO_STATUS (supplyFld g) else s
    ok (ok s 0 (fieldAt b 16 2)) 1 (fieldAt b 18 2)
  | 0x10 => s.radioItem b
  | 0x11 => s.radioFrag b
  | 0x12 => s.ldItem b
  | 0x13 => s.ldFrag b
  | 0x14 => s.ldChannel b
  | 0x15 => if fieldAt b 0 1 = 0 then s.radioWindowItem b else s.ldWindowItem b
  | 0x16 => s.radioTxItem b
  | _ => s

/-- FLAGS of an accepted frame of lane `l`. -/
def State.takeFlags (s : State) (l flags : Nat) : State :=
  let was := s.flag (R.LANE_STATUS l) F.LANE_STATUS_SAFE_ACTIVE
  let s := s.setF (R.LANE_STATUS l) F.LANE_STATUS_SAFE_ACTIVE (b2n (bitOf flags 1))
  let s := if bitOf flags 1 ∧ !was then (s.inc R.DIO_TIMEOUT_CNT).raise R.DIO_ERR F.DIO_ERR_TIMEOUT else s
  let s := if bitOf flags 2 then
      ((s.pwMismatch 5).setReg (R.LANE_PW l) (satInc (s.reg (R.LANE_PW l)))).raise R.DIO_ERR F.DIO_ERR_PW
    else s
  let locked := s.flag R.DIO_STATUS F.DIO_STATUS_TIME_LOCK
  let s := s.setF R.DIO_STATUS F.DIO_STATUS_TIME_LOCK (b2n (!bitOf flags 3))
  let s := if bitOf flags 3 ∧ locked = true then s.raise R.DIO_ERR F.DIO_ERR_TIME_HOLD else s
  if bitOf flags 0 ∧ !s.flag R.DIO_STATUS F.DIO_STATUS_ISO_FAULT ∧ !s.rcv.dead then
    ((s.raise R.DIO_STATUS F.DIO_STATUS_ISO_FAULT).raise R.DIO_ERR F.DIO_ERR_ISO_FAULT).unrecoverable 8 12 0 0
  else s

/-- The node accepts the upstream frame `f` of lane `l`: its time, its echo, its flags and its items (R472). -/
def State.upTaken (s : State) (l t : Nat) (f : List Byte) : State :=
  let echo := fieldAt f 4 2
  let new := s.getF (R.LANE_STATUS l) F.LANE_STATUS_ECHO != echo
  let s := s.modIo (fun io => { io with
    lateUp := setNth io.lateUp l t
    lateDn := if new then setNth io.lateDn l t else io.lateDn })
  let s := (s.setF (R.LANE_STATUS l) F.LANE_STATUS_ECHO echo).takeFlags l (fieldAt f 1 1)
  (itemsOf 24 ((slice f 8 48).take (fieldAt f 6 1))).foldl (fun s i => s.takeItem i.1 i.2) s

/-- UPSTREAM_FRAME: 58 bytes reach the hub on lane `l`, their first bit at `t` (R472). -/
def State.upFrame (s : State) (l : Nat) (bytes : List Byte) (t : Nat) : State :=
  let f := padTo 58 bytes
  let s := s.at t
  let j0 := (t - 6250 * l) / 25000
  if crc16 (f.take 56) ≠ fieldAt f 56 2 then
    (s.setF (R.LANE_CRC l) F.LANE_CRC_UP (satInc16 (s.getF (R.LANE_CRC l) F.LANE_CRC_UP))).raise R.DIO_ERR F.DIO_ERR_CRC
  else if fieldAt f 0 1 ≠ 0x20 + l ∨ !seqNear (fieldAt f 2 2) j0 then
    (s.setF (R.LANE_SEQ l) F.LANE_CRC_UP (satInc16 (s.getF (R.LANE_SEQ l) F.LANE_CRC_UP))).raise R.DIO_ERR F.DIO_ERR_SEQ
  else s.upTaken l t f

/-- DN_OK and UP_OK of a lane: accepted within the last 1 ms. -/
def State.laneOk (s : State) (l : Nat) : Bool × Bool :=
  (Nat.ble s.now (nth s.io.lateDn l 0 + 1000000) && nth s.io.lateDn l 0 != 0,
   Nat.ble s.now (nth s.io.lateUp l 0 + 1000000) && nth s.io.lateUp l 0 != 0)
/-- CARRIER_OK. -/
def State.carrierOk (s : State) : Bool :=
  (List.range 4).all (fun l => (s.laneOk l).1 && (s.laneOk l).2)

end Sys2Proof.Machine
end

