-- ==== Sys2Proof/Machine/Alarm.lean ====
section
/-! DEFINITION. The alarm engine and engineer call: points, groups, acknowledgement, shelving, classes, targets, the watch timer,
call relays and the command entries (17_alarm_and_call.md). -/

namespace Sys2Proof.Machine

/-- Change the alarm engine. -/
def State.modAlm (s : State) (f : AlmSt → AlmSt) : State := { s with alm := f s.alm }
/-- Point `p`. -/
def State.point (s : State) (p : Nat) : PointSt := kvGet (fun _ => PointSt.zero) p s.alm.points
/-- Replace point `p`. -/
def State.setPoint (s : State) (p : Nat) (v : PointSt) : State :=
  s.modAlm (fun a => { a with points := kvSet (fun _ => PointSt.zero) p v a.points })
/-- The watch point. -/
def watchPoint : Nat := 4096

/-! ### The point state word (Table 17.2) -/

/-- ACTIVE. -/
def PointSt.active (p : PointSt) : Bool := bitOf p.st 0
/-- UNACK. -/
def PointSt.unack (p : PointSt) : Bool := bitOf p.st 1
/-- RAISED. -/
def PointSt.raised (p : PointSt) : Bool := bitOf p.st 2
/-- SRC_BAD. -/
def PointSt.srcBad (p : PointSt) : Bool := bitOf p.st 3
/-- SHELVED. -/
def PointSt.shelvd (p : PointSt) : Bool := bitOf p.st 5
/-- SUPPRESSED. -/
def PointSt.suppr (p : PointSt) : Bool := bitOf p.st 6
/-- LATCHED. -/
def PointSt.latched (p : PointSt) : Bool := bitOf p.st 7
/-- FIRST_OUT. -/
def PointSt.firstOut (p : PointSt) : Bool := bitOf p.st 8
/-- EVENT. -/
def PointSt.event (p : PointSt) : Bool := bitOf p.st 9
/-- The point with bit `i` of its word set to `b`. -/
def PointSt.put (p : PointSt) (i : Nat) (b : Bool) : PointSt :=
  { p with st := p.st - b2n (bitOf p.st i) * 2 ^ i + b2n b * 2 ^ i }

/-! ### Configuration (Tables 3.12 and 3.13) -/

/-- An alarm point record. -/
structure PointRec where
  point : Nat
  source : Nat
  flags : Nat
  src : Nat
  group : Nat
  cls : Nat
  setpoint : Nat
  deadband : Nat
  on : Nat
  off : Nat
  supGroup : Nat
  supFlags : Nat
  deriving DecidableEq, Repr

/-- A record's fields. -/
def pointRecOf (r : List Byte) : PointRec :=
  ⟨fieldAt r 0 2, fieldAt r 2 1, fieldAt r 3 1, fieldAt r 4 2, fieldAt r 6 1, fieldAt r 7 1, fieldAt r 8 4, fieldAt r 16 4,
    fieldAt r 24 4, fieldAt r 32 4, fieldAt r 40 1, fieldAt r 41 1⟩
/-- The defined points in increasing number. -/
def RunCfg.points (c : RunCfg) : List PointRec := (tableRecs (c.body 10 0)).map pointRecOf
/-- The record of point `p`. -/
def RunCfg.pointRec (c : RunCfg) (p : Nat) : Option PointRec := c.points.find? (fun r => r.point == p)
/-- Combination record `k`: OP, K and its members. -/
def RunCfg.combo (c : RunCfg) (k : Nat) : Nat × Nat × List Nat :=
  let b := c.body 10 0
  let r := slice b (8 + 48 * fieldAt b 2 2 + 16 * k) 16
  (fieldAt r 0 1, fieldAt r 1 1, (List.range (min (fieldAt r 2 1) 6)).map (fun i => fieldAt r (4 + 2 * i) 2))
/-- The record of group `g`: FLAGS, STATE_POINT, SHELVE_MAX. -/
def RunCfg.groupRec (c : RunCfg) (g : Nat) : Option (Nat × Nat × Nat) :=
  ((tableRecs (c.body 11 0)).find? (fun r => fieldAt r 0 1 == g)).map
    (fun r => (fieldAt r 1 1, fieldAt r 2 2, fieldAt r 4 4))
/-- Whether a group is defined: it has a record or a point. -/
def RunCfg.groupDefined (c : RunCfg) (g : Nat) : Bool := (c.groupRec g).isSome || c.points.any (fun r => r.group == g)

/-! ### The log of the epoch (14_process_loops.md, record headers) -/

/-- Records of a log: each starts on a multiple of 64 bytes. -/
def logRecs : Nat → List Byte → List (List Byte)
  | 0, _ => []
  | n + 1, bs =>
    let len := fieldAt bs 4 4
    if bs.isEmpty ∨ len < 8 then [] else bs.take len :: logRecs n (bs.drop ((len + 63) / 64 * 64))
/-- The record of a TYPE in a log whose header fills the first 64 bytes. -/
def logRec (log : List Byte) (typ : Nat) : Option (List Byte) :=
  (logRecs 64 (log.drop 64)).find? (fun r => fieldAt r 0 2 == typ)

/-! ### Sources (Table 17.1, R511, R512) -/

/-- What an evaluation sees of its epoch: CAPTURE_T, the DI record, scores written with their die. -/
structure EvalIn where
  capture : Nat
  di : Option (List Byte)
  scores : List (Nat × Nat × Nat)
  deriving DecidableEq, Repr

/-- New value if the source has one, whether it is raw bad, and for scores and radio whether one came. -/
def State.sourceValue (s : State) (e : EvalIn) (r : PointRec) (p : PointSt) : Option Nat × Bool × Option Nat :=
  match r.source with
  | 0 =>
    let cls := s.getF (R.AI_STATUS r.src) F.AI_STATUS_CLASS
    (some (s.regN (R.AI_EU r.src)), Nat.ble 3 cls, none)
  | 1 =>
    match e.di with
    | none => (none, true, none)
    | some d => (some (if bitOf (fieldAt d 24 6) r.src then 0x3F800000 else 0), bitOf (fieldAt d 32 4) 0, none)
  | 2 =>
    match e.scores.find? (fun x => x.1 == r.src) with
    | some x => (some x.2.1, (f32Val x.2.1).isNan, some x.2.2)
    | none => (none, (f32Val p.value).isNan, none)
  | 3 =>
    let key := 256 * (r.src % 256) + r.src / 256
    match s.radio.quant.find? (fun q => q.1 == key) with
    | none => (none, Nat.ble (s.getF R.RADIO_STALE F.RADIO_STALE_COMMITS) (p.age + 1), none)
    | some q =>
      if q.2.2.1 then (none, true, none)
      else if q.2.2.2 = s.epoch then (some q.2.1, false, some 0)
      else (none, Nat.ble (s.getF R.RADIO_STALE F.RADIO_STALE_COMMITS) (p.age + 1), none)
  | _ => (none, false, none)

/-- Whether a die has a quarter in IDLE, RUNNING or DONE. -/
def State.dieAlive (s : State) (d : Nat) : Bool := ([4 * d, 4 * d + 1, 4 * d + 2, 4 * d + 3]).any s.qActive

/-- STALE of a point (R511). -/
def State.pointStale (s : State) (r : PointRec) (p : PointSt) : Bool :=
  let lim := s.getF R.ALM_CTRL F.ALM_CTRL_SCORE_STALE
  r.source == 2 && (!p.ever || !s.dieAlive p.die || (lim != 0 && Nat.ble lim p.age))

/-- Step 2: value, raw-bad run, SRC_BAD, STALE. -/
def State.takeSource (s : State) (e : EvalIn) (r : PointRec) : State :=
  let p := s.point r.point
  let (v, bad, came) := s.sourceValue e r p
  let p := match came with
    | some d => { p with ever := true, age := 0, die := d }
    | none => { p with age := min (p.age + 1) (2 ^ 20 - 1) }
  let run := if bad then min (p.bad + 1) 255 else 0
  let p := { p with bad := run, value := if bad then p.value else v.getD p.value }
  let p := p.put 3 (bad && Nat.ble (s.getF R.ALM_CTRL F.ALM_CTRL_BAD_DELAY) run)
  s.setPoint r.point (p.put 4 (s.pointStale r p))

/-! ### Conditions and delays (R514 to R516) -/

/-- The raw condition C from the value. -/
def State.condition (s : State) (r : PointRec) (p : PointSt) : Bool :=
  let v := p.value
  let sp := s.regN (R.SETPOINT_LO r.point)
  let db := if r.deadband = 0x80000000 then 0 else r.deadband
  match r.source with
  | 1 => if bitOf r.flags 3 then f32Eq v 0 else f32Eq v 0x3F800000
  | 4 =>
    let (op, k, ms) := s.img.run.combo r.src
    let n := (ms.filter (fun m => (s.point m).active && !(s.point m).srcBad)).length
    if op = 0 then n == ms.length else if op = 1 then Nat.ble 1 n else Nat.ble k n
  | _ =>
    if bitOf r.flags 0 then (if p.c then !f32Lt v (f32Sub sp db) else f32Le sp v)
    else (if p.c then !f32Lt (f32Add sp db) v else f32Le v sp)

/-- The edge time of the first edge of input `i` to level `lv` in a DI record. -/
def firstEdge (d : List Byte) (i lv : Nat) : Option Nat :=
  ((List.range (fieldAt d 20 4)).map (fun k => slice d (256 + 16 * k) 16)).find?
    (fun x => fieldAt x 8 1 == i && fieldAt x 9 1 == lv) |>.map (fun x => fieldAt x 0 8)

/-- ONSET of a point that begins now. -/
def onsetOf (e : EvalIn) (r : PointRec) : Nat :=
  if r.source = 1 then ((e.di.bind (fun d => firstEdge d r.src (b2n (!bitOf r.flags 3)))).getD e.capture) else e.capture

/-- C and ACTIVE of a point (R515). -/
def PointSt.follow (p : PointSt) (e : EvalIn) (r : PointRec) (c : Bool) : PointSt :=
  let q := { p with c := c }
  if c = p.active then { q with timer := 0 }
  else
    let t := p.timer + 1
    let begins := c && (p.timer == 0 || r.on == 0)
    let q := if begins then { q with onset := onsetOf e r } else q
    if (if p.active then r.off else r.on) < t then { q with timer := 0 }.put 0 c else { q with timer := t }

/-- Steps 3 and 4 for one point: a raw bad source keeps everything (R512). -/
def State.evalPoint (s : State) (e : EvalIn) (r : PointRec) : State :=
  let p := s.point r.point
  if p.bad ≠ 0 then s
  else
    let v := if r.source = 4 then
        let (_, _, ms) := s.img.run.combo r.src
        f32OfInt ((ms.filter (fun m => (s.point m).active && !(s.point m).srcBad)).length : Nat) 0
      else p.value
    let p := { p with value := v }
    s.setPoint r.point (p.follow e r (s.condition r p))

/-! ### Groups (R520 to R522) -/

/-- G_g. -/
def State.groupState (s : State) (g : Nat) : Bool :=
  match s.img.run.groupRec g with
  | some (fl, sp, _) => if bitOf fl 0 then (s.point sp).active && (s.img.run.pointRec sp).isSome
    else (s.img.run.points.filter (fun r => r.group == g)).any (fun r => (s.point r.point).active)
  | none => (s.img.run.points.filter (fun r => r.group == g)).any (fun r => (s.point r.point).active)

/-- Step 5: group states in GROUP_g; a STATE_POINT that is not defined sets CONFIG. -/
def State.evalGroups (s : State) : State :=
  (List.range 256).foldl (fun s g =>
    let s := s.setF (R.GROUP g) F.GROUP_STATE (b2n (s.groupState g))
    match s.img.run.groupRec g with
    | some (fl, sp, _) =>
      if bitOf fl 0 ∧ (s.img.run.pointRec sp).isNone then s.raise R.ALM_ERR F.ALM_ERR_CONFIG else s
    | none => s) s

/-- Whether class `c` is an event class. -/
def State.eventClass (s : State) (c : Nat) : Bool := s.flag (R.CLASS_CFG c) F.CLASS_CFG_EVENT

/-- Step 6 for one point; `old` is the point before the evaluation. -/
def State.annunciate (s : State) (old : PointSt) (r : PointRec) : State :=
  let p := ((s.point r.point).put 9 (s.eventClass r.cls)).put 10 true
  let p := p.put 6 (bitOf r.supFlags 0 && s.flag (R.GROUP r.supGroup) F.GROUP_STATE)
  let p := if p.shelvd ∧ !s.alm.shelved.contains r.point then
      (let p := { p with shelve := p.shelve - 1 }
       if p.shelve = 0 then p.put 5 false else p)
    else p
  let p := if old.active ∧ !p.active ∧ p.unack ∧ bitOf r.flags 1 ∧ !p.event then p.put 7 true else p
  let p := p.put 2 ((p.active || p.srcBad || p.latched) && !p.shelvd && !p.suppr)
  let news := (p.raised && !old.raised) ||
    (((p.active && !old.active) || (p.srcBad && !old.srcBad)) && !p.shelvd && !p.suppr)
  let s := if news ∧ !p.event then s.drop R.ALM_STATUS F.ALM_STATUS_SILENCED else s
  s.setPoint r.point (if news ∧ !p.event then p.put 1 true else p)

/-- The lower of two candidates: earliest ONSET, then lowest number. -/
def foBetter (a b : Nat × Nat) : Nat × Nat := if b.1 < a.1 ∨ (b.1 = a.1 ∧ b.2 < a.2) then b else a

/-- Drop the first-out of group `g`. -/
def State.foDrop (s : State) (g : Nat) : State :=
  let s := if s.flag (R.GROUP g) F.GROUP_FO_HELD then
      let p := s.getF (R.GROUP g) F.GROUP_FO_POINT
      s.setPoint p ((s.point p).put 8 false)
    else s
  (s.setF (R.GROUP g) F.GROUP_FO_HELD 0).setF (R.GROUP g) F.GROUP_FO_POINT 0

/-- Step 7 for one group; `rose` are the points whose ACTIVE went to 1. -/
def State.firstOutStep (s : State) (rose : List Nat) (g : Nat) : State :=
  let ms := s.img.run.points.filter (fun r => r.group == g && bitOf r.flags 2)
  let s :=
    if s.flag (R.GROUP g) F.GROUP_FO_HELD then s
    else
      match (ms.filter (fun r => rose.contains r.point)).map (fun r => ((s.point r.point).onset, r.point)) with
      | [] => s
      | x :: xs =>
        let b := xs.foldl foBetter x
        let s := s.setPoint b.2 ((s.point b.2).put 8 true)
        (s.raise (R.GROUP g) F.GROUP_FO_HELD).setF (R.GROUP g) F.GROUP_FO_POINT b.2
  if s.flag (R.GROUP g) F.GROUP_FO_HELD ∧ !ms.any (fun r => (s.point r.point).raised || (s.point r.point).unack) then s.foDrop g
  else s

/-! ### The watch timer (R536) -/

/-- WATCH_STATUS. -/
def State.watchState (s : State) : Nat := s.getF R.WATCH_STATUS F.WATCH_STATUS_STATE
/-- Class of the watch point. -/
def State.watchClass (s : State) : Nat := s.getF R.WATCH_CFG F.WATCH_CFG_CLASS
/-- Its level. -/
def State.watchLevel (s : State) : Nat := s.getF R.WATCH_CFG F.WATCH_CFG_LEVEL

/-- RUNNING or PREWARN with REMAIN one lower. -/
def State.watchTick (s : State) : State :=
  let r := s.regN R.WATCH_REMAIN - 1
  let s := s.setRegN R.WATCH_REMAIN r
  s.setRegN R.WATCH_STATUS (if r = 0 then 3 else if r ≤ s.getF R.WATCH_PRE F.WATCH_PRE_EPOCHS then 2 else 1)

/-- State and REMAIN at a commit. -/
def State.watchMove (s : State) : State :=
  let start (s : State) : State := (s.setRegN R.WATCH_REMAIN (s.getF R.WATCH_TIME F.WATCH_TIME_EPOCHS)).setRegN R.WATCH_STATUS 1
  if !s.flag R.WATCH_CFG F.WATCH_CFG_ARMED then (s.setRegN R.WATCH_STATUS 0).setRegN R.WATCH_REMAIN 0
  else if s.watchState = 0 ∨ s.alm.watched = true then start s
  else if s.watchState = 3 then s
  else s.watchTick

/-- The watch point follows its timer. -/
def State.watchAnnounce (s : State) (old : PointSt) : State :=
  let p := (s.point watchPoint).put 10 true
  let p := p.put 9 (s.eventClass s.watchClass)
  let act := s.watchState == 3
  let p := { p with c := act, value := f32OfInt (s.regN R.WATCH_REMAIN : Nat) 0 }
  let p := (p.put 0 act).put 2 act
  let p := if act ∧ !old.active ∧ !p.event then p.put 1 true else p
  let s := if act ∧ !old.active ∧ !p.event then s.drop R.ALM_STATUS F.ALM_STATUS_SILENCED else s
  s.setPoint watchPoint p

/-- A watch reset: RUNNING again, the watch point neither active nor unacknowledged. -/
def State.watchReset (s : State) : State :=
  (s.modAlm (fun a => { a with watched := true })).setPoint watchPoint (((s.point watchPoint).put 0 false).put 1 false)

/-! ### Classes and targets (R530 to R534) -/

/-- KIND of a target. -/
def State.targetKind (s : State) (t : Nat) : Nat := s.getF (R.TARGET_CFG t) F.TARGET_CFG_KIND
/-- PRESENT. -/
def State.present (s : State) (t : Nat) : Bool := s.flag (R.TARGET_STATUS t) F.TARGET_STATUS_PRESENT
/-- The 64 targets. -/
def allT : List Nat := List.range 64
/-- DUTY as one mask. -/
def State.duty (s : State) : Nat := s.regN R.DUTY_LO_LO + 2 ^ 32 * s.regN R.DUTY_HI_LO
/-- ESC_EPOCHS of a level. -/
def State.escOf (s : State) (c l : Nat) : Nat := s.getF (R.LEVEL_CFG c l) F.LEVEL_L_CFG_ESC_EPOCHS
/-- The last level of a class. -/
def State.lastLevel (s : State) (c : Nat) : Nat := ((List.range 3).find? (fun l => s.escOf c l == 0)).getD 3
/-- The reachable set of a level. -/
def State.reachable (s : State) (c l : Nat) : List Nat :=
  let m := if s.flag (R.LEVEL_CFG c l) F.LEVEL_L_CFG_DUTY then s.duty else s.reg64 (R.LEVEL_MASK_LO c l)
  allT.filter (fun t => bitOf m t && s.present t)
/-- The calling set at a level. -/
def State.callingSet (s : State) (c l : Nat) : List Nat :=
  allT.filter (fun t => (List.range (l + 1)).any (fun k => (s.reachable c k).contains t))
/-- STATE of a class. -/
def State.clsState (s : State) (c : Nat) : Nat := s.getF (R.CLASS_STATE c) F.CLASS_STATE_STATE
/-- Its level. -/
def State.clsLevel (s : State) (c : Nat) : Nat := s.getF (R.CLASS_STATE c) F.CLASS_STATE_LEVEL
/-- Its TIMER. -/
def State.clsTimer (s : State) (c : Nat) : Nat := s.getF (R.CLASS_STATE c) F.CLASS_STATE_TIMER
/-- Write CLASS_STATE. -/
def State.setCls (s : State) (c st l t : Nat) : State :=
  s.setRegN (R.CLASS_STATE c) (st + 4 * l + 2 ^ 8 * min t (2 ^ 24 - 1))

/-- From level `l`, the first level that is last or reaches someone. -/
def State.callFrom (s : State) (c : Nat) : Nat → Nat → Nat
  | 0, l => l
  | n + 1, l => if l = s.lastLevel c ∨ !(s.reachable c l).isEmpty then l else State.callFrom s c n (l + 1)

/-- Callable points of a class (R530). -/
def State.callable (s : State) (p : Nat) : Bool := (s.point p).raised && (s.point p).unack && !(s.point p).event
/-- Whether some point of the class is callable. -/
def State.anyCallable (s : State) (c : Nat) : Bool :=
  s.img.run.points.any (fun r => r.cls == c && s.callable r.point) || (s.watchClass == c && s.callable watchPoint)

/-- One class at step 8 (Table 17.4); `watchNew` says that the watch point became callable in this commit. -/
def State.classStep (s : State) (watchNew : Bool) (c : Nat) : State :=
  let w := watchNew && s.watchClass == c
  let last := s.lastLevel c
  let enter (l t : Nat) : State := s.setCls c 1 (s.callFrom c 4 (min l last)) t
  let l := min (s.clsLevel c) last
  let t := s.clsTimer c
  if !s.anyCallable c then s.setCls c 0 0 0
  else match s.clsState c with
    | 0 => enter (if s.watchClass = c ∧ s.callable watchPoint then s.watchLevel else 0) 0
    | 1 =>
      if s.alm.accepted.contains c then s.setCls c 2 l 0
      else if w ∧ l < s.watchLevel then enter s.watchLevel 0
      else if l ≠ last ∧ (s.escOf c l ≤ t + 1 ∨ (s.reachable c l).isEmpty) then enter (l + 1) 0
      else s.setCls c 1 l (t + 1)
    | _ =>
      let lim := s.getF (R.CLASS_CFG c) F.CLASS_CFG_ACCEPT_EPOCHS
      if w ∨ (lim ≠ 0 ∧ lim ≤ t + 1) then s.setCls c 1 l 0 else s.setCls c 2 l (t + 1)

/-- AGE of a target at which PRESENT clears (R534). -/
def State.ageLimit (s : State) : Nat :=
  let p := s.img.run.period / 1000
  (3000000 + p - 1) / max p 1

/-- PRESENT of relay and absent targets: a relay target is present when its relay has FN 3. -/
def State.relayTargets (s : State) : State :=
  allT.foldl (fun s t =>
    match s.targetKind t with
    | 1 => s
    | 2 => s.setF (R.TARGET_STATUS t) F.TARGET_STATUS_PRESENT
        (b2n (s.getF (R.RELAY_FN (s.getF (R.TARGET_CFG t) F.TARGET_CFG_RELAY)) F.RELAY_FN_FN == 3))
    | _ => s.setF (R.TARGET_STATUS t) F.TARGET_STATUS_PRESENT 0) s

/-- Panel target `t` loses presence. -/
def State.presenceLost (s : State) (t : Nat) : State :=
  (s.setF (R.TARGET_STATUS t) F.TARGET_STATUS_PRESENT 0).raise R.ALM_ERR F.ALM_ERR_TARGET_LOST

/-- AGE of panel target `t` at a commit. -/
def State.targetAge (s : State) (t : Nat) : State :=
  if s.targetKind t ≠ 1 ∨ s.alm.seen.contains t then s
  else
    let a := min (kvGet (fun _ => 0) t s.alm.ages + 1) (2 ^ 24 - 1)
    let s := s.modAlm (fun x => { x with ages := kvSet (fun _ => 0) t a x.ages })
    if s.present t ∧ s.ageLimit ≤ a then s.presenceLost t else s

/-- Classes that call target `t`. -/
def State.classesFor (s : State) (t : Nat) : List Nat :=
  (List.range 16).filter (fun c => s.clsState c != 0 && (s.callingSet c (s.clsLevel c)).contains t)
/-- Whether target `t` is pre-warned. -/
def State.preWarned (s : State) (t : Nat) : Bool := s.watchState == 2 && bitOf (s.reg64 R.WATCH_PRE_MASK_LO) t
/-- CALL values for target `t` (Table 17.6, R532). -/
def State.callValues (s : State) (t : Nat) : List Nat :=
  let cs := (s.classesFor t).map (fun c =>
    c + 2 ^ 4 * s.clsLevel c + 2 ^ 6 * b2n (s.clsState c == 1) + 2 ^ 7 * b2n (s.clsState c == 2))
  let all := cs ++ (if s.preWarned t then [s.watchClass + 2 ^ 8] else [])
  if all.isEmpty then [2 ^ 9] else all

/-! ### Call relays (R535) -/

/-- The engine's value for relay `k`. -/
def State.relayValue (s : State) (k : Nat) : Bool :=
  let ps := watchPoint :: s.img.run.points.map PointRec.point
  match s.getF (R.RELAY_FN k) F.RELAY_FN_FN with
  | 1 => ps.any (fun p => (s.point p).raised && !(s.point p).event)
  | 2 => ps.any (fun p => (s.point p).raised && (s.point p).unack && !(s.point p).event) &&
      !s.flag R.ALM_STATUS F.ALM_STATUS_SILENCED
  | 3 => allT.any (fun t => s.targetKind t == 2 && s.getF (R.TARGET_CFG t) F.TARGET_CFG_RELAY == k &&
      ((List.range 16).any (fun c => s.clsState c == 1 && (s.callingSet c (s.clsLevel c)).contains t) || s.preWarned t))
  | 4 => (s.point watchPoint).raised
  | _ => false

/-- The committed call relay command with the engine's relays replaced; a unit without the token drives none. -/
def State.engineRelays (s : State) : State :=
  if s.pairState ≠ 0 ∧ !s.holdsToken then s
  else
    (List.range 4).foldl (fun s k =>
      if s.getF (R.RELAY_FN k) F.RELAY_FN_FN = 0 then s
      else
        let v := s.relayValue k != s.flag (R.RELAY_FN k) F.RELAY_FN_INVERT
        let w := s.io.relay.toNat % 2 ^ 32
        let w := w - b2n (bitOf w k) * 2 ^ k + b2n v * 2 ^ k
        s.modIo (fun io => { io with relay := BitVec.ofNat 64 (pairWord w) })) s

/-! ### Summary registers -/

/-- Points that exist: the watch point and the defined ones. -/
def State.allPoints (s : State) : List Nat := s.img.run.points.map PointRec.point ++ [watchPoint]

/-- ALM_STATUS, the counts, TARGET_STATUS and ALM_SEQ at the end of a commit of epoch `n` (R540). -/
def State.alarmSummary (s : State) (n : Nat) : State :=
  let ps := s.allPoints.map s.point
  let cnt (f : PointSt → Bool) : Nat := (ps.filter f).length
  let s := (s.setRegN R.UNACK_CNT (cnt PointSt.unack)).setRegN R.RAISED_CNT (cnt PointSt.raised)
  let s := ((s.setRegN R.SHELVED_CNT (cnt PointSt.shelvd)).setRegN R.SUPPRESSED_CNT (cnt PointSt.suppr)).setRegN R.BAD_CNT
    (cnt PointSt.srcBad)
  let s := s.setReg64 R.SUMMARY_EPOCH_LO n
  let f (s : State) (fl : Fld) (b : Bool) : State := s.setF R.ALM_STATUS fl (b2n b)
  let s := f s F.ALM_STATUS_ANY_UNACK (ps.any (fun p => p.unack && !p.event))
  let s := f s F.ALM_STATUS_ANY_RAISED (ps.any (fun p => p.raised && !p.event))
  let s := f s F.ALM_STATUS_HORN (ps.any (fun p => p.raised && p.unack && !p.event) && !s.flag R.ALM_STATUS F.ALM_STATUS_SILENCED)
  let s := f s F.ALM_STATUS_CALLING ((List.range 16).any (fun c => s.clsState c == 1))
  let s := f s F.ALM_STATUS_WATCH_PRE (s.watchState == 2)
  let s := f s F.ALM_STATUS_WATCH_ALARM (s.watchState == 3)
  let s := f s F.ALM_STATUS_TARGET_LOST (allT.any (fun t => s.targetKind t == 1 && !s.present t))
  let s := allT.foldl (fun s t =>
    let cs := s.classesFor t
    (s.setF (R.TARGET_STATUS t) F.TARGET_STATUS_CALLED (b2n (!cs.isEmpty))).setF (R.TARGET_STATUS t) F.TARGET_STATUS_CLASSES
      ((cs.map (fun c => 2 ^ c)).sum)) s
  s.setRegN R.ALM_SEQ (s.regN R.ALM_SEQ + 2)

/-- Steps 2 to 9 of R526 at the commit of epoch `n`. -/
def State.alarmEval (s : State) (n : Nat) (e : EvalIn) : State :=
  let s0 := s
  let rs := s.img.run.points
  let s := rs.foldl (fun s r => if r.source = 4 then s else s.takeSource e r) s
  let s := rs.foldl (fun s r => if r.source = 4 then s else s.evalPoint e r) s
  let s := rs.foldl (fun s r => if r.source = 4 then s.evalPoint e r else s) s
  let s := s.evalGroups
  let s := rs.foldl (fun s r => s.annunciate (s0.point r.point) r) s
  let rose := (rs.filter (fun r => (s.point r.point).active && !(s0.point r.point).active)).map PointRec.point
  let s := (List.range 256).foldl (fun s g => s.firstOutStep rose g) s
  let w0 := s.callable watchPoint
  let s := s.watchMove.watchAnnounce (s.point watchPoint)
  let s := s.relayTargets
  let s := (List.range 16).foldl (fun s c => s.classStep (s.callable watchPoint && !w0) c) s
  let s := allT.foldl (fun s t => s.targetAge t) s
  let s := s.engineRelays.alarmSummary n
  s.modAlm (fun a => { a with watched := false, accepted := [], seen := [], shelved := [] })

/-! ### Entries (Table 17.3, R523 to R528) -/

/-- Acknowledge point `p` (R523). -/
def State.ackPoint (s : State) (p : Nat) : State := s.setPoint p (((s.point p).put 1 false).put 7 false)
/-- Acknowledge points. -/
def State.ackSet (s : State) (ps : List Nat) : State := (ps.foldl (fun s p => s.ackPoint p) s).watchReset

/-- Role an opcode needs; none for a reserved one. -/
def opRole (op : Nat) : Option Nat :=
  if op = 5 ∨ op = 6 ∨ op = 8 then some 2
  else if (1 ≤ op ∧ op ≤ 11) ∨ op = 0x32 then some 1
  else if (0x20 ≤ op ∧ op ≤ 0x25) ∨ op = 0x30 ∨ op = 0x31 then some 0
  else none

/-- Whether INDEX and ARG obey their opcode. The channel of PANEL_SEL is an input, for the panel opens a session only on
an input (R446: an output is opened only by TRIM_CMD). -/
def entryShape (op index arg : Nat) : Bool :=
  match op with
  | 1 => Nat.ble index 4096 && arg == 0
  | 2 => Nat.ble index 255 && arg == 0
  | 3 => index == 0 && arg == 0
  | 4 => index == 0 && arg == 0
  | 5 => Nat.ble index 4095
  | 6 => Nat.ble index 4095 && arg == 0
  | 7 => Nat.ble index 255 && arg == 0
  | 8 => Nat.ble index 4095
  | 9 => Nat.ble index 1
  | 10 => index == 0 && Nat.ble arg 1
  | 11 => Nat.ble index 63 && arg == 0
  | 0x21 => Nat.ble index 31 && arg == 0
  | 0x30 => Nat.ble index 63
  | 0x31 => Nat.ble index 63 && arg == 0
  | 0x32 => Nat.ble index 63 && Nat.ble arg 31
  | _ => index == 0 && arg == 0

/-- Whether INDEX names nothing (status NO_POINT). -/
def State.entryAbsent (s : State) (op index : Nat) : Bool :=
  match op with
  | 1 => index != watchPoint && (s.img.run.pointRec index).isNone
  | 2 => !s.img.run.groupDefined index
  | 5 => (s.img.run.pointRec index).isNone
  | 6 => (s.img.run.pointRec index).isNone
  | 7 => !s.img.run.groupDefined index
  | 8 => (s.img.run.pointRec index).isNone
  | 11 => index != 0 && s.targetKind index == 0
  | 0x31 => s.targetKind index == 0
  | 0x32 => s.targetKind index == 0
  | _ => false

/-- Whether the setpoint of point `p` may take a pattern (R528). -/
def State.setpointOk (s : State) (p v : Nat) : Bool :=
  (f32Val v).isFin && (match s.img.run.pointRec p with
    | some r => r.source != 1 && r.source != 4
    | none => false)

/-- Whether the point may be shelved for `d` epochs (R525). -/
def State.mayShelve (s : State) (p d : Nat) : Bool :=
  match s.img.run.pointRec p with
  | none => false
  | some r => match s.img.run.groupRec r.group with
    | none => false
    | some (_, _, mx) => Nat.ble 1 d && Nat.ble d mx && !s.eventClass r.cls

/-- Classes that an ACCEPT of target `t` matches (R531). -/
def State.acceptClasses (s : State) (t arg : Nat) : List Nat :=
  (List.range 16).filter (fun c => (bitOf arg 4 || c == arg % 16) && s.clsState c == 1 &&
    (s.callingSet c (s.clsLevel c)).contains t)

/-- The effect of an entry whose shape, role and index are right: status and state. -/
def State.entryEffect (s : State) (op index arg : Nat) : Nat × State :=
  match op with
  | 1 => (0, s.ackSet [index])
  | 2 => (0, s.ackSet ((s.img.run.points.filter (fun r => r.group == index)).map PointRec.point))
  | 3 => (0, s.ackSet s.allPoints)
  | 4 => (0, s.raise R.ALM_STATUS F.ALM_STATUS_SILENCED)
  | 5 =>
    if s.mayShelve index arg then
      (0, (s.setPoint index { (s.point index).put 5 true with shelve := arg }).modAlm
        (fun a => { a with shelved := a.shelved ++ [index] }))
    else (0x11, s)
  | 6 => (0, s.setPoint index { (s.point index).put 5 false with shelve := 0 })
  | 7 => (0, s.foDrop index)
  | 8 => if s.setpointOk index arg then (0, s.setPair (R.SETPOINT_LO index) arg) else (0x11, s)
  | 9 => (0, s.setPair (if index = 0 then R.DUTY_LO_LO else R.DUTY_HI_LO) arg)
  | 10 => (0, s.setF R.WATCH_CFG F.WATCH_CFG_ARMED arg)
  | 11 => (0, s.watchReset)
  | 0x20 =>
    if s.flag R.ALM_STATUS F.ALM_STATUS_HORN then (0, (s.raise R.ALM_STATUS F.ALM_STATUS_SILENCED).watchReset)
    else (0, s.ackSet s.allPoints)
  | 0x21 => (0, s.trimCmd 1 (1 + 16 * index))
  | 0x22 => (0, s.trimCmd 1 2)
  | 0x23 => (0, s.trimCmd 1 3)
  | 0x24 => (0, s.trimCmd 1 4)
  | 0x25 => (0, s.trimCmd 1 5)
  | 0x31 =>
    let s := s.modAlm (fun a => { a with seen := a.seen ++ [index], ages := kvErase index a.ages })
    (0, if s.targetKind index = 1 then s.raise (R.TARGET_STATUS index) F.TARGET_STATUS_PRESENT else s)
  | 0x32 =>
    match s.acceptClasses index arg with
    | [] => (0x11, s)
    | cs => (0, (s.modAlm (fun a => { a with accepted := a.accepted ++ cs })).watchReset)
  | _ => (0x11, s)

/-- Status of an entry before its effect: 0 when it may act (R527, R561). -/
def State.entryCheck (s : State) (e : CmdEntry) : Nat :=
  let inner : Bool := match e.src with
    | .panel => true
    | .fwd _ => true
    | _ => false
  match opRole e.op with
  | none => 8
  | some r =>
    if !inner ∧ e.role < r then 2
    else if !entryShape e.op e.index e.arg then 8
    else if (0x20 ≤ e.op ∧ e.op ≤ 0x25 ∧ !inner) ∨ e.op = 0x30 then 0x11
    else if s.entryAbsent e.op e.index then 0x10
    else 0

/-- Apply one entry at step 1 of the commit: its status and the state with the counts and ALM_CMD_STATUS. A role refusal
leaves no trace in the block (R561). -/
def State.applyEntry (s : State) (e : CmdEntry) : Nat × State :=
  let c := s.entryCheck e
  if c = 2 then (2, s)
  else
    let (st, s) := if c = 0 then s.entryEffect e.op e.index e.arg else (c, s)
    let s := s.setRegN R.ALM_CMD_STATUS (st + 2 ^ 8 * e.op + 2 ^ 16 * e.index)
    (st, if st = 0 then s.inc R.CMD_CNT else (s.inc R.CMD_REJ_CNT).raise R.ALM_ERR F.ALM_ERR_CMD_REJECT)

/-! ### The transitions that run out, each for itself

The commit makes each of these transitions; a command that names one makes it for the point, class, target or timer whose
count stands one commit short of it, and leaves any other as it is (log entry 20). -/

/-- POINT_DELAY_EXPIRY. -/
def State.delayExpiry (s : State) (p : Nat) : State :=
  match s.img.run.pointRec p with
  | none => s
  | some r =>
    let x := s.point p
    if x.c ≠ x.active ∧ (if x.active then r.off else r.on) < x.timer + 1 then
      (s.setPoint p ({ x with timer := 0 }.put 0 x.c)).annunciate x r
    else s

/-- SRC_BAD_SET. -/
def State.srcBadSet (s : State) (p : Nat) : State :=
  match s.img.run.pointRec p with
  | none => s
  | some r =>
    let x := s.point p
    if x.bad ≠ 0 ∧ !x.srcBad ∧ s.getF R.ALM_CTRL F.ALM_CTRL_BAD_DELAY ≤ x.bad + 1 then
      (s.setPoint p ({ x with bad := min (x.bad + 1) 255 }.put 3 true)).annunciate x r
    else s

/-- SCORE_STALE: the slot's point has not been written for SCORE_STALE commits. -/
def State.scoreStale (s : State) (p : Nat) : State :=
  match s.img.run.pointRec p with
  | none => s
  | some r =>
    let x := s.point p
    let lim := s.getF R.ALM_CTRL F.ALM_CTRL_SCORE_STALE
    if r.source = 2 ∧ lim ≠ 0 ∧ lim ≤ x.age + 1 then s.setPoint p ({ x with age := min (x.age + 1) (2 ^ 20 - 1) }.put 4 true) else s

/-- RADIO_STALE: no entry for RADIO_STALE commits, so the source is raw bad. -/
def State.radioStale (s : State) (p : Nat) : State :=
  match s.img.run.pointRec p with
  | none => s
  | some r =>
    let x := s.point p
    if r.source = 3 ∧ x.bad = 0 ∧ s.getF R.RADIO_STALE F.RADIO_STALE_COMMITS ≤ x.age + 1 then
      s.setPoint p { x with age := min (x.age + 1) (2 ^ 20 - 1), bad := 1 }
    else s

/-- SHELVE_EXPIRY. -/
def State.shelveExpiry (s : State) (p : Nat) : State :=
  match s.img.run.pointRec p with
  | none => s
  | some r => if (s.point p).shelvd ∧ (s.point p).shelve = 1 then s.annunciate (s.point p) r else s

/-- ESCALATION of class `c`. -/
def State.escalation (s : State) (c : Nat) : State :=
  let l := s.clsLevel c
  if s.clsState c = 1 ∧ l < s.lastLevel c ∧ s.escOf c l ≤ s.clsTimer c + 1 then s.setCls c 1 (s.callFrom c 4 (l + 1)) 0 else s

/-- ACCEPT_TIMEOUT of class `c`. -/
def State.acceptTimeout (s : State) (c : Nat) : State :=
  let lim := s.getF (R.CLASS_CFG c) F.CLASS_CFG_ACCEPT_EPOCHS
  if s.clsState c = 2 ∧ lim ≠ 0 ∧ lim ≤ s.clsTimer c + 1 then s.setCls c 1 (s.clsLevel c) 0 else s

/-- TARGET_PRESENCE_LOST of target `t`. -/
def State.presenceExpiry (s : State) (t : Nat) : State :=
  if s.targetKind t = 1 ∧ s.present t ∧ s.ageLimit ≤ kvGet (fun _ => 0) t s.alm.ages + 1 then s.targetAge t else s

/-- WATCH_PREWARN. -/
def State.watchPrewarn (s : State) : State :=
  let r := s.regN R.WATCH_REMAIN
  if s.watchState = 1 ∧ 1 < r ∧ r - 1 ≤ s.getF R.WATCH_PRE F.WATCH_PRE_EPOCHS then s.watchTick else s

/-- WATCH_EXPIRY. -/
def State.watchExpiry (s : State) : State :=
  if (s.watchState = 1 ∨ s.watchState = 2) ∧ s.regN R.WATCH_REMAIN ≤ 1 then
    s.watchTick.watchAnnounce (s.point watchPoint)
  else s

end Sys2Proof.Machine
end

