-- ==== Sys2Proof/Machine/Chain.lean ====
section
/-! DEFINITION. The chain: RCP forwarding and origination, alarm shaping, neighbours and ring, chain time by PTP, HSR, and the
harbour vote with entry to and exit from HARBOUR (11_chain.md; R406 to R409, R421). -/

namespace Sys2Proof.Machine

/-- Change the chain record. -/
def State.modCh (s : State) (f : ChainSt → ChainSt) : State := { s with chain := f s.chain }
/-- Change the harbour record. -/
def State.modH (s : State) (f : HarbSt → HarbSt) : State := { s with harb := f s.harb }
/-- SERIAL. -/
def State.serial (s : State) : Nat := s.reg64 R.SERIAL_LO
/-- MAC_CHAIN. -/
def State.macChain (s : State) : Nat := s.reg64 R.MAC_CHAIN_LO
/-- MAC_X5. -/
def State.macX5 (s : State) : Nat := s.reg64 R.MAC_X5_LO
/-- The RCP group address. -/
def groupMac : Nat := 0x035A4E000001
/-- The HELLO address. -/
def helloMac : Nat := 0x035A4E000002
/-- Whether the chain ports carry frames: they are declared ready and the bypass relay is open (R312). -/
def State.portsUp (s : State) : Bool :=
  s.flag R.CHAIN_STATUS F.CHAIN_STATUS_PORTS_READY && s.flag R.CHAIN_STATUS F.CHAIN_STATUS_RELAY_OPEN

/-! ### RCP (R314 to R317, R327) -/

/-- A frame's header and payload (Table 11.3). -/
def rcpBytes (typ : Nat) (resp : Bool) (seq hops : Nat) (p : List Byte) : List Byte :=
  [1#8] ++ leBytes 1 typ ++ leBytes 2 (b2n resp) ++ leBytes 4 seq ++ leBytes 2 p.length ++ leBytes 1 hops ++ [0#8] ++ p
/-- Types of the alarm class (Table 11.4). -/
def alarmClass (typ : Nat) : Bool := [0x01, 0x02, 0x30, 0x31, 0x40].contains typ
/-- Wire bytes of a frame with a payload. -/
def wireBytes (p : List Byte) : Nat := max (p.length + 50) 84

/-- A frame leaves both chain ports with the next SEQ. -/
def State.rcpOut (s : State) (typ dst : Nat) (resp : Bool) (p : List Byte) : State :=
  let b := rcpBytes typ resp s.chain.seq 0 p
  ((s.send 4 typ dst b).send 5 typ dst b).modCh (fun c => { c with seq := (c.seq + 1) % 2 ^ 32 })

/-- ALM_STATUS.FLOOD follows the queue of ALARM frames. -/
def State.setFlood (s : State) : State :=
  s.setF R.ALM_STATUS F.ALM_STATUS_FLOOD (b2n (s.chain.alarmQ.any (fun q => q.1 == 1)))

/-- Whether an alarm-class frame of `w` wire bytes may leave now. -/
def State.mayShape (s : State) (w : Nat) : Bool :=
  Nat.ble (((s.chain.shape.filter (fun e => Nat.blt s.now (e.1 + 1500000))).map Prod.snd).sum + w) (s.getF R.ALM_SHAPE F.ALM_SHAPE_BYTES)

/-- Originate a frame on the chain. Excess alarm-class frames wait in order (R327). -/
def State.originate (s : State) (typ dst : Nat) (resp : Bool) (p : List Byte) : State :=
  if !s.portsUp then s
  else if !alarmClass typ then s.rcpOut typ dst resp p
  else if s.chain.alarmQ.isEmpty ∧ s.mayShape (wireBytes p) = true then
    (s.rcpOut typ dst resp p).modCh (fun c => { c with
      shape := c.shape.filter (fun e => Nat.blt s.now (e.1 + 1500000)) ++ [(s.now, wireBytes p)] })
  else
    let s := s.modCh (fun c => { c with alarmQ := c.alarmQ ++ [(typ + 256 * b2n resp, dst, p)] })
    ((s.inc R.ALM_SHAPED_CNT).raise R.CHAIN_ERR F.CHAIN_ERR_ALM_SHAPED).setFlood

/-- ALARM_FRAME_DEQUEUE at `t`: the head of the queue leaves once the budget allows. -/
def State.alarmDequeue (s : State) (t : Nat) : State :=
  let s := s.at t
  match s.chain.alarmQ with
  | [] => s
  | (typ, dst, p) :: rest =>
    if s.mayShape (wireBytes p) then
      ((s.rcpOut (typ % 256) dst (typ / 256 == 1) p).modCh (fun c => { c with
        alarmQ := rest
        shape := c.shape.filter (fun e => Nat.blt s.now (e.1 + 1500000)) ++ [(s.now, wireBytes p)] })).setFlood
    else s

/-- Answer a frame: on X5 alone when it came there, else on the chain. -/
def State.respond (s : State) (port typ dst : Nat) (p : List Byte) : State :=
  if port = 2 then
    (s.send 6 typ dst (rcpBytes typ true s.chain.seq 0 p)).modCh (fun c => { c with seq := (c.seq + 1) % 2 ^ 32 })
  else s.originate typ dst true p

/-- R315: whether a frame of `typ` is delivered here, and the state after it has been forwarded. -/
def State.rcpIn (s : State) (typ : Nat) (f : RcpFrame) : Bool × State :=
  let chainPort := f.port != 2
  if !s.firmware ∨ (chainPort ∧ !s.portsUp) ∨ f.src = (if chainPort then s.macChain else s.macX5) then (false, s)
  else
    let mine := f.dst == (if chainPort then s.macChain else s.macX5)
    let fresh (t : Nat) : Bool := Nat.ble s.now (t + 400000000)
    let dup := s.chain.dup.any (fun e => e.1 == f.src && e.2.1 == f.seq && fresh e.2.2)
    let deliver := (mine || f.dst == groupMac) && !dup
    let s := if deliver then s.modCh (fun c => { c with dup := ((f.src, f.seq, s.now) :: c.dup).take 2048 })
      else if (mine || f.dst == groupMac) then s.inc R.DUP_CNT else s
    let other := 1 - f.port % 2
    let gone := s.chain.left.any (fun e => e.1 == f.src && e.2.1 == f.seq && e.2.2.1 == other && fresh e.2.2.2)
    if chainPort ∧ !mine ∧ f.hops + 1 ≤ 63 ∧ !gone then
      (deliver, (s.send (4 + other) typ f.dst (rcpBytes typ f.resp f.seq (f.hops + 1) f.payload)).modCh
        (fun c => { c with left := ((f.src, f.seq, other, s.now) :: c.left).take 2048 }))
    else (deliver, s)

/-- A delivered frame that cannot be used (R317). -/
def State.badFrame (s : State) : State := (s.inc R.BAD_FRAME_CNT).raise R.CHAIN_ERR F.CHAIN_ERR_BAD_FRAME

/-- RCP_BAD_FRAME: forwarded, not delivered; counted when it is of version 1. -/
def State.rcpBad (s : State) (version typ : Nat) (f : RcpFrame) : State :=
  let (_, s) := s.rcpIn typ f
  if version = 1 then s.badFrame else s

/-- RCP_FORWARD: a frame for another node. -/
def State.rcpForward (s : State) (typ : Nat) (f : RcpFrame) : State := (s.rcpIn typ f).2

/-- A frame that fails a pair word (R326). -/
def State.pwFrame (s : State) : State := ((s.pwMismatch 6).inc R.PW_FRAME_CNT).raise R.CHAIN_ERR F.CHAIN_ERR_PW_FRAME

/-! ### ALARM frames (R324, Table 11.5) -/

/-- ALARM, received: a payload Table 11.5 does not allow is discarded and counted (R317); its pair words are checked; nothing else of it acts on this node. -/
def State.alarmFrame (s : State) (f : RcpFrame) : State :=
  let (del, s) := s.rcpIn 1 f
  let n := fieldAt f.payload 8 2
  if !del then s
  else if n = 0 ∨ 61 < n ∨ f.payload.length ≠ 16 + 24 * n ∨ 1 < fieldAt f.payload 10 1 ∨ fieldAt f.payload 11 5 ≠ 0 ∨
      (List.range n).any (fun e => fieldAt f.payload (20 + 24 * e) 4 != 0) = true then s.badFrame
  else if (List.range n).all (fun e => isPairWord (fieldAt f.payload (24 + 24 * e) 8) &&
      isPairWord (fieldAt f.payload (32 + 24 * e) 8)) then s
  else s.pwFrame

/-- Entry of an ALARM frame for point `p`. -/
def State.alarmEntry (s : State) (p : Nat) : List Byte :=
  let x := s.point p
  let gc := match s.img.run.pointRec p with
    | some r => (r.group, r.cls)
    | none => (0, s.watchClass)
  leBytes 2 p ++ leBytes 1 gc.1 ++ leBytes 1 gc.2 ++ copies 4 0#8 ++ leBytes 8 (pairWord x.st) ++ leBytes 8 (pairWord x.value)

/-- Cut a list into pieces of `n`. -/
def chunks {α : Type} (n : Nat) : Nat → List α → List (List α)
  | 0, _ => []
  | k + 1, l => if l.isEmpty then [] else l.take (max n 1) :: chunks n k (l.drop (max n 1))

/-- ALARM frames for points, in increasing number; only the holder or a lone node sends them (R351). -/
def State.sendAlarms (s : State) (ps : List Nat) (refresh : Bool) : State :=
  if s.pairState ≠ 0 ∧ !s.holdsToken then s
  else
    let n := min 61 ((s.getF R.ALM_SHAPE F.ALM_SHAPE_BYTES - 66) / 24)
    (chunks n ps.length ps).foldl (fun s g =>
      (s.originate 1 groupMac false (leBytes 8 (s.reg64 R.COMMIT_EPOCH_LO) ++ leBytes 2 g.length ++ leBytes 1 (b2n refresh) ++
        copies 5 0#8 ++ (g.map s.alarmEntry).flatten)).inc R.FRAME_CNT) s

/-- ALARM_REFRESH. -/
def State.alarmRefresh (s : State) : State :=
  s.sendAlarms (s.allPoints.filter (fun p => (s.point p).active || (s.point p).unack)) true

/-- The CALL frame of panel target `t` (R532). -/
def State.callFrame (s : State) (t : Nat) : State :=
  if s.targetKind t ≠ 1 ∨ (s.pairState ≠ 0 ∧ !s.holdsToken) then s
  else
    let vs := s.callValues t
    let s := s.modAlm (fun a => { a with sent := kvPut t vs a.sent })
    s.originate 2 (s.reg64 (R.TARGET_MAC_LO t)) false (leBytes 4 s.chain.seq ++ copies 20 0#8 ++ leBytes 2 vs.length ++ copies 6 0#8 ++
      (vs.map (fun v => [0x30#8, 0#8] ++ leBytes 2 t ++ copies 4 0#8 ++ leBytes 8 (pairWord v))).flatten)

/-- CALL frames whose entries the commit changed. -/
def State.callChanges (s : State) : State :=
  allT.foldl (fun s t =>
    if s.targetKind t = 1 ∧ kvFind t s.alm.sent ≠ some (s.callValues t) then s.callFrame t else s) s

/-! ### Neighbours, roster, ring (R318 to R323) -/

/-- NEIGH register of a port (0 East, 1 West). -/
def neighReg (w : Nat) : Nat := if w = 0 then R.NEIGH_E_LO else R.NEIGH_W_LO
/-- NEIGH_x_OK. -/
def neighFld (w : Nat) : Fld := if w = 0 then F.CHAIN_STATUS_NEIGH_E_OK else F.CHAIN_STATUS_NEIGH_W_OK
/-- LINK_x. -/
def linkUpFld (w : Nat) : Fld := if w = 0 then F.CHAIN_STATUS_LINK_E else F.CHAIN_STATUS_LINK_W

/-- The roster's serials. -/
def State.roster (s : State) : List Nat :=
  (List.range (s.getF R.ROSTER_COUNT F.ROSTER_COUNT_COUNT)).map (fun i => s.reg64 (R.ROSTER_LO i))

/-- BYPASS_E or BYPASS_W from the roster (R320). -/
def State.bypassOf (s : State) (w : Nat) : State :=
  let r := s.roster
  let fld := if w = 0 then F.BYPASS_CNT_E else F.BYPASS_CNT_W
  if r.isEmpty then s.setF R.BYPASS_CNT fld 0xFF
  else
    let me := r.findIdx (fun x => x == s.serial)
    let nb := r.findIdx (fun x => x == s.reg64 (neighReg w))
    if me = r.length ∨ nb = r.length then (s.raise R.CHAIN_ERR F.CHAIN_ERR_ROSTER_MISMATCH).setF R.BYPASS_CNT fld 0xFF
    else
      let d := if w = 0 then (nb + r.length - me) % r.length else (me + r.length - nb) % r.length
      let between := if d = 0 then r.length - 1 else d - 1
      let s := s.setF R.BYPASS_CNT fld between
      if 2 < between then s.raise R.CHAIN_ERR F.CHAIN_ERR_BYPASS_RUN else s

/-- PEERS_ASLEEP. -/
def State.setPeers (s : State) : State :=
  let asleep := (List.range 2).any (fun w => s.flag R.CHAIN_STATUS (neighFld w) && nth s.chain.peers w 0 == 3)
  s.setF R.CHAIN_STATUS F.CHAIN_STATUS_PEERS_ASLEEP (b2n (asleep && s.getF R.HARB_STATUS F.HARB_STATUS_STATE == 0))

/-- HELLO on port `w` (0 East, 1 West) with its 16-byte payload. -/
def State.hello (s : State) (w : Nat) (p : List Byte) : State :=
  if !s.portsUp then s
  else if p.length ≠ 16 ∨ 1 < fieldAt p 8 1 ∨ 3 < fieldAt p 9 1 then s.badFrame
  else
    let s := s.modCh (fun c => { c with hello := setNth c.hello w s.now, peers := setNth c.peers w (fieldAt p 9 1) })
    let s := (s.setReg64 (neighReg w) (fieldAt p 0 8)).raise R.CHAIN_STATUS (neighFld w)
    let s := if fieldAt p 8 1 = w then s.raise R.CHAIN_ERR F.CHAIN_ERR_CROSSED else s
    (s.bypassOf w).setPeers

/-- HELLO_SEND: one on each chain port. -/
def State.helloSend (s : State) : State :=
  if !s.portsUp then s
  else
    (List.range 2).foldl (fun s w =>
      (s.send (4 + w) 0x10 helloMac (rcpBytes 0x10 false s.chain.seq 0 (leBytes 8 s.serial ++ leBytes 1 w ++
        leBytes 1 (s.getF R.HARB_STATUS F.HARB_STATUS_STATE) ++ copies 6 0#8))).modCh
        (fun c => { c with seq := (c.seq + 1) % 2 ^ 32 })) s

/-- A neighbour is lost. -/
def State.neighGone (s : State) (w : Nat) : State :=
  if s.flag R.CHAIN_STATUS (neighFld w) then
    (((s.drop R.CHAIN_STATUS (neighFld w)).setReg64 (neighReg w) 0).raise R.CHAIN_ERR F.CHAIN_ERR_NEIGH_LOST).setPeers
  else s

/-- NEIGHBOUR_LOST: no HELLO for 300 ms by `t`. -/
def State.neighbourLost (s : State) (w t : Nat) : State :=
  if nth s.chain.hello w 0 + 300000000 ≤ t then (s.at t).neighGone w else s

/-- PORT_LINK_CHANGE of East (0), West (1) or X5 (2): the first link starts the acquisition timeout (R398). -/
def State.portLink (s : State) (port : Nat) (up : Bool) : State :=
  let s := if up ∧ s.pwr.acqStart.isNone then s.modP (fun p => { p with acqStart := some s.now }) else s
  if port = 2 then s
  else
    let s := s.setF R.CHAIN_STATUS (linkUpFld port) (b2n up)
    if up then s else s.neighGone port

/-- clockIdentity: MAC_CHAIN followed by 0x0001. -/
def State.clockId (s : State) : Nat := s.macChain * 65536 + 1

/-! ### PTP (R321, R335 to R337, Table 11.8) -/

/-- The order of data sets in the default best master clock algorithm. -/
def AnnMsg.key (a : AnnMsg) : List Nat := [a.prio1, a.cls, a.acc, a.var, a.prio2, a.gm, a.steps]
/-- Lexicographic order. -/
def listLt : List Nat → List Nat → Bool
  | x :: xs, y :: ys => Nat.blt x y || (x == y && listLt xs ys)
  | _, _ => false

/-- The better of the Announce messages on some ports. -/
def bestAnn : List (Nat × AnnMsg × Nat) → Option (Nat × AnnMsg)
  | [] => none
  | (p, a, _) :: t => match bestAnn t with
    | none => some (p, a)
    | some (q, b) => if listLt b.key a.key then some (q, b) else some (p, a)

/-- The best Announce on X5. -/
def State.x5Ann (s : State) : Option AnnMsg := (bestAnn (s.chain.anns.filter (fun a => a.1 == 2))).map Prod.snd
/-- The best on the chain, with its port. -/
def State.chainAnn (s : State) : Option (Nat × AnnMsg) := bestAnn (s.chain.anns.filter (fun a => a.1 != 2))

/-- The node's own data set on the chain (R335). Accuracy unknown and the default variance stand where it has no source on
X5 (PRESUMED, IEEE 1588). -/
def State.ownAnn (s : State) : AnnMsg :=
  let p1 := s.getF R.PTP_CFG F.PTP_CFG_PRIO1
  let p2 := s.getF R.PTP_CFG F.PTP_CFG_PRIO2
  let dom := s.getF R.PTP_CFG F.PTP_CFG_DOMAIN
  let mk (cls acc steps : Nat) : AnnMsg := ⟨p1, cls, acc, 0xFFFF, p2, s.clockId, steps, true, dom⟩
  if !s.flag R.PTP_CFG F.PTP_CFG_GM_CAPABLE then mk 255 0xFE 0
  else
    let lost := s.flag R.TIME_STATUS F.TIME_STATUS_ALIGN_LOST
    match s.timeState, s.x5Ann with
    | 2, some a => if s.getF R.TIME_STATUS F.TIME_STATUS_SOURCE = 1 then mk a.cls a.acc (a.steps + 1) else mk 248 0xFE 0
    | 3, _ => mk (if lost then 52 else 7) 0xFE 0
    | _, _ => mk 248 0xFE 0

/-- PTP_ROLE: 2 while this node is grandmaster of the chain, 1 when a source is chosen, else 0. -/
def State.bmca (s : State) : State :=
  let own := s.ownAnn
  let gmHere := own.cls != 255 && (match s.chainAnn with
    | none => true
    | some (_, a) => listLt own.key a.key)
  s.setF R.CHAIN_STATUS F.CHAIN_STATUS_PTP_ROLE (if gmHere then 2 else if s.chain.anns.isEmpty then 0 else 1)

/-- Whether this node is grandmaster of the chain. -/
def State.isGm (s : State) : Bool := s.getF R.CHAIN_STATUS F.CHAIN_STATUS_PTP_ROLE == 2
/-- Where time comes from: 1 X5, 2 East, 3 West, 0 nowhere: the better of X5 and the chain (R335, R337). -/
def State.timeSource (s : State) : Nat :=
  match s.x5Ann, s.chainAnn with
  | some a, some (_, b) => if listLt b.key a.key && !s.isGm then 2 + s.chain.timePort else 1
  | some _, none => 1
  | none, some _ => if s.isGm then 0 else 2 + s.chain.timePort
  | none, none => 0
/-- The identity of the grandmaster followed. -/
def State.gmId (s : State) : Nat :=
  match s.timeSource with
  | 0 => s.clockId
  | 1 => (s.x5Ann.map AnnMsg.gm).getD s.clockId
  | _ => (s.chainAnn.map (fun a => a.2.gm)).getD s.clockId

/-- Whether PTP is taken from a port in a domain. -/
def State.ptpOk (s : State) (port domain : Nat) : Bool :=
  domain == s.getF R.PTP_CFG F.PTP_CFG_DOMAIN && (port != 2 || s.flag R.PTP_CFG F.PTP_CFG_X5_EN) && (port == 2 || s.portsUp)

/-- ANNOUNCE on a port: its latest replaces the port's last one; a message that this node originated is discarded. -/
def State.announce (s : State) (port : Nat) (a : AnnMsg) : State :=
  if !s.ptpOk port a.domain ∨ !a.ptp ∨ a.gm = s.clockId then s
  else
    (s.modCh (fun c => { c with anns := c.anns.filter (fun x => x.1 != port || x.2.1.gm != a.gm) ++ [(port, a, s.now)] })).bmca

/-- ANNOUNCE_TIMEOUT on a port by `t`; on X5 the master's interval `ival` in ns counts. -/
def State.annTimeout (s : State) (port ival t : Nat) : State :=
  let iv := if port = 2 then ival else 2 ^ (s.getF R.PTP_RATE F.PTP_RATE_LOG_ANN) * 1000000000
  let n := s.getF R.PTP_RATE F.PTP_RATE_ANN_TIMEOUT
  ((s.at t).modCh (fun c => { c with anns := c.anns.filter (fun x => x.1 != port || Nat.blt t (x.2.2 + n * iv)) })).bmca

/-- LINK_DELAY register of a chain port. -/
def delayReg (w : Nat) : Nat := if w = 0 then R.LINK_DELAY_E else R.LINK_DELAY_W

/-- Forward an event or its follow-up out of the other chain port, with a correction in ns (R336). -/
def State.ptpForward (s : State) (port kind gm corr : Nat) : State :=
  if port = 2 then s else s.send (4 + (1 - port)) kind gm (leBytes 8 corr)

/-- Take a time measure of a port if time is taken from there. -/
def State.ptpMeasure (s : State) (port : Nat) (off : Int) : State :=
  let src := if port = 2 then 1 else 2 + port
  let s := if port = 2 then s else s.modCh (fun c => { c with syncT := setNth c.syncT port s.now })
  if s.timeSource = src then s.measure src off else s

/-- PTP_SYNC on a port from grandmaster `gm`: one-step or two-step, its correctionField, the residence time, and the offset it
measures (ns the source is ahead). -/
def State.ptpSync (s : State) (port domain gm : Nat) (twoStep : Bool) (corr res : Nat) (off : Int) : State :=
  if !s.ptpOk port domain ∨ gm = s.clockId then s
  else
    let d := s.getF (delayReg port) F.LINK_DELAY_NS
    let s := s.ptpForward port 0x00 gm (if twoStep then corr else corr + res + d)
    if twoStep then s.modCh (fun c => { c with twoStep := c.twoStep.filter (fun p => p != port) ++ [port] })
    else s.ptpMeasure port off

/-- FOLLOW_UP: residence and delay are added here; it completes a two-step measure. -/
def State.followUp (s : State) (port domain gm corr res : Nat) (off : Int) : State :=
  if !s.ptpOk port domain ∨ gm = s.clockId then s
  else
    let s := s.ptpForward port 0x08 gm (corr + res + s.getF (delayReg port) F.LINK_DELAY_NS)
    if s.chain.twoStep.contains port then
      (s.modCh (fun c => { c with twoStep := c.twoStep.filter (fun p => p != port) })).ptpMeasure port off
    else s

/-- GM_SYNC_SEND: Announce, or Sync with its Follow_Up, on the chain while this node is its grandmaster. -/
def State.gmSync (s : State) (ann : Bool) : State :=
  if !s.isGm ∨ !s.portsUp then s
  else
    let a := s.ownAnn
    let body := if ann then (a.key.map (leBytes 8)).flatten else leBytes 8 s.now
    (List.range 2).foldl (fun s w =>
      if ann then s.send (4 + w) 0x0B s.clockId body
      else (s.send (4 + w) 0x00 s.clockId (leBytes 8 0)).send (4 + w) 0x08 s.clockId body) s

/-- PDELAY_REQ on a port: answered with the receipt timestamp. -/
def State.pdelayReq (s : State) (port : Nat) : State :=
  if (port ≠ 2 ∧ s.portsUp) ∨ (port = 2 ∧ s.flag R.PTP_CFG F.PTP_CFG_X5_P2P) then
    s.send (if port = 2 then 6 else 4 + port) 0x03 s.clockId (leBytes 8 s.now)
  else s

/-- PDELAY_RESP: the delay in ns measured on a port (R321). -/
def State.pdelayResp (s : State) (port d : Nat) : State :=
  if port = 2 then s.modCh (fun c => { c with x5Delay := d })
  else
    let s := s.setRegN (delayReg port) (min d 65535 + 2 ^ 31)
    if s.getF R.SEG_LIMIT F.SEG_LIMIT_NS < d then s.raise R.CHAIN_ERR F.CHAIN_ERR_SEG_LONG else s

/-- PDELAY_REQ_SEND. -/
def State.pdelaySend (s : State) : State :=
  if s.portsUp then (s.send 4 0x02 s.clockId (leBytes 8 s.now)).send 5 0x02 s.clockId (leBytes 8 s.now) else s

/-- DELAY_REQ_SEND: end-to-end slave on X5. -/
def State.delayReqSend (s : State) : State :=
  if s.flag R.PTP_CFG F.PTP_CFG_X5_EN ∧ !s.flag R.PTP_CFG F.PTP_CFG_X5_P2P ∧ s.x5Ann.isSome then
    s.send 6 0x01 s.clockId (leBytes 8 s.now)
  else s

/-- DELAY_RESP: the end-to-end delay in ns, and the offset it corrects. -/
def State.delayResp (s : State) (d : Nat) (off : Int) : State :=
  if s.flag R.PTP_CFG F.PTP_CFG_X5_EN ∧ !s.flag R.PTP_CFG F.PTP_CFG_X5_P2P then
    (s.modCh (fun c => { c with x5Delay := d })).ptpMeasure 2 off
  else s

/-- TIME_PORT_SYNC_LOSS by `t`: three Sync intervals without the grandmaster on the time port; the other port takes over (R337). -/
def State.timePortLoss (s : State) (t : Nat) : State :=
  let lg := s.getF R.PTP_RATE F.PTP_RATE_LOG_SYNC
  let iv := 1000000000 / 2 ^ ((16 - lg) % 16)
  let w := s.chain.timePort
  if s.timeSource ≠ 0 ∧ s.timeSource ≠ 1 ∧ nth s.chain.syncT w 0 + 3 * iv ≤ t then
    (s.at t).modCh (fun c => { c with timePort := 1 - w })
  else s

/-- TIME_INFO received (R322, R323, R337). -/
def State.timeInfo (s : State) (f : RcpFrame) : State :=
  if f.src = s.macChain ∧ f.port ≠ 2 then
    if s.now ≤ s.chain.ringT + 10000000 then
      (s.modCh (fun c => { c with ringBack := true })).raise R.CHAIN_STATUS F.CHAIN_STATUS_RING_CLOSED
    else s
  else
    let (del, s) := s.rcpIn 0x11 f
    let p := f.payload
    let s := if f.port ≠ 2 ∧ f.dst = groupMac ∧ p.length = 32 ∧ fieldAt p 24 8 = s.gmId ∧ fieldAt p 17 1 = 1 then
        let s := s.modCh (fun c => { c with gmHops := kvPut f.port f.hops c.gmHops })
        match kvFind 0 s.chain.gmHops, kvFind 1 s.chain.gmHops with
        | some e, some w => s.modCh (fun c => { c with timePort := if w < e then 1 else 0 })
        | _, _ => s.modCh (fun c => { c with timePort := f.port })
      else s
    if !del then s
    else if p.length ≠ 32 ∨ 3 < fieldAt p 16 1 ∨ 1 < fieldAt p 17 1 then s.badFrame
    else
      let s := s.modCh (fun c => { c with infos := kvPut (fieldAt p 0 8) s.now c.infos })
      let s := { s with pair := { s.pair with macs := kvPut (fieldAt p 0 8) f.src s.pair.macs } }
      if fieldAt p 8 4 ≠ s.img.run.period / 1000 ∨ fieldAt p 12 4 ≠ s.img.run.phase then
        s.raise R.CHAIN_ERR F.CHAIN_ERR_EPOCH_MISMATCH
      else s

/-- TIME_INFO_SEND. -/
def State.timeInfoSend (s : State) : State :=
  let p := leBytes 8 s.serial ++ leBytes 4 (s.img.run.period / 1000) ++ leBytes 4 s.img.run.phase ++ leBytes 1 s.timeState ++
    leBytes 1 (b2n s.isGm) ++ copies 6 0#8 ++ leBytes 8 s.gmId
  (s.originate 0x11 groupMac false p).modCh (fun c => { c with ringT := s.now, ringBack := false })

/-- RING_CHECK_TIMEOUT by `t`: the node's own TIME_INFO has not returned within 10 ms. -/
def State.ringTimeout (s : State) (t : Nat) : State :=
  if !s.chain.ringBack ∧ s.chain.ringT + 10000000 ≤ t ∧ s.flag R.CHAIN_STATUS F.CHAIN_STATUS_RING_CLOSED then
    (((s.at t).drop R.CHAIN_STATUS F.CHAIN_STATUS_RING_CLOSED).inc R.RING_OPEN_CNT).raise R.CHAIN_ERR F.CHAIN_ERR_RING_OPEN
  else s

/-! ### HSR (R338) -/

/-- HSR_FRAME on a chain port: own frames are removed, duplicates discarded, others forwarded; the node table learns the source. -/
def State.hsrFrame (s : State) (port src dst seq : Nat) (body : List Byte) : State :=
  if !s.flag R.CHAIN_CTRL F.CHAIN_CTRL_HSR_EN ∨ !s.portsUp ∨ src = s.macChain then s
  else
    let dup := s.chain.hsrDup.any (fun e => e.1 == src && e.2.1 == seq && Nat.ble s.now (e.2.2 + 400000000))
    if dup then s.inc R.HSR_DUP_CNT
    else
      let s := s.modCh (fun c => { c with
        hsrDup := ((src, seq, s.now) :: c.hsrDup).take 2048
        hsrNodes := ((src, s.now) :: c.hsrNodes.filter (fun n => n.1 != src && Nat.ble s.now (n.2 + 60000000000))).take 256 })
      if dst = s.macChain then s else s.send (4 + (1 - port)) 0x892F dst body

/-- HSR_SUPERVISION: the node's supervision frame; entries not renewed for 60 s are forgotten. -/
def State.hsrSupervise (s : State) : State :=
  if !s.flag R.CHAIN_CTRL F.CHAIN_CTRL_HSR_EN ∨ !s.portsUp then s
  else
    let b := leBytes 2 s.chain.hsrSeq ++ beBytes 6 s.macChain
    let s := s.modCh (fun c => { c with
      hsrSeq := (c.hsrSeq + 1) % 65536
      hsrNodes := c.hsrNodes.filter (fun n => Nat.ble s.now (n.2 + 60000000000)) })
    (s.send 4 0x88FB 0x01154E000100 b).send 5 0x88FB 0x01154E000100 b

/-! ### Entering and leaving HARBOUR (R406, R409, R421) -/

/-- HARBOUR_ENTRY at b_h: no program runs any more, every powered die begins to power off. -/
def State.enterHarbour (s : State) : State :=
  let s := allQ.foldl (fun s q => if s.qState q = 0 then s else (s.abandonQ q).setQState q 0) s
  let s := s.setF R.SYS_STATE F.SYS_STATE_POWER_STATE 3
  (s.modP (fun p => { p with powering := (List.range 4).filter s.dieOn, exitWait := false })).setDuty

/-- Step 2 of R409: every running die powers up. -/
def State.powerRunning (s : State) : State :=
  ((List.range 4).filter s.img.run.runs).foldl (fun s d => s.dieUp d) (s.modP (fun p => { p with exitWait := false }))

/-- HARBOUR_EXIT: ON with LOADING; power-up waits until the last die is off. -/
def State.exitHarbour (s : State) : State :=
  if s.power ≠ 3 then s
  else
    let s := (s.setF R.SYS_STATE F.SYS_STATE_POWER_STATE 2).raise R.IMG_STATUS F.IMG_STATUS_LOADING
    let s := s.setDuty
    if s.pwr.powering.isEmpty then s.powerRunning else s.modP (fun p => { p with exitWait := true })

/-- DIE_POWER_OFF_COMPLETE of die `d` (R406, R421). -/
def State.diePowerOff (s : State) (d : Nat) : State :=
  if !s.pwr.powering.contains d then s
  else
    let s := (s.dieOff d).modP (fun p => { p with powering := p.powering.filter (fun x => x != d) })
    if s.pwr.exitWait ∧ s.pwr.powering.isEmpty then s.powerRunning else s

/-! ### The vote (R342 to R347, Table 11.9) -/

/-- Vote state: 0 AWAKE, 1 PROPOSED, 2 COMMITTED, 3 ASLEEP. -/
def State.vote (s : State) : Nat := s.getF R.HARB_STATUS F.HARB_STATUS_STATE
/-- Set it. -/
def State.setVote (s : State) (v : Nat) : State := (s.setF R.HARB_STATUS F.HARB_STATUS_STATE v).setPeers
/-- Record an outcome and its cause. -/
def State.harbOutcome (s : State) (o c : Nat) : State :=
  (s.setF R.HARB_STATUS F.HARB_STATUS_LAST_OUTCOME o).setF R.HARB_STATUS F.HARB_STATUS_LAST_CAUSE c

/-- A HARBOUR payload. -/
def harbPayload (sub reason seq init tSleep origin reqT : Nat) : List Byte :=
  leBytes 1 sub ++ leBytes 1 reason ++ [0#8, 0#8] ++ leBytes 4 seq ++ leBytes 8 init ++ leBytes 8 tSleep ++ leBytes 8 origin ++
  leBytes 8 reqT

/-- Broadcast a SUB about the proposal that stands. -/
def State.harbSend (s : State) (sub reason dst : Nat) : State :=
  s.originate 0x40 dst false (harbPayload sub reason (s.regN R.HARB_PROP_SEQ) (s.reg64 R.HARB_INIT_LO) s.harb.tSleep 0 0)

/-- Veto reason of R343 for a proposal with T_sleep `t`; 0 to accept. -/
def State.vetoReason (s : State) (t : Nat) (busy : Bool) : Nat :=
  if t < s.now + 150000000 then 1
  else if busy then 2
  else if s.flag R.CHAIN_CTRL F.CHAIN_CTRL_HARB_VETO then 3
  else if s.power = 1 ∨ s.power = 4 then 4
  else if s.timeState ≠ 2 ∧ !s.isGm then 5
  else 0

/-- The initiator ends its proposal with ABORT. -/
def State.harbAbort (s : State) (o c : Nat) : State :=
  let s := (s.harbSend 5 0 groupMac).modH (fun h => { h with closing := some (5, 2) })
  ((s.setVote 0).harbOutcome o c).setF R.HARB_STATUS F.HARB_STATUS_INITIATOR 0

/-- COMMIT once every participant has accepted, at least 50 ms before T_sleep. -/
def State.harbTryCommit (s : State) : State :=
  if s.vote = 1 ∧ s.harb.parts.all s.harb.accepts.contains ∧ s.now + 50000000 ≤ s.harb.tSleep ∧
      s.flag R.HARB_STATUS F.HARB_STATUS_INITIATOR then
    ((s.harbSend 4 0 groupMac).modH (fun h => { h with closing := some (4, 2) })).setVote 2
  else s

/-- A proposal begins: this node is its initiator and first to accept, and the ring hears of it. -/
def State.harbBegin (s : State) (t : Nat) : State :=
  let seq := (s.harb.propSeq + 1) % 2 ^ 32
  let parts := if s.roster.isEmpty then (s.chain.infos.filter (fun i => Nat.ble s.now (i.2 + 3000000000))).map Prod.fst
    else s.roster
  let s := s.modH (fun h => { h with
    tSleep := t
    accepts := [s.serial]
    parts := parts
    closing := none
    propSeq := seq })
  let s := ((s.setRegN R.HARB_PROP_SEQ seq).setReg64 R.HARB_INIT_LO s.serial).raise R.HARB_STATUS F.HARB_STATUS_INITIATOR
  (s.harbSend 1 0 groupMac).setVote 1

/-- HARB_CMD PROPOSE (R342). -/
def State.harbPropose (s : State) : State :=
  let t := s.reg64 R.HARB_T_LO
  if s.vote ≠ 0 ∨ t < s.now + 200000000 then s.raise R.CHAIN_ERR F.CHAIN_ERR_CMD_REJECT
  else
    let s := s.harbBegin t
    match s.vetoReason t false with
    | 0 => s.harbTryCommit
    | r => s.harbAbort 2 r

/-- A wake begins: the vote leaves its state, HARBOUR is left, and one WAKE goes out (R344, R345). -/
def State.wakeUp (s : State) (cause origin reqT : Nat) (here : Bool) : State :=
  let v := s.vote
  if v = 0 then s
  else
    let p := harbPayload 6 cause (s.regN R.HARB_PROP_SEQ) (s.reg64 R.HARB_INIT_LO) s.harb.tSleep origin reqT
    let s := (s.setVote 0).harbOutcome (if v = 3 then 6 else if cause = 5 ∧ here then 5 else 4) cause
    let s := s.setF R.HARB_STATUS F.HARB_STATUS_INITIATOR 0
    let s := (s.originate 0x40 groupMac false p).inc R.WAKE_CNT
    let s := s.modH (fun h => { h with wake := p, wakeLeft := if here then 2 else 0, closing := none })
    s.exitHarbour

/-- A local wake request: 1 alarm, 2 button, 3 host, 4 tag, 5 NO_COMMIT, 6 ISOLATED. -/
def State.wakeReq (s : State) (cause : Nat) : State := s.wakeUp cause s.serial s.now true

/-- A delivered HARBOUR frame of a SUB with its payload. -/
def State.harbIn (s : State) (sub : Nat) (f : RcpFrame) (k : State → List Byte → State) : State :=
  let (del, s) := s.rcpIn 0x40 f
  if !del then s
  else if f.payload.length ≠ 40 ∨ fieldAt f.payload 0 1 ≠ sub ∨ fieldAt f.payload 2 2 ≠ 0 then s.badFrame
  else k s f.payload

/-- Whether a payload names the proposal that stands. -/
def State.sameProp (s : State) (p : List Byte) : Bool :=
  fieldAt p 4 4 == s.regN R.HARB_PROP_SEQ && fieldAt p 8 8 == s.reg64 R.HARB_INIT_LO

/-- The answer of subtype `sub` with reason `r` to a proposal with payload `p` from `dst`. -/
def State.harbReply (s : State) (dst sub r : Nat) (p : List Byte) : State :=
  s.originate 0x40 dst false
    (harbPayload sub r (fieldAt p 4 4) (fieldAt p 8 8) (fieldAt p 16 8) s.serial s.now)

/-- The proposal with payload `p` is taken up. -/
def State.harbTake (s : State) (p : List Byte) : State :=
  (((s.modH (fun h => { h with tSleep := fieldAt p 16 8, closing := none })).setRegN R.HARB_PROP_SEQ (fieldAt p 4 4)).setReg64
    R.HARB_INIT_LO (fieldAt p 8 8)).setVote 1

/-- PROPOSE (R343). -/
def State.proposeIn (s : State) (f : RcpFrame) : State :=
  s.harbIn 1 f (fun s p =>
    let r := s.vetoReason (fieldAt p 16 8) (s.vote != 0 && !(s.vote == 1 && s.sameProp p))
    if r = 0 then (s.harbTake p).harbReply f.src 2 0 p
    else (s.setF R.HARB_STATUS F.HARB_STATUS_LAST_CAUSE r).harbReply f.src 3 r p)

/-- Whether this node has a proposal open. -/
def State.initiating (s : State) (p : List Byte) : Bool :=
  s.vote == 1 && s.flag R.HARB_STATUS F.HARB_STATUS_INITIATOR && s.sameProp p

/-- ACCEPT (R342): ORIGIN is the answering node. -/
def State.acceptIn (s : State) (f : RcpFrame) : State :=
  s.harbIn 2 f (fun s p =>
    if s.initiating p then (s.modH (fun h => { h with accepts := h.accepts ++ [fieldAt p 24 8] })).harbTryCommit else s)

/-- VETO (R342). -/
def State.vetoIn (s : State) (f : RcpFrame) : State :=
  s.harbIn 3 f (fun s p => if s.initiating p then s.harbAbort 2 (fieldAt p 1 1) else s)

/-- COMMIT (R343). -/
def State.commitIn (s : State) (f : RcpFrame) : State :=
  s.harbIn 4 f (fun s p => if s.vote = 1 ∧ s.sameProp p ∧ s.now < s.harb.tSleep then s.setVote 2 else s)

/-- ABORT. -/
def State.abortIn (s : State) (f : RcpFrame) : State :=
  s.harbIn 5 f (fun s p =>
    if s.vote = 1 ∧ s.sameProp p then (s.setVote 0).harbOutcome 3 (s.getF R.HARB_STATUS F.HARB_STATUS_LAST_CAUSE) else s)

/-- WAKE (R345). -/
def State.wakeIn (s : State) (f : RcpFrame) : State :=
  s.harbIn 6 f (fun s p => s.wakeUp (fieldAt p 1 1) (fieldAt p 24 8) (fieldAt p 32 8) false)

/-- HARB_ABORT_DEADLINE by `t`: T_sleep − 100 ms with an ACCEPT missing. -/
def State.abortDeadline (s : State) (t : Nat) : State :=
  if s.vote = 1 ∧ s.flag R.HARB_STATUS F.HARB_STATUS_INITIATOR ∧ s.harb.tSleep ≤ t + 100000000 ∧
      !s.harb.parts.all s.harb.accepts.contains then (s.at t).harbAbort 3 0
  else s

/-- HARB_REPEAT: COMMIT and ABORT go out three times. -/
def State.harbRepeat (s : State) : State :=
  match s.harb.closing with
  | some (sub, n + 1) => (s.harbSend sub 0 groupMac).modH (fun h => { h with closing := some (sub, n) })
  | _ => s

/-- T_SLEEP_REACHED by `t` (Table 11.9). -/
def State.tSleep (s : State) (t : Nat) : State :=
  if t < s.harb.tSleep then s
  else match s.vote with
    | 2 => ((s.at t).setVote 3).harbOutcome 1 0
    | 1 => (s.at t).wakeReq 5
    | _ => s

/-- WAKE_REPEAT: the node where the request arose sends its WAKE twice more. -/
def State.wakeRepeat (s : State) : State :=
  if s.harb.wakeLeft = 0 then s
  else (s.originate 0x40 groupMac false s.harb.wake).modH (fun h => { h with wakeLeft := h.wakeLeft - 1 })

/-- ISOLATED_WAKE (R347): both ports of an ASLEEP node without link or neighbour. -/
def State.isolatedWake (s : State) : State :=
  let lost (w : Nat) : Bool := !s.flag R.CHAIN_STATUS (linkUpFld w) || !s.flag R.CHAIN_STATUS (neighFld w)
  if s.vote = 3 ∧ lost 0 ∧ lost 1 then s.wakeReq 6 else s

end Sys2Proof.Machine
end

