-- ==== Sys2Proof/Machine/HubSets.lean ====
section
/-! DEFINITION. The hub state sets as indexed pair words: 1 alarm engine, 2 output vector, 3 trims, 4 engineer call (Table 3.11,
Tables 14.9 and 17.5, R370), the output vector and its digest, and the mirror map in force. -/

namespace Sys2Proof.Machine

/-! ### The mirror map (R79, Table 3.11) -/

/-- Hub state sets of the map: those of the MIRROR section, or 1 and 2. -/
def RunCfg.mirrorSets (c : RunCfg) : List Nat :=
  match c.mirrorRecs with
  | none => [1, 2]
  | some rs => (rs.filter (fun r => fieldAt r 0 1 == 1)).map (fun r => fieldAt r 2 2)
/-- Whether the pair's level is FULL: some record has MODE full. -/
def RunCfg.fullLevel (c : RunCfg) : Bool := (c.mirrorRecs.getD []).any (fun r => fieldAt r 1 1 == 0)

/-! ### Reading and writing entries -/

/-- AUX of a point (R537). -/
def PointSt.aux (p : PointSt) : Nat := b2n p.c + 2 * (p.bad % 256) + 512 * (p.die % 4) + 2048 * b2n p.ever + 4096 * (p.age % 2 ^ 20)
/-- The eight values of point `p`. -/
def State.pointEntries (s : State) (p : Nat) : List (Nat × Nat) :=
  let x := s.point p
  let sp := if p < 4096 then s.regN (R.SETPOINT_LO p) else 0
  [(8 * p, x.st), (8 * p + 1, x.timer), (8 * p + 2, x.shelve), (8 * p + 3, x.value), (8 * p + 4, x.onset % 2 ^ 32),
    (8 * p + 5, x.onset / 2 ^ 32), (8 * p + 6, sp), (8 * p + 7, x.aux)]
/-- The groups that are defined. -/
def RunCfg.groups (c : RunCfg) : List Nat := (List.range 256).filter c.groupDefined
/-- Address of the zero trim (even index) or span trim (odd index) of set 3. -/
def trimAddr (i : Nat) : Nat :=
  if i < 64 then (if i % 2 = 0 then R.AI_ZERO_TRIM_LO (i / 2) else R.AI_SPAN_TRIM_LO (i / 2))
  else if i % 2 = 0 then R.AO_ZERO_TRIM_LO ((i - 64) / 2) else R.AO_SPAN_TRIM_LO ((i - 64) / 2)

/-- Every entry of a set: index and 32-bit value. Points and groups that are not defined have none. -/
def State.setEntries (s : State) (set : Nat) : List (Nat × Nat) :=
  match set with
  | 1 => (s.allPoints.map s.pointEntries).flatten ++ s.img.run.groups.map (fun g => (0x9000 + g, s.regN (R.GROUP g))) ++
      [(0x9100, s.getF R.ALM_STATUS F.ALM_STATUS_SILENCED), (0x9101, s.regN R.DUTY_LO_LO), (0x9102, s.regN R.DUTY_HI_LO),
       (0x9103, s.watchState + 4 * s.getF R.WATCH_CFG F.WATCH_CFG_ARMED), (0x9104, s.regN R.WATCH_REMAIN)]
  | 2 => (List.range 18).map (fun i => (i, (nth s.committed i 0#64).toNat % 2 ^ 32))
  | 3 => (List.range 96).map (fun i => (i, s.regN (trimAddr i)))
  | 4 => (List.range 16).map (fun c => (c, s.regN (R.CLASS_STATE c))) ++
      allT.map (fun t => (0x100 + t, b2n (s.present t) + 256 * (kvGet (fun _ => 0) t s.alm.ages % 2 ^ 24)))
  | _ => []

/-- One value of a point. -/
def PointSt.putEntry (x : PointSt) (k v : Nat) : PointSt :=
  match k with
  | 0 => { x with st := v }
  | 1 => { x with timer := v }
  | 2 => { x with shelve := v }
  | 3 => { x with value := v }
  | 4 => { x with onset := x.onset / 2 ^ 32 * 2 ^ 32 + v }
  | 5 => { x with onset := x.onset % 2 ^ 32 + v * 2 ^ 32 }
  | 7 => { x with c := bitOf v 0, bad := bitsOf v 8 1, die := bitsOf v 10 9, ever := bitOf v 11, age := v / 4096 }
  | _ => x

/-- Overwrite one entry of a set. An index that names nothing is passed over. -/
def State.putEntry (s : State) (set i v : Nat) : State :=
  match set with
  | 1 =>
    if i < 0x8008 then
      if i % 8 = 6 then (if i / 8 < 4096 then s.setPair (R.SETPOINT_LO (i / 8)) v else s)
      else s.setPoint (i / 8) ((s.point (i / 8)).putEntry (i % 8) v)
    else if 0x9000 ≤ i ∧ i < 0x9100 then s.setRegN (R.GROUP (i - 0x9000)) v
    else if i = 0x9100 then s.setF R.ALM_STATUS F.ALM_STATUS_SILENCED v
    else if i = 0x9101 then s.setPair R.DUTY_LO_LO v
    else if i = 0x9102 then s.setPair R.DUTY_HI_LO v
    else if i = 0x9103 then (s.setF R.WATCH_STATUS F.WATCH_STATUS_STATE v).setF R.WATCH_CFG F.WATCH_CFG_ARMED (v / 4)
    else if i = 0x9104 then s.setRegN R.WATCH_REMAIN v
    else s
  | 2 =>
    if i < 16 then s.setPair (R.AO_COMMITTED_LO i) v
    else if i = 16 then s.setPair R.DO_COMMITTED_LO v
    else if i = 17 then s.modIo (fun io => { io with relay := BitVec.ofNat 64 (pairWord v) })
    else s
  | 3 => if i < 96 then s.setPair (trimAddr i) v else s
  | 4 =>
    if i < 16 then s.setRegN (R.CLASS_STATE i) v
    else if 0x100 ≤ i ∧ i < 0x140 then
      (s.setF (R.TARGET_STATUS (i - 0x100)) F.TARGET_STATUS_PRESENT v).modAlm (fun a => { a with
        ages := kvSet (fun _ => 0) (i - 0x100) (v / 256) a.ages })
    else s
  | _ => s

/-- The committed hub state as entries of the commit copies: key set × 65536 + index (R292). -/
def State.hubEntries (s : State) : List (Nat × Dword) :=
  ([1, 2, 3, 4].map (fun k => (s.setEntries k).map (fun e => (65536 * k + e.1, BitVec.ofNat 64 (pairWord e.2))))).flatten

/-! ### The output vector (R370) -/

/-- The 152 bytes of the output vector of epoch `n`. -/
def State.outVector (s : State) (n : Nat) : List Byte :=
  leBytes 8 n ++ ((s.setEntries 2).map (fun e => leBytes 8 (pairWord e.2))).flatten
/-- OUT_DIGEST: the first 16 bytes of its SHA-256. -/
def State.outDigest (s : State) (n : Nat) : List Byte := (sha256 (s.outVector n)).take 16

/-! ### REC_HUBSET and SNAP_HUB payloads (Table 12.5) -/

/-- A payload carrying some entries of a set. -/
def hubsetBytes (set : Nat) (es : List (Nat × Nat)) : List Byte :=
  leBytes 2 set ++ leBytes 2 es.length ++ (es.map (fun e => leBytes 4 e.1 ++ leBytes 8 (pairWord e.2))).flatten
/-- Its entries: index and pair word as carried. -/
def hubsetEntries (p : List Byte) : List (Nat × Nat) :=
  (List.range (fieldAt p 2 2)).map (fun i => (fieldAt p (4 + 12 * i) 4, fieldAt p (8 + 12 * i) 8))
/-- Apply a payload. -/
def State.applyHubset (s : State) (p : List Byte) : State :=
  (hubsetEntries p).foldl (fun s e => s.putEntry (fieldAt p 0 2) e.1 (e.2 % 2 ^ 32)) s

end Sys2Proof.Machine
end

