-- ==== Sys2Proof/Machine/Enc.lean ====
section
/-! DEFINITION. The register checks of Table 19.4 that look at the value written: reserved encodings (R14) and stopped-class
fields (R573), and the 64-bit register pairs of "Register list" (20_address_map.md). -/

namespace Sys2Proof.Machine

/-! ### Register pairs (R569, R571) -/

/-- Low registers of the 64-bit pairs: first address and array dimensions. -/
def pairRows : List (Nat × List (Nat × Nat)) :=
  [(R.TIME_NOW_LO, []), (R.EPOCH_LO, []), (R.EPOCH_PW_LO, []), (R.ACTIVE_ID_LO, []), (R.OVERLAY_ID_LO, []),
   (R.PENDING_ID_LO, []), (R.ACT_EPOCH_LO, []), (R.SEQ_FLOOR_LO, []),
   (R.BANK_SRC_LO 0 0 0, [(4, 0x400000), (384, 128), (4, 8)]),
   (R.BANK_XSRC_LO 0 0 0, [(4, 0x400000), (384, 128), (4, 8)]),
   (R.QFAULT_EPOCH_LO 0, [(4, 0x400000), (4, 0x10000)]), (R.LOG_BASE_LO 0, [(4, 0x400000), (4, 0x10000)]),
   (R.FAIL_ADDR_LO 0, [(4, 0x400000)]), (R.IL_BASE_LO 0, [(4, 0x400000)]), (R.IL_LIMIT_LO 0, [(4, 0x400000)]),
   (R.WREG_BASE_LO 0 0, [(4, 0x400000), (64, 16)]), (R.WREG_LIMIT_LO 0 0, [(4, 0x400000), (64, 16)]),
   (R.COMMIT_EPOCH_LO, []), (R.NEIGH_E_LO, []), (R.NEIGH_W_LO, []), (R.MAC_CHAIN_LO, []), (R.MAC_X5_LO, [])] ++
  [(R.HARB_T_LO, []), (R.HARB_INIT_LO, []), (R.ROSTER_LO 0, [(64, 8)]), (R.PARTNER_LO, []), (R.ARBITER_LO, []),
   (R.TOKEN_LO, []), (R.EXPIRES_LO, []), (R.MIRROR_EPOCH_LO, []), (R.ARB_UNIT0_LO 0, [(8, 64)]),
   (R.ARB_UNIT1_LO 0, [(8, 64)]), (R.ARB_TOKEN_LO 0, [(8, 64)]), (R.ARB_EXPIRES_LO 0, [(8, 64)]),
   (R.SERIAL_LO, []), (R.AI_ZERO_TRIM_LO 0, [(32, 64)]), (R.AI_SPAN_TRIM_LO 0, [(32, 64)]),
   (R.AO_CMD_LO 0, [(16, 64)]), (R.AO_COMMITTED_LO 0, [(16, 64)]), (R.AO_ZERO_TRIM_LO 0, [(16, 64)]),
   (R.AO_SPAN_TRIM_LO 0, [(16, 64)]), (R.DO_CMD_LO, []), (R.DO_COMMITTED_LO, []), (R.DO_SAFE_LO, [])] ++
  [(R.DI_MISWIRE_LO, []), (R.SF_NUM_LO, []), (R.RTAG_EUI_LO 0, [(250, 32)]), (R.SUMMARY_EPOCH_LO, []),
   (R.DUTY_LO_LO, []), (R.DUTY_HI_LO, []), (R.WATCH_PRE_MASK_LO, []), (R.LEVEL_MASK_LO 0 0, [(16, 64), (4, 16)]),
   (R.TARGET_MAC_LO 0, [(64, 16)]), (R.ALM_CMD_ARG_LO, []), (R.SETPOINT_LO 0, [(4096, 8)]),
   (R.DBG_PHYS_LO 0, [(4, 0x400000)]), (R.KEY_ID_LO 0, [(8, 8)]), (R.REVOKED_LO 0, [(32, 8)]), (R.HS_HN_LO, []),
   (R.HS_NN_LO, []), (R.HS_ECHO_LO, []), (0x1060000, [(4, 0x400000), (4, 0x10000), (64, 8)]),
   (0x1060200, [(4, 0x400000), (4, 0x10000), (16, 8)])]

/-- Whether `a` is the low register of a 64-bit pair. -/
def isLow (a : Nat) : Bool := pairRows.any (fun r => inArr a r.1 r.2)
/-- Whether `a` is the high register of one. -/
def isHigh (a : Nat) : Bool := Nat.ble 4 a && isLow (a - 4)
/-- Whether the register at `a` is one half of a PW register. -/
def isPw (a : Nat) : Bool := match rowOf a with
  | some r => r.acc == .pw
  | none => false

/-! ### Reserved encodings -/

/-- A field with the values it may take: register array, bits, least and greatest value. -/
structure EncRow where
  base : Nat
  dims : List (Nat × Nat)
  hi : Nat
  lo : Nat
  least : Nat
  most : Nat
  deriving DecidableEq, Repr

/-- Fields whose permitted values are one range, from the field tables. -/
def encRows : List EncRow :=
  [⟨R.ACQ_TIMEOUT, [], 15, 0, 1, 6000⟩,
   ⟨R.IMG_CMD, [], 3, 0, 1, 5⟩,
   ⟨R.SELFTEST_CTRL 0, [(4, 0x400000)], 15, 8, 1, 255⟩,
   ⟨R.QCMD 0, [(4, 0x400000), (4, 0x10000)], 2, 0, 1, 2⟩,
   ⟨R.QDBG 0, [(4, 0x400000), (4, 0x10000)], 1, 0, 1, 3⟩,
   ⟨R.MEM_CTRL 0, [(4, 0x400000)], 15, 8, 1, 48⟩,
   ⟨R.REC_CTRL, [], 15, 8, 1, 255⟩,
   ⟨R.REC_CMD, [], 1, 0, 1, 1⟩,
   ⟨R.CHAIN_CTRL, [], 15, 8, 1, 100⟩,
   ⟨R.SEG_LIMIT, [], 15, 0, 1, 65535⟩,
   ⟨R.ALM_SHAPE, [], 15, 0, 512, 65535⟩,
   ⟨R.MODBUS_CFG, [], 3, 2, 0, 1⟩,
   ⟨R.HARB_CMD, [], 1, 0, 1, 2⟩,
   ⟨R.ROSTER_COUNT, [], 6, 0, 0, 64⟩,
   ⟨R.PAIR_CMD, [], 3, 0, 1, 3⟩,
   ⟨R.LEASE_CFG, [], 6, 0, 1, 100⟩,
   ⟨R.LEASE_CFG, [], 23, 8, 10, 10000⟩,
   ⟨R.SYNC_CFG, [], 7, 0, 1, 64⟩,
   ⟨R.SYNC_CFG, [], 31, 8, 1, 16777215⟩,
   ⟨R.PAIR_ID, [], 31, 0, 1, 4294967295⟩,
   ⟨R.ARB_CTRL, [], 15, 8, 1, 255⟩,
   ⟨R.FAN_CTRL, [], 15, 8, 20, 100⟩] ++
  [⟨R.FAN_CTRL, [], 23, 16, 60, 90⟩,
   ⟨R.FAN_CTRL, [], 31, 24, 10, 50⟩,
   ⟨R.TRIM_CMD, [], 3, 0, 1, 5⟩,
   ⟨R.ISO_TIMEOUT, [], 9, 0, 1, 1000⟩,
   ⟨R.RADIO_DETECT, [], 15, 8, 1, 255⟩,
   ⟨R.RADIO_DETECT, [], 19, 16, 0, 3⟩,
   ⟨R.RADIO_DETECT, [], 23, 20, 2, 8⟩,
   ⟨R.RADIO_DETECT, [], 31, 24, 16, 255⟩,
   ⟨R.RADIO_TX, [], 13, 8, 1, 32⟩,
   ⟨R.RADIO_TX, [], 23, 16, 25, 250⟩,
   ⟨R.RADIO_SF, [], 15, 0, 4, 60000⟩,
   ⟨R.RADIO_SF, [], 31, 16, 500, 65535⟩,
   ⟨R.RADIO_CUSTOM, [], 19, 12, 1, 255⟩,
   ⟨R.RADIO_CUSTOM, [], 27, 20, 1, 255⟩,
   ⟨R.RADIO_MISC, [], 15, 0, 1, 6000⟩,
   ⟨R.RADIO_MISC, [], 23, 16, 1, 255⟩,
   ⟨R.RADIO_CMD, [], 14, 8, 1, 80⟩,
   ⟨R.RADIO_CMD, [], 7, 0, 0, 249⟩,
   ⟨R.LD_CFG1, [], 23, 16, 64, 255⟩,
   ⟨R.LD_CFG1, [], 31, 24, 0, 80⟩,
   ⟨R.LD_CFG2, [], 7, 0, 1, 168⟩,
   ⟨R.LD_CFG2, [], 13, 8, 1, 32⟩,
   ⟨R.LD_CFG2, [], 15, 14, 0, 2⟩,
   ⟨R.LD_CFG2, [], 19, 16, 1, 15⟩] ++
  [⟨R.LD_CFG2, [], 23, 20, 1, 15⟩,
   ⟨R.LD_CFG2, [], 30, 24, 1, 127⟩,
   ⟨R.LD_MSG_CMD, [], 5, 0, 0, 47⟩,
   ⟨R.LD_MSG_CMD, [], 11, 6, 1, 60⟩,
   ⟨R.ALM_CTRL, [], 7, 0, 1, 255⟩,
   ⟨R.RADIO_STALE, [], 19, 0, 1, 1048575⟩,
   ⟨R.WATCH_TIME, [], 30, 0, 1, 2147483647⟩,
   ⟨R.TARGET_CFG 0, [(64, 16)], 1, 0, 0, 2⟩,
   ⟨R.RELAY_FN 0, [(4, 4)], 2, 0, 0, 4⟩,
   ⟨R.POINT_SEL, [], 12, 0, 0, 4096⟩,
   ⟨R.TAG_CMD, [], 3, 0, 1, 1⟩,
   ⟨R.SEC_CMD, [], 3, 0, 1, 4⟩,
   ⟨R.HOSTIF_CTRL, [], 11, 0, 10, 3600⟩,
   ⟨R.HS_CMD, [], 1, 0, 1, 2⟩,
   ⟨R.DBG_PAGE 0, [(4, 0x400000)], 2, 0, 0, 4⟩,
   ⟨R.DBG_PAGE 0, [(4, 0x400000)], 11, 5, 0, 95⟩,
   ⟨R.DBG_PHYS_LO 0, [(4, 0x400000)], 17, 0, 0, 0⟩,
   ⟨R.PTP_RATE, [], 7, 4, 0, 3⟩,
   ⟨R.PTP_RATE, [], 11, 8, 0, 3⟩,
   ⟨R.PTP_RATE, [], 15, 12, 2, 10⟩]

/-- EtherTypes RCP may not use (Table 11.13). -/
def badEtypes : List Nat := [0x0800, 0x0806, 0x8100, 0x86DD, 0x88A8, 0x88F7, 0x88FB, 0x892F]
/-- Whether no code of a packed word is the reserved one: `n` codes of `w` bits. -/
def noCode (n w bad v : Nat) : Bool := (List.range n).all (fun i => v / 2 ^ (w * i) % 2 ^ w != bad)
/-- Whether an FP32 pattern is finite. -/
def finite32 (v : Nat) : Bool := (f32Val v).isFin
/-- Whether two FP32 patterns are different numbers. -/
def differ32 (v w : Nat) : Bool := f32Val v != f32Val w && !(v % 2 ^ 31 == 0 && w % 2 ^ 31 == 0)
/-- Whether a zero trim (false) or span trim (true) keeps Table 14.9 (R442). -/
def trimOk (span : Bool) (v : Nat) : Bool :=
  if span then Nat.ble (98 * 2 ^ 30) (100 * v) && Nat.ble (100 * v) (102 * 2 ^ 30)
  else decide (-200000 ≤ toSigned 32 v) && decide (toSigned 32 v ≤ 200000)
/-- Index within an array, when `a` belongs to it. -/
def idxOf (a base n st : Nat) : Option Nat :=
  if Nat.ble base a && Nat.blt ((a - base) / st) n && (a - base) % st == 0 then some ((a - base) / st) else none

/-- Reserved bits of the value of the PW register at `a` (R13): Table 14.4 leaves [31:18] of AO_CMD zero outside the carrier. -/
def pwReserved (a : Nat) : Nat := if (idxOf a (R.AO_CMD_LO 0) 16 64).isSome then 0xFFFC0000 else 0

/-- Greatest RATE_CODE of a preset (Table 16.7): 200 ksym/s, or 100 for US. -/
def rateLimit (preset : Nat) : Nat := if preset = 1 then 4 else 8
/-- Power limit of a preset in dBm. -/
def powerLimit (preset : Nat) : Nat := if preset = 1 then 20 else 14
/-- Enabled tags with their slots. -/
def State.tagSlots (s : State) : List (Nat × Nat) :=
  ((List.range 250).map (fun t => (t, s.getF (R.RTAG_SLOT t) F.TAG_SLOT_SLOT))).filter (fun e => e.2 != 0)
/-- Whether slot `k` may belong to a tag under a RADIO_JOIN word (R488). -/
def slotFree (join k : Nat) : Bool :=
  let p := planOf 0 join
  Nat.ble p.beacon k && Nat.blt k p.n && !(Nat.blt 0 p.count && p.joins k)
/-- R489. -/
def State.joinOk (s : State) (v : Nat) : Bool :=
  let p := planOf 0 v
  Nat.ble 2 p.n && Nat.ble 1 p.beacon && Nat.blt p.beacon p.n &&
    (p.count == 0 || (Nat.ble p.beacon p.first && Nat.ble (p.first + p.count) p.n)) &&
    s.tagSlots.all (fun e => slotFree v e.2)
/-- Whether PERIOD_US is 0, or 50 µs to 1 s and a divisor or a multiple of P (R425). -/
def State.aiPeriodOk (s : State) (us : Nat) : Bool :=
  us == 0 || (Nat.ble 50 us && Nat.ble us 1000000 &&
    (s.img.run.epochField 0 % us == 0 || (s.img.run.epochField 0 != 0 && us % s.img.run.epochField 0 == 0)))
/-- Whether P allows a modem: 500 µs or more. -/
def State.modemOk (s : State) : Bool := Nat.ble 500 (s.img.run.epochField 0)

/-- The checks that no single range states, by register. -/
def State.encSpecial (s : State) (a v : Nat) : Bool :=
  if a = R.PACE_CTRL then Nat.ble (bitsOf v 15 8) 40 && Nat.ble (bitsOf v 23 16) (bitsOf v 15 8)
  else if a = R.PACE_BAND then Nat.blt (bitsOf v 9 0) (bitsOf v 25 16) && Nat.ble (bitsOf v 25 16) 1000
  else if a = R.RCP_ETYPE then Nat.ble 0x0600 v && !badEtypes.contains v
  else if a = R.PTP_CFG then Nat.ble (v % 256) 127
  else if a = R.PTP_RATE then v % 16 == 0 || Nat.ble 9 (v % 16)
  else if a = R.SYS_CMD then v % 16 == 1
  else if a = R.PWR_CMD then Nat.ble 1 (v % 16) && Nat.ble (v % 16) 3
  else if a = R.TRIM_CMD then v % 16 != 1 || Nat.blt (v / 16) 48
  else if a = R.SEC_CMD then Nat.ble 3 (v % 16) || Nat.ble (bitsOf v 7 4) 7
  else if a = R.DO_SAFE_LO ∨ a = R.DO_SAFE_HI then noCode 16 2 3 v
  else if a = R.RELAY_SAFE then noCode 4 2 3 v
  else if (idxOf a (R.DI_FILTER 0) 6 4).isSome then noCode 8 4 15 v
  else if a = R.RADIO_CFG then
    bitsOf v 3 2 != 3 && Nat.ble 1 (bitsOf v 8 5) && Nat.ble (bitsOf v 8 5) (rateLimit (bitsOf v 3 2)) &&
      bitsOf v 10 9 != 3 && (!bitOf v 0 || s.modemOk)
  else if a = R.RADIO_JOIN then s.joinOk v
  else if a = R.RADIO_TX then Nat.ble (v % 256) (powerLimit (s.getF R.RADIO_CFG F.RADIO_CFG_PRESET))
  else if a = R.RADIO_CUSTOM then
    (Nat.ble 120 (v % 4096) && Nat.ble (v % 4096) 400) || (Nat.ble 1680 (v % 4096) && Nat.ble (v % 4096) 2720)
  else if a = R.LD_EN then v == 0 || s.modemOk
  else if a = R.LD_CFG1 then v % 65536 == 0 || s.modemOk
  else if a = R.WATCH_PRE then v == 0 || Nat.blt v (s.regN R.WATCH_TIME)
  else if a = R.WATCH_TIME then s.regN R.WATCH_PRE == 0 || Nat.blt (s.regN R.WATCH_PRE) v
  else match idxOf a (R.AI_CFG 0) 32 64 with
    | some _ => s.aiPeriodOk (bitsOf v 21 2)
    | none => match idxOf a (R.AI_EU_LO 0) 32 64, idxOf a (R.AI_EU_HI 0) 32 64 with
      | some c, _ => finite32 v && differ32 v (s.regN (R.AI_EU_HI c))
      | _, some c => finite32 v && differ32 v (s.regN (R.AI_EU_LO c))
      | _, _ => match idxOf a (R.AO_CFG 0) 16 64 with
        | some _ => v % 4 != 3
        | none => match idxOf a (R.RTAG_SLOT 0) 250 32 with
          | some t => v == 0 || (slotFree (s.regN R.RADIO_JOIN) v && s.tagSlots.all (fun e => e.1 == t || e.2 != v))
          | none => match idxOf a (R.AO_CMD_LO 0) 16 64 with
            | some _ => aoWordOk v
            | none =>
              if (idxOf a (R.AI_ZERO_TRIM_LO 0) 32 64).isSome || (idxOf a (R.AO_ZERO_TRIM_LO 0) 16 64).isSome then trimOk false v
              else if (idxOf a (R.AI_SPAN_TRIM_LO 0) 32 64).isSome || (idxOf a (R.AO_SPAN_TRIM_LO 0) 16 64).isSome then
                trimOk true v
              else true

/-- Whether no field of a write of `v` to the register at `a` holds a reserved encoding (R14). Reserved bits are not looked
at (R12). -/
def State.encOk (s : State) (a v : Nat) : Bool :=
  encRows.all (fun r => !inArr a r.base r.dims || (Nat.ble r.least (bitsOf v r.hi r.lo) && Nat.ble (bitsOf v r.hi r.lo) r.most)) &&
    s.encSpecial a v

/-! ### Error bits of the blocks -/

/-- The block of an address: the BAD_WRITE bit of its error register, and its CLASS bit, which is BAD_WRITE where it has none
(R573). -/
def blockErr (a : Nat) : Option (Nat × Nat × Nat) :=
  if a < 0x10000 then some (R.SYS_ERR, 2, 2)
  else if a < 0x20000 then some (R.TIME_ERR, 9, 9)
  else if a < 0x30000 then some (R.IMG_ERR, 6, 6)
  else if a < 0x40000 then some (R.REC_ERR, 10, 10)
  else if a < 0x50000 then some (R.CHAIN_ERR, 11, 11)
  else if a < 0x60000 then some (R.PAIR_ERR, 11, 11)
  else if a < 0x70000 then some (R.PWR_ERR, 6, 6)
  else if a < 0x80000 then some (R.ALM_ERR, 4, 4)
  else if a < 0x90000 then some (R.TAG_ERR, 5, 5)
  else if a < 0xA0000 then some (R.PANEL_ERR, 2, 2)
  else if a < 0xB0000 then some (R.SEC_ERR, 2, 2)
  else if a < 0xC0000 then some (R.HOSTIF_ERR, 6, 6)
  else if a < 0x1000000 then none
  else if a < 0x2000000 then
    let d := (a - 0x1000000) / 0x400000
    let o := (a - 0x1000000) % 0x400000
    if o < 0x10000 then none
    else if o < 0x50000 then some (R.QERR (4 * d + (o - 0x10000) / 0x10000), 4, 4)
    else if o < 0x100000 then some (R.DBG_ERR d, 2, 1)
    else if o < 0x200000 then some (R.GW_ERR d, 1, 1)
    else if o < 0x300000 then some (R.MEM_ERR d, 7, 7)
    else some (R.LINK_ERR d, 6, 6)
  else if 0x4000000 ≤ a ∧ a < 0x4100000 then some (R.AIO_ERR, 3, 3)
  else if 0x4100000 ≤ a ∧ a < 0x4200000 then some (R.DIO_ERR, 8, 8)
  else if 0x4200000 ≤ a ∧ a < 0x4300000 then some (R.RADIO_ERR, 6, 5)
  else if 0x4300000 ≤ a ∧ a < 0x4400000 then some (R.LD_ERR, 4, 3)
  else none

/-- Set BAD_WRITE of the block. -/
def State.badWrite (s : State) (a : Nat) : State := match blockErr a with
  | some (e, b, _) => s.raise e ⟨b, 1⟩
  | none => s
/-- Set CLASS of the block, or BAD_WRITE. -/
def State.badClass (s : State) (a : Nat) : State := match blockErr a with
  | some (e, _, c) => s.raise e ⟨c, 1⟩
  | none => s

/-! ### Change classes (R573) -/

/-- Bits of class stopped in a register. -/
def stoppedBits (a : Nat) : Nat :=
  if a = R.RADIO_CFG then 0x7FFFC
  else if a = R.LD_CFG1 then 0x00FF0000
  else match rowOf a with
    | some r => if r.cls == .stopped then r.mask else 0
    | none => 0
/-- Bits of class epoch. -/
def epochBits (a : Nat) : Nat :=
  if a = R.RADIO_CFG then 1
  else if a = R.LD_CFG1 then 0xFF00FFFF
  else if (idxOf a (R.AO_CFG 0) 16 64).isSome then 0xC
  else match rowOf a with
    | some r => if r.cls == .epoch then r.mask else 0
    | none => 0
/-- Bits of class live. -/
def liveBits (a : Nat) : Nat :=
  if (idxOf a (R.AO_CFG 0) 16 64).isSome then 3
  else match rowOf a with
    | some r => if r.cls == .live then r.mask else 0
    | none => 0

/-- Whether the block that owns a stopped-class register runs: PAIR outside SINGLE and DETACHED, RADIO with EN set, LOOPDATA
with any loop enabled. -/
def State.blockRuns (s : State) (a : Nat) : Bool :=
  if a < 0x1000000 then s.pairState != 0 && s.pairState != 1
  else if a < 0x4300000 then s.flag R.RADIO_CFG F.RADIO_CFG_EN
  else s.regN R.LD_EN != 0 || s.regN R.LD_CFG1 % 65536 != 0

/-- A register value with the bits of `m` taken from `v`. -/
def mergeBits (m v old : Nat) : Nat := Nat.lor (Nat.land old (0xFFFFFFFF - m)) (Nat.land v m)

end Sys2Proof.Machine
end

