-- ==== Sys2Proof/Machine/ImgCheck.lean ====
section
/-! DEFINITION. Verification of a structure image: the twelve orders of Table 3.15, section by section (R73 to R80) and across
sections (R82, R253). -/

namespace Sys2Proof.Machine

/-! ### The file (Tables 3.1 to 3.3) -/

/-- A directory entry (Table 3.2). -/
structure DirEnt where
  typ : Nat
  cls : Nat
  zero : Nat
  target : Nat
  off : Nat
  len : Nat
  digest : List Byte
  deriving DecidableEq, Repr

/-- SECTION_COUNT. -/
def imgCount (b : List Byte) : Nat := fieldAt b 12 2
/-- IMAGE_LEN. -/
def imgLen (b : List Byte) : Nat := fieldAt b 8 4
/-- KIND: 0 full, 1 partial. -/
def imgKind (b : List Byte) : Nat := fieldAt b 14 1
/-- LAYOUT. -/
def imgLayout (b : List Byte) : Nat := fieldAt b 15 1
/-- IMAGE_ID. -/
def imgId (b : List Byte) : Nat := fieldAt b 16 8
/-- BASE_ID. -/
def imgBase (b : List Byte) : Nat := fieldAt b 24 8
/-- IMAGE_SEQ. -/
def imgSeq (b : List Byte) : Nat := fieldAt b 32 4

/-- Directory entry `i`. -/
def imgEntry (b : List Byte) (i : Nat) : DirEnt :=
  let e := slice b (64 + 48 * i) 48
  ⟨fieldAt e 0 2, fieldAt e 2 1, fieldAt e 3 1, fieldAt e 4 4, fieldAt e 8 4, fieldAt e 12 4, slice e 16 32⟩
/-- The directory. -/
def imgDir (b : List Byte) : List DirEnt := (List.range (imgCount b)).map (imgEntry b)
/-- The sections with their bodies. -/
def imgSecs (b : List Byte) : List Sec := (imgDir b).map (fun e => ⟨e.typ, e.cls, e.target, slice b e.off e.len⟩)

/-- The next multiple of 16. -/
def up16 (n : Nat) : Nat := (n + 15) / 16 * 16
/-- Whether bytes [off, off + n) are zero. -/
def zeroAt (b : List Byte) (off n : Nat) : Bool := (slice b off n).all (fun x => x == 0#8)

/-- Where the bodies end when each begins where R70 places it, and every gap is zero. -/
def bodiesEnd (b : List Byte) : List DirEnt → Nat → Option Nat
  | [], e => some e
  | d :: t, e => if d.off = up16 e ∧ zeroAt b e (up16 e - e) then bodiesEnd b t (d.off + d.len) else none

/-- Offset of the trailer, when the geometry of R70 holds. -/
def imgGeometry (b : List Byte) : Option Nat :=
  let n := imgCount b
  if imgLen b = b.length ∧ Nat.ble (imgLen b) 0xFFFFFFF0 ∧ 1 ≤ n ∧ n ≤ 4096 ∧ 64 + 48 * n ≤ b.length then
    match bodiesEnd b (imgDir b) (64 + 48 * n) with
    | none => none
    | some e => if zeroAt b e (up16 e - e) ∧ up16 e + 80 = imgLen b then some (up16 e) else none
  else none

/-- KEY_ID of a public key (Table 3.3). -/
def keyId (pk : List Byte) : Nat := leNat ((sha256 pk).take 8)
/-- KEY_ID in an image's trailer (Table 3.3). -/
def imgKeyId (b : List Byte) : Nat := fieldAt b (imgLen b - 72) 8
/-- The revocation list. -/
def State.revoked (s : State) : List Nat :=
  (List.range (s.regN R.REVOKED_CNT)).map (fun r => s.reg64 (R.REVOKED_LO r))
/-- The enrolled, unrevoked key of a KEY_ID (R71, R577). -/
def State.findKey (s : State) (id : Nat) : Option (List Byte) :=
  if s.revoked.contains id then none
  else (s.host.keys.find? (fun k => match k with
    | some pk => keyId pk == id
    | none => false)).join

/-! ### Targets and classes (R73, R74) -/

/-- SCOPE of a section type (Table 3.5); none for a type not in the table. -/
def typeScope (t : Nat) : Option Nat :=
  if t = 1 ∨ t = 7 ∨ (9 ≤ t ∧ t ≤ 11) ∨ (13 ≤ t ∧ t ≤ 15) then some 0
  else if t = 2 then some 1
  else if (3 ≤ t ∧ t ≤ 6) ∨ t = 8 then some 2
  else if t = 12 then some 3
  else none
/-- Whether a type is allowed in variants. -/
def typeVariant (t : Nat) : Bool := (Nat.ble 1 t && Nat.ble t 6) || t == 8
/-- R73 for one section; `before` are the sections ahead of it. -/
def typeOk (before : List Sec) (x : Sec) : Bool :=
  typeScope x.typ == some (x.target / 2 ^ 28) && (targetVariant x.target == 0 || typeVariant x.typ) &&
    !before.any (fun y => y.typ == x.typ && y.target == x.target)
/-- Whether the remaining TARGET bits obey Table 3.4. -/
def targetOk (x : Sec) : Bool :=
  let sc := x.target / 2 ^ 28
  let d := bitsOf x.target 27 24
  let q := bitsOf x.target 23 20
  (if sc = 1 ∨ sc = 2 then Nat.ble d 3 else d == 0) && (if sc = 2 then Nat.ble q 3 else q == 0) &&
    !bitOf x.target 19 && (sc == 3 || x.typ == 9 || x.target % 65536 == 0)

/-- The register records of a REGSET body: OFFSET, FLAGS, words; none when they do not fill it exactly. -/
def regRecords : Nat → List Byte → Option (List (Nat × Nat × List Nat))
  | 0, b => if b.isEmpty then some [] else none
  | fuel + 1, b =>
    if b.isEmpty then some []
    else if b.length < 8 then none
    else
      let n := fieldAt b 4 2
      if b.length < 8 + 4 * n then none
      else (regRecords fuel (b.drop (8 + 4 * n))).map
        (fun t => (fieldAt b 0 4, fieldAt b 6 2, (List.range n).map (fun i => fieldAt b (8 + 4 * i) 4)) :: t)

/-- Block base of a REGSET, when a REGSET can target it. -/
def regsetBase (x : Sec) : Option Nat :=
  if [0x4, 0x5, 0x7, 0x9, 0x400, 0x410, 0x420, 0x430].contains (x.target % 65536) then some (x.target % 65536 * 65536) else none
/-- Addresses a REGSET writes. -/
def regsetAddrs (x : Sec) : List Nat :=
  (((regRecords x.body.length x.body).getD []).map
    (fun r => (List.range r.2.2.length).map (fun i => x.target % 65536 * 65536 + r.1 + 4 * i))).flatten
/-- Load class of a section (Table 3.5, R74). -/
def secClass (x : Sec) : Nat :=
  if x.typ = 12 then (if (regsetAddrs x).any (fun a => stoppedBits a != 0) then 2 else 1)
  else if x.typ = 14 ∨ x.typ = 15 then 0
  else if x.typ = 1 ∨ x.typ = 6 ∨ x.typ = 7 ∨ x.typ = 10 ∨ x.typ = 11 then 1
  else 2

/-! ### Pair words (R75) -/

/-- Whether the 8 bytes at `off` are a pair word. A field that the body does not hold whole is no wrong pair word: the
    body's length is what fails there, with FIELD (R76). -/
def pwAt (b : List Byte) (off : Nat) : Bool := Nat.blt b.length (off + 8) || isPairWord (fieldAt b off 8)
/-- Whether the words of a record with FLAGS [0] from `a` on are pair words, without a reserved bit of a PW register (R13, R80). -/
def pairRecOk (a : Nat) : List Nat → Bool
  | v :: w :: t => isPairWord (v + 2 ^ 32 * w) && (!isPw a || Nat.land v (pwReserved a) == 0) && pairRecOk (a + 8) t
  | _ => true
/-- Whether no PW register takes both its words from a record without FLAGS [0] (R572). -/
def plainRecOk (a : Nat) : List Nat → Bool
  | _ :: w :: t => !(isLow a && isPw a) && plainRecOk (a + 4) (w :: t)
  | _ => true
/-- Whether every PW field of a section is a pair word. -/
def pairsOk (x : Sec) : Bool :=
  match x.typ with
  | 1 => [0, 8, 16, 24, 32].all (pwAt x.body)
  | 10 => (List.range (fieldAt x.body 2 2)).all (fun i => [8, 16, 24, 32].all (fun o => pwAt x.body (8 + fieldAt x.body 0 2 * i + o)))
  | 11 => (List.range (fieldAt x.body 2 2)).all (fun i => pwAt x.body (8 + fieldAt x.body 0 2 * i + 4))
  | 12 => ((regRecords x.body.length x.body).getD []).all
      (fun r => (if bitOf r.2.1 0 then pairRecOk else plainRecOk) (x.target % 65536 * 65536 + r.1) r.2.2)
  | _ => true

/-! ### Fields (R76 to R81) -/

/-- Whether a table header names records of `size`, with AUX zero, and the body has their exact length. -/
def tableOkLen (b : List Byte) (size : Nat) : Bool :=
  Nat.ble 8 b.length && fieldAt b 0 2 == size && fieldAt b 4 2 == 0 && fieldAt b 6 2 == 0 &&
    b.length == 8 + size * fieldAt b 2 2
/-- Whether no two records have the same key. -/
def keysOnce (ks : List Nat) : Bool := decide ks.Nodup

/-- EPOCH (Table 3.6). -/
def epochOk (b : List Byte) : Bool :=
  b.length == 40 && Nat.ble 50 (fieldAt b 0 4) && Nat.ble (fieldAt b 0 4) 1000000 &&
    Nat.blt (fieldAt b 8 4) (1000 * fieldAt b 0 4) && Nat.ble (fieldAt b 24 4) 1 && Nat.blt (fieldAt b 32 4) 65536
/-- DIE (Table 3.7, R253). -/
def dieOk (b : List Byte) : Bool :=
  let l := fieldAt b 1 1
  b.length == 32 && Nat.ble (fieldAt b 0 1) 1 && (l == 0 || (Nat.ble 12 l && Nat.ble l 21)) &&
    Nat.ble (fieldAt b 2 1) 15 && (l != 0 || fieldAt b 2 1 == 0) && Nat.ble (fieldAt b 3 1) 7 && zeroAt b 4 4 &&
    zeroAt b 24 8 && (fieldAt b 0 1 == 1 || zeroAt b 1 31)
/-- A grain configuration word (Table 3.8, R78). -/
def grainWordOk (w : Nat) : Bool :=
  let fm := (bitsOf w 13 12, bitsOf w 15 14)
  let idle := bitOf w 18 || bitOf w 19
  Nat.blt w (2 ^ 20) && !(bitOf w 18 && bitOf w 19) &&
    (if idle then bitsOf w 6 0 == 127 && bitsOf w 17 7 == 0
     else Nat.blt (bitsOf w 6 0) 96 && (fm == (0, 0) || fm == (1, 0) || fm == (1, 1) || fm == (2, 2)))
/-- A span descriptor (Table 3.9, R155). -/
def spanOk (r : List Byte) : Bool :=
  let d := spanDescOf r
  Nat.blt (fieldAt r 0 1) 96 && Nat.ble 1 d.grains && Nat.ble d.grains 32 && Nat.ble (fieldAt r 2 1) 1 && Nat.ble d.fused 3 &&
    Nat.ble 1 d.tileRows && Nat.ble d.tileRows 256 && Nat.ble d.mode 2 && Nat.ble d.clog 12 &&
    (d.mode != 0 || d.clog == 0) && Nat.ble 1 d.groups && Nat.ble d.groups 8 && zeroAt r 9 3 && d.accOff % 64 == 0 &&
    d.grpBytes % 64 == 0 && (!d.streaming || (d.mode == 0 && d.groups == 1 && d.accOff == 0 && d.grpBytes == 0)) && zeroAt r 20 4 &&
    d.home % 32768 == 0
/-- A routing frame (Table 3.10). -/
def routeOk (r : List Byte) : Bool :=
  let sk := fieldAt r 0 1
  let si := fieldAt r 1 1
  let dk := fieldAt r 2 1
  let di := fieldAt r 3 1
  let o := fieldAt r 4 4
  let n := fieldAt r 8 4
  zeroAt r 12 4 && o % 64 == 0 && n % 64 == 0 && Nat.ble n 0x200000 &&
    ((sk == 0 && Nat.blt si 96 && o == 0 && n == 0 && ((dk == 1 && di == 0) || (dk == 3 && Nat.ble di 3))) ||
      (sk == 2 && si == 0 && dk == 4 && Nat.blt di 96))
/-- PROGRAM. -/
def programOk (b : List Byte) : Bool :=
  let n := fieldAt b 2 2
  Nat.ble 16 b.length && Nat.ble 1 n && Nat.ble n 2048 && Nat.blt (fieldAt b 0 2) n && zeroAt b 4 12 && b.length == 16 + 128 * n
/-- DATA. -/
def dataOk (b : List Byte) : Bool :=
  let k := fieldAt b 12 1
  Nat.ble 16 b.length && fieldAt b 0 8 % 64 == 0 && Nat.ble k 2 && zeroAt b 13 3 &&
    b.length == (if k = 2 then 16 else 16 + fieldAt b 8 4)
/-- A mirror map record (Table 3.11). -/
def mirrorOk (r : List Byte) : Bool :=
  let st := fieldAt r 2 2
  Nat.ble (fieldAt r 1 1) 1 &&
    (if fieldAt r 0 1 = 0 then st == 0 && fieldAt r 4 4 % 64 == 0 && fieldAt r 8 8 % 64 == 0
     else fieldAt r 0 1 == 1 && Nat.ble 1 st && Nat.ble st 4 && zeroAt r 4 12)
/-- SRC_INDEX of a point by its SOURCE; `aux` is the number of combination records. -/
def srcIndexOk (source ix aux : Nat) : Bool :=
  match source with
  | 0 => Nat.ble ix 31
  | 1 => Nat.ble ix 47
  | 2 => Nat.ble ix 4095
  | 3 => Nat.ble (ix % 256) 249
  | _ => Nat.blt ix aux
/-- Whether a DEADBAND pattern is not negative. -/
def deadbandOk (v : Nat) : Bool := Nat.ble v 0x7F800000 || v == 0x80000000
/-- An alarm point record (Table 3.12). -/
def pointOk (aux : Nat) (r : List Byte) : Bool :=
  let src := fieldAt r 2 1
  Nat.ble (fieldAt r 0 2) 4095 && Nat.ble src 4 && Nat.ble (fieldAt r 3 1) 15 && srcIndexOk src (fieldAt r 4 2) aux &&
    Nat.ble (fieldAt r 7 1) 15 && deadbandOk (fieldAt r 16 4) && Nat.ble (fieldAt r 41 1) 1 && zeroAt r 42 6 &&
    ((src != 1 && src != 4) || (fieldAt r 8 4 == 0 && fieldAt r 16 4 == 0))
/-- A combination record (Table 3.13); `nested` are the points whose SOURCE is 4. -/
def comboOk (nested : List Nat) (r : List Byte) : Bool :=
  let op := fieldAt r 0 1
  let k := fieldAt r 1 1
  let n := fieldAt r 2 1
  let ps := (List.range 6).map (fun i => fieldAt r (4 + 2 * i) 2)
  Nat.ble op 2 && Nat.ble 1 n && Nat.ble n 6 && (if op = 2 then Nat.ble 1 k && Nat.ble k n else k == 0) && zeroAt r 3 1 &&
    (ps.take n).all (fun p => Nat.ble p 4095 && !nested.contains p) && (ps.drop n).all (fun p => p == 0xFFFF)
/-- ALM_POINTS. -/
def pointsOk (b : List Byte) : Bool :=
  let aux := fieldAt b 4 2
  let rs := tableRecs b
  let cs := (List.range aux).map (fun i => slice b (8 + 48 * fieldAt b 2 2 + 16 * i) 16)
  let nested := (rs.filter (fun r => fieldAt r 2 1 == 4)).map (fun r => fieldAt r 0 2)
  Nat.ble 8 b.length && fieldAt b 0 2 == 48 && fieldAt b 6 2 == 0 && b.length == 8 + 48 * fieldAt b 2 2 + 16 * aux &&
    rs.all (pointOk aux) && cs.all (comboOk nested) && keysOnce (rs.map (fun r => fieldAt r 0 2))
/-- An ALM_GROUPS record. -/
def groupOk (r : List Byte) : Bool := Nat.ble (fieldAt r 1 1) 1 && zeroAt r 12 4
/-- A VARIANT record: a three-die variant serves exactly the four quarters of one die. -/
def variantOk (r : List Byte) : Bool :=
  Nat.ble 1 (fieldAt r 0 1) && Nat.ble (fieldAt r 0 1) 7 && Nat.ble (fieldAt r 1 1) 1 && zeroAt r 6 10 &&
    (fieldAt r 1 1 == 0 || [0xF, 0xF0, 0xF00, 0xF000].contains (fieldAt r 2 2))
/-- A LABEL record. -/
def labelOk (r : List Byte) : Bool :=
  let n := fieldAt r 2 1
  Nat.ble (fieldAt r 0 2) 4095 && Nat.ble n 28 && zeroAt r 3 1 &&
    (slice r 4 n).all (fun c => Nat.ble 0x20 c.toNat && Nat.ble c.toNat 0x7E) && zeroAt r (4 + n) (28 - n)
/-- SPARE record. -/
def spareOk (r : List Byte) : Bool :=
  Nat.blt (fieldAt r 0 1) 96 && (Nat.blt (fieldAt r 1 1) 96 || fieldAt r 1 1 == 255) && zeroAt r 2 2

/-- FIELD checks of a section other than REGSET. -/
def fieldsOk (x : Sec) : Bool :=
  let b := x.body
  match x.typ with
  | 1 => epochOk b
  | 2 => dieOk b
  | 3 => tableOkLen b 4 && fieldAt b 2 2 == 96 && (tableRecs b).all (fun r => grainWordOk (leNat r))
  | 4 => tableOkLen b 32 && (tableRecs b).all spanOk && keysOnce ((tableRecs b).map (fun r => fieldAt r 0 1))
  | 5 => tableOkLen b 16 && (tableRecs b).all routeOk
  | 6 => tableOkLen b 4 && Nat.ble (fieldAt b 2 2) 32 && (tableRecs b).all spareOk
  | 7 => tableOkLen b 16 && (tableRecs b).all mirrorOk
  | 8 => programOk b
  | 9 => dataOk b
  | 10 => pointsOk b
  | 11 => tableOkLen b 16 && (tableRecs b).all groupOk && keysOnce ((tableRecs b).map (fun r => fieldAt r 0 1))
  | 13 => tableOkLen b 16 && (tableRecs b).all variantOk && keysOnce ((tableRecs b).map (fun r => fieldAt r 0 1))
  | 14 => tableOkLen b 32 && (tableRecs b).all labelOk && keysOnce ((tableRecs b).map (fun r => fieldAt r 0 2))
  | 15 => Nat.ble b.length 65536
  | _ => true

/-! ### REGSET (R80) -/

/-- Whether a write by the engineer role could not set this value: BYPASS_FORCE and PRESET 2. -/
def aboveEngineer (a v : Nat) : Bool :=
  (a == R.CHAIN_CTRL && bitOf v 1) || (a == R.RADIO_CFG && bitsOf v 3 2 == 2)

/-- Check the words of one register record in order, and take them into a scratch state so that later checks see them. -/
def regWords (s : State) (flagged : Bool) : Nat → List Nat → Option State
  | _, [] => some s
  | a, v :: t =>
    match rowOf a with
    | none => none
    | some r =>
      let v' := Nat.land v r.mask
      let pw := r.acc == .pw
      if !(r.acc == .rw || pw) || (pw && !flagged) || (flagged && !pw) || aboveEngineer a v' then none
      else if isLow a then
        match t with
        | [] => none
        | w :: t' =>
          if s.encOk a v' && (pw || s.encOk (a + 4) w) then regWords ((s.setRegN a v').setRegN (a + 4) w) flagged (a + 8) t'
          else none
      else if isHigh a || !s.encOk a v' then none
      else regWords (s.setRegN a (mergeBits r.mask v (s.regN a))) flagged (a + 4) t
/-- Check a REGSET section; the scratch state after its writes. -/
def regsetOk (s : State) (x : Sec) : Option State :=
  match regsetBase x, regRecords x.body.length x.body with
  | some base, some rs => rs.foldl (fun o r => match o with
      | none => none
      | some s =>
        let fl := bitOf r.2.1 0
        if Nat.blt 1 r.2.1 || r.1 % 4 != 0 || (fl && (r.1 % 8 != 0 || r.2.2.length % 2 != 0)) then none
        else regWords s fl (base + r.1) r.2.2) (some s)
  | _, _ => none

/-- Order 9 over the sections (R73 to R81), in directory order: the code and the index of the first that fails. -/
def sectionsCheck (s : State) (zeros : List Nat) : List Sec → List Sec → Nat → Option (Nat × Nat)
  | _, [], _ => none
  | before, x :: t, i =>
    if !typeOk before x then some (0x09, i)
    else if x.cls ≠ secClass x then some (0x0A, i)
    else if !pairsOk x then some (0x0B, i)
    else if !targetOk x ∨ nth zeros i 0 ≠ 0 ∨ !fieldsOk x then some (0x0C, i)
    else if x.typ = 12 then
      match regsetOk s x with
      | none => some (0x0C, i)
      | some s' => sectionsCheck s' zeros (before ++ [x]) t (i + 1)
    else sectionsCheck s zeros (before ++ [x]) t (i + 1)

/-! ### Checks across sections (R82, R253) -/

/-- The sections of a partial image over those of its base: same TYPE and TARGET replaces. -/
def mergeSecs (base new : List Sec) : List Sec :=
  base.map (fun x => (new.find? (fun y => y.typ == x.typ && y.target == x.target)).getD x) ++
    new.filter (fun y => !base.any (fun x => x.typ == y.typ && x.target == y.target))

/-- Whether no two of the ranges (start, length) share a byte. -/
def disjoint : List (Nat × Nat) → Bool
  | [] => true
  | (a, n) :: t => t.all (fun e => n == 0 || e.2 == 0 || Nat.ble (a + n) e.1 || Nat.ble (e.1 + e.2) a) && disjoint t
/-- Weight regions: DATA regions of KIND 0. -/
def RunCfg.weightRegions (c : RunCfg) : List (Nat × Nat) :=
  (c.dataRegions.filter (fun r => r.2.2.1 == 0)).map (fun r => (r.1, r.2.1))
/-- Quarters with a SPAN section, with their spans. -/
def RunCfg.allSpans (c : RunCfg) : List (Nat × Nat × SpanDesc) :=
  (allQ.map (fun q => (tableRecs (c.body 4 (qtrTarget q))).map (fun r => (q, fieldAt r 0 1, spanDescOf r)))).flatten
/-- The working grains of span `sp` as configuration words. -/
def RunCfg.spanWords (c : RunCfg) (q sp : Nat) : List Nat :=
  (allG.map (c.grainWord q)).filter (fun w => bitsOf w 6 0 == sp)
/-- WFMT of a span's grains. -/
def RunCfg.spanWfmt (c : RunCfg) (q sp : Nat) : Nat := bitsOf ((c.spanWords q sp).headD 0) 13 12

/-- A check on one item of a configuration: its result and the sections whose content it reads, each as a TYPE with a TARGET or
with every TARGET (R85). -/
abbrev Item := Bool × List (Nat × Option Nat)
/-- The section of a quarter. -/
def inQtr (typ q : Nat) : Nat × Option Nat := (typ, some (qtrTarget q))
/-- The DIE section of a die. -/
def inDie (d : Nat) : Nat × Option Nat := (2, some (dieTarget d))
/-- Bytes of a span's weight home with its B8 exponent tables (R106). -/
def RunCfg.homeBytes (c : RunCfg) (e : Nat × Nat × SpanDesc) : Nat :=
  e.2.2.grains * (if c.spanWfmt e.1 e.2.1 = 2 then 33792 else 32768)
/-- The spans of a quarter. -/
def RunCfg.spansOf (c : RunCfg) (q : Nat) : List (Nat × Nat × SpanDesc) := c.allSpans.filter (fun e => e.1 == q)

/-- A quarter of ACTIVE_Q has its sections, and its die runs. -/
def RunCfg.activeItems (c : RunCfg) : List Item :=
  allQ.map (fun q => (!c.activeQ q || ([3, 4, 5, 8].all (fun t => (c.sec t (qtrTarget q)).isSome) && c.runs (q / 4)),
    [(1, none), inDie (q / 4)]))
/-- LAYOUT and RUN_BOUND are 0 exactly when ACTIVE_Q is. -/
def RunCfg.layoutItems (c : RunCfg) : List Item :=
  let idle := c.epochField 4 == 0
  [((c.layout == 0) == idle && (c.runBound == 0) == idle, [(1, none)])]
/-- The grains of each span of a quarter. A span that grains name has a descriptor. -/
def RunCfg.grainItems (c : RunCfg) : List Item :=
  allQ.map (fun q =>
    ((allG.map (c.grainWord q)).all (fun w => bitsOf w 6 0 == 127 || (c.spansOf q).any (fun e => e.2.1 == bitsOf w 6 0)) &&
      (c.spansOf q).all (fun e =>
        let ws := c.spanWords q e.2.1
        ws.length == e.2.2.grains && (List.range e.2.2.grains).all (fun k => (ws.filter (fun w => bitsOf w 11 7 == k)).length == 1) &&
          ws.all (fun w => bitsOf w 15 12 == bitsOf (ws.headD 0) 15 12)),
      [inQtr 3 q, inQtr 4 q]))
/-- The group regions of a quarter (R134). -/
def RunCfg.groupItems (c : RunCfg) : List Item :=
  allQ.map (fun q =>
    let ds := (c.spansOf q).filter (fun e => !e.2.2.streaming)
    (ds.all (fun e =>
        let d := e.2.2
        let f := c.spanWfmt q e.2.1
        Nat.ble (d.accOff + d.groups * d.grpBytes) 0x40000 && Nat.ble (colsOf f * d.tileRows * elemSize d.mode f) d.grpBytes) &&
      disjoint (ds.map (fun e => (e.2.2.accOff, e.2.2.groups * e.2.2.grpBytes))),
      [inQtr 3 q, inQtr 4 q]))
/-- The routes of a quarter. -/
def RunCfg.routesOk (c : RunCfg) (q : Nat) : Bool :=
  let rs := tableRecs (c.body 5 (qtrTarget q))
  let ds := c.spansOf q
  let egress (sp : Nat) := rs.filter (fun r => fieldAt r 0 1 == 0 && fieldAt r 1 1 == sp)
  let fused (sp : Nat) := rs.filter (fun r => fieldAt r 0 1 == 2 && fieldAt r 3 1 == sp)
  let ports := (rs.filter (fun r => fieldAt r 0 1 == 0 && fieldAt r 2 1 == 3)).map (fun r => fieldAt r 3 1)
  let wins := (rs.filter (fun r => fieldAt r 0 1 == 2)).map (fun r => (fieldAt r 4 4, fieldAt r 8 4))
  ds.all (fun e =>
    (egress e.2.1).map (fun r => fieldAt r 2 1) == [if e.2.2.streaming then 3 else 1] &&
      (fused e.2.1).length == (if e.2.2.fused = 1 ∨ e.2.2.fused = 2 then 1 else 0)) &&
  rs.all (fun r => ds.any (fun e => e.2.1 == (if fieldAt r 0 1 = 0 then fieldAt r 1 1 else fieldAt r 3 1))) &&
  decide ports.Nodup && wins.all (fun w => Nat.ble (w.1 + w.2) 0x200000) && disjoint wins
/-- The routes of each quarter. -/
def RunCfg.routeItems (c : RunCfg) : List Item := allQ.map (fun q => (c.routesOk q, [inQtr 4 q, inQtr 5 q]))
/-- Each weight home with its B8 exponent tables lies inside one weight region (R106), and DATA regions do not overlap. -/
def RunCfg.weightItems (c : RunCfg) : List Item :=
  c.allSpans.map (fun e => (c.weightRegions.any (fun r =>
      Nat.ble r.1 e.2.2.home && Nat.ble (e.2.2.home + c.homeBytes e) (r.1 + r.2)), [inQtr 3 e.1, inQtr 4 e.1, (9, none)])) ++
    [(disjoint (c.dataRegions.map (fun r => (r.1, r.2.1))), [(9, none)])]
/-- Whether an address is homed in die `d`. -/
def RunCfg.homedIn (c : RunCfg) (a d : Nat) : Bool := match c.home a with
  | some (e, _, _) => e == d
  | none => false
/-- In a replicated layout no byte of a weight home maps to another die. Homes change only every 4 KiB. -/
def RunCfg.localItems (c : RunCfg) : List Item :=
  c.allSpans.map (fun e => (c.layout != 2 ||
    (List.range ((c.homeBytes e + 4095) / 4096)).all (fun k => c.homedIn (e.2.2.home + 4096 * k) (e.1 / 4)),
    [inQtr 3 e.1, inQtr 4 e.1, (2, none)]))
/-- SPARE records. -/
def RunCfg.spareItems (c : RunCfg) : List Item :=
  allQ.map (fun q => ((c.spares q).all (fun e => bitOf (c.grainWord q e.1) 18) && decide ((c.spares q).map Prod.fst).Nodup,
    [inQtr 3 q, inQtr 6 q]))
/-- The memory ranges of the mirror map. -/
def RunCfg.mapRanges (c : RunCfg) : List (Nat × Nat) :=
  ((c.mirrorRecs.getD []).filter (fun r => fieldAt r 0 1 == 0)).map (fun r => (fieldAt r 8 8, fieldAt r 4 4))
/-- No mirror range meets a weight region. -/
def RunCfg.mirrorItems (c : RunCfg) : List Item :=
  [(c.mapRanges.all (fun m => c.weightRegions.all (fun w => disjoint [m, w])), [(7, none), (9, none)])]
/-- RUN_BOUND_NS ≤ P − 20.4 µs (R42). -/
def RunCfg.boundItems (c : RunCfg) : List Item := [(Nat.ble (c.runBound + 20400) c.period || c.runBound == 0, [(1, none)])]

/-- Links are enabled in both DIE bodies or in neither, and not to a die that does not run. -/
def RunCfg.linkItems (c : RunCfg) : List Item :=
  ((List.range 4).map (fun a => (List.range 4).map (fun b =>
    (a == b || (c.linked a b == c.linked b a && (!c.linked a b || (c.runs a && c.runs b))), [inDie a, inDie b])))).flatten
/-- Interleave sets. -/
def RunCfg.setItems (c : RunCfg) : List Item :=
  (List.range 4).map (fun d =>
    let ms := setMembers (c.ilSet d)
    (c.ilLog2 d == 0 || (
      ms.contains d && Nat.ble 2 ms.length && ms.all (fun m => c.runs m && c.ilLog2 m == c.ilLog2 d && c.ilSet m == c.ilSet d &&
        c.ilBase m == c.ilBase d && c.ilLimit m == c.ilLimit d && ms.all (fun k => c.linked m k))), (d :: ms).map inDie))
/-- Interleave windows, each by itself and then each with the others. -/
def RunCfg.windowItems (c : RunCfg) : List Item :=
  let ds := (List.range 4).filter (fun d => c.ilLog2 d != 0)
  let len (d : Nat) := c.ilLimit d + 1 - c.ilBase d
  ds.map (fun d =>
    let n := (setMembers (c.ilSet d)).length
    let g := 2 ^ c.ilLog2 d
    (Nat.ble 0x4000000000 (c.ilBase d) && Nat.blt (c.ilBase d) (c.ilLimit d) && Nat.blt (c.ilLimit d) 0x5000000000 &&
      (c.ilBase d - 0x4000000000) % (n * g) == 0 && len d % (n * g) == 0 &&
      Nat.ble ((c.ilBase d - 0x4000000000) / n + len d / n) hubArea, [inDie d])) ++
    (ds.map (fun d => ds.map (fun e =>
      (c.ilSet e == c.ilSet d || disjoint [(c.ilBase d, len d), (c.ilBase e, len e)], [inDie d, inDie e])))).flatten
/-- Whether bytes [a, a + n) are mapped, homed in running dies, not hidden and in no hub area. The fuel counts windows. -/
def RunCfg.spanMapped (c : RunCfg) : Nat → Nat → Nat → Bool
  | 0, _, n => n == 0
  | fuel + 1, a, n =>
    if n = 0 then true
    else if a < 0x1000000000 then
      let d := a / 0x400000000
      let off := a % 0x400000000
      let m := (setMembers (c.ilSet d)).length
      c.runs d && Nat.ble (off + n) hubArea &&
        (m == 0 || disjoint [(off, n), ((c.ilBase d - 0x4000000000) / m, (c.ilLimit d + 1 - c.ilBase d) / m)])
    else if 0x2000000000 ≤ a ∧ a < 0x2002000000 then
      let d := (a - 0x2000000000) / 0x800000
      let k := min n (0x2000000000 + (d + 1) * 0x800000 - a)
      c.runs d && c.spanMapped fuel (a + k) (n - k)
    else match c.windowDie a with
      | none => false
      | some d =>
        let k := min n (c.ilLimit d + 1 - a)
        Nat.ble 0x4000000000 a && c.spanMapped fuel (a + k) (n - k)
/-- DATA regions, weight homes and mirror ranges lie in mapped bytes of running dies. -/
def RunCfg.mappedItems (c : RunCfg) : List Item :=
  (c.secs.filter (fun x => x.typ == 9)).map
      (fun x => (c.spanMapped 5 (fieldAt x.body 0 8) (fieldAt x.body 8 4), [(9, some x.target), (2, none)])) ++
    c.allSpans.map (fun e => (c.spanMapped 5 e.2.2.home (c.homeBytes e), [inQtr 3 e.1, inQtr 4 e.1, (2, none)])) ++
    c.mapRanges.map (fun m => (c.spanMapped 5 m.1 m.2, [(7, none), (2, none)]))
/-- The dies that home bytes of the range at `a`: one, or every member of the window's set. -/
def RunCfg.homeDies (c : RunCfg) (a : Nat) : List Nat :=
  if a < 0x1000000000 then [a / 0x400000000]
  else match c.windowDie a with
    | some d => setMembers (c.ilSet d)
    | none => []
/-- Each weight home is homed in its span's die or in a linked one. -/
def RunCfg.reachItems (c : RunCfg) : List Item :=
  c.allSpans.map (fun e => ((c.homeDies e.2.2.home).all (fun d => c.linked (e.1 / 4) d), [inQtr 4 e.1, (2, none)]))
/-- In a replicated layout every weight region lies within one direct range. -/
def RunCfg.directItems (c : RunCfg) : List Item :=
  (c.secs.filter (fun x => x.typ == 9 && fieldAt x.body 12 1 == 0)).map (fun x =>
    (c.layout != 2 || (Nat.blt (fieldAt x.body 0 8) 0x1000000000 &&
      Nat.ble (fieldAt x.body 0 8 % 0x400000000 + fieldAt x.body 8 4) 0x400000000), [(9, some x.target)]))
/-- No die homes more than 64 weight regions. -/
def RunCfg.countItems (c : RunCfg) : List Item :=
  (List.range 4).map (fun d =>
    (c.layout != 2 || Nat.ble ((c.weightRegions.filter (fun r => r.1 / 0x400000000 == d)).length) 64, [(9, none)]))

/-- The checks of order 10 for one configuration, in order: the code of each, and its items. -/
def RunCfg.crossChecks (c : RunCfg) : List (Nat × List Item) :=
  [(0x0D, c.activeItems), (0x0E, c.layoutItems), (0x0D, c.grainItems), (0x0D, c.groupItems), (0x0D, c.routeItems),
   (0x0D, c.weightItems), (0x0E, c.localItems), (0x0D, c.spareItems), (0x0D, c.mirrorItems), (0x0D, c.linkItems),
   (0x0D, c.setItems), (0x0D, c.windowItems), (0x0D, c.mappedItems), (0x0D, c.reachItems), (0x0E, c.directItems),
   (0x0D, c.countItems), (0x0F, c.boundItems)]
/-- VARIANT_IDs of a configuration's VARIANT section. -/
def RunCfg.variantIds (c : RunCfg) : List Nat :=
  (List.range 8).filter (fun v => (tableRecs ((secFind c.secs 13 0).getD [])).any (fun r => fieldAt r 0 1 == v))
/-- Sections with their directory indices. -/
def indexed (l : List Sec) : List (Nat × Sec) := (List.range l.length).zip l
/-- The sections of a merged configuration with their indices in the directories of the images that hold them. -/
def mergedDir (base new : List Sec) : List (Nat × Sec) :=
  indexed new ++ (indexed base).filter (fun e => !new.any (fun y => y.typ == e.2.typ && y.target == e.2.target))
/-- Whether the configuration with its variant uses the section. -/
def RunCfg.uses (c : RunCfg) (x : Sec) : Bool :=
  if targetVariant x.target = 0 then c.variant == 0 || (secFind c.secs x.typ (x.target + c.variant * 0x10000)).isNone
  else targetVariant x.target == c.variant
/-- Lowest directory index of the sections a failed item reads (R85), or 0xFFFF. -/
def RunCfg.readIndex (c : RunCfg) (dir : List (Nat × Sec)) (keys : List (Nat × Option Nat)) : Nat :=
  (dir.filter (fun e => c.uses e.2 && keys.any (fun k => k.1 == e.2.typ && (match k.2 with
    | some t => t == e.2.target - targetVariant e.2.target * 0x10000
    | none => true)))).foldl (fun m e => min m e.1) 0xFFFF
/-- Order 10: the primary configuration, then each variant in increasing number. -/
def crossCheck (dir : List (Nat × Sec)) (c : RunCfg) : Option (Nat × Nat) :=
  (0 :: c.variantIds).findSome? (fun v =>
    let c := { c with variant := v }
    c.crossChecks.findSome? (fun k => (k.2.find? (fun i => !i.1)).map (fun i => (k.1, c.readIndex dir i.2))))

/-- Order 11 (R87) and the variants' EPOCH sections (R81): every EPOCH section carries this P and phase. -/
def epochCheck (dir : List Sec) (p phase : Nat) : Option (Nat × Nat) :=
  (dir.findIdx? (fun x => x.typ == 1 && (fieldAt x.body 0 4 != p || fieldAt x.body 8 4 != phase))).map (fun i => (0x10, i))

/-! ### The verification (R85, Table 3.15) -/

/-- The configuration an image makes: alone, or over the full image it extends. -/
def cfgOf (b : List Byte) (base : Option (List Byte)) : RunCfg :=
  match base with
  | some f => if imgKind b = 1 then
      { imageId := imgId f, overlayId := imgId b, seq := imgSeq f, layout := imgLayout f, variant := 0,
        secs := mergeSecs (imgSecs f) (imgSecs b) }
    else { imageId := imgId b, overlayId := 0, seq := imgSeq b, layout := imgLayout b, variant := 0, secs := imgSecs b }
  | none => { imageId := imgId b, overlayId := 0, seq := imgSeq b, layout := imgLayout b, variant := 0, secs := imgSecs b }

/-- Orders 1 to 7: the code of the first failure. -/
def State.headCheck (s : State) (b : List Byte) (base : Option (List Byte)) : Option Nat :=
  if fieldAt b 0 4 ≠ 0x49534E5A then some 0x01
  else if fieldAt b 4 2 ≠ 1 ∨ fieldAt b 6 2 ≠ 64 ∨ fieldAt b 44 4 ≠ 64 then some 0x02
  else match imgGeometry b with
    | none => some 0x03
    | some t =>
      if fieldAt b t 4 ≠ 0x4749535A then some 0x01
      else if !zeroAt b 38 2 ∨ !zeroAt b 56 8 ∨ 1 < imgKind b ∨ 2 < imgLayout b ∨ imgId b = 0 ∨
          (imgKind b = 0 ∧ imgBase b ≠ 0) ∨ !zeroAt b (t + 4) 4 then some 0x0C
      else if fieldAt b 36 1 ≠ s.getF R.SYS_STEP F.SYS_STEP_CD_STEP ∨ fieldAt b 37 1 ≠ s.getF R.SYS_STEP F.SYS_STEP_HUB_STEP then
        some 0x08
      else match s.findKey (fieldAt b (t + 8) 8) with
        | none => some 0x04
        | some pk =>
          if !ed25519Verify pk (b.take (64 + 48 * imgCount b)) (slice b (t + 16) 64) then some 0x05
          else if imgSeq b < s.regN R.SEQ_FLOOR_LO then some 0x07
          else if imgKind b = 1 ∧ base.map imgId ≠ some (imgBase b) then some 0x11
          else none

/-- Verify an image; `base` is the active full image. The code and directory index of the first failure. -/
def State.verify (s : State) (b : List Byte) (base : Option (List Byte)) : Option (Nat × Nat) :=
  match s.headCheck b base with
  | some c => some (c, 0xFFFF)
  | none =>
    let dir := imgSecs b
    let c := cfgOf b base
    match (imgDir b).findIdx? (fun e => sha256 (slice b e.off e.len) != e.digest) with
    | some i => some (0x06, i)
    | none =>
      match sectionsCheck { s with img := { s.img with run := c } } ((imgDir b).map DirEnt.zero) [] dir 0 with
      | some f => some f
      | none =>
        if (secFind c.secs 1 0).isNone then some (0x0D, 0xFFFF)
        else match crossCheck (mergedDir (if imgKind b = 1 then (base.map imgSecs).getD [] else []) dir) c with
          | some f => some f
          | none =>
            match base, imgKind b with
            | some f, 1 =>
              let e := (secFind (imgSecs f) 1 0).getD []
              epochCheck dir (fieldAt e 0 4) (fieldAt e 8 4)
            | _, _ => epochCheck dir (c.epochField 0) (c.epochField 1)

end Sys2Proof.Machine
end

