-- ==== Sys2Proof/Machine/Apply.lean ====
section
/-! DEFINITION. What a register value does when it takes force: at once for live fields, at a commit for epoch fields (R573), and
the effect of a write by the engineer role that an image or a settings record makes (R80, R552). -/

namespace Sys2Proof.Machine

/-- Change the host-access record. -/
def State.modHost (s : State) (f : HostSt → HostSt) : State := { s with host := f s.host }

/-- Put an epoch-class write into its shadow; the latest write of a register is the one kept (R573). -/
def State.putShadow (s : State) (a m v : Nat) : State :=
  s.modHost (fun h => { h with shadows := h.shadows.filter (fun e => e.1 != a) ++ [(a, m, v)] })

/-- Bits `m` of the register at `a` take the value `v`. -/
def State.mergeReg (s : State) (a m v : Nat) : State := s.setRegN a (mergeBits m v (s.regN a))

/-- A refused setpoint write counts as a rejected command (R528). -/
def State.setpointWrite (s : State) (p v : Nat) : State :=
  if s.setpointOk p v then s.setPair (R.SETPOINT_LO p) v
  else (s.inc R.CMD_REJ_CNT).raise R.ALM_ERR F.ALM_ERR_CMD_REJECT

/-- Grain of a GCTRL address, as a key. -/
def gctrlKey (a : Nat) : Option Nat :=
  if 0x1101018 ≤ a ∧ a < 0x2000000 ∧ (a - 0x1101018) % 0x400000 % 128 = 0 ∧ (a - 0x1101018) % 0x400000 / 128 < 384 then
    some (384 * ((a - 0x1101018) / 0x400000) + (a - 0x1101018) % 0x400000 / 128)
  else none

/-- An epoch-class value takes force at the commit of epoch `n`: bits `m` of the register at `a` become `v`. A PW register is
named by its low address. -/
def State.takeReg (s : State) (n a m v : Nat) : State :=
  if isPw a then
    match idxOf a (R.AO_CMD_LO 0) 16 64 with
    | some o => (s.setPair a v).aoWrite o v
    | none => match idxOf a (R.SETPOINT_LO 0) 4096 8 with
      | some p => s.setpointWrite p v
      | none => if a = R.DO_CMD_LO then (s.setPair a v).setPair R.DO_COMMITTED_LO v else s.setPair a v
  else if a = R.REC_CMD then s.modR (fun r => { r with reconfig := true })
  else if a = R.TRIM_CMD then s.trimCmd 2 v
  else if a = R.RADIO_CMD then s.radioCmd v
  else if a = R.LD_MSG_CMD then s.ldMsgCmd v
  else match gctrlKey a with
    | some k => if bitOf v 0 then { s with grains := { s.grains with retire := s.grains.retire ++ [k] } } else s
    | none => match idxOf a (R.AI_CFG 0) 32 64 with
      | some c => (s.mergeReg a m v).aiCfgChanged c (s.boundary (n + 1))
      | none => s.mergeReg a m v

/-- What writing a modem register does besides its value: AFC values and the mask inhibit (R492, R495). -/
def State.noteWritten (s : State) (a : Nat) : State :=
  if a = R.RADIO_CFG then s.radioWritten true true
  else if a = R.RADIO_MISC then s.radioWritten true false
  else if (idxOf a (R.RADIO_FIR 0) 4 4).isSome then s.radioWritten false true
  else s

/-- A stopped-class write was ignored (R573). -/
def State.classReject (s : State) (a : Nat) : State :=
  ((s.inc R.CLASS_REJECT_CNT).raise R.HOSTIF_ERR F.HOSTIF_ERR_CLASS).badClass a

/-- Whether a write of `v` would change a stopped field of a running block, or names a register that is stopped as a whole. -/
def State.stoppedHit (s : State) (a v : Nat) : Bool :=
  let sb := stoppedBits a
  sb != 0 && s.blockRuns a &&
    (epochBits a == 0 || Nat.land v sb != Nat.land (s.regN a) sb)

/-- The live fields of a checked write, and its stopped fields in a block that does not run, take the value. -/
def State.fieldsTaken (s : State) (a v : Nat) : State :=
  let sb := if s.blockRuns a then 0 else stoppedBits a
  let s := if sb = 0 then s else s.mergeReg a sb v
  if liveBits a = 0 then s else s.mergeReg a (liveBits a) v

/-- The live and stopped fields of a checked write take force; epoch fields go where `k` puts them. -/
def State.writeFields (s : State) (a v : Nat) (k : State → Nat → Nat → State) : State :=
  let hit := s.stoppedHit a v
  let s := (s.noteWritten a).fieldsTaken a v
  let s := if epochBits a = 0 then s else k s (epochBits a) v
  if hit then s.classReject a else s

/-- A pair of register words written together: PW value, or both halves of a 64-bit RW pair. -/
def State.writePairFields (s : State) (a lo hi : Nat) (k : State → Nat → Nat → Nat → State) : State :=
  if isPw a then
    if epochBits a = 0 then s.setPair a lo else k s a 0xFFFFFFFF lo
  else (s.writeFields a lo (fun s m v => k s a m v)).writeFields (a + 4) hi (fun s m v => k s (a + 4) m v)

/-- The words of one register record of a REGSET that takes force at the commit of epoch `n`, in order. -/
def State.regsetWords (n : Nat) : Nat → List Nat → State → State
  | _, [], s => s
  | a, [v], s => s.writeFields a v (fun s m v => s.takeReg n a m v)
  | a, v :: w :: t, s =>
    if isLow a then State.regsetWords n (a + 8) t (s.writePairFields a v w (fun s a m v => s.takeReg n a m v))
    else State.regsetWords n (a + 4) (w :: t) (s.writeFields a v (fun s m v => s.takeReg n a m v))
/-- A REGSET section applies (R80). -/
def State.applyRegset (s : State) (n : Nat) (x : Sec) : State :=
  ((regRecords x.body.length x.body).getD []).foldl
    (fun s r => State.regsetWords n (x.target % 65536 * 65536 + r.1) r.2.2 s) s

end Sys2Proof.Machine
end

