-- ==== Sys2Proof/Machine/Pair.lean ====
section
/-! DEFINITION. The redundant pair: token and lease, the arbiter, the cable link, health, mirroring, switch-over and
resynchronisation (12_redundant_pair.md). What a commit does for the pair stands in Commit.lean. -/

namespace Sys2Proof.Machine

/-- Change the pair record. -/
def State.modPair (s : State) (f : PairSt → PairSt) : State := { s with pair := f s.pair }
/-! ### The unit's own registers -/

/-- LEASE_MS in ns. -/
def State.leaseNs (s : State) : Nat := s.getF R.LEASE_CFG F.LEASE_CFG_LEASE_MS * 1000000
/-- HANDOVER_TO in ns. -/
def State.handoverNs (s : State) : Nat := s.getF R.LEASE_CFG F.LEASE_CFG_HANDOVER_TO * 1000000
/-- EXPIRES. -/
def State.expires (s : State) : Nat := s.reg64 R.EXPIRES_LO
/-- GEN of a token value. -/
def genOf (t : Nat) : Nat := t % 2 ^ 24
/-- GEN of TOKEN. -/
def State.gen (s : State) : Nat := genOf (s.regN R.TOKEN_LO)
/-- Serial of the partner. -/
def State.partner (s : State) : Nat := s.reg64 R.PARTNER_LO
/-- Serial of the arbiter. -/
def State.arbiter (s : State) : Nat := s.reg64 R.ARBITER_LO
/-- Whether the cable link is UP. -/
def State.cableUp (s : State) : Bool := s.flag R.PAIR_STATUS F.PAIR_STATUS_CABLE_UP
/-- The pair's level in the image in force. -/
def State.full (s : State) : Bool := s.img.run.fullLevel
/-- Whether the unit runs its own programs: SINGLE or ACTIVE (Table 12.2). -/
def State.ownPrograms (s : State) : Bool := s.pairState == 0 || s.pairState == 5

/-- CONFIG (Table 10.6): VARIANT_ID, degraded, quarters active. -/
def State.configWord (s : State) : Nat :=
  s.img.run.variant + 8 * s.getF R.REC_STATUS F.REC_STATUS_DEGRADED + 16 * (s.activeQs.map (2 ^ ·)).sum
/-- LAG (R368). -/
def State.lag (s : State) : Nat := if s.pairState = 5 then 0 else s.pair.lagEpoch - s.reg64 R.MIRROR_EPOCH_LO
/-- MAX_LAG. -/
def State.maxLag (s : State) : Nat := s.getF R.SYNC_CFG F.SYNC_CFG_MAX_LAG

/-- Whether the partner's images differ (Table 12.6). -/
def State.imagesDiffer (s : State) : Bool :=
  match s.pair.peer with
  | some (a, o, _) => a != s.img.run.imageId || o != s.img.run.overlayId
  | none => false
/-- REPLAY_OK; at SELECTED level there is nothing to replay and the bit is set (DEDUCED, log entry 17). -/
def State.replayOk (s : State) : Bool :=
  if !s.full || s.pairState == 5 then true
  else match s.pair.peer with
    | some (_, _, c) => !s.imagesDiffer && c % 8 == s.img.run.variant && !s.stoppedByLoss
    | none => false
/-- Whether every bank now eligible for the march test has been tested since SYNCING was left. -/
def State.cycleDone (s : State) : Bool :=
  s.pairState == 3 && allQ.all (fun q => (List.range 384).all (fun k =>
    !s.eligible q (k / 4) (k % 4) || s.pair.tested.contains (384 * q + k)))

/-- The health word (Table 12.6). -/
def State.healthWord (s : State) : Nat :=
  b2n ((s.pairState == 3 && Nat.ble s.lag s.maxLag) || s.pairState == 5) + 2 * b2n s.replayOk + 4 * b2n s.pair.march +
  8 * b2n s.pair.loopF + 16 * b2n s.pair.adc + 32 * b2n (!s.time.short.isEmpty) +
  64 * s.getF R.REC_STATUS F.REC_STATUS_DEGRADED + 128 * s.getF R.REC_STATUS F.REC_STATUS_UNRECOVERABLE +
  256 * b2n s.imagesDiffer + 512 * b2n s.cycleDone + 2 ^ 16 * min s.lag 255 + 2 ^ 24 * s.pairState
/-- R375: SYNC and REPLAY_OK set, none of [8:2]. -/
def healthyWord (w : Nat) : Bool := bitOf w 0 && bitOf w 1 && bitsOf w 8 2 == 0

/-- HEALTH_SELF, HEALTHY_SELF and LAG brought up to date. -/
def State.setHealth (s : State) : State :=
  if s.pairState = 0 then s
  else
    let w := s.healthWord
    let s := (s.setRegN R.HEALTH_SELF w).setF R.PAIR_STATUS F.PAIR_STATUS_HEALTHY_SELF (b2n (healthyWord w))
    s.setF R.PAIR_STATUS F.PAIR_STATUS_LAG (min s.lag 255)
/-- The partner's health word arrives. -/
def State.partnerHealth (s : State) (w : Nat) : State :=
  (s.setRegN R.HEALTH_PARTNER w).setF R.PAIR_STATUS F.PAIR_STATUS_HEALTHY_PARTNER (b2n (healthyWord w))
/-- STATE of the partner as last reported. -/
def State.partnerState (s : State) : Nat := bitsOf (s.regN R.HEALTH_PARTNER) 26 24
/-- Whether the partner last reported itself healthy. -/
def State.partnerHealthy (s : State) : Bool := s.flag R.PAIR_STATUS F.PAIR_STATUS_HEALTHY_PARTNER

/-! ### Sending (Tables 12.3 and 12.5) -/

/-- A PAIR or ARBITER payload. -/
def pairPayload (sub reason id sender token expires epoch health : Nat) : List Byte :=
  leBytes 1 sub ++ leBytes 1 reason ++ [0#8, 0#8] ++ leBytes 4 id ++ leBytes 8 sender ++ leBytes 8 (pairWord token) ++
  leBytes 8 expires ++ leBytes 8 epoch ++ leBytes 8 (pairWord health)
/-- The MAC address known for a serial. -/
def State.macOf (s : State) (serial : Nat) : Option Nat := kvFind serial s.pair.macs
/-- The unit sends a PAIR (0x30) or ARBITER (0x31) frame. -/
def State.pairSend (s : State) (typ sub reason expires : Nat) : State :=
  let p := pairPayload sub reason (s.regN R.PAIR_ID) s.serial (s.regN R.TOKEN_LO) expires (s.reg64 R.COMMIT_EPOCH_LO)
    (s.regN R.HEALTH_SELF)
  match s.macOf (if typ = 0x30 then s.partner else s.arbiter) with
  | some m => s.originate typ m false p
  | none => if typ = 0x31 then s.originate typ groupMac false p else s

/-- A cable frame with its SEQ; the last 256 stand by for a resend (R363). -/
def State.cableSend (s : State) (typ epoch : Nat) (p : List Byte) : State :=
  if !s.cableUp then s
  else
    let b := leBytes 1 typ ++ [0#8] ++ leBytes 2 p.length ++ leBytes 4 s.pair.txSeq ++ leBytes 8 epoch ++ p
    let b := b ++ leBytes 4 (crc32c b)
    (s.send 7 typ 0 b).modPair (fun x => { x with
      txSeq := (x.txSeq + 1) % 2 ^ 32
      sentFrames := ((x.txSeq, 1, b) :: x.sentFrames).take 256
      lastSend := s.now })
/-- Cable frames of a list of TYPE and payload. -/
def State.cableAll (s : State) (epoch : Nat) (fs : List (Nat × List Byte)) : State :=
  fs.foldl (fun s f => s.cableSend f.1 epoch f.2) s
/-- TOKEN and EXPIRES as carried on the cable. -/
def tokenBytes (t e : Nat) : List Byte := leBytes 8 (pairWord t) ++ leBytes 8 e
/-- The health report of Table 12.7. -/
def State.healthReport (s : State) : List Byte :=
  leBytes 8 (s.reg64 R.COMMIT_EPOCH_LO) ++ leBytes 8 (pairWord (s.regN R.HEALTH_SELF)) ++
  leBytes 8 (if s.pairState = 5 then s.reg64 R.COMMIT_EPOCH_LO else s.reg64 R.MIRROR_EPOCH_LO) ++
  leBytes 8 s.img.run.imageId ++ leBytes 8 s.img.run.overlayId ++ leBytes 8 (pairWord s.configWord) ++
  leBytes 4 (s.regN R.CAPACITY) ++ copies 12 0#8

/-! ### States and the lease (R353 to R357) -/

/-- Enter a pair state. -/
def State.toPair (s : State) (v : Nat) : State := (s.setF R.PAIR_STATUS F.PAIR_STATUS_STATE v).setHealth

/-- A renewal: over the cable, and on the chain when `chain` says so. The EXPIRES register keeps the confirmed expiry. -/
def State.renew (s : State) (chain : Bool) : State :=
  let e := s.now + s.leaseNs
  let s := s.cableSend 0x02 (s.reg64 R.COMMIT_EPOCH_LO) (tokenBytes (s.regN R.TOKEN_LO) e)
  if chain then (s.pairSend 0x31 1 0 e).pairSend 0x30 1 0 e else s

/-- LEASE_RENEW. -/
def State.leaseRenew (s : State) : State := if s.holdsToken && !s.rcv.dead then s.renew true else s

/-- The holder is fenced (R356). -/
def State.fence (s : State) : State :=
  if !s.holdsToken then s
  else
    let s := (s.raise R.PAIR_ERR F.PAIR_ERR_FENCED).inc R.FENCE_CNT
    let s := s.modPair (fun x => { x with armed := false, switchAsk := none, handover := none, reason := 0 })
    let s := s.toPair 7
    if 1 ≤ s.time.phase then s.modR (fun r => { r with stop := some .fenced }) else s

/-- CONFIRMED_EXPIRY by `t`. -/
def State.confirmedExpiry (s : State) (t : Nat) : State :=
  if s.holdsToken ∧ s.expires ≤ t then (s.at t).fence else s

/-- Whether a unit may ask for the token now (R357). -/
def State.mayRequest (s : State) : Bool :=
  (s.pairState == 1 || s.pairState == 2 || s.pairState == 3 || s.pairState == 7) &&
  !s.flag R.PAIR_STATUS F.PAIR_STATUS_DETACH_HELD
/-- A REQUEST for a REASON; 0 sends none. -/
def State.request (s : State) (reason : Nat) : State :=
  if reason = 0 ∨ !s.mayRequest then s
  else (s.modPair (fun x => { x with reason := reason })).pairSend 0x31 3 reason (s.now + s.leaseNs)

/-- LEASE_EXPIRED_REQUEST by `t`: 2 ms past the latest EXPIRES received. -/
def State.leaseExpired (s : State) (t : Nat) : State :=
  if s.mayRequest ∧ s.pair.reason = 0 ∧ s.expires ≠ 0 ∧ s.expires + 2000000 ≤ t then (s.at t).request 1 else s
/-- BRINGUP_REQUEST by `t`: 102 ms after the ports became ready without a RENEW. -/
def State.bringupRequest (s : State) (t : Nat) : State :=
  if s.mayRequest ∧ s.pair.reason = 0 ∧ s.portsUp ∧ !s.pair.gotRenew ∧ s.pair.portsT + 102000000 ≤ t then (s.at t).request 3
  else s
/-- REQUEST_REPEAT. -/
def State.requestRepeat (s : State) : State := s.request s.pair.reason
/-- HEALTH_SEND, from a unit without the token. -/
def State.healthSend (s : State) : State :=
  if s.pairState = 0 ∨ s.holdsToken then s
  else (s.setHealth.pairSend 0x31 10 0 0).pairSend 0x30 10 0 0

/-! ### Stopping a replay; entering SYNCING -/

/-- A replay in progress ends without its results. -/
def State.dropReplay (s : State) : State :=
  if s.pair.replay.isSome then s.undoEpoch.modPair (fun x => { x with replay := none }) else s
/-- The unit leaves the replay and forgets what it has received. -/
def State.forget (s : State) : State :=
  s.dropReplay.modPair (fun x => { x with
    records := []
    snapDone := false
    replayed := none
    tested := []
    reason := 0
    granted := false
    handover := none
    armed := false })
/-- SYNCING begins with RESYNC_REQ (R383). -/
def State.startSync (s : State) : State :=
  ((s.forget.toPair 2).cableSend 0x40 (s.reg64 R.COMMIT_EPOCH_LO) []).setHealth
/-- DETACHED. A REQUEST that stands is kept; records that are whole are kept too (R353, Table 12.11). -/
def State.detachNow (s : State) : State := (s.dropReplay.modPair (fun x => { x with granted := false })).toPair 1

/-- What the cable, the partner's state and DETACH ask of a unit without the token (Table 12.2). -/
def State.pairFollow (s : State) : State :=
  let held := s.flag R.PAIR_STATUS F.PAIR_STATUS_DETACH_HELD
  let act := s.partnerState == 5
  match s.pairState with
  | 1 => if s.cableUp && act && !held then s.startSync else s
  | 7 => if s.cableUp && act then s.startSync else s
  | 2 =>
    if !s.cableUp || !act || held then s.detachNow
    else if s.pair.snapDone && Nat.ble s.lag s.maxLag then s.toPair 3
    else s.setHealth
  | 3 =>
    if !s.cableUp || held then s.detachNow
    else if s.maxLag < s.lag then (s.raise R.PAIR_ERR F.PAIR_ERR_LAG).startSync
    else s.setHealth
  | _ => s

/-! ### Outputs of the new active (R377, R379, R380) -/

/-- Whether every output that is commanded on is on. -/
def State.allOn (s : State) : Bool :=
  (List.range 16).all (fun o => bitsOf (nth s.committed o 0#64).toNat 17 16 == 3 || Nat.ble 2 (nth s.car.aoSt o 0)) &&
  (List.range 32).all (fun i => !bitOf (nth s.committed 16 0#64).toNat i || Nat.ble 2 (s.doSt i))
/-- ACTIVE: programs launch at the next boundary. -/
def State.becomeActive (s : State) : State :=
  let s := if s.pair.cause = 0 then s else (s.inc R.SWITCH_CNT).setRegN R.LAST_SWITCH s.pair.cause
  (s.modPair (fun x => { x with armed := false, reason := 0, handover := none, cause := 0 })).toPair 5
/-- An armed unit becomes ACTIVE once every output is on. -/
def State.pairOn (s : State) : State := if s.pairState = 4 ∧ s.pair.armed = true ∧ s.allOn = true then s.becomeActive else s
/-- ARM_STUCK by `t` (R380): HANDOVER_TO after arming an output has seen no release. -/
def State.armStuck (s : State) (t : Nat) : State :=
  if s.pairState = 4 ∧ s.pair.armed ∧ s.pair.armT + s.handoverNs ≤ t ∧ !s.allOn then
    ((s.at t).raise R.PAIR_ERR F.PAIR_ERR_ARM_STUCK).becomeActive
  else s

/-- The cause LAST_SWITCH will show, from the reason of the grant. -/
def State.grantCause (s : State) : Nat :=
  match s.pair.reason with
  | 1 => if s.partnerState = 7 then 7 else 4
  | 3 => 0
  | 4 => s.pair.cause
  | _ => s.pair.cause

/-- TAKING with a token and its expiry. -/
def State.take (s : State) (token e : Nat) : State :=
  let s := if s.pairState = 1 ∨ s.pairState = 2 then s.raise R.PAIR_ERR F.PAIR_ERR_TAKE_UNSYNCED else s
  let c := s.grantCause
  let s := (s.dropReplay.setPair R.TOKEN_LO token).setReg64 R.EXPIRES_LO e
  (s.modPair (fun x => { x with
    armed := false
    granted := false
    cause := c
    fresh := true
    switchAsk := none })).toPair 4

/-! ### Chain messages to a unit -/

/-- Deliver a PAIR or ARBITER frame of a SUB with its payload once its form and pair words have been checked (R317, R326). -/
def State.pairIn (s : State) (typ sub : Nat) (f : RcpFrame) (k : State → List Byte → State) : State :=
  let (del, s) := s.rcpIn typ f
  let p := f.payload
  if !del then s
  else if p.length ≠ 48 ∨ fieldAt p 0 1 ≠ sub ∨ fieldAt p 2 2 ≠ 0 then s.badFrame
  else if !isPairWord (fieldAt p 16 8) || !isPairWord (fieldAt p 40 8) then s.pwFrame
  else k (s.modPair (fun x => { x with macs := kvPut (fieldAt p 8 8) f.src x.macs })) p
/-- Whether a payload is this pair's and comes from `sender`. -/
def State.ofPair (s : State) (p : List Byte) (sender : Nat) : Bool :=
  s.pairState != 0 && fieldAt p 4 4 == s.regN R.PAIR_ID && fieldAt p 8 8 == sender
/-- TOKEN of a payload. -/
def payToken (p : List Byte) : Nat := fieldAt p 16 4
/-- EXPIRES of a payload. -/
def payExpires (p : List Byte) : Nat := fieldAt p 24 8
/-- HEALTH of a payload. -/
def payHealth (p : List Byte) : Nat := fieldAt p 40 4

/-- A unit without the token learns a renewal: token, expiry, last committed epoch. -/
def State.learn (s : State) (token e epoch : Nat) : State :=
  let s := if s.pair.highGen ≤ genOf token then
      ((s.setPair R.TOKEN_LO token).setReg64 R.EXPIRES_LO e).modPair (fun x => { x with
        highGen := genOf token
        lagEpoch := epoch
        reason := if x.reason = 1 ∨ x.reason = 3 then 0 else x.reason })
    else s
  s.modPair (fun x => { x with gotRenew := true })

/-- PAIR_RENEW. -/
def State.pairRenew (s : State) (f : RcpFrame) : State :=
  s.pairIn 0x30 1 f (fun s p =>
    if !s.ofPair p s.partner ∨ s.holdsToken then s
    else ((s.learn (payToken p) (payExpires p) (fieldAt p 32 8)).partnerHealth (payHealth p)).pairFollow)

/-- The arbiter has answered. -/
def State.arbSeen (s : State) : State := s.modPair (fun x => { x with arbT := s.now })
/-- A renewal of the token held is confirmed up to `e`. -/
def State.confirmTo (s : State) (token e : Nat) : State :=
  if s.holdsToken ∧ genOf token = s.gen then s.setReg64 R.EXPIRES_LO (max s.expires e) else s
/-- CONFIRM from the arbiter. -/
def State.confirmIn (s : State) (f : RcpFrame) : State :=
  s.pairIn 0x31 2 f (fun s p => if s.ofPair p s.arbiter then s.arbSeen.confirmTo (payToken p) (payExpires p) else s)

/-- GRANT. A handover grant waits until its record has been applied; a releasing unit is ACTIVE again. -/
def State.grantIn (s : State) (f : RcpFrame) : State :=
  s.pairIn 0x31 4 f (fun s p =>
    if !s.ofPair p s.arbiter then s
    else
      let s := s.arbSeen.modPair (fun x => { x with highGen := max x.highGen (genOf (payToken p)) })
      match s.pairState with
      | 6 =>
        let s := (s.setPair R.TOKEN_LO (payToken p)).setReg64 R.EXPIRES_LO (payExpires p)
        ((s.modIo (fun io => { io with frozen := none })).modPair (fun x => { x with handover := none, cause := 0 })).toPair 5
      | 0 => s
      | 4 => s
      | 5 => s
      | _ =>
        if s.pairState = 3 ∧ s.pair.handover.isSome then
          let s := (s.setPair R.TOKEN_LO (payToken p)).setReg64 R.EXPIRES_LO (payExpires p)
          s.modPair (fun x => { x with granted := true })
        else s.take (payToken p) (payExpires p))

/-- DENY. -/
def State.denyIn (s : State) (f : RcpFrame) : State :=
  s.pairIn 0x31 5 f (fun s p =>
    if !s.ofPair p s.arbiter then s
    else
      let r := fieldAt p 1 1
      let s := s.arbSeen.raise R.PAIR_ERR F.PAIR_ERR_DENIED
      if s.holdsToken then (if r = 3 then s.fence else s)
      else if s.pairState = 6 then
        ((s.modIo (fun io => { io with frozen := none })).modPair (fun x => { x with handover := none, cause := 0 })).toPair 1
      else if r = 2 then s
      else s.modPair (fun x => { x with reason := 0 }))

/-- The unit is charged with a late-found fault (R302, R373). -/
def State.lateFound (s : State) : State := s.unrecoverable 0 11 0 0
/-- DECISION (R373, R361). -/
def State.decisionIn (s : State) (f : RcpFrame) : State :=
  s.pairIn 0x31 8 f (fun s p =>
    if !s.ofPair p s.arbiter then s
    else
      let sw := fieldAt p 1 1 == 2
      let sus := s.flag R.PAIR_STATUS F.PAIR_STATUS_SUSPECT
      let own := s.pair.suspect
      let s := (s.drop R.PAIR_STATUS F.PAIR_STATUS_SUSPECT).modPair (fun x => { x with suspect := none })
      let c := if sus then 3 else 6
      if s.pairState = 5 then
        let s := if sus ∧ (sw ∨ own ≠ some true) then s.lateFound else s
        (if sw then s.modPair (fun x => { x with switchAsk := some c }) else s).setHealth
      else if sw then (s.modPair (fun x => { x with cause := c })).request 4
      else if sus then
        let s := s.lateFound
        if s.pairState = 3 then s.startSync else s.setHealth
      else s)

/-- HEALTH on the chain from the partner, a PAIR frame. -/
def State.pairHealthIn (s : State) (f : RcpFrame) : State :=
  s.pairIn 0x30 10 f (fun s p =>
    if s.ofPair p s.partner then (s.partnerHealth (payHealth p)).pairFollow else s)

/-! ### The arbiter (R358 to R361, R373) -/

/-- Entry `k`. -/
def State.arb (s : State) (k : Nat) : ArbSt := nth s.pair.arbs k ArbSt.zero
/-- Change entry `k`. -/
def State.modArb (s : State) (k : Nat) (f : ArbSt → ArbSt) : State :=
  s.modPair (fun x => { x with arbs := setNth x.arbs k (f (nth x.arbs k ArbSt.zero)) })
/-- Serials of a pair's members. -/
def State.members (s : State) (k : Nat) : List Nat := [s.reg64 (R.ARB_UNIT0_LO k), s.reg64 (R.ARB_UNIT1_LO k)]
/-- Entry and unit number for a PAIR_ID and a sender. -/
def State.arbFind (s : State) (id sender : Nat) : Option (Nat × Nat) :=
  match (List.range 8).find? (fun k => id != 0 && s.regN (R.ARB_PAIR_ID k) == id && (s.members k).contains sender) with
  | some k => some (k, (s.members k).findIdx (fun x => x == sender))
  | none => none
/-- The arbiter's token for a pair. -/
def State.arbToken (s : State) (k : Nat) : Nat := s.regN (R.ARB_TOKEN_LO k)
/-- FREE. -/
def State.arbFree (s : State) (k : Nat) : Bool := bitOf (s.arbToken k) 25
/-- HOLDER. -/
def State.arbHolder (s : State) (k : Nat) : Nat := bitsOf (s.arbToken k) 24 24
/-- PREF. -/
def State.arbPref (s : State) (k : Nat) : Nat := s.getF (R.ARB_FLAGS k) F.ARB_FLAGS_PREF
/-- The arbiter's EXPIRES. -/
def State.arbExpires (s : State) (k : Nat) : Nat := s.reg64 (R.ARB_EXPIRES_LO k)
/-- The arbiter answers a unit of pair entry `k`. -/
def State.arbSend (s : State) (k sub reason dst : Nat) : State :=
  s.originate 0x31 dst false (pairPayload sub reason (s.regN (R.ARB_PAIR_ID k)) s.serial (s.arbToken k) (s.arbExpires k)
    (s.reg64 R.COMMIT_EPOCH_LO) (s.regN R.HEALTH_SELF))
/-- DENY to a node that is no member, or from an arbiter that is disabled. -/
def State.denyOther (s : State) (p : List Byte) (reason dst : Nat) : State :=
  s.originate 0x31 dst false (pairPayload 5 reason (fieldAt p 4 4) s.serial 0 0 (s.reg64 R.COMMIT_EPOCH_LO) (s.regN R.HEALTH_SELF))
/-- Whether the arbiter role is on. -/
def State.arbEn (s : State) : Bool := s.flag R.ARB_CTRL F.ARB_CTRL_ARB_EN

/-- A frame to the arbiter: its entry and unit are found, or it is discarded. -/
def State.arbIn (s : State) (sub : Nat) (f : RcpFrame) (k : State → Nat → Nat → List Byte → State) : State :=
  s.pairIn 0x31 sub f (fun s p =>
    if !s.arbEn then s
    else match s.arbFind (fieldAt p 4 4) (fieldAt p 8 8) with
      | some (i, u) =>
        k (s.modArb i (fun a => { a with health := if sub = 1 ∨ sub = 10 then setNth a.health u (payHealth p) else a.health })) i u p
      | none => s)

/-- DECISION to both units (Table 12.9, R361). -/
def State.decide (s : State) (k reason : Nat) : State :=
  let s := (s.members k).foldl (fun s m => s.arbSend k 8 reason ((s.macOf m).getD groupMac)) s
  s.modArb k (fun a => { a with results := [none, none], resT := none })
/-- With ARB_AUTO, an unfit holder and a healthy partner, both by their latest health words, give DECISION switch (R361). -/
def State.arbAuto (s : State) (k : Nat) : State :=
  let h := s.arbHolder k
  let w := nth (s.arb k).health h 0
  if s.flag R.ARB_CTRL F.ARB_CTRL_ARB_AUTO ∧ (bitOf w 6 ∨ bitOf w 7) ∧ healthyWord (nth (s.arb k).health (1 - h) 0) then s.decide k 2
  else s

/-- RENEW, whose health word counts for R361 too (R355, R359, R360). -/
def State.renewIn (s : State) (f : RcpFrame) : State :=
  s.arbIn 1 f (fun s k _ p =>
    let put (s : State) : State := s.setReg64 (R.ARB_EXPIRES_LO k) (payExpires p)
    if (s.arb k).quar then
      let s := (put (s.setPair (R.ARB_TOKEN_LO k) (payToken p))).modArb k (fun a => { a with quar := false })
      (s.arbSend k 2 0 f.src).arbAuto k
    else if genOf (payToken p) = genOf (s.arbToken k) then ((put s).arbSend k 2 0 f.src).arbAuto k
    else if genOf (payToken p) < genOf (s.arbToken k) then s.arbSend k 5 3 f.src
    else s)

/-- A grant of pair `k` to unit `u` (R358). -/
def State.arbGrant (s : State) (k u e dst : Nat) : State :=
  let s := (s.setPair (R.ARB_TOKEN_LO k) ((genOf (s.arbToken k) + 1) % 2 ^ 24 + 2 ^ 24 * u)).setReg64 (R.ARB_EXPIRES_LO k) e
  (s.modArb k (fun a => { a with released := false, firstReq := none, prefAsked := false, holdoffOver := false })).arbSend k 4 0 dst

/-- Whether a REQUEST is granted (R358). A reservation that has run out leaves the token FREE for either unit. -/
def State.arbMay (s : State) (k u reason : Nat) : Bool :=
  let a := s.arb k
  if s.arbFree k then
    if a.released && (reason == 2 && a.releaser == some (1 - u)) then true
    else if a.released && Nat.blt s.now a.reserve then false
    else u == s.arbPref k || (!a.prefAsked && (a.holdoffOver || (match a.firstReq with
      | some t => Nat.ble (t + s.getF R.ARB_CTRL F.ARB_CTRL_ARB_HOLDOFF * 10000000) s.now
      | none => false)))
  else Nat.ble (s.arbExpires k + 2000000) s.now

/-- REQUEST (R358, R360). -/
def State.requestIn (s : State) (f : RcpFrame) : State :=
  s.pairIn 0x31 3 f (fun s p =>
    let mine := f.dst != groupMac
    if !s.arbEn then (if mine then s.denyOther p 5 f.src else s)
    else match s.arbFind (fieldAt p 4 4) (fieldAt p 8 8) with
      | none => s.denyOther p 4 f.src
      | some (k, u) =>
        if (s.arb k).quar then s.arbSend k 5 2 f.src
        else
          let s := s.modArb k (fun a => { a with
            firstReq := if a.firstReq.isSome then a.firstReq else some s.now
            prefAsked := a.prefAsked || u == s.arbPref k })
          if s.arbMay k u (fieldAt p 1 1) then s.arbGrant k u (payExpires p) f.src else s.arbSend k 5 1 f.src)

/-- RELEASE of the current GEN by the holder (R359). -/
def State.releaseIn (s : State) (f : RcpFrame) : State :=
  s.arbIn 6 f (fun s k u p =>
    if genOf (payToken p) = genOf (s.arbToken k) ∧ s.arbHolder k = u ∧ !s.arbFree k then
      (s.setPair (R.ARB_TOKEN_LO k) (genOf (s.arbToken k) + 2 ^ 24 * u + 2 ^ 25)).modArb k (fun a => { a with
        released := true
        releaser := some u
        reserve := payExpires p
        firstReq := none
        prefAsked := false
        holdoffOver := false })
    else s)

/-- RECLAIM (R359). -/
def State.reclaimIn (s : State) (f : RcpFrame) : State :=
  s.arbIn 9 f (fun s k u p =>
    if (s.arb k).releaser = some u ∧ (s.arbFree k ∨ s.arbExpires k + 2000000 ≤ s.now) then s.arbGrant k u (payExpires p) f.src
    else s.arbSend k 5 3 f.src)

/-- The decision of R373 on the results at hand; a missing one is a failure. -/
def State.decideNow (s : State) (k : Nat) : State :=
  let h := s.arbHolder k
  let ok (u : Nat) : Bool := nth (s.arb k).results u none == some true
  s.decide k (if !ok h && ok (1 - h) then 2 else 1)
/-- SUSPECT. -/
def State.suspectIn (s : State) (f : RcpFrame) : State :=
  s.arbIn 7 f (fun s k u p =>
    let s := s.modArb k (fun a => { a with
      results := setNth a.results u (some (fieldAt p 1 1 == 1))
      resT := if a.resT.isSome then a.resT else some s.now })
    if (s.arb k).results.all Option.isSome then s.decideNow k else s)
/-- SUSPECT_DECISION_TIMEOUT of entry `k` by `t`. -/
def State.suspectTimeout (s : State) (k t : Nat) : State :=
  match (s.arb k).resT with
  | some t0 => if s.arbEn ∧ t0 + 3000000000 ≤ t then (s.at t).decideNow k else s
  | none => s
/-- HEALTH to the arbiter (R361). -/
def State.healthIn (s : State) (f : RcpFrame) : State := s.arbIn 10 f (fun s k _ _ => s.arbAuto k)
/-- ARB_QUARANTINE_END by `t` (R360). -/
def State.quarantineEnd (s : State) (t : Nat) : State :=
  if s.portsUp ∧ s.pair.portsT + 102000000 ≤ t then
    (s.at t).modPair (fun x => { x with arbs := x.arbs.map (fun a => { a with quar := false }) })
  else s
/-- ARB_HOLDOFF_EXPIRY of entry `k` by `t` (R358). -/
def State.holdoffExpiry (s : State) (k t : Nat) : State :=
  match (s.arb k).firstReq with
  | some t0 =>
    if t0 + s.getF R.ARB_CTRL F.ARB_CTRL_ARB_HOLDOFF * 10000000 ≤ t ∧ !(s.arb k).prefAsked then
      (s.at t).modArb k (fun a => { a with holdoffOver := true })
    else s
  | none => s

/-! ### The cable link (R363) -/

/-- CABLE_LINK_DOWN: `silent` ns without a valid frame, `sends` sends of the oldest unacknowledged frame. -/
def State.cableDown (s : State) (silent sends : Nat) : State :=
  if s.pairState ≠ 0 ∧ s.cableUp ∧ (2000000 ≤ silent ∨ 8 ≤ sends) then
    let s := (s.drop R.PAIR_STATUS F.PAIR_STATUS_CABLE_UP).raise R.PAIR_ERR F.PAIR_ERR_CABLE_DOWN
    (s.modPair (fun x => { x with sentFrames := [] })).pairFollow
  else s
/-- CABLE_LINK_UP: `valid` frames in sequence. -/
def State.cableLinkUp (s : State) (valid : Nat) : State :=
  if s.pairState ≠ 0 ∧ !s.cableUp ∧ 100 ≤ valid then (s.raise R.PAIR_STATUS F.PAIR_STATUS_CABLE_UP).pairFollow else s
/-- CABLE_RESEND of frame `seq`, unacknowledged for 20 µs; after the eighth send the link goes DOWN. -/
def State.cableResend (s : State) (seq : Nat) : State :=
  match s.pair.sentFrames.find? (fun f => f.1 == seq) with
  | none => s
  | some (_, n, b) =>
    if !s.cableUp then s
    else if 8 ≤ n then s.cableDown 0 n
    else (s.send 7 (fieldAt b 0 1) 0 b).modPair (fun x => { x with
      sentFrames := x.sentFrames.map (fun f => if f.1 == seq then (f.1, f.2.1 + 1, f.2.2) else f)
      lastSend := s.now })
/-- CABLE_IDLE_SEND at `t`: 10 µs without another frame. IDLE also leaves a link that is DOWN, to bring it UP. -/
def State.cableIdle (s : State) (t : Nat) : State :=
  if s.pairState = 0 ∨ t < s.pair.lastSend + 10000 then s
  else
    let s := s.at t
    if s.cableUp then s.cableSend 0x01 (s.reg64 R.COMMIT_EPOCH_LO) []
    else
      let b := leBytes 1 1 ++ copies 3 0#8 ++ leBytes 4 s.pair.txSeq ++ leBytes 8 (s.reg64 R.COMMIT_EPOCH_LO)
      (s.send 7 1 0 (b ++ leBytes 4 (crc32c b))).modPair (fun x => { x with txSeq := (x.txSeq + 1) % 2 ^ 32, lastSend := s.now })

/-- A pair word that crosses the cable wrongly (place code 7). -/
def State.cablePw (s : State) (w : Nat) (k : State → State) : State := if isPairWord w then k s else s.pwMismatch 7

/-- CABLE_RENEW with its TOKEN pair word, EXPIRES and frame EPOCH (R355, R356). -/
def State.cableRenew (s : State) (token expires epoch : Nat) : State :=
  if s.pairState = 0 ∨ !s.cableUp then s
  else s.cablePw token (fun s =>
    if s.holdsToken then (if s.gen < genOf token then s.fence else s)
    else if s.pair.highGen ≤ genOf token then
      let s := s.learn (token % 2 ^ 32) expires epoch
      (s.cableSend 0x03 (s.reg64 R.COMMIT_EPOCH_LO) (tokenBytes (token % 2 ^ 32) expires)).pairFollow
    else s)
/-- CABLE_CONFIRM. -/
def State.cableConfirm (s : State) (token expires : Nat) : State :=
  if s.pairState = 0 ∨ !s.cableUp then s else s.cablePw token (fun s => s.confirmTo (token % 2 ^ 32) expires)

/-- The partner's IDs and CONFIG; IMAGE_MISMATCH, and at FULL level the variant to follow (R374). A FULL-level standby whose IDs
agree again resynchronises. -/
def State.learnPeer (s : State) (act ovl cfg : Nat) : State :=
  let differed := s.imagesDiffer
  let s := s.modPair (fun x => { x with peer := some (act, ovl, cfg) })
  if s.imagesDiffer then (s.raise R.PAIR_ERR F.PAIR_ERR_IMAGE_MISMATCH).dropReplay
  else
    let s := if differed ∧ s.full ∧ s.pairState = 3 then s.startSync else s
    if s.full ∧ (s.pairState = 2 ∨ s.pairState = 3) ∧ cfg % 8 ≠ s.img.run.variant then
      s.modPair (fun x => { x with wantVariant := some (cfg % 8) })
    else s
/-- CABLE_HEALTH with the 64-byte report. -/
def State.cableHealth (s : State) (b : List Byte) : State :=
  let p := padTo 64 b
  if s.pairState = 0 ∨ !s.cableUp then s
  else s.cablePw (fieldAt p 8 8) (fun s => s.cablePw (fieldAt p 40 8) (fun s =>
    ((s.partnerHealth (fieldAt p 8 4)).learnPeer (fieldAt p 24 8) (fieldAt p 32 8) (fieldAt p 40 4)).pairFollow))

/-! ### Mirror records (R365, R389) -/

/-- A list cut into payloads of `n` elements. -/
def payloads {α : Type} (n : Nat) (l : List α) : List (List α) := chunks n l.length l
/-- Frames of a mirror record around its header: REC_CMDS, REC_LOG, REC_HUBSET, REC_BLOCKS and REC_END. A payload holds at most
9,200 bytes. -/
def recordFrames (head : List Byte) (cmds : List (List Byte)) (log : List Byte) (sets : List (Nat × List (Nat × Nat)))
    (blocks : List (List Byte)) : List (Nat × List Byte) :=
  let logs := (payloads 9196 log).zipIdx.map (fun x => (0x12, leBytes 4 (9196 * x.2) ++ x.1))
  let hub := (sets.map (fun x => (payloads 766 x.2).map (fun es => (0x13, hubsetBytes x.1 es)))).flatten
  let fs := [(0x10, head)] ++ (payloads 575 cmds).map (fun c => (0x11, c.flatten)) ++ logs ++ hub ++
    (payloads 127 blocks).map (fun b => (0x14, b.flatten))
  let all := (fs.map Prod.snd).flatten
  fs ++ [(0x1F, leBytes 4 all.length ++ leBytes 4 (crc32c all))]

/-- The written blocks of the mirror ranges: physical address and committed content. -/
def State.writtenBlocks (s : State) : List (List Byte) :=
  let j := s.mem.journal.map Prod.fst
  ((s.img.run.mirrorRanges.map (fun r => pieces r.2.1 r.2.2)).flatten.filter
    (fun p => j.contains (s.img.run.homeAddr p.1))).map (fun p => leBytes 8 p.1 ++ s.load p.1 64)

/-- Whether every pair word of a payload of a record or snapshot holds. -/
def pairsHold (typ : Nat) (p : List Byte) : Bool :=
  match typ with
  | 0x10 => isPairWord (fieldAt p 8 8) && isPairWord (fieldAt p 16 8) && isPairWord (fieldAt p 40 8)
  | 0x11 => (List.range (p.length / 16)).all (fun i => isPairWord (fieldAt p (16 * i + 8) 8))
  | 0x13 => (hubsetEntries p).all (fun e => isPairWord e.2)
  | 0x41 => (hubsetEntries p).all (fun e => isPairWord e.2)
  | _ => true
/-- Whether a record is whole: a header first, an end whose CRC fits, pair words that hold. -/
def recordOk (fs : List (Nat × List Byte)) : Bool :=
  let body := fs.filter (fun f => f.1 != 0x1F)
  (match fs with
    | (0x10, h) :: _ => h.length == 64
    | _ => false) &&
  (match fs.getLast? with
    | some (0x1F, e) => fieldAt e 4 4 == crc32c (body.map Prod.snd).flatten
    | _ => false) &&
  body.all (fun f => pairsHold f.1 f.2)
/-- The header of a record. -/
def recHead (fs : List (Nat × List Byte)) : List Byte := ((fs.find? (fun f => f.1 == 0x10)).map Prod.snd).getD []
/-- The whole log a record carries. -/
def recLog (fs : List (Nat × List Byte)) : List Byte := ((fs.filter (fun f => f.1 == 0x12)).map (fun f => f.2.drop 4)).flatten
/-- The command entries it carries: OP, INDEX, ARG. -/
def recCmds (fs : List (Nat × List Byte)) : List (Nat × Nat × Nat) :=
  ((fs.filter (fun f => f.1 == 0x11)).map (fun f => (List.range (f.2.length / 16)).map (fun i =>
    (fieldAt f.2 (16 * i) 1, fieldAt f.2 (16 * i + 2) 2, fieldAt f.2 (16 * i + 8) 4)))).flatten

/-- MIRROR_RECORD: the frames of a whole record, in cable order (R389). -/
def State.mirrorRecord (s : State) (fs : List (Nat × List Byte)) : State :=
  if (s.pairState ≠ 2 ∧ s.pairState ≠ 3) ∨ !s.cableUp then s
  else if !recordOk fs then (s.pwMismatch 7).raise R.PAIR_ERR F.PAIR_ERR_RECORD_FAIL |>.startSync
  else
    let h := recHead fs
    let n := fieldAt h 0 8
    let s := s.learnPeer (fieldAt h 24 8) (fieldAt h 32 8) (fieldAt h 40 4)
    let s := if s.pair.handover = some n ∧ bitsOf (fieldAt h 40 4) 19 4 = 0 ∧ s.pair.cause = 1 then
        s.modPair (fun x => { x with cause := 2 })
      else s
    s.modPair (fun x => { x with records := x.records ++ [(n, fs)] })

/-- Launch the replay of epoch `n` (R366), attempt by attempt. -/
def State.replayOn (s : State) (n k : Nat) : State :=
  (s.launchOn n).modPair (fun x => { x with replay := some (n, k) })
/-- STANDBY_REPLAY (R366): the first record not yet applied. Its log goes into the slot of the active; a skipped epoch runs
no program. -/
def State.standbyReplay (s : State) : State :=
  match s.pair.records with
  | [] => s
  | (n, fs) :: _ =>
    let done : Bool := match s.pair.replayed with
      | some (m, _) => m == n
      | none => false
    if !s.full ∨ !s.replayOk ∨ s.pair.replay.isSome ∨ done ∨ !(s.pairState == 3 || (s.pairState == 2 && s.pair.snapDone)) then s
    else
      let log := recLog fs
      let s := match s.img.run.logDie with
        | some _ => s.poke (s.headerAddr n) log
        | none => s
      let s := s.modR (fun r => { r with logBuf := kvPut n log (r.logBuf.filter (fun e => Nat.blt n (e.1 + 2))) })
      if fieldAt (recHead fs) 8 4 % 4 = 1 then s.modPair (fun x => { x with replayed := some (n, false) })
      else s.replayOn n 0

/-! ### Mismatch and self-test (R371, R372) -/

/-- The suspect self-test starts. -/
def State.startSuspect (s : State) : State :=
  (s.raise R.PAIR_STATUS F.PAIR_STATUS_SUSPECT).modPair (fun x => { x with suspect := none })
/-- MISMATCH received by the active. -/
def State.mismatchIn (s : State) : State := if s.pairState = 5 ∧ s.cableUp then s.startSuspect else s
/-- SUSPECT_TEST_COMPLETE with the failures found in march, loopback and ADC check. -/
def State.suspectDone (s : State) (march loopF adc : Bool) : State :=
  if !s.flag R.PAIR_STATUS F.PAIR_STATUS_SUSPECT ∨ s.pairState = 0 then s
  else
    let ok := !(march || loopF || adc)
    let s := s.modPair (fun x => { x with
      march := x.march || march
      loopF := x.loopF || loopF
      adc := x.adc || adc
      suspect := some ok })
    s.setHealth.pairSend 0x31 7 (if ok then 1 else 2) 0
/-- A march test of bank `k` of quarter `q` has ended, or a reference check. -/
def State.notePair (s : State) (tested : Option Nat) (march adc : Bool) : State :=
  if s.pairState = 0 then s
  else (s.modPair (fun x => { x with
    march := x.march || march
    adc := x.adc || adc
    tested := match tested with
      | some k => if x.tested.contains k then x.tested else k :: x.tested
      | none => x.tested })).setHealth

/-- MARCH_TEST_COMPLETE with the pair's bookkeeping (Table 12.6). -/
def State.marchDone (s : State) (q : Nat) (failed : Bool) : State :=
  match (s.qtr q).test with
  | none => s
  | some (g, b) => (s.endTest q failed).notePair (some (384 * q + 4 * g + b)) failed false
/-- REFERENCE_CHECK with the pair's bookkeeping. -/
def State.refDone (s : State) (ref own chk : Int) : State :=
  let t := s.refCheck ref own chk
  t.notePair none false (s.flag R.AIO_CTRL F.AIO_CTRL_REFCHK_EN && !t.flag R.AIO_STATUS F.AIO_STATUS_REF_OK)

/-! ### Switch-over (R376, R377, R385, R387) -/

/-- Bytes of a command entry (Table 11.6). -/
def entryBytes (op index arg : Nat) : List Byte :=
  leBytes 1 op ++ [0#8] ++ leBytes 2 index ++ copies 4 0#8 ++ leBytes 8 (pairWord arg)
/-- Entries go to the holder (R388); with the cable DOWN they are dropped and counted. -/
def State.forwardEntries (s : State) (es : List (Nat × Nat × Nat)) : State :=
  if es.isEmpty then s
  else if s.cableUp then s.cableSend 0x30 (s.reg64 R.COMMIT_EPOCH_LO) ((es.map (fun e => entryBytes e.1 e.2.1 e.2.2)).flatten)
  else s.addReg R.FWD_DROP_CNT es.length

/-- A PAIR_CMD is refused. -/
def State.pairReject (s : State) : State := s.raise R.PAIR_ERR F.PAIR_ERR_CMD_REJECT
/-- SWITCH in the active (R376). -/
def State.switchActive (s : State) (cause : Nat) : State :=
  if s.partnerHealthy then s.modPair (fun x => { x with switchAsk := some cause }) else s.pairReject
/-- PAIR_CMD: 1 SWITCH, 2 DETACH, 3 ATTACH. A standby forwards SWITCH as an entry of OP 0, which Table 17.3 reserves. -/
def State.pairCmd (s : State) (v : Nat) : State :=
  let st := s.pairState
  match v with
  | 1 => if st = 5 then s.switchActive 1 else if st = 3 then s.forwardEntries [(0, 0, 0)] else s.pairReject
  | 2 =>
    if st = 1 ∨ st = 2 ∨ st = 3 ∨ st = 7 then
      ((s.raise R.PAIR_STATUS F.PAIR_STATUS_DETACH_HELD).modPair (fun x => { x with reason := 0 })).pairFollow
    else s.pairReject
  | _ => if st = 0 then s.pairReject else (s.drop R.PAIR_STATUS F.PAIR_STATUS_DETACH_HELD).pairFollow

/-- The active enters RELEASING at the end of the commit of epoch `n` (R377 step 1). -/
def State.beginRelease (s : State) (n : Nat) : State :=
  match s.pair.switchAsk with
  | none => s
  | some c =>
    if s.pairState ≠ 5 then s.modPair (fun x => { x with switchAsk := none })
    else
      let s := s.modIo (fun io => { io with frozen := some s.committed })
      let s := s.modPair (fun x => { x with switchAsk := none, cause := c, handover := some n, handT := s.now })
      let s := s.toPair 6
      let s := s.cableSend 0x20 n (leBytes 8 (pairWord (s.regN R.TOKEN_LO)) ++ leBytes 8 n)
      s.pairSend 0x31 6 0 (s.now + s.handoverNs)

/-- HANDOVER at the standby: REQUEST with reason handover. -/
def State.handoverIn (s : State) (token n : Nat) : State :=
  if s.pairState ≠ 3 ∨ !s.cableUp then s
  else s.cablePw token (fun s =>
    let took : Bool := match s.pair.records.find? (fun r => r.1 == n) with
      | some r => bitsOf (fieldAt (recHead r.2) 40 4) 19 4 == 0
      | none => false
    let s := s.modPair (fun x => { x with
      handover := some n
      cause := if x.cause = 0 then 1 + b2n took else x.cause })
    s.request 2)
/-- ARMED at the old active: its outputs are released and it resynchronises. -/
def State.armedIn (s : State) (token : Nat) : State :=
  if s.pairState ≠ 6 ∨ !s.cableUp then s
  else s.cablePw token (fun s =>
    ((s.modIo (fun io => { io with frozen := none })).modPair (fun x => { x with
      handover := none
      cause := 0
      highGen := max x.highGen (genOf token) })).startSync)
/-- HANDOVER_TIMEOUT by `t`: RECLAIM. -/
def State.handoverTimeout (s : State) (t : Nat) : State :=
  if s.pairState = 6 ∧ s.pair.handT + s.handoverNs ≤ t then (s.at t).pairSend 0x31 9 0 (t + s.leaseNs) else s
/-- TAKEBACK at the active (R385). -/
def State.takebackIn (s : State) (token : Nat) : State :=
  if s.pairState ≠ 5 ∨ !s.cableUp then s else s.cablePw token (fun s => s.switchActive 5)
/-- The preferred standby asks for the outputs back (R385). -/
def State.takeback (s : State) : State :=
  if s.pairState = 3 ∧ s.flag R.PAIR_CFG F.PAIR_CFG_RETURN ∧ s.flag R.PAIR_CFG F.PAIR_CFG_PREF ∧ healthyWord s.healthWord ∧ s.cycleDone ∧
      s.getF R.SYNC_CFG F.SYNC_CFG_TB_QUIET ≤ s.pair.quiet ∧ s.pair.handover.isNone then
    (s.cableSend 0x22 (s.reg64 R.COMMIT_EPOCH_LO) (leBytes 8 (pairWord (s.regN R.TOKEN_LO)))).modPair (fun x => { x with cause := 5 })
  else s

/-- The words the new active arms when the map holds neither FULL level nor set 2: the safe states (R377). -/
def State.armSafe (s : State) : State :=
  if s.full ∨ s.img.run.mirrorSets.contains 2 then s
  else
    let s := (List.range 16).foldl (fun s o => match s.getF (R.AO_CFG o) F.AO_CFG_SAFE with
      | 0 => s.setPair (R.AO_COMMITTED_LO o) 0x30000
      | 1 => s.setPair (R.AO_COMMITTED_LO o) 0x10000
      | 2 => s.setPair (R.AO_COMMITTED_LO o) 0x20000
      | _ => s) s
    let pick (v code i : Nat) : Nat := 2 ^ i * (if code = 0 then 0 else if code = 1 then 1 else b2n (bitOf v i))
    let d := s.regN R.DO_COMMITTED_LO
    let safe (i : Nat) : Nat := bitsOf (s.regN (if i < 16 then R.DO_SAFE_LO else R.DO_SAFE_HI)) (2 * (i % 16) + 1) (2 * (i % 16))
    let s := s.setPair R.DO_COMMITTED_LO ((List.range 32).map (fun i => pick d (safe i) i)).sum
    let r := s.io.relay.toNat
    s.modIo (fun io => { io with relay := BitVec.ofNat 64 (pairWord
      ((List.range 4).map (fun k => pick r (bitsOf (s.regN R.RELAY_SAFE) (2 * k + 1) (2 * k)) k)).sum) })

/-- Arming at an own commit (R377 step 2): a handover grant first makes the unit TAKING once its record has been applied. -/
def State.armCommit (s : State) : State :=
  let ready : Bool := match s.pair.handover with
    | some n => s.pair.granted && Nat.ble n (s.reg64 R.MIRROR_EPOCH_LO)
    | none => false
  let s := if s.pairState = 3 ∧ ready = true then s.take (s.regN R.TOKEN_LO) s.expires else s
  if s.pairState = 4 ∧ !s.pair.armed then
    let s := s.armSafe.modPair (fun x => { x with armed := true, armT := s.now })
    let s := s.renew true
    s.cableSend 0x21 (s.reg64 R.COMMIT_EPOCH_LO) (leBytes 8 (pairWord (s.regN R.TOKEN_LO)))
  else s

/-! ### Forwarded commands (R388) -/

/-- FWD_CMD at the holder: 16-byte entries for its next commit. -/
def State.fwdIn (s : State) (p : List Byte) : State :=
  if !s.holdsToken ∨ !s.cableUp then s
  else
    let es := (List.range (p.length / 16)).map (fun i =>
      (fieldAt p (16 * i) 1, fieldAt p (16 * i + 2) 2, fieldAt p (16 * i + 8) 8))
    if !es.all (fun e => isPairWord e.2.2) then s.pwMismatch 7
    else es.zipIdx.foldl (fun s e =>
      if e.1.1 = 0 then (if s.pairState = 5 then s.switchActive 1 else s)
      else s.modAlm (fun a => { a with queue := a.queue ++ [⟨e.1.1, e.1.2.1, e.1.2.2 % 2 ^ 32, 3, .fwd e.2⟩] })) s

/-! ### Resynchronisation (R383, R384, R389) -/

/-- Content of a block at the last commit point: from the journal when the attempt has written it. -/
def State.committedBlock (s : State) (k : Nat) : List Byte :=
  match s.mem.journal.find? (fun e => e.1 == k) with
  | some e => e.2
  | none => s.blockImage k

/-- SNAP_BANKS: for each grain its active bank, then source, exponent source and CRC of its four banks. -/
def State.snapBanks (s : State) : List (List Byte) :=
  (allQ.map (fun q => allG.map (fun g =>
    leBytes 4 (s.gActive q g) ++ ((List.range 4).map (fun b => leBytes 8 (s.reg64 (R.BANK_SRC_LO q g b)) ++
      leBytes 8 (s.reg64 (R.BANK_XSRC_LO q g b)) ++ leBytes 4 (s.regN (R.BANK_CRC q g b)))).flatten))).flatten
/-- The active sends its snapshot: hub state sets, committed blocks, banks, and the end (R383). -/
def State.snapshotGoes (s : State) : State :=
  let e := s.reg64 R.COMMIT_EPOCH_LO
  let hub := (s.img.run.mirrorSets.map (fun k => (payloads 766 (s.setEntries k)).map (fun es => (0x41, hubsetBytes k es)))).flatten
  let bs := ((s.img.run.mirrorRanges.map (fun r => pieces r.2.1 r.2.2)).flatten.map
    (fun p => (p.1, s.committedBlock (s.img.run.homeAddr p.1)))).filter (fun p => !p.2.isEmpty)
  let blocks := (payloads 127 (bs.map (fun p => leBytes 8 p.1 ++ p.2))).map (fun b => (0x42, b.flatten))
  let banks := (payloads 109 s.snapBanks).map (fun b => (0x43, b.flatten))
  s.cableAll e (hub ++ blocks ++ banks ++ [(0x44, [])])

/-- RESYNC_REQ at the active: the snapshot as of the last commit point. A poisoned block is left out. -/
def State.resyncReq (s : State) : State :=
  if s.pairState ≠ 5 ∨ !s.cableUp then s
  else s.snapshotGoes

/-- Write mirrored blocks: physical address and 64 bytes each. -/
def State.applyBlocks (s : State) (p : List Byte) : State :=
  (List.range (p.length / 72)).foldl (fun s i =>
    let a := fieldAt p (72 * i) 8
    match s.img.run.home a with
    | some (_, k, _) => (s.poke k (slice p (72 * i + 8) 64)).setPoison k false
    | none => s) s
/-- Take over a SNAP_BANKS payload from grain number `g0` on: the banks are STALE with the sources received. -/
def State.applyBanks (s : State) (g0 : Nat) (p : List Byte) : State :=
  (List.range (p.length / 84)).foldl (fun s i =>
    let q := (g0 + i) / 96
    let g := (g0 + i) % 96
    let o := 84 * i
    if 16 ≤ q then s
    else
      let s := s.setF (R.GSTATE q g) F.GSTATE_ACTIVE_BANK (fieldAt p o 4)
      (List.range 4).foldl (fun s b =>
        let s := (s.setReg64 (R.BANK_SRC_LO q g b) (fieldAt p (o + 4 + 20 * b) 8)).setReg64 (R.BANK_XSRC_LO q g b)
          (fieldAt p (o + 12 + 20 * b) 8)
        let s := s.setRegN (R.BANK_CRC q g b) (fieldAt p (o + 20 + 20 * b) 4)
        if s.gState q g = 2 then s.setBank q g b 3 else s) s) s

/-- The standby takes the snapshot `fs` whole, as of `epoch` (R383, R384). -/
def State.snapshotTaken (s : State) (epoch : Nat) (fs : List (Nat × List Byte)) : State :=
  let r := fs.foldl (fun (x : State × Nat) f =>
    match f.1 with
    | 0x41 => (x.1.applyHubset f.2, x.2)
    | 0x42 => (x.1.applyBlocks f.2, x.2)
    | 0x43 => (x.1.applyBanks x.2 f.2, x.2 + f.2.length / 84)
    | _ => x) (s, 0)
  let s := r.1.setReg64 R.MIRROR_EPOCH_LO epoch
  (s.modPair (fun x => { x with
    snapDone := true
    snapFrom := epoch
    records := x.records.filter (fun r => Nat.blt epoch r.1) })).pairFollow

/-- SNAP_END with the snapshot's frames and its epoch: everything is applied in cable order (R383, R384). -/
def State.snapEnd (s : State) (epoch : Nat) (fs : List (Nat × List Byte)) : State :=
  if s.pairState ≠ 2 ∨ !s.cableUp then s
  else if !fs.all (fun f => pairsHold f.1 f.2) then
    (s.pwMismatch 7).raise R.PAIR_ERR F.PAIR_ERR_RECORD_FAIL |>.startSync
  else s.snapshotTaken epoch fs

/-- BLOCK_REQ at a FULL-level standby: BLOCK_DATA tagged with the epoch of the latest follow commit (R389). -/
def State.blockReq (s : State) (a : Nat) : State :=
  if s.pairState ≠ 3 ∨ !s.full ∨ !s.cableUp then s
  else match s.img.run.home a with
    | some (_, k, _) =>
      let bs := s.committedBlock (k / 64 * 64)
      if bs.isEmpty then s else s.cableSend 0x51 (s.reg64 R.MIRROR_EPOCH_LO) (leBytes 8 a ++ bs)
    | none => s
/-- BLOCK_DATA at the active: used when it is of the last committed epoch (R307, R389). -/
def State.blockData (s : State) (a epoch : Nat) (bs : List Byte) : State :=
  if s.rcv.awaiting.contains a ∧ epoch = s.reg64 R.COMMIT_EPOCH_LO ∧ s.cableUp then
    (s.modR (fun r => { r with awaiting := r.awaiting.filter (fun x => x != a) })).rebuilt a (padTo 64 bs)
  else s

end Sys2Proof.Machine
end

