-- ==== Sys2Proof/Machine/Image.lean ====
section
/-! DEFINITION. The pending image, the image store, activation and the loading of compute sections
(03_structure_image.md, 04_grains_and_spans.md, 09_memory_and_die_fabric.md). -/

namespace Sys2Proof.Machine

/-- Change the image record. -/
def State.modImg (s : State) (f : ImgSt → ImgSt) : State := { s with img := f s.img }

/-! ### Store and selector (R83, R88, R89) -/

/-- PEND_STATE (Table 3.14): 0 EMPTY, 1 RECEIVING, 2 VERIFYING, 3 VERIFIED, 4 ARMED, 5 ACTIVATING, 6 FAILED. -/
def State.pendSt (s : State) : Nat := s.getF R.IMG_STATUS F.IMG_STATUS_PEND_STATE
/-- Enter a pending state. -/
def State.setPend (s : State) (v : Nat) : State := s.setF R.IMG_STATUS F.IMG_STATUS_PEND_STATE v
/-- The pending area is empty. -/
def State.dropPend (s : State) : State :=
  let s := s.modImg (fun m => { m with pend := [], armEpoch := none })
  (((s.setPend 0).setReg64 R.PENDING_ID_LO 0).setRegN R.PENDING_LEN 0).setRegN R.RECV_BYTES 0
/-- An IMG_CMD or SEQ_FLOOR write is refused. -/
def State.imgReject (s : State) : State := s.raise R.IMG_ERR F.IMG_ERR_CMD_REJECT
/-- Whether a restart configuration waits (R89). -/
def State.restartArmed (s : State) : Bool := s.flag R.IMG_STATUS F.IMG_STATUS_RESTART_ARMED

/-- Slot `i` of the image store. -/
def State.slot (s : State) (i : Nat) : StoreSlot := if i % 2 = 0 then s.img.slotA else s.img.slotB
/-- Write a slot. -/
def State.setSlot (s : State) (i : Nat) (v : StoreSlot) : State :=
  s.modImg (fun m => if i % 2 = 0 then { m with slotA := v } else { m with slotB := v })
/-- The active slot. -/
def State.activeSlot (s : State) : Nat := s.getF R.IMG_STATUS F.IMG_STATUS_ACTIVE_SLOT
/-- The other slot. -/
def State.otherSlot (s : State) : Nat := 1 - s.activeSlot
/-- The active full image. -/
def State.activeFull (s : State) : Option (List Byte) :=
  if s.img.run.imageId = 0 then none else some (s.slot s.activeSlot).full

/-- Name a restart configuration; the selector and overlay so far are kept for CANCEL. -/
def State.armRestart (s : State) (sel : Nat) (f : State → State) : State :=
  let s := if s.restartArmed then s
    else s.modImg (fun m => { m with saved := some (m.sel, (s.slot s.activeSlot).overlay) })
  ((f s).modImg (fun m => { m with sel := sel })).raise R.IMG_STATUS F.IMG_STATUS_RESTART_ARMED

/-- Withdraw the restart configuration (R89). -/
def State.withdrawRestart (s : State) : State :=
  match s.img.saved with
  | none => s
  | some (sel, ov) =>
    let a := s.activeSlot
    let s := if bitOf sel 1 then s.setSlot a { s.slot a with overlay := ov } else s
    (s.modImg (fun m => { m with sel := sel, saved := none })).drop R.IMG_STATUS F.IMG_STATUS_RESTART_ARMED

/-! ### Commands (R84 to R92) -/

/-- STAGE_BEGIN. -/
def State.stageBegin (s : State) : State :=
  if s.pendSt = 1 ∨ s.pendSt = 2 ∨ s.pendSt = 5 then s.imgReject else s.dropPend.setPend 1

/-- A transfer of `bs` at `off`; false when it is refused (R84). -/
def State.imgTransfer (s : State) (off : Nat) (bs : List Byte) : Bool × State :=
  if s.pendSt ≠ 1 ∨ off ≠ s.img.pend.length then (false, s.raise R.IMG_ERR F.IMG_ERR_XFER)
  else
    let s := s.modImg (fun m => { m with pend := m.pend ++ bs })
    let b := s.img.pend
    let s := s.setRegN R.RECV_BYTES b.length
    (true, if 64 ≤ b.length then (s.setReg64 R.PENDING_ID_LO (imgId b)).setRegN R.PENDING_LEN (imgLen b) else s)

/-- IMG_FAIL takes a code, a section index and a place. -/
def State.imgFail (s : State) (code sec place : Nat) : State :=
  s.setRegN R.IMG_FAIL (code + 2 ^ 8 * (sec % 65536) + 2 ^ 24 * place)

/-- VERIFY (R85). -/
def State.imgVerify (s : State) : State :=
  if s.pendSt ≠ 1 then s.imgReject
  else if s.regN R.RECV_BYTES ≠ s.regN R.PENDING_LEN then
    ((s.setPend 6).imgFail 0x03 0xFFFF 0).raise R.IMG_ERR F.IMG_ERR_VERIFY_FAIL
  else s.setPend 2

/-- VERIFY_COMPLETE (R85). -/
def State.verifyComplete (s : State) : State :=
  if s.pendSt ≠ 2 then s
  else match s.verify s.img.pend s.activeFull with
    | none => s.setPend 3
    | some (c, i) => ((s.setPend 6).imgFail c i 0).raise R.IMG_ERR F.IMG_ERR_VERIFY_FAIL

/-- CANCEL (Table 3.14, R89). -/
def State.imgCancel (s : State) : State :=
  if s.pendSt = 5 then s.imgReject
  else
    let s := if s.pendSt = 0 ∨ s.pendSt = 6 then s.withdrawRestart else s
    s.dropPend

/-- SELECT_PREVIOUS (R101). -/
def State.selectPrevious (s : State) : State :=
  let o := s.slot s.otherSlot
  if s.restartArmed ∨ o.full.isEmpty = true ∨ imgSeq o.full < s.regN R.SEQ_FLOOR_LO then s.imgReject
  else s.armRestart (s.otherSlot + 2 * b2n (!o.overlay.isEmpty)) id

/-- SEQ_FLOOR written (R101). -/
def State.seqFloor (s : State) (v : Nat) : State :=
  if v < s.regN R.SEQ_FLOOR_LO then s.imgReject else s.setPair R.SEQ_FLOOR_LO v

/-! ### Registers of the configuration in force -/

/-- Weight regions homed in die `d` (R263). -/
def RunCfg.wregs (c : RunCfg) (d : Nat) : List (Nat × Nat) :=
  if c.runs d then (c.weightRegions.filter (fun r => (c.homeDies r.1).contains d)).take 64 else []

/-- The WREG registers of every die (R263). -/
def State.showWregs (s : State) : State :=
  (List.range 4).foldl (fun s d =>
    let rs := s.img.run.wregs d
    let s := s.setRegN (R.WREG_COUNT d) rs.length
    (List.range 64).foldl (fun s w =>
      let r := nth rs w (0, 0)
      let last := if w < rs.length then r.1 + r.2 - 1 else 0
      (s.setReg64 (R.WREG_BASE_LO d w) r.1).setReg64 (R.WREG_LIMIT_LO d w) last) s) s

/-- The interleave registers of every die, and whether refusals of R262 are active. -/
def State.showDies (s : State) : State :=
  let c := s.img.run
  (List.range 4).foldl (fun s d =>
    let s := s.setRegN (R.IL_CFG d) (c.ilLog2 d + 2 ^ 8 * c.ilSet d)
    let s := (s.setReg64 (R.IL_BASE_LO d) (c.ilBase d)).setReg64 (R.IL_LIMIT_LO d) (c.ilLimit d)
    s.setF (R.MEM_STATUS d) F.MEM_STATUS_WCHECK (b2n (c.layout == 2))) s

/-- The epoch parameters, the IDs, the variant and ACTIVE of every quarter. -/
def State.showConfig (s : State) : State :=
  let c := s.img.run
  let s := ((s.setRegN R.EPOCH_PERIOD (c.epochField 0)).setRegN R.EPOCH_PHASE (c.epochField 1)).setRegN R.RUN_BOUND (c.epochField 2)
  let s := ((s.setReg64 R.ACTIVE_ID_LO c.imageId).setReg64 R.OVERLAY_ID_LO c.overlayId).setRegN R.ACTIVE_SEQ c.seq
  let s := s.setF R.IMG_STATUS F.IMG_STATUS_OVERLAY (b2n (c.overlayId != 0))
  let s := s.setF R.IMG_STATUS F.IMG_STATUS_VARIANT_ON (b2n (c.variant != 0))
  let s := (s.setF R.IMG_STATUS F.IMG_STATUS_VARIANT c.variant).setF R.IMG_STATUS F.IMG_STATUS_LAYOUT c.layout
  allQ.foldl (fun s q => s.setF (R.QSTATUS q) F.QSTATUS_ACTIVE (b2n (c.activeQ q))) s

/-- The late policy that an image's epoch section gives. -/
def State.showPolicy (s : State) : State := s.setRegN R.LATE_POLICY (s.img.run.epochField 3)

/-- Alarm points under the new records (R95): an unchanged record keeps its point's state and setpoint, any other point
starts afresh with the image's setpoint; a point without a record is gone. -/
def State.restartPoints (s : State) (old : RunCfg) : State :=
  let new := s.img.run.points
  let fresh := new.filter (fun r => !(old.pointRec r.point == some r))
  let gone := (old.points.filter (fun r => !new.any (fun x => x.point == r.point))).map PointRec.point
  let drop := gone ++ fresh.map PointRec.point
  let s := s.modAlm (fun a => { a with
    points := a.points.filter (fun e => !drop.contains e.1)
    changed := a.changed.filter (fun p => !gone.contains p) ++
      (fresh.filter (fun r => (s.point r.point).active || (s.point r.point).unack)).map PointRec.point })
  let s := gone.foldl (fun s p => s.setPair (R.SETPOINT_LO p) 0) s
  fresh.foldl (fun s r => s.setPair (R.SETPOINT_LO r.point) r.setpoint) s

/-! ### Loading (R93, R128, R131) -/

/-- Write bytes at an address of the flat space, as the hub does: no journal, and a whole block becomes clean. -/
def State.putData (s : State) (a : Nat) (bs : List Byte) : State :=
  (pieces a bs.length).foldl (fun s p =>
    let k := s.img.run.homeAddr p.1
    let s := s.poke k (slice bs (p.1 - a) p.2)
    if p.2 = 64 ∧ s.poisoned k then s.setPoison k false else s) s

/-- A DATA section: destination, length, KIND and bytes; KIND 2 zeroes its region. -/
def State.loadData (s : State) (r : Nat × Nat × Nat × List Byte) : State :=
  s.putData r.1 (if r.2.2.1 = 2 then copies r.2.1 0#8 else r.2.2.2.take r.2.1)

/-- The program of a quarter. -/
def State.loadProgram (s : State) (q : Nat) : State :=
  let b := s.img.run.body 8 (qtrTarget q)
  s.modQ q (fun x => { x with imem := b.drop 16, entry := fieldAt b 0 2, count := fieldAt b 2 2 })

/-- The grain words of a quarter, a FAILED grain staying so (Table 4.6); banks EMPTY, sources at the weight homes. -/
def State.placeGrains (s : State) (q : Nat) : State :=
  let s := { s with grains := { s.grains with
    jobs := s.grains.jobs.filter (fun j => j.q != q)
    undo := s.grains.undo.filter (fun e => e.1 / 384 != q)
    newSrc := s.grains.newSrc.filter (fun e => e.1 / 384 != q)
    actUndo := s.grains.actUndo.filter (fun e => e.1 / 96 != q)
    retire := s.grains.retire.filter (fun k => k / 96 != q) } }
  let s := s.modQ q (fun x => { x with test := none })
  let s := allG.foldl (fun s g =>
    let w := s.img.run.grainWord q g
    let st := if s.gState q g = 3 then 3 else if bitOf w 19 then 0 else if bitOf w 18 then 1 else 2
    let s := (s.setRegN (R.GCFG q g) w).setRegN (R.GSTATE q g) (st + 8 * bitsOf w 17 16)
    let d := s.img.run.span q (bitsOf w 6 0)
    (List.range 4).foldl (fun s b =>
      let src : Nat × Nat := match d with
        | some d => (d.bankHome (bitsOf w 11 7) b, if bitsOf w 13 12 = 2 then d.expHome (bitsOf w 11 7) b else 0)
        | none => (0, 0)
      ((s.setReg64 (R.BANK_SRC_LO q g b) src.1).setReg64 (R.BANK_XSRC_LO q g b) src.2).setRegN (R.BANK_CRC q g b) 0) s) s
  s.recount q

/-- Spares take the places of FAILED grains whose position in a span nobody holds (R128, R304), with their committed sources,
CRCs and loaded banks (R122); a quarter without one is lost. -/
def State.placeSpares (s : State) (q : Nat) : State :=
  let open0 (g : Nat) : Bool := s.gState q g == 3 && grainWorks (s.regN (R.GCFG q g)) && Nat.blt (s.gSpanOf q g) 96 &&
    (s.grainAt q (s.gSpanOf q g) (s.gKpos q g)).isNone
  (allG.filter open0).foldl (fun s g =>
    let w := s.regN (R.GCFG q g)
    let sp := bitsOf w 6 0
    match s.findSpare q sp with
    | some n =>
      let s := s.setRegN (R.GCFG q n) (w % 2 ^ 18)
      let s := s.setRegN (R.GSTATE q n) (2 + 8 * bitsOf w 17 16)
      let s := (List.range 4).foldl (fun s b =>
        ((s.setReg64 (R.BANK_SRC_LO q n b) (s.reg64 (R.BANK_SRC_LO q g b))).setReg64 (R.BANK_XSRC_LO q n b)
          (s.reg64 (R.BANK_XSRC_LO q g b))).setRegN (R.BANK_CRC q n b) (s.regN (R.BANK_CRC q g b))) s
      let s := { s with grains := { s.grains with
        kept := s.grains.kept.map (fun k => if k / 4 = grainKey q g then bankKey q n (k % 4) else k) } }
      ((s.recount q).event 4 3 1 (unitNo q sp g) 0).setCapacity
    | none => (s.loseQ [q]).modR (fun r => { r with lossNote := some ⟨4, 3, unitNo q sp g, 0⟩ })) s

/-- Load one bank from its recorded sources; `crc` is the CRC it must have (R115), and a bank that fails it, or whose source
cannot be read, is STALE. -/
def State.fillFrom (s : State) (q g b : Nat) (crc : Option Nat) : State :=
  let src := s.reg64 (R.BANK_SRC_LO q g b)
  let xsrc := s.reg64 (R.BANK_XSRC_LO q g b)
  let n := if s.gWfmt q g = 2 then 256 else 0
  let bs := s.load src 8192
  let xs := s.load xsrc n
  let got := crc32 (bs ++ xs)
  let ok : Bool := crc.isNone || crc == some got
  if ok && (s.check q src 8192 false).andThen (s.check q xsrc n false) == .ok then
    ((s.fillBank q g b bs xs).setBank q g b 2).setRegN (R.BANK_CRC q g b) got
  else s.setBank q g b 3

/-- The weight fill of a quarter (R128): every bank of every working grain from its weight home. -/
def State.fillQuarter (s : State) (q : Nat) : State :=
  (allG.filter (fun g => s.gState q g == 2)).foldl (fun s g =>
    (List.range 4).foldl (fun s b => s.fillFrom q g b none) s) s

/-- Refill after HARBOUR or a die reset, from the committed sources (R131). -/
def State.refillDie (s : State) (d : Nat) : State :=
  let ks := s.grains.kept.filter (fun k => k / 1536 == d)
  let s := ks.foldl (fun s k =>
    let (q, g, b) := (k / 384, k / 4 % 96, k % 4)
    if s.gState q g = 2 ∧ s.bank q g b = 0 then s.fillFrom q g b (some (s.regN (R.BANK_CRC q g b))) else s) s
  { s with grains := { s.grains with kept := s.grains.kept.filter (fun k => k / 1536 != d) } }

/-- Grains that failed the march of R128 are FAILED. -/
def State.marchFails (s : State) (q : Nat) : State :=
  let ks := s.pwr.marchBad.filter (fun k => k / 96 == q)
  let s := ks.foldl (fun s k =>
    if s.gState q (k % 96) = 0 ∨ s.gState q (k % 96) = 3 then s
    else ((s.failGrain q (k % 96)).grainErr q (k % 96) F.GERR_MARCH).raise (R.GW_ERR (q / 4)) F.GW_ERR_MARCH_FAIL) s
  s.modP (fun p => { p with marchBad := p.marchBad.filter (fun k => k / 96 != q) })

/-- Power and links of the dies follow a new configuration. -/
def State.adjustDies (s : State) : State :=
  let c := s.img.run
  let s := (List.range 4).foldl (fun s d =>
    if c.runs d && !s.dieOn d then s.dieUp d else if !c.runs d && s.dieOn d then s.dieOff d else s) s
  (List.range 4).foldl (fun s a => ((List.range 4).filter (fun b => Nat.blt a b)).foldl (fun s b =>
    if !s.dieOn a || !s.dieOn b then s
    else if c.linked a b && s.link a (linkIndex a b) == 0 then s.setLink a b 1
    else if !c.linked a b && s.link a (linkIndex a b) != 0 then s.setLink a b 0
    else s) s) s

/-- Every quarter stops (R93 step 1, R305). -/
def State.stopAll (s : State) : State :=
  allQ.foldl (fun s q => if s.qState q = 0 then s else (s.abandonQ q).setQState q 0) s

/-- LOADING begins. -/
def State.beginLoad (s : State) (kind : Nat) : State :=
  (s.stopAll.modImg (fun m => { m with load := kind })).raise R.IMG_STATUS F.IMG_STATUS_LOADING

/-- Every running die that is not lost has its memory READY and no link in training, and no die waits to lose its power. -/
def State.diesReady (s : State) : Bool :=
  s.pwr.powering.isEmpty && !s.pwr.exitWait && (List.range 4).all (fun d =>
    !s.img.run.runs d || (dieQ d).all s.isLost || (dieQ d).any (fun q => s.rcv.wantLost.contains q) ||
      (s.memState d == 3 && (List.range 4).all (fun l => s.link d l != 1)))

/-- Place grains and spares of every quarter whose die runs. -/
def State.placeAll (s : State) : State :=
  allQ.foldl (fun s q => ((s.placeGrains q).marchFails q).placeSpares q) s

/-- What a full load or a variant's puts in place, DATA apart (R93 step 3, R305). -/
def State.loadCompute (s : State) : State :=
  let s := s.showDies.showWregs
  let s := allQ.foldl (fun s q => s.loadProgram q) s
  let s := s.placeAll
  (allQ.filter (fun q => s.img.run.runs (q / 4) && !s.isLost q)).foldl (fun s q => s.fillQuarter q) s

/-- The sections lost in HARBOUR are loaded again (R131, R409): DATA, programs, and the banks that held weights. -/
def State.loadHarbour (s : State) : State :=
  let s := allQ.foldl (fun s q => ((s.loadProgram q).marchFails q).placeSpares q) s
  (List.range 4).foldl (fun s d => if s.img.run.runs d then s.refillDie d else s) s

/-- What LOADING loads. -/
def State.loadAll (s : State) : State :=
  let data (s : State) : State := s.img.run.dataRegions.foldl (fun s r => s.loadData r) s
  let s := if s.img.load = 1 then (data s.showDies).loadCompute
    else if s.img.load = 2 then s.loadCompute
    else (data s).loadHarbour
  s.setCapacity

/-- LOADING clears; the quarters enter their states at the next boundary (R189). -/
def State.endLoading (s : State) : State :=
  let s := s.drop R.IMG_STATUS F.IMG_STATUS_LOADING
  let s := (s.modImg (fun m => { m with load := 0 })).modT (fun t => { t with loaded := true })
  if s.pendSt = 5 ∧ imgKind s.img.pend = 0 then s.dropPend.inc R.ACT_COUNT else s

/-- R189 at the first boundary after LOADING has cleared. -/
def State.enterStates (s : State) : State :=
  if !s.time.loaded then s
  else
    let s := s.modT (fun t => { t with loaded := false })
    if s.stoppedByLoss then s else s.liveQ.foldl (fun s q => if s.qState q = 0 then s.setQState q 1 else s) s

/-! ### Activation (R90 to R95, R98, R99) -/

/-- Whether the unit a stopped-class section targets is not stopped (R91). -/
def State.targetRuns (s : State) (x : Sec) : Bool :=
  let on (q : Nat) : Bool := s.qActive q || s.qState q == 5
  let d := bitsOf x.target 27 24
  if x.typ = 12 then (regsetAddrs x).any (fun a => stoppedBits a != 0 && s.blockRuns a)
  else if x.typ = 9 ∨ x.typ = 13 then allQ.any (fun q => s.img.run.runs (q / 4) && on q)
  else if x.typ = 2 then (dieQ d).any on
  else on (4 * d + bitsOf x.target 23 20)

/-- An activation is refused: nothing applies, the pending image is FAILED. -/
def State.actRefused (s : State) (code sec : Nat) : State :=
  (((s.setPend 6).imgFail code sec 1).raise R.IMG_ERR F.IMG_ERR_ACT_FAIL).modImg (fun m => { m with armEpoch := none })

/-- The refusal of an armed partial image, as code and section (R91, R99). -/
def State.partialRefusal (s : State) (b : List Byte) : Option (Nat × Nat) :=
  if s.activeFull.map imgId ≠ some (imgBase b) then some (0x11, 0xFFFF)
  else ((imgSecs b).findIdx? (fun x => x.cls == 2 && s.targetRuns x)).map (fun i => (0x12, i))

/-- A selector update at an activation; while a restart configuration waits it stays in front (R89, R90). -/
def State.updateSelector (s : State) (sel : Nat) : State :=
  if s.restartArmed then s.modImg (fun m => { m with saved := some (sel, (s.slot sel).overlay) })
  else s.modImg (fun m => { m with sel := sel })

/-- The register values of the pending image (R80, R94), at the commit of epoch `n`. -/
def State.imageRegs (s : State) (n : Nat) : State :=
  ((imgSecs s.img.pend).filter (fun x => x.typ == 12)).foldl (fun s x => s.applyRegset n x) s

/-- The rest of a partial image's live and epoch sections, once the commit has evaluated the alarm points under the old
records; stopped sections stay to be loaded. -/
def State.mergePartial (s : State) : State :=
  let b := s.img.pend
  let old := s.img.run
  let a := s.activeSlot
  let s := (s.setSlot a { s.slot a with overlay := b }).updateSelector (a + 2)
  let s := s.modImg (fun m => { m with
    run := { old with overlayId := imgId b, secs := mergeSecs old.secs (imgSecs b) }, armEpoch := none })
  let s := s.showConfig.restartPoints old
  let s := if (imgSecs b).any (fun x => x.typ == 1) then s.showPolicy else s
  if (imgSecs b).any (fun x => x.cls == 2 && x.typ != 12) then s else s.dropPend.inc R.ACT_COUNT

/-- Steps 1 to 3 of R93 at the end of the activation commit of a full image. -/
def State.takeFull (s : State) : State :=
  let b := s.img.pend
  let old := s.img.run
  let o := s.otherSlot
  let s := s.stopAll
  let s := (s.setSlot o ⟨b, []⟩).updateSelector o
  let s := (s.setF R.IMG_STATUS F.IMG_STATUS_ACTIVE_SLOT o).modImg (fun m => { m with run := cfgOf b none, armEpoch := none })
  let s := (s.showConfig.showPolicy.restartPoints old).showWregs
  let s := (List.range 16).foldl (fun s k => s.drop (R.AO_STATUS k) F.AO_STATUS_WRITTEN) s
  s.adjustDies.beginLoad 1

/-- The armed image whose activation commit this is, when `next` is the number of the next epoch to run. -/
def State.dueImage (s : State) (next : Nat) : Bool :=
  s.pendSt == 4 && (match s.img.armEpoch with
    | some e => Nat.ble e next
    | none => false)

/-- The activation commit begins: a partial image that cannot apply is refused; otherwise ACTIVATING. -/
def State.beginActivation (s : State) (next : Nat) : State :=
  if !s.dueImage next then s
  else if imgKind s.img.pend = 1 then
    match s.partialRefusal s.img.pend with
    | some (c, i) => s.actRefused c i
    | none => s.setPend 5
  else s.setPend 5
/-- An image is being activated in this commit. -/
def State.activating (s : State) : Bool := s.pendSt == 5 && s.img.armEpoch.isSome
/-- The activation takes its place at the end of the commit. -/
def State.endActivation (s : State) : State :=
  if !s.activating then s else if imgKind s.img.pend = 1 then s.mergePartial else s.takeFull

/-- The stopped sections of the pending partial image are in their units, and the activation is over. -/
def State.stoppedLoaded (s : State) : State :=
  let xs := imgSecs s.img.pend
  let s := if xs.any (fun x => x.typ == 2) then s.showDies.adjustDies else s
  let s := (xs.filter (fun x => x.typ == 9)).foldl (fun s x =>
    s.loadData (fieldAt x.body 0 8, fieldAt x.body 8 4, fieldAt x.body 12 1, x.body.drop 16)) s
  let s := s.showWregs
  let qs (ts : List Nat) : List Nat := allQ.filter (fun q => xs.any (fun x => ts.contains x.typ && x.target == qtrTarget q))
  let s := (qs [8]).foldl (fun s q => s.loadProgram q) s
  let s := (qs [3, 4]).foldl (fun s q => ((s.placeGrains q).placeSpares q).fillQuarter q) s
  s.dropPend.inc R.ACT_COUNT

/-- ACTIVATION_COMPLETE (R90): the stopped sections of a partial image have loaded into their units. -/
def State.activationComplete (s : State) : State :=
  if s.pendSt ≠ 5 ∨ s.img.armEpoch.isSome ∨ imgKind s.img.pend ≠ 1 then s
  else s.stoppedLoaded

/-- ARM (R86 to R89, R92). -/
def State.imgArm (s : State) : State :=
  if s.pendSt ≠ 3 then s.imgReject
  else
    let b := s.img.pend
    let e := s.reg64 R.ACT_EPOCH_LO
    let live := imgKind b = 1 ∧ (imgSecs b).all (fun x => x.cls == 0) = true
    let c := cfgOf b none
    if live then
      if s.restartArmed then s.imgReject
      else match s.partialRefusal b with
        | some (c, i) => s.actRefused c i
        | none => (s.setPend 5).mergePartial
    else if e = 2 ^ 64 - 1 then
      if imgKind b = 0 then (s.armRestart s.otherSlot (fun s => s.setSlot s.otherSlot ⟨b, []⟩)).dropPend
      else if s.img.sel % 2 ≠ s.activeSlot then s.imgReject
      else
        let a := s.activeSlot
        (s.armRestart (a + 2) (fun s => s.setSlot a { s.slot a with overlay := b })).dropPend
    else if s.restartArmed ∨ e < s.epoch + 2 then s.imgReject
    else if imgKind b = 0 ∧ (c.period ≠ s.img.run.period ∨ c.phase ≠ s.img.run.phase) then s.imgReject
    else (s.setPend 4).modImg (fun m => { m with armEpoch := some e })

/-- IMG_CMD written. -/
def State.imgCmd (s : State) (v : Nat) : State :=
  if v = 1 then s.stageBegin
  else if v = 2 then s.imgVerify
  else if v = 3 then s.imgArm
  else if v = 4 then s.imgCancel
  else s.selectPrevious

end Sys2Proof.Machine
end

