-- ==== Sys2Proof/Machine/Views.lean ====
section
/-! DEFINITION. What a host reads: registers whose value is formed at the read from other state, the front panel's lamps and
display, and the debug windows (17_alarm_and_call.md, 18_tag_and_panel.md, 20_address_map.md). -/

namespace Sys2Proof.Machine

/-! ### Access paths (R569, R585) -/

/-- A path that has done nothing yet. -/
def PathSt.fresh (p : Path) : PathSt := ⟨p, none, none, copies 4 0#32, copies 4 0#64⟩
/-- What a path keeps. -/
def State.pathSt (s : State) (p : Path) : PathSt := (s.host.paths.find? (fun x => x.path == p)).getD (.fresh p)
/-- Change it. A path that keeps nothing is not listed. -/
def State.setPath (s : State) (v : PathSt) : State :=
  s.modHost (fun h => { h with
    paths := h.paths.filter (fun x => x.path != v.path) ++ (if v = PathSt.fresh v.path then [] else [v]) })

/-! ### Accumulator and alarm windows -/

/-- ACC_STATUS of a quarter: groups OPEN and DRAINING. -/
def State.accStatus (s : State) (q : Nat) : Nat :=
  let gs := (((s.qtr q).spans.map (fun x => x.2.groups)).flatten).map GroupSt.st
  (gs.filter (fun x => x == 1)).length + 2 ^ 10 * (gs.filter (fun x => x == 2)).length
/-- GROUP_STATE of span `sp` (Table 5.5 codes, two bits a group). -/
def State.groupWord (s : State) (q sp : Nat) : Nat :=
  if (s.img.run.span q sp).isNone then 0
  else (((s.span q sp).groups.zipIdx).map (fun g => g.1.st % 4 * 4 ^ g.2)).sum
/-- POINT_WIN word `w`: the point that POINT_SEL names. -/
def State.pointWin (s : State) (w : Nat) : Nat :=
  let n := s.getF R.POINT_SEL F.POINT_SEL_POINT
  let p := s.point n
  match w, s.img.run.pointRec n with
  | 0, _ => n
  | 1, _ => p.st
  | 2, _ => p.timer
  | 3, _ => p.shelve
  | 4, _ => p.value
  | 5, _ => p.onset % 2 ^ 32
  | 6, _ => p.onset / 2 ^ 32
  | 7, some r => r.deadband
  | 8, some r => r.on
  | 9, some r => r.off
  | 10, some r => r.source + 2 ^ 8 * r.flags + 2 ^ 16 * r.group + 2 ^ 24 * r.cls
  | 11, some r => r.src + 2 ^ 16 * r.supGroup + 2 ^ 24 * (r.supFlags % 2)
  | _, _ => 0
/-- POINT_PAIR word `i`. -/
def State.pointPair (s : State) (i : Nat) : Nat := (s.point (2 * i)).st % 2 ^ 16 + 2 ^ 16 * ((s.point (2 * i + 1)).st % 2 ^ 16)

/-! ### Front panel (Tables 18.8 and 18.10) -/

/-- Colour and pattern of a lamp as LED_STATE codes them. -/
def lamp (colour pattern : Nat) : Nat := colour + 4 * pattern
/-- PWR. -/
def State.ledPwr (s : State) : Nat :=
  if s.flag R.PWR_STATUS F.PWR_STATUS_PFAIL then lamp 2 0
  else if !s.flag R.PWR_STATUS F.PWR_STATUS_FEED_A_OK || !s.flag R.PWR_STATUS F.PWR_STATUS_FEED_B_OK then lamp 1 1
  else lamp 1 0
/-- RUN. -/
def State.ledRun (s : State) : Nat :=
  if s.power = 1 ∨ !s.hasGrid then 0
  else if s.power = 4 then lamp 2 0
  else if s.power = 3 then lamp 1 3
  else if s.flag R.IMG_STATUS F.IMG_STATUS_LOADING || s.flag R.REC_STATUS F.REC_STATUS_DEGRADED || !allQ.any s.qActive then lamp 1 1
  else lamp 1 0
/-- PAIR. -/
def State.ledPair (s : State) : Nat :=
  let st := s.pairState
  if st = 0 then 0
  else if st = 7 then lamp 3 0
  else if st = 5 ∧ s.flag R.PAIR_STATUS F.PAIR_STATUS_HEALTHY_PARTNER then lamp 1 0
  else if st = 5 ∨ st = 4 ∨ st = 6 then lamp 1 1
  else if st = 3 then lamp 2 0
  else lamp 2 1
/-- CHAIN E (0) or CHAIN W (1). -/
def State.ledChain (s : State) (w : Nat) : Nat :=
  if !s.flag R.CHAIN_STATUS (linkUpFld w) || !s.flag R.CHAIN_STATUS F.CHAIN_STATUS_RELAY_OPEN then 0
  else if s.flag R.CHAIN_ERR F.CHAIN_ERR_CROSSED || s.flag R.CHAIN_ERR F.CHAIN_ERR_SEG_LONG ||
      s.flag R.CHAIN_ERR F.CHAIN_ERR_BYPASS_RUN then lamp 2 0
  else if !s.flag R.CHAIN_STATUS (neighFld w) then lamp 1 1
  else lamp 1 0
/-- ALARM. -/
def State.ledAlarm (s : State) : Nat :=
  if s.flag R.ALM_STATUS F.ALM_STATUS_ANY_UNACK then lamp 3 2
  else if s.flag R.ALM_STATUS F.ALM_STATUS_ANY_RAISED then lamp 3 0 else 0
/-- FAULT. -/
def State.ledFault (s : State) : Nat :=
  if s.flag R.REC_STATUS F.REC_STATUS_UNRECOVERABLE || s.getF R.SYS_STATE F.SYS_STATE_HALT != 0 then lamp 3 0
  else if s.flag R.REC_STATUS F.REC_STATUS_DEGRADED || s.regN R.LOST_Q != 0 ||
      s.getF R.PWR_STATUS F.PWR_STATUS_DIE_TRIPPED != 0 || s.flag R.PWR_STATUS F.PWR_STATUS_FAN_FAIL ||
      s.flag R.PWR_STATUS F.PWR_STATUS_THERM_WARN || s.flag R.TIME_STATUS F.TIME_STATUS_ALIGN_LOST then lamp 3 1
  else 0
/-- LED_STATE. -/
def State.leds (s : State) : Nat :=
  s.ledPwr + 2 ^ 4 * s.ledRun + 2 ^ 8 * s.ledPair + 2 ^ 12 * s.ledChain 0 + 2 ^ 16 * s.ledChain 1 + 2 ^ 20 * s.ledAlarm +
    2 ^ 24 * s.ledFault

/-- The point the alarm screen shows: RAISED, not EVENT, latest ONSET, lowest number on a tie. -/
def State.shownPoint (s : State) : Option Nat :=
  (s.allPoints.filter (fun p => (s.point p).raised && !(s.point p).event)).foldl (fun o p => match o with
    | none => some p
    | some x => if (s.point x).onset < (s.point p).onset ∨ ((s.point x).onset = (s.point p).onset ∧ p < x) then some p else o) none

/-- SCREEN (Table 18.8). -/
def State.screen (s : State) : Nat :=
  if s.power = 1 then 0
  else if s.trimKind = 1 then 1
  else if (match s.panel.msg with
    | some (_, t) => Nat.blt s.now (t + 2000000000)
    | none => false) then 2
  else if s.panel.sel.isSome then 3
  else if s.shownPoint.isSome then 4
  else 5

/-- The bytes of an ASCII string. -/
def ascii (t : String) : List Byte := t.toList.map (fun c => BitVec.ofNat 8 c.toNat)
/-- `k` decimal digits of `n`. -/
def decDigits : Nat → Nat → List Byte
  | 0, _ => []
  | k + 1, n => decDigits k (n / 10) ++ [BitVec.ofNat 8 (48 + n % 10)]
/-- `k` hex digits of `n`. -/
def hexDigits : Nat → Nat → List Byte
  | 0, _ => []
  | k + 1, n => hexDigits k (n / 16) ++ [BitVec.ofNat 8 (if n % 16 < 10 then 48 + n % 16 else 55 + n % 16)]
/-- A line of 32 characters. -/
def line (bs : List Byte) : List Byte := (bs ++ copies 32 0x20#8).take 32

/-- The text of a message: 0 refused, 1 busy, otherwise the name of a LAST_RESULT code. -/
def messageText (m : Nat) : String :=
  match m with
  | 0 => "TRIM REFUSED"
  | 1 => "TRIM BUSY"
  | 4 => "RANGE"
  | 5 => "LIMIT"
  | 6 => "NO SAMPLES"
  | _ => "REFUSED"

/-- LABEL text of a point. -/
def RunCfg.label (c : RunCfg) (p : Nat) : Option (List Byte) :=
  ((tableRecs (c.body 14 0)).find? (fun r => fieldAt r 0 2 == p)).map (fun r => slice r 4 (fieldAt r 2 1))

/-- A line of the display where the rules state its text; none where they leave its form open. -/
def State.displayLine (s : State) (l : Nat) : Option (List Byte) :=
  let halt := s.getF R.SYS_STATE F.SYS_STATE_HALT
  match s.screen, l with
  | 0, 0 => some (line (if halt = 0 then ascii "BRINGUP STEP " ++ decDigits 1 (s.getF R.SYS_STATE F.SYS_STATE_BU_STEP)
      else ascii (if halt = 1 then "HALT LOCKSTEP" else if halt = 2 then "HALT LOADER" else "HALT NO_IMAGE")))
  | 0, _ => some (line (hexDigits 16 (s.reg64 R.SERIAL_LO)))
  | 2, 0 => some (line (ascii (messageText ((s.panel.msg.getD (0, 0)).1))))
  | 2, _ => some (line [])
  | 3, 0 => some (line (ascii "SELECT AI " ++ decDigits 2 (s.panel.sel.getD 0)))
  | 4, 1 => match s.shownPoint with
    | some p => some (line ((s.img.run.label p).getD (ascii "POINT " ++ decDigits 4 p)))
    | none => none
  | _, _ => none

/-- DISPLAY word `w`. -/
def State.displayWord (s : State) (w : Nat) : Word :=
  match s.displayLine (w / 8) with
  | some bs => BitVec.ofNat 32 (fieldAt bs (4 * (w % 8)) 4)
  | none => Config.displayWord s.now w

/-! ### Debug windows (R584 to R590) -/

/-- The compute die an address lies in, with its offset there. -/
def dieAddr (a : Nat) : Option (Nat × Nat) :=
  if 0x1000000 ≤ a ∧ a < 0x2000000 then some ((a - 0x1000000) / 0x400000, (a - 0x1000000) % 0x400000) else none

/-- A register of quarter register window: offset `o` of quarter `q`. -/
def State.qrWord (s : State) (q o : Nat) : Word :=
  if s.qState q ≠ 5 then 0#32
  else
    let r := (s.qtr q).regs
    let half (d : Dword) : Word := BitVec.ofNat 32 (d.toNat / 2 ^ (32 * (o / 4 % 2)))
    if o < 0x200 then half (nth r.s (o / 8) 0#64)
    else if o < 0x280 then half (nth r.a ((o - 0x200) / 8) 0#64)
    else if o = 0x280 then BitVec.ofNat 32 ((r.p.zipIdx.map (fun b => b2n b.1 * 2 ^ b.2)).sum)
    else if o < 0x294 then nth r.lc ((o - 0x284) / 4) 0#32
    else 0#32

/-- Byte `o` of a grain's page (Table 20.3, KIND 3). A bank that is being written or tested reads as free bytes (R113). -/
def State.grainPage (s : State) (q g b o : Nat) : Byte :=
  let wf := s.gWfmt q g
  if s.bank q g b = 1 ∨ s.bank q g b = 4 then Config.bankByte s.now o
  else if o < 0x2000 then memGet s.grains.data (grainByte q g (bankOff b + o))
  else if o < 0x2100 then (if wf = 2 then memGet s.grains.data (grainByte q g (expOff b + (o - 0x2000))) else 0#8)
  else if o < 0x2200 then
    let r := (o - 0x2100) / 2
    let row := slice (s.bankBytes q g b) (64 * r) 64
    let sum := ((List.range (colsOf wf)).map (fun c => weight wf row 0 c)).sum
    BitVec.ofNat 8 (ofSigned 16 sum / 256 ^ (o % 2))
  else if o < 0x2400 then
    let c := (o - 0x2200) / 4
    BitVec.ofNat 8 (ofSigned 32 (nth (kvGet (fun _ => []) (grainKey q g) s.grains.partials) c 0) / 256 ^ (o % 4))
  else 0#8

/-- Status of a KIND 4 read or write of the word at a physical address (R589, Table 11.7): 0 OK, 1 NOT_READY, 3 UNMAPPED. -/
def State.physStatus (s : State) (a : Nat) : Nat :=
  match s.img.run.home a with
  | none => 3
  | some (d, k, _) =>
    if !s.img.run.runs d then 3 else if s.memState d ≠ 3 then 1 else if s.poisoned k then 3 else 0

/-- The word at offset `o` of the data window of die `d` on a path, with its status (R586, R589). -/
def State.dataWord (s : State) (p : Path) (d o : Nat) : Nat × Word :=
  let x := s.pathSt p
  let w := nth x.page d 0#32
  let q := 4 * d + F.DBG_PAGE_QTR.get w
  let g := F.DBG_PAGE_GRAIN.get w
  let b := F.DBG_PAGE_BANK.get w
  let bytes (f : Nat → Byte) : Word := BitVec.ofNat 32 (leNat ((List.range 4).map (fun i => f (o + i))))
  match F.DBG_PAGE_KIND.get w with
  | 1 => (0, bytes (fun i => s.accByte q i))
  | 2 => (0, bytes (fun i => nth (s.qtr q).imem i 0#8))
  | 3 => (0, bytes (s.grainPage q g b))
  | 4 =>
    let a := (nth x.phys d 0#64).toNat + o
    let st := s.physStatus a
    (st, if st = 0 then BitVec.ofNat 32 (s.loadN a 4) else 0#32)
  | _ => (0, 0#32)

/-! ### A register as a path reads it -/

/-- Idle seconds of a session, saturating at 16 bits. -/
def State.idleOf (s : State) (x : SessSt) : Nat := min ((s.now - x.last) / 1000000000) 65535

/-- Whether a register is write-only. -/
def isWo (a : Nat) : Bool := match rowOf a with
  | some r => decide (r.acc = .wo)
  | none => false

/-- Whether the key of the active image is enrolled and not revoked. -/
def State.activeKeyOk (s : State) : Bool := match s.activeFull with
  | some b => (s.findKey (imgKeyId b)).isSome
  | none => false
/-- SESS_i_ID (0), SESS_i_INFO (4) and SESS_i_CTR (8). -/
def State.sessWord (s : State) (i o : Nat) : Nat := match nth s.host.sess i none with
  | none => 0
  | some x => if o = 0 then x.id else if o = 4 then x.cred + 2 ^ 4 * x.role + 2 ^ 16 * s.idleOf x else x.ctr.getD 0

/-- Most the node draws from the feeds in its state, in units of 0.1 W (Table 21.3, with field loads). -/
def State.drawMax (s : State) : Nat :=
  match s.power with
  | 0 => 0
  | 1 => if s.getF R.SYS_STATE F.SYS_STATE_BU_STEP ≤ 5 then 650 else 4200
  | 3 => 630
  | _ => 4200
/-- The value of the register at `a` read on path `p`, the data window apart. -/
def State.view (s : State) (p : Path) (a : Nat) : Word :=
  let field (f : Fld) (v : Nat) : Word := f.set v (s.reg a)
  if isWo a then 0#32
  else if a = R.TIME_NOW_LO then BitVec.ofNat 32 s.now
  else if a = R.TIME_NOW_HI then BitVec.ofNat 32 (s.now / 2 ^ 32)
  else if a = R.PAIR_STATUS then
    F.PAIR_STATUS_ARB_SEEN.set (b2n (s.pair.arbT != 0 && Nat.ble s.now (s.pair.arbT + s.leaseNs)))
      (field F.PAIR_STATUS_LEVEL (b2n s.img.run.fullLevel))
  else if a = R.INPUT_POWER then BitVec.ofNat 32 (Config.inputPower s.now % (s.drawMax + 1))
  else if a = R.AIO_STATUS then field F.AIO_STATUS_CARRIER_OK (b2n s.carrierOk)
  else if a = R.DIO_STATUS then field F.DIO_STATUS_CARRIER_OK (b2n s.carrierOk)
  else if a = R.PANEL_STATUS then field F.PANEL_STATUS_SCREEN s.screen
  else if a = R.LED_STATE then BitVec.ofNat 32 s.leds
  else if a = R.SEC_STATUS then field F.SEC_STATUS_ACTIVE_KEY_OK (b2n s.activeKeyOk)
  else if a = R.HOSTIF_STATUS then BitVec.ofNat 32 (s.host.sess.filter Option.isSome).length
  else match idxOf a (R.FAN 0) 3 4 with
  | some k => if s.flag a F.FAN_PRESENT then field F.FAN_RPM (Config.fanSpeed s.now k % 2 ^ 16) else s.reg a
  | none => match idxOf a (R.LANE_STATUS 0) 4 16 with
  | some l => F.LANE_STATUS_DN_OK.set (b2n (s.laneOk l).1) (field F.LANE_STATUS_UP_OK (b2n (s.laneOk l).2))
  | none => match idxOf a (R.DISPLAY 0) 16 4 with
    | some w => s.displayWord w
    | none => match idxOf a (R.POINT_WIN 0) 12 4 with
      | some w => BitVec.ofNat 32 (s.pointWin w)
      | none => match idxOf a (R.POINT_PAIR 0) 2048 4 with
        | some i => BitVec.ofNat 32 (s.pointPair i)
          | none => match idxOf (a - a % 16) (R.SESS_ID 0) 8 16 with
          | some i => BitVec.ofNat 32 (s.sessWord i (a % 16))
          | none => match dieAddr a with
            | none => s.reg a
            | some (d, o) =>
              if 0x10000 ≤ o ∧ o < 0x50000 then
                let q := 4 * d + (o - 0x10000) / 0x10000
                let r := o % 0x10000
                if 0x40 ≤ r ∧ r < 0x80 then nth (s.qtr q).sc ((r - 0x40) / 4) 0#32
                else if r = 0x800 then BitVec.ofNat 32 (s.accStatus q)
                else if 0x840 ≤ r ∧ r < 0x9C0 then BitVec.ofNat 32 (s.groupWord q ((r - 0x840) / 4))
                else s.reg a
              else if 0x60000 ≤ o ∧ o < 0xA0000 then s.qrWord (4 * d + (o - 0x60000) / 0x10000) (o % 0x10000)
              else if o = 0x50008 then nth (s.pathSt p).page d 0#32
              else if o = 0x50010 then BitVec.ofNat 32 (nth (s.pathSt p).phys d 0#64).toNat
              else if o = 0x50014 then BitVec.ofNat 32 ((nth (s.pathSt p).phys d 0#64).toNat / 2 ^ 32)
              else s.reg a

end Sys2Proof.Machine
end

