-- ==== Sys2Proof/Machine/Tag.lean ====
section
/-! DEFINITION. The commissioning tag at its field port and its host port, staging, the fault log, and the front panel's
buttons (18_tag_and_panel.md). -/

namespace Sys2Proof.Machine

/-- Change the tag record. -/
def State.modTag (s : State) (f : TagSt → TagSt) : State := { s with tag := f s.tag }
/-- Change the panel record. -/
def State.modPan (s : State) (f : PanelSt → PanelSt) : State := { s with panel := f s.panel }
/-- Bytes of the tag memory. -/
def State.tagRead (s : State) (a n : Nat) : List Byte := memRead s.tag.mem a n
/-- Write bytes of the tag memory. -/
def State.tagWrite (s : State) (a : Nat) (bs : List Byte) : State := s.modTag (fun t => { t with mem := memWrite t.mem a bs })

/-! ### Field port (R543, R549, R550) -/

/-- A field command at time `t`: it keeps an RF session open, and shows the field. -/
def State.fieldSeen (s : State) (t : Nat) : State :=
  let s := (s.at t).modTag (fun x => { x with lastField := t })
  if s.pwr.up then s.raise R.TAG_STATUS F.TAG_STATUS_FIELD else s

/-- Whether the tag takes a request: addressed to its UID, to the selected tag, or to every tag that is not quiet. -/
def State.tagTakes (s : State) (uid : Option (BitVec 64)) (sel : Bool) : Bool :=
  match uid with
  | some u => u == Config.tagUid
  | none => if sel then s.tag.selected else !s.tag.quiet

/-- An answer of the tag: flags, then bytes. -/
def State.tagAnswer (s : State) (bs : List Byte) : State := s.send 8 0 0 (0#8 :: bs)
/-- An error answer with its code. -/
def State.tagError (s : State) (code : Nat) : State := s.send 8 0 0 [1#8, BitVec.ofNat 8 code]
/-- A request that the tag takes is answered by `k`. -/
def State.tagReq (s : State) (uid : Option (BitVec 64)) (sel : Bool) (t : Nat) (k : State → State) : State :=
  let s := s.fieldSeen t
  if s.tagTakes uid sel then k s else s
/-- A block number: 16 bits in an extended command, 8 otherwise. -/
def blockNo (b : BitVec 16) (ext : Bool) : Nat := if ext then b.toNat else b.toNat % 256

/-- INVENTORY with a mask of `n` low bits of the UID. -/
def State.inventory (s : State) (n : Nat) (mask : BitVec 64) (t : Nat) : State :=
  let s := s.fieldSeen t
  if s.tag.quiet ∨ mask.toNat % 2 ^ min n 64 ≠ Config.tagUid.toNat % 2 ^ min n 64 then s
  else s.tagAnswer (0#8 :: leBytes 8 Config.tagUid.toNat)
/-- STAY_QUIET: no answer. -/
def State.stayQuiet (s : State) (uid : BitVec 64) (t : Nat) : State :=
  let s := s.fieldSeen t
  if uid = Config.tagUid then s.modTag (fun x => { x with quiet := true, selected := false }) else s
/-- SELECT: the tag named is selected, any other is no longer so. -/
def State.tagSelect (s : State) (uid : BitVec 64) (t : Nat) : State :=
  let s := s.fieldSeen t
  if uid = Config.tagUid then (s.modTag (fun x => { x with selected := true, quiet := false })).tagAnswer []
  else s.modTag (fun x => { x with selected := false })
/-- RESET_TO_READY. -/
def State.resetToReady (s : State) (uid : Option (BitVec 64)) (sel : Bool) (t : Nat) : State :=
  s.tagReq uid sel t (fun s => (s.modTag (fun x => { x with quiet := false, selected := false })).tagAnswer [])
/-- GET_SYSTEM_INFORMATION: UID, number of blocks less one, bytes a block less one; no AFI, no DSFID. -/
def State.sysInfo (s : State) (uid : Option (BitVec 64)) (sel : Bool) (t : Nat) : State :=
  s.tagReq uid sel t (fun s => s.tagAnswer (4#8 :: leBytes 8 Config.tagUid.toNat ++ leBytes 2 2047 ++ [3#8]))
/-- Blocks from `b` on read over the field: reserved blocks give error 0x10. -/
def State.readBlocks (s : State) (b n : Nat) : State :=
  if 2032 < b + n then s.tagError 0x10 else s.tagAnswer (s.tagRead (4 * b) (4 * n))
/-- READ_SINGLE_BLOCK. -/
def State.readSingle (s : State) (uid : Option (BitVec 64)) (sel : Bool) (b : BitVec 16) (ext : Bool) (t : Nat) : State :=
  s.tagReq uid sel t (fun s => s.readBlocks (blockNo b ext) 1)
/-- READ_MULTIPLE_BLOCKS: at most 32. -/
def State.readMultiple (s : State) (uid : Option (BitVec 64)) (sel : Bool) (b : BitVec 16) (n : Nat) (ext : Bool) (t : Nat) : State :=
  s.tagReq uid sel t (fun s => if n = 0 ∨ 32 < n then s.tagError 0x01 else s.readBlocks (blockNo b ext) n)
/-- GET_MULTIPLE_BLOCK_SECURITY_STATUS: no block is locked. -/
def State.blockSecurity (s : State) (uid : Option (BitVec 64)) (sel : Bool) (b : BitVec 16) (n : Nat) (ext : Bool) (t : Nat) : State :=
  s.tagReq uid sel t (fun s =>
    if n = 0 then s.tagError 0x01
    else if 2032 < blockNo b ext + n then s.tagError 0x10 else s.tagAnswer (copies n 0#8))

/-- An RF session begins (R549). -/
def State.beginSession (s : State) : State :=
  if s.tag.session then s
  else
    let s := s.modTag (fun x => { x with session := true })
    if s.pwr.up then ((s.raise R.TAG_STATUS F.TAG_STATUS_SESSION).inc R.SESSION_CNT).wakeReq 4 else s

/-- WRITE_SINGLE_BLOCK; `lock` says that the hub holds its lock on the area. -/
def State.writeBlock (s : State) (uid : Option (BitVec 64)) (sel : Bool) (b : BitVec 16) (ext : Bool) (v : Word) (lock : Bool)
    (t : Nat) : State :=
  s.tagReq uid sel t (fun s =>
    let k := blockNo b ext
    if 2032 ≤ k then s.tagError 0x10
    else if k < 832 then s.tagError 0x12
    else if lock ∧ !s.tag.session then s.tagError 0xA1
    else (s.beginSession.tagWrite (4 * k) (leBytes 4 v.toNat)).tagAnswer [])

/-! ### Two-copy records (R547, R548) -/

/-- An area that holds a record: control block, copies, greatest LEN. -/
structure TagArea where
  ctl : Nat
  c0 : Nat
  c1 : Nat
  cap : Nat
  deriving DecidableEq, Repr

/-- The staging area. -/
def staging : TagArea := ⟨0xD00, 0xD20, 0x1540, 2048⟩
/-- The mailbox. -/
def mailbox : TagArea := ⟨0x1D60, 0x1D80, 0x1EA0, 256⟩
/-- Address of copy `c`. -/
def TagArea.copy (a : TagArea) (c : Nat) : Nat := if c = 0 then a.c0 else a.c1

/-- A record read from a copy. -/
structure TagRec where
  idx : Nat
  seq : Nat
  kind : Nat
  check : Nat
  payload : List Byte
  deriving DecidableEq, Repr

/-- Copy `c`, when its CHECK verifies. -/
def State.tagCopy (s : State) (a : TagArea) (c : Nat) : Option TagRec :=
  let h := s.tagRead (a.copy c) 32
  let n := fieldAt h 6 2
  let p := s.tagRead (a.copy c + 32) n
  if n ≤ a.cap ∧ crc32c (h.take 28 ++ p) = fieldAt h 28 4 then some ⟨c, fieldAt h 0 3, fieldAt h 4 1, fieldAt h 28 4, p⟩ else none

/-- SEQ `a` is newer than SEQ `b`. -/
def newer (a b : Nat) : Bool := Nat.ble 1 ((a + 2 ^ 24 - b) % 2 ^ 24) && Nat.blt ((a + 2 ^ 24 - b) % 2 ^ 24) (2 ^ 23)

/-- PTR, and whether PTR_C is its complement. -/
def State.tagPtr (s : State) (a : TagArea) : Nat × Bool :=
  let p := leNat (s.tagRead a.ctl 4)
  (p, leNat (s.tagRead (a.ctl + 4) 4) == compl32 p)

/-- The current record (R547). -/
def State.tagRecord (s : State) (a : TagArea) : Option TagRec :=
  let (p, ok) := s.tagPtr a
  if ok then
    let c := p % 2
    match s.tagCopy a c with
    | some r => if r.seq = p / 256 then some r else s.tagCopy a (1 - c)
    | none => s.tagCopy a (1 - c)
  else match s.tagCopy a 0, s.tagCopy a 1 with
    | some r, some q => if newer r.seq q.seq then some r else some q
    | some r, none => some r
    | none, q => q

/-- Write a control block's pointer and complement. -/
def State.tagPoint (s : State) (a : TagArea) (c seq : Nat) : State :=
  let p := c + 256 * seq
  (s.tagWrite a.ctl (leBytes 4 p)).tagWrite (a.ctl + 4) (leBytes 4 (compl32 p))

/-- The hub writes a record (R548). -/
def State.tagPutRecord (s : State) (a : TagArea) (kind : Nat) (p : List Byte) : State :=
  let (c, seq) : Nat × Nat := match s.tagRecord a with
    | some r => (r.idx, r.seq)
    | none => (1, 0)
  let s := if (s.tagRecord a).isSome then s.tagPoint a c seq else s
  let n := 1 - c
  let sq := (seq + 1) % 2 ^ 24
  let h := leBytes 4 sq ++ leBytes 1 kind ++ [2#8] ++ leBytes 2 p.length ++ copies 20 0#8
  let s := (s.tagWrite (a.copy n) h).tagWrite (a.copy n + 32) p
  let s := s.tagWrite (a.copy n + 28) (leBytes 4 (crc32c (h ++ p)))
  s.tagPoint a n sq

/-! ### Staging (R551, R552) -/

/-- LAST_RESULT. -/
def State.stageResult (s : State) (v : Nat) : State := s.setF R.STAGE_STATUS F.STAGE_STATUS_LAST_RESULT v
/-- A staged record failed. -/
def State.stageBad (s : State) : State := (s.stageResult 2).raise R.TAG_ERR F.TAG_ERR_STAGING_BAD
/-- The record has been applied. -/
def State.stageDone (s : State) (r : TagRec) : State :=
  (s.modTag (fun t => { t with applied := some (r.seq, r.check) })).stageResult 1

/-- KIND 1: a full image of LAYOUT 0 becomes the restart configuration. -/
def State.stageImage (s : State) (r : TagRec) : State :=
  let b := r.payload
  let fail : Option (Nat × Nat) :=
    if imgKind b ≠ 0 ∨ imgLayout b ≠ 0 then some (0x0C, 0xFFFF) else s.verify b s.activeFull
  match fail with
  | some (c, i) => ((s.imgFail c i 0).raise R.IMG_ERR F.IMG_ERR_VERIFY_FAIL).stageBad
  | none => (s.armRestart s.otherSlot (fun s => s.setSlot s.otherSlot ⟨b, []⟩)).stageDone r

/-- The registers a SETTINGS payload selects, with their values. -/
def settingsWrites (p : List Byte) : List (Nat × Nat) :=
  let ap := fieldAt p 28 4
  (if bitOf ap 0 then [(R.IP_CHAIN, fieldAt p 8 4), (R.MASK_CHAIN, fieldAt p 12 4)] else []) ++
    (if bitOf ap 1 then [(R.IP_X5, fieldAt p 16 4), (R.MASK_X5, fieldAt p 20 4)] else []) ++
    (if bitOf ap 2 then [(R.MODBUS_CFG, fieldAt p 24 4)] else [])

/-- KIND 2. -/
def State.stageSettings (s : State) (r : TagRec) (moment : Nat) : State :=
  let p := r.payload
  let ws := settingsWrites p
  if p.length ≠ 32 ∨ 8 ≤ fieldAt p 28 4 ∨ !ws.all (fun w => s.encOk w.1 w.2) then s.stageBad
  else if fieldAt p 0 8 ≠ s.serial then s.stageResult 3
  else if moment = 2 ∨ (moment = 1 ∧ s.flag R.TAG_CTRL F.TAG_CTRL_FIELD_SETTINGS) then
    let s := (ws.foldl (fun s w => s.writeFields w.1 w.2 (fun s _ _ => s)) s).stageDone r
    if bitOf (fieldAt p 28 4) 2 then s.modTag (fun t => { t with modbus := some (s.reg R.MODBUS_CFG) }) else s
  else s.stageResult 5

/-- The hub considers the staging record (R552): moment 0 is the end of an RF session, 1 bring-up step 5, 2 APPLY_STAGING. -/
def State.considerStage (s : State) (moment : Nat) : State :=
  let r := s.tagRecord staging
  let (p, ok) := s.tagPtr staging
  let (kind, seq) : Nat × Nat := match r with
    | some r => (r.kind, r.seq)
    | none => (0, 0)
  let s := (s.setF R.STAGE_STATUS F.STAGE_STATUS_SEQ seq).setF R.STAGE_STATUS F.STAGE_STATUS_KIND kind
  let s := s.setF R.TAG_STATUS F.TAG_STATUS_STAGE_KIND kind
  match r with
  | none => s
  | some r =>
    let s := if ok ∧ p % 2 ≠ r.idx then s.raise R.TAG_ERR F.TAG_ERR_STAGING_BAD else s
    let halted := s.getF R.SYS_STATE F.SYS_STATE_HALT != 0 || s.flag R.IMG_STATUS F.IMG_STATUS_NO_IMAGE
    if r.kind = 0 then s
    else if s.tag.applied = some (r.seq, r.check) then s.stageResult 4
    else if r.kind = 1 then (if moment = 2 ∨ halted = true then s.stageImage r else s.stageResult 5)
    else if r.kind = 2 then s.stageSettings r moment
    else s.stageBad

/-- APPLY_STAGING takes effect at its commit: at once, or held pending while an RF session is open. -/
def State.applyStaging (s : State) : State :=
  if s.tag.session then s.raise R.TAG_STATUS F.TAG_STATUS_STAGE_PENDING
  else if !s.flag R.TAG_STATUS F.TAG_STATUS_TAG_OK then s.raise R.TAG_ERR F.TAG_ERR_CMD_REJECT
  else s.considerStage 2

/-- Whether the mailbox holds a request that has had no response (R553). -/
def State.mbxWaits (s : State) : Bool := s.tag.mbxDue && (match s.tagRecord mailbox with
  | some r => r.kind == 0x10 && s.tag.answered != some (fieldAt r.payload 0 4)
  | none => false)
/-- TAG_STATUS.MBX_PENDING shows it. -/
def State.showMbx (s : State) : State := s.setF R.TAG_STATUS F.TAG_STATUS_MBX_PENDING (b2n s.mbxWaits)

/-- After an RF session the hub considers the staging area, and a node without a maintainer credential opens its enrolment
window (R552, R579). -/
def State.rfSessionOver (s : State) : State :=
  let s := ((s.drop R.TAG_STATUS F.TAG_STATUS_SESSION).showMbx).considerStage 0
  let s := if s.flag R.TAG_STATUS F.TAG_STATUS_STAGE_PENDING then
      (s.drop R.TAG_STATUS F.TAG_STATUS_STAGE_PENDING).considerStage 2
    else s
  if s.flag R.SEC_STATUS F.SEC_STATUS_MAINT_CRED then s
  else (s.modHost (fun h => { h with window := some (s.now + 60000000000) })).raise R.SEC_STATUS F.SEC_STATUS_WINDOW_OPEN

/-- RF_SESSION_END (R549, R552, R579): the field is lost, or 50 ms have passed without a field command by time `t`. -/
def State.endSession (s : State) (lost : Bool) (t : Nat) : State :=
  let s := if lost then
      ((s.at t).modTag (fun x => { x with quiet := false, selected := false })).drop R.TAG_STATUS F.TAG_STATUS_FIELD
    else s
  if !s.tag.session ∨ (!lost ∧ t < s.tag.lastField + 50000000) then s
  else
    let s := (s.at t).modTag (fun x => { x with session := false, mbxDue := true })
    if !s.pwr.up then s
    else s.rfSessionOver

/-! ### Fault log and identity (R544 to R546) -/

/-- The tag does not answer: queued entries are dropped and counted. -/
def State.tagFails (s : State) : State :=
  let s := (s.drop R.TAG_STATUS F.TAG_STATUS_TAG_OK).raise R.TAG_ERR F.TAG_ERR_I2C
  (s.addReg R.FLOG_DROP_CNT s.tag.logQ.length).modTag (fun x => { x with logQ := [] })

/-- Write one fault log entry, and its mirror. -/
def State.putLog (s : State) (kind : Nat) (body : List Byte) : State :=
  let seq := (s.regN R.FLOG_SEQ + 1) % 2 ^ 32
  let b := leBytes 4 seq ++ leBytes 1 kind ++ copies 3 0#8 ++ padTo 32 body ++ copies 4 0#8
  let e := b ++ leBytes 4 (crc32c b)
  let s := (s.tagWrite (0x100 + 48 * (seq % 64)) e).setRegN R.FLOG_SEQ seq
  (List.range 12).foldl (fun s w => s.setRegN (R.FLOG_W (seq % 64) w) (fieldAt e (4 * w) 4)) s

/-- FAULT_LOG_WRITE (R546). -/
def State.faultLogWrite (s : State) (ok : Bool) : State :=
  match s.tag.logQ with
  | [] => s
  | (k, b) :: t =>
    if !s.pwr.up then s
    else if !ok then s.tagFails
    else ((s.modTag (fun x => { x with logQ := t })).raise R.TAG_STATUS F.TAG_STATUS_TAG_OK).putLog k b

/-- The mirror of the log is loaded (R558). -/
def State.loadFaultLog (s : State) : State :=
  let es := (List.range 64).map (fun i => (i, s.tagRead (0x100 + 48 * i) 48))
  let good (e : Nat × List Byte) : Bool := fieldAt e.2 0 4 != 0 && crc32c (e.2.take 44) == fieldAt e.2 44 4
  let s := es.foldl (fun s e => (List.range 12).foldl (fun s w => s.setRegN (R.FLOG_W e.1 w) (fieldAt e.2 (4 * w) 4)) s) s
  let s := if es.any (fun e => fieldAt e.2 0 4 != 0 && !good e) then s.raise R.TAG_ERR F.TAG_ERR_LOG_TORN else s
  s.setRegN R.FLOG_SEQ (((es.filter good).map (fun e => fieldAt e.2 0 4)).foldl max 0)

/-- Bytes 0x00 to 0x47 of the identity area as the node has them (Table 18.2). -/
def State.identity (s : State) : List Byte :=
  [0xE2#8, 0x43#8, 0#8, 1#8, 0#8, 0#8, 3#8, 0xFF#8, 0xFE#8, 0#8, 0#8, 0#8] ++ leBytes 4 0x47544E5A ++
  leBytes 4 (s.regN R.SYS_PRODUCT) ++ leBytes 4 (s.regN R.SYS_STEP) ++ leBytes 8 s.serial ++ leBytes 4 (s.regN R.MFG_DATE) ++
  beBytes 6 s.macChain ++ copies 2 0#8 ++ beBytes 6 s.macX5 ++ copies 2 0#8 ++ leBytes 4 (s.regN R.LOADER_VER) ++
  leBytes 8 s.tag.booted.1 ++ leBytes 4 s.tag.booted.2 ++ leBytes 4 (s.regN R.RESTART_CNT)

/-- Rewrite the identity area where it differs (R544). -/
def State.rewriteIdentity (s : State) : State :=
  let seq := leNat (s.tagRead 0x48 4)
  let b := s.identity
  let crcOk := crc32c (s.tagRead 0xC 0xF0) == leNat (s.tagRead 0xFC 4)
  if s.tagRead 0 72 = b ∧ seq % 2 = 0 ∧ crcOk = true then s
  else
    let s := (s.tagWrite 0 b).tagWrite 0x48 (leBytes 4 ((seq / 2 + 1) * 2) ++ copies 0xB0 0#8)
    s.tagWrite 0xFC (leBytes 4 (crc32c (s.tagRead 0xC 0xF0)))

/-! ### Front panel (R555, R556) -/

/-- A message for 2 s. -/
def State.panelMsg (s : State) (m : Nat) : State := s.modPan (fun p => { p with msg := some (m, s.now) })
/-- Whether buttons act: bring-up has ended. -/
def State.buttonsOn (s : State) : Bool := s.power == 2 || s.power == 3 || s.power == 4
/-- A press at time `t`, recognised once bring-up has ended; in HARBOUR it is a wake request. -/
def State.press (s : State) (t : Nat) (k : State → State) : State :=
  if !s.buttonsOn then s
  else
    let s := ((s.at t).inc R.PRESS_CNT).modPan (fun p => { p with pressT := t })
    k (if s.power = 3 then s.wakeReq 2 else s)
/-- An action enters the queue of 16. -/
def State.panelQueue (s : State) (op index : Nat) : State :=
  if 16 ≤ (s.alm.queue.filter (fun e => e.src == .panel)).length then s.raise R.PANEL_ERR F.PANEL_ERR_QUEUE_FULL
  else s.modAlm (fun a => { a with queue := a.queue ++ [⟨op, index, 0, 3, .panel⟩] })
/-- Trim actions of the panel are refused. -/
def State.trimBarred (s : State) : Bool := !s.flag R.PANEL_CTRL F.PANEL_CTRL_TRIM_EN || !s.mayTrim
/-- A refused panel action. -/
def State.panelRefuse (s : State) : State := (s.raise R.PANEL_ERR F.PANEL_ERR_REFUSED).panelMsg 0

/-- BUTTON_ACK: a unit without the token forwards PANEL_ACK (R388). -/
def State.buttonAck (s : State) (t : Nat) : State :=
  s.press t (fun s =>
    if !s.flag R.PANEL_CTRL F.PANEL_CTRL_ACK_EN then s
    else if s.pairState = 0 ∨ s.holdsToken = true then s.panelQueue 0x20 0
    else s.forwardEntries [(0x20, 0, 0)])
/-- BUTTON_SEL. -/
def State.buttonSel (s : State) (t : Nat) : State :=
  s.press t (fun s =>
    if s.trimKind = 1 then s
    else if s.trimBarred then s.panelRefuse
    else match s.panel.sel with
      | none => s.modPan (fun p => { p with sel := some p.last })
      | some c => s.modPan (fun p => { p with sel := some ((c + 1) % 32), last := (c + 1) % 32 }))
/-- BUTTON_ENTER. -/
def State.buttonEnter (s : State) (t : Nat) : State :=
  s.press t (fun s =>
    if s.trimKind = 1 then (if s.trimBarred then s.panelRefuse else s.panelQueue 0x24 0)
    else match s.panel.sel with
      | some c => if s.trimBarred then s.panelRefuse else (s.modPan (fun p => { p with last := c })).panelQueue 0x21 c
      | none => s.setF R.PANEL_STATUS F.PANEL_STATUS_PAGE ((s.getF R.PANEL_STATUS F.PANEL_STATUS_PAGE + 1) % 6))
/-- BUTTON_ZERO or BUTTON_SPAN: a capture in a panel trim session. -/
def State.buttonCapture (s : State) (op t : Nat) : State :=
  s.press t (fun s => if s.trimKind ≠ 1 then s else if s.trimBarred then s.panelRefuse else s.panelQueue op 0)
/-- SEL_HOLD: SEL held for 2 s. -/
def State.selHold (s : State) (t : Nat) : State :=
  if !s.buttonsOn then s
  else if s.trimKind = 1 then (if s.trimBarred then (s.at t).panelRefuse else (s.at t).panelQueue 0x25 0)
  else (s.at t).modPan (fun p => { p with sel := none })
/-- SELECT_TIMEOUT: 10 s without a press. -/
def State.selectTimeout (s : State) (t : Nat) : State :=
  if s.panel.sel.isSome ∧ s.panel.pressT + 10000000000 ≤ t then (s.at t).modPan (fun p => { p with sel := none }) else s
/-- MESSAGE_SCREEN_TIMEOUT: 2 s after the message appeared. -/
def State.messageTimeout (s : State) (t : Nat) : State :=
  match s.panel.msg with
  | some (_, t0) => if t0 + 2000000000 ≤ t then (s.at t).modPan (fun p => { p with msg := none }) else s
  | none => s

/-- A panel action is applied at the commit: an open session of another kind shows busy, a refused or failed action shows its
result. -/
def State.applyPanel (s : State) (e : CmdEntry) : State :=
  if e.op = 0x21 ∧ s.trimKind ≠ 0 then s.panelMsg 1
  else
    let s := (s.applyEntry e).2
    let r := s.getF R.TRIM_STATUS F.TRIM_STATUS_LAST_RESULT
    if e.op = 0x20 then s else if r = 7 then s.panelMsg 0 else if 4 ≤ r then s.panelMsg r else s

end Sys2Proof.Machine
end

