-- ==== Sys2Proof/Machine/Security.lean ====
section
/-! DEFINITION. The security engine: sessions, the AUTH field and lockouts, image keys, credentials and the enrolment window
(19_host_access_security.md). -/

namespace Sys2Proof.Machine

/-! ### Counted refusals -/

/-- An AUTH_FAIL answer to source `src`; sixteen within 10 s lock it out (R565, R567). -/
def State.authFail (s : State) (src : Nat) : State :=
  let s := (s.inc R.AUTH_FAIL_CNT).raise R.HOSTIF_ERR F.HOSTIF_ERR_AUTH_FAIL
  let fs := s.host.fails.filter (fun f => Nat.blt s.now (f.2 + 10000000000)) ++ [(src, s.now)]
  let s := s.modHost (fun h => { h with fails := fs })
  if 16 ≤ (fs.filter (fun f => f.1 == src)).length then
    (s.modHost (fun h => { h with locks := h.locks.filter (fun l => l.1 != src) ++ [(src, s.now + 10000000000)] })).raise
      R.HOSTIF_ERR F.HOSTIF_ERR_LOCKOUT
  else s
/-- Whether source `src` is locked out. -/
def State.lockedOut (s : State) (src : Nat) : Bool := s.host.locks.any (fun l => l.1 == src && Nat.blt s.now l.2)
/-- LOCKOUT_EXPIRY of a source by time `t`. -/
def State.lockoutExpiry (s : State) (src t : Nat) : State :=
  let s := s.at t
  s.modHost (fun h => { h with locks := h.locks.filter (fun l => l.1 != src || Nat.blt s.now l.2) })

/-- DENIED (R561). -/
def State.denied (s : State) : State := (s.inc R.DENIED_CNT).raise R.HOSTIF_ERR F.HOSTIF_ERR_DENIED

/-! ### Sessions (R562 to R564) -/

/-- The group session's number. -/
def groupSess : Nat := 0xFFFFFFFF
/-- The open session of a number. -/
def State.openSess (s : State) (id : Nat) : Option SessSt :=
  (s.host.sess.find? (fun x => match x with
    | some y => y.id == id
    | none => false)).getD none
/-- Change an open session. -/
def State.modSess (s : State) (id : Nat) (f : SessSt → SessSt) : State :=
  s.modHost (fun h => { h with sess := h.sess.map (fun x => x.map (fun y => if y.id = id then f y else y)) })
/-- Whether a path belongs to a session. -/
def Path.inSess (p : Path) (id : Nat) : Bool :=
  match p with
  | .rcp _ _ n => n == id
  | _ => false
/-- Close a session; what its paths kept goes with it (R585). -/
def State.closeSess (s : State) (id : Nat) : State :=
  if id = 0 then s
  else s.modHost (fun h => { h with
    sess := h.sess.map (fun x => match x with
      | some y => if y.id = id then none else some y
      | none => none)
    paths := h.paths.filter (fun x => !x.path.inSess id) })
/-- Close the sessions of a credential slot. -/
def State.closeCred (s : State) (j : Nat) : State :=
  ((s.host.sess.filterMap id).filter (fun y => y.cred == j)).foldl (fun s y => s.closeSess y.id) s
/-- The session idle longest. -/
def idlest : List SessSt → Option SessSt
  | [] => none
  | x :: t => match idlest t with
    | none => some x
    | some y => if y.last < x.last then some y else some x
/-- Put a session in the first free entry. -/
def putSess (x : SessSt) : List (Option SessSt) → List (Option SessSt)
  | [] => []
  | none :: t => some x :: t
  | some y :: t => some y :: putSess x t

/-- The bytes of "ZNSK" and "ZNGK". -/
def tagZnsk : List Byte := [0x5A#8, 0x4E#8, 0x53#8, 0x4B#8]
/-- The bytes of "ZNGK". -/
def tagZngk : List Byte := [0x5A#8, 0x4E#8, 0x47#8, 0x4B#8]

/-- A session of the selected credential, whose secret is `sec`, opens with a fresh nonce and number (R562, Table 19.3); a ninth
takes the place of the one idle longest. -/
def State.sessionOpens (s : State) (sec : List Byte) : State :=
  let j := s.getF R.HS_CRED F.HS_CRED_SLOT
  let (nn, s) := s.fresh
  let (w, s) := s.fresh
  let free (n : Nat) : Bool := n != 0 && n != groupSess && (s.openSess n).isNone
  let num := (((List.range 12).map (fun i => (w.toNat + i) % 2 ^ 32)).find? free).getD 1
  let hn := s.reg64 R.HS_HN_LO
  let key := sha256 (sec ++ tagZnsk ++ leBytes 8 s.serial ++ leBytes 8 hn ++ leBytes 8 nn.toNat ++ leBytes 4 num)
  let s := if (s.host.sess.filterMap id).length < 8 then s else match idlest (s.host.sess.filterMap id) with
    | some y => s.closeSess y.id
    | none => s
  let role := bitsOf (s.regN (R.CRED_CFG j)) 2 1
  let s := s.modHost (fun h => { h with sess := putSess ⟨num, j, role, key, s.now, none⟩ h.sess })
  (((s.setRegN R.HS_SESSION num).setReg64 R.HS_NN_LO nn.toNat).setReg64 R.HS_ECHO_LO hn).setRegN R.HS_RESULT 1

/-- HS_CMD OPEN from a source (R562). The node nonce is a free value, and the session number is one too but for what step 2 bars. -/
def State.sessOpen (s : State) (src : Option Nat) : State :=
  let j := s.getF R.HS_CRED F.HS_CRED_SLOT
  let locked := match src with
    | some a => s.lockedOut a
    | none => false
  match nth s.host.creds j none with
  | none => (s.setRegN R.HS_RESULT 2).raise R.HOSTIF_ERR F.HOSTIF_ERR_HS_REFUSED
  | some sec =>
    if locked then
      ((s.setRegN R.HS_RESULT 2).raise R.HOSTIF_ERR F.HOSTIF_ERR_HS_REFUSED).raise R.HOSTIF_ERR F.HOSTIF_ERR_LOCKOUT
    else
      s.sessionOpens sec

/-- The Ethernet source and session of a path. -/
def Path.source : Path → Option Nat
  | .rcp _ src _ => some src
  | _ => none
/-- The session of a path, 0 when it has none. -/
def Path.sess : Path → Nat
  | .rcp _ _ n => n
  | _ => 0

/-- HS_CMD written on a path. -/
def State.hsCmd (s : State) (p : Path) (v : Nat) : State :=
  if v % 4 = 1 then s.sessOpen p.source else s.closeSess p.sess

/-- SESSION_IDLE_TIMEOUT of a session by time `t`. -/
def State.sessIdle (s : State) (id t : Nat) : State :=
  match s.openSess id with
  | none => s
  | some y => if y.last + s.getF R.HOSTIF_CTRL F.HOSTIF_CTRL_SESS_IDLE * 1000000000 ≤ t then (s.at t).closeSess id else s

/-! ### AUTH (R565, R566) -/

/-- Payload with bytes 4 to 15 of the AUTH at `off` set to zero. -/
def authMasked (off : Nat) (p : List Byte) : List Byte := p.take (off + 4) ++ copies 12 0#8 ++ p.drop (off + 16)
/-- TAG of a message under a key. -/
def authTag (key m : List Byte) : List Byte := (sha256 (key ++ sha256 (key ++ m))).take 12
/-- M of Table 19.3. -/
def authMsg (typ dest off : Nat) (p : List Byte) : List Byte := leBytes 1 typ ++ leBytes 8 dest ++ authMasked off p

/-- Check a request's AUTH: the role it carries, or none with the failure counted. `off` is where AUTH stands and `group`
whether the frame was group-addressed. -/
def State.authCheck (s : State) (typ : Nat) (group : Bool) (off src : Nat) (p : List Byte) : Option Nat × State :=
  let id := fieldAt p 4 4
  let tag := slice p (off + 4) 12
  let ctr := fieldAt p off 4
  let m := authMsg typ (if group then 0 else s.serial) off p
  if id = 0 then
    if slice p off 16 = copies 16 0#8 then (some 0, s) else (none, s.authFail src)
  else if s.lockedOut src then (none, s.authFail src)
  else if id = groupSess then
    let j := ctr / 2 ^ 28
    let n := ctr % 2 ^ 28
    match nth s.host.creds j none with
    | none => (none, s.authFail src)
    | some sec =>
      let key := sha256 (sec ++ tagZngk ++ leBytes 4 j)
      if authTag key m ≠ tag ∨ n ≤ s.regN (R.CRED_GROUP_CTR j) then (none, s.authFail src)
      else
        let s := s.setRegN (R.CRED_GROUP_CTR j) n
        let s := if n ≤ nth s.host.groupRes j 0 then s
          else s.modHost (fun h => { h with groupRes := setNth h.groupRes j (min (n + 4096) (2 ^ 28 - 1)) })
        (some (bitsOf (s.regN (R.CRED_CFG j)) 2 1), s)
  else match s.openSess id with
    | none => (none, s.authFail src)
    | some y =>
      let old : Bool := match y.ctr with
        | some c => Nat.ble ctr c
        | none => false
      if authTag y.key m ≠ tag ∨ old = true then (none, s.authFail src)
      else (some y.role, s.modSess id (fun y => { y with ctr := some ctr, last := s.now }))

/-- After a request has executed, a session whose counter has run out closes (R564). -/
def State.sessSpent (s : State) (id : Nat) : State :=
  match s.openSess id with
  | some y => if y.ctr = some (2 ^ 32 - 1) then s.closeSess id else s
  | none => s

/-! ### Keys and credentials (R576 to R579) -/

/-- SEC_STATUS counts brought up to date. -/
def State.secCounts (s : State) : State :=
  let cs := (List.range 16).map (fun j => s.regN (R.CRED_CFG j))
  let s := s.setF R.SEC_STATUS F.SEC_STATUS_KEYS (s.host.keys.filter Option.isSome).length
  let s := s.setF R.SEC_STATUS F.SEC_STATUS_CREDS (cs.filter (fun c => bitOf c 0)).length
  s.setF R.SEC_STATUS F.SEC_STATUS_MAINT_CRED (b2n (cs.any (fun c => c % 8 == 7)))
/-- The KEY_IDs that sign the active full image and its overlay. -/
def State.activeKeys (s : State) : List Nat :=
  let f := s.slot s.activeSlot
  (if f.full.isEmpty then [] else [imgKeyId f.full]) ++
    (if f.overlay.isEmpty || !s.flag R.IMG_STATUS F.IMG_STATUS_OVERLAY then [] else [imgKeyId f.overlay])
/-- Whether the enrolment window is open (R579). -/
def State.windowOpen (s : State) : Bool :=
  match s.host.window with
  | some e => Nat.blt s.now e
  | none => false
/-- The window closes. -/
def State.closeWindow (s : State) : State :=
  (s.modHost (fun h => { h with window := none })).drop R.SEC_STATUS F.SEC_STATUS_WINDOW_OPEN
/-- ENROL_WINDOW_EXPIRY by time `t`. -/
def State.windowExpiry (s : State) (t : Nat) : State :=
  match s.host.window with
  | some e => if e ≤ t then (s.at t).closeWindow else s
  | none => s

/-- KEY_STAGE and CRED_STAGE read zero. -/
def State.clearStages (s : State) : State :=
  ((List.range 8).foldl (fun s w => s.setRegN (R.KEY_STAGE w) 0) s).modHost (fun h => { h with credStage := copies 8 0#32 })
/-- The outcome of a command. -/
def State.secResult (s : State) (cmd slot res : Nat) : State := s.setRegN R.SEC_CMD_STATUS (cmd + 16 * slot + 256 * res)
/-- A refused command. -/
def State.secRefuse (s : State) (cmd slot res : Nat) : State :=
  (s.secResult cmd slot res).raise R.SEC_ERR (if res = 4 then F.SEC_ERR_KEY_CONFLICT else F.SEC_ERR_CMD_REJECT)
/-- A refusal whose RESULT the spec does not state: a free one of the refusal codes, with CMD_REJECT. -/
def State.secRefuseFree (s : State) (cmd slot : Nat) : State :=
  let (w, s) := s.fresh
  (s.secResult cmd slot (3 + w.toNat % 5)).raise R.SEC_ERR F.SEC_ERR_CMD_REJECT
/-- A command is taken; it completes when both store copies are written. -/
def State.secTake (s : State) (o : SecOp) : State :=
  (s.modHost (fun h => { h with secOp := some o })).raise R.SEC_STATUS F.SEC_STATUS_STORE_BUSY

/-- The staged public key. -/
def State.stagedKey (s : State) : List Byte := ((List.range 8).map (fun w => leBytes 4 (s.regN (R.KEY_STAGE w)))).flatten
/-- The staged secret. -/
def State.stagedCred (s : State) : List Byte := (s.host.credStage.map (fun w => leBytes 4 w.toNat)).flatten

/-- SEC_CMD with its checks (R576 to R578). -/
def State.secCmd (s : State) (v : Nat) : State :=
  let cmd := v % 16
  let slot := bitsOf v 7 4
  let role := bitsOf v 9 8
  let force := bitOf v 10
  let key := s.stagedKey
  let cred := s.stagedCred
  let s := s.clearStages
  if s.flag R.SEC_STATUS F.SEC_STATUS_STORE_BUSY then s.secRefuse cmd slot 7
  else if cmd = 1 then
    if (nth s.host.keys slot none).isSome then s.secRefuse cmd slot 3
    else if s.revoked.contains (keyId key) ∨ s.host.keys.any (fun k => match k with
        | some pk => keyId pk == keyId key
        | none => false) then s.secRefuse cmd slot 4
    else if key.all (fun b => b == 0#8) then s.secRefuseFree cmd slot
    else s.secTake ⟨cmd, slot, role, key⟩
  else if cmd = 2 then
    match nth s.host.keys slot none with
    | none => s.secRefuse cmd slot 3
    | some pk =>
      if 32 ≤ s.regN R.REVOKED_CNT then s.secRefuse cmd slot 6
      else if (s.host.keys.filter Option.isSome).length ≤ 1 then s.secRefuse cmd slot 5
      else if s.activeKeys.contains (keyId pk) ∧ !force then s.secRefuseFree cmd slot
      else s.secTake ⟨cmd, slot, role, []⟩
  else if cmd = 3 then
    if (nth s.host.creds slot none).isSome then s.secRefuse cmd slot 3
    else s.secTake ⟨cmd, slot, role, cred⟩
  else
    if (nth s.host.creds slot none).isNone then s.secRefuse cmd slot 3
    else if !force ∧ !((List.range 16).any (fun j => j != slot && s.regN (R.CRED_CFG j) % 8 == 7)) then s.secRefuse cmd slot 5
    else s.secTake ⟨cmd, slot, role, []⟩

/-- The effect of a command whose store write has ended. -/
def State.secDone (s : State) (o : SecOp) : State :=
  if o.cmd = 1 then
    let s := s.modHost (fun h => { h with keys := setNth h.keys o.slot (some o.bytes) })
    ((s.setReg64 (R.KEY_ID_LO o.slot) (keyId o.bytes)).setRegN (R.KEY_STATE o.slot) 1)
  else if o.cmd = 2 then
    let n := s.regN R.REVOKED_CNT
    let k := s.reg64 (R.KEY_ID_LO o.slot)
    let s := s.modHost (fun h => { h with keys := setNth h.keys o.slot none })
    let s := (s.setReg64 (R.KEY_ID_LO o.slot) 0).setRegN (R.KEY_STATE o.slot) 0
    (s.setReg64 (R.REVOKED_LO n) k).setRegN R.REVOKED_CNT (n + 1)
  else if o.cmd = 3 then
    let s := s.modHost (fun h => { h with
      creds := setNth h.creds o.slot (some o.bytes)
      groupRes := setNth h.groupRes o.slot 0 })
    let s := (s.setRegN (R.CRED_CFG o.slot) (1 + 2 * o.role)).setRegN (R.CRED_GROUP_CTR o.slot) 0
    if s.host.window.isSome then s.closeWindow else s
  else
    let s := s.modHost (fun h => { h with creds := setNth h.creds o.slot none })
    (s.setRegN (R.CRED_CFG o.slot) 0).closeCred o.slot

/-- SEC_STORE_COMPLETE: both copies are written, or a store write failed. -/
def State.secStored (s : State) (ok : Bool) : State :=
  match s.host.secOp with
  | none => s
  | some o =>
    let s := (s.modHost (fun h => { h with secOp := none })).drop R.SEC_STATUS F.SEC_STATUS_STORE_BUSY
    if ok then ((s.secDone o).secCounts).secResult o.cmd o.slot 1
    else (s.secResult o.cmd o.slot 7).raise R.SEC_ERR F.SEC_ERR_STORE

end Sys2Proof.Machine
end

