-- ==== Sys2Proof/Machine/Access.lean ====
section
/-! DEFINITION. A register access on a path: the checks of Table 19.4 in their order, read snapshots and write holds, and what a
write does (R330, R331, R560, R561, R569 to R575, R584 to R590). Statuses are the codes of Table 11.7. -/

namespace Sys2Proof.Machine

/-! ### Roles (Tables 19.1 and 19.2) -/

/-- The role an access on a path carries: that of its connection, or `r` for an RCP session other than 0. -/
def State.roleOf (s : State) (p : Path) (r : Nat) : Nat :=
  match p with
  | .rcp _ _ n => if n = 0 then 0 else r
  | .modbus _ => s.getF R.MODBUS_CFG F.MODBUS_CFG_ROLE
  | .mailbox => 0
  | .regset => 2

/-- Whether a write of CHAIN_CTRL changes BYPASS_FORCE. -/
def State.bypassChanges (s : State) (v : Nat) : Bool := bitOf v 1 != s.flag R.CHAIN_CTRL F.CHAIN_CTRL_BYPASS_FORCE

/-- The role that writing `v` to the register at `a` needs (R560, Table 19.2). -/
def State.writeRole (s : State) (a v : Nat) : Nat :=
  if a = R.IMG_CMD then (if v % 16 = 5 then 3 else 2)
  else if a = R.SEQ_FLOOR_LO ∨ a = R.SEQ_FLOOR_HI ∨ a = R.SYS_CMD ∨ a = R.PWR_CMD ∨ a = R.REC_CMD ∨ a = R.TIME_CMD then 3
  else if a = R.HARB_CMD ∨ a = R.ALM_CMD_ARG_LO ∨ a = R.ALM_CMD_ARG_HI then 1
  else if a = R.ALM_CMD then (opRole (v % 256)).getD 2
  else if a = R.CHAIN_CTRL then (if s.bypassChanges v then 3 else 2)
  else if a = R.PAIR_CMD then (if v % 16 = 2 ∨ v % 16 = 3 then 3 else 2)
  else if 0x80000 ≤ a ∧ a < 0x90000 then 3
  else if 0xA0000 ≤ a ∧ a < 0xB0000 then
    if s.windowOpen ∧ ((idxOf a (R.CRED_STAGE 0) 8 4).isSome ∨ (a = R.SEC_CMD ∧ v % 16 = 3 ∧ bitsOf v 9 8 = 3)) then 0 else 3
  else if 0xB0000 ≤ a ∧ a < 0xC0000 then
    if a = R.HS_CRED ∨ a = R.HS_HN_LO ∨ a = R.HS_HN_HI ∨ a = R.HS_CMD then 0 else 3
  else if a = R.TRIM_CMD then
    if (v % 16 = 1 ∧ 32 ≤ bitsOf v 9 4) ∨ (v % 16 ≠ 1 ∧ s.trimKind ≠ 0 ∧ 32 ≤ s.getF R.TRIM_STATUS F.TRIM_STATUS_CHANNEL) then 3
    else 2
  else if a = R.FAN_CTRL then (if bitOf v 0 then 3 else 2)
  else if a = R.RADIO_CFG then (if bitsOf v 3 2 = 2 then 3 else 2)
  else if s.power = 4 ∧ ((idxOf a (R.AO_CMD_LO 0) 16 64).isSome ∨ (idxOf a (R.AO_CMD_HI 0) 16 64).isSome ∨
      a = R.DO_CMD_LO ∨ a = R.DO_CMD_HI) then 3
  else if (gctrlKey a).isSome then 3
  else match dieAddr a with
    | some (_, o) => if 0x10000 ≤ o ∧ o < 0x50000 ∧ o % 0x10000 = 0x34 then 3 else 2
    | none => 2

/-! ### Debug windows -/

/-- Whether an address lies in a debug window: the DBG block, a quarter register window or the data window. -/
def isDebug (a : Nat) : Bool :=
  match dieAddr a with
  | some (_, o) => (Nat.ble 0x50000 o && Nat.blt o 0xA0000) || (Nat.ble 0xC0000 o && Nat.blt o 0x100000)
  | none => false
/-- Whether an address lies in the data window. -/
def isData (a : Nat) : Bool :=
  match dieAddr a with
  | some (_, o) => Nat.ble 0xC0000 o && Nat.blt o 0x100000
  | none => false
/-- R581: a maintainer session in SERVICE. -/
def State.debugOk (s : State) (p : Path) (role : Nat) : Bool := p.sess != 0 && role == 3 && s.power == 4
/-- Whether some register or window stands at the word of an address (R16, R583). -/
def isMapped (a : Nat) : Bool :=
  isDefined (a / 4 * 4) || isData a ||
    (match dieAddr a with
      | some (_, o) => Nat.ble 0x60000 o && Nat.blt o 0xA0000 && Nat.blt (o % 0x10000) 0x294
      | none => false)
/-- Whether an address lies in a compute die that is powered off (R575). -/
def State.dieDark (s : State) (a : Nat) : Bool :=
  match dieAddr a with
  | some (d, _) => !s.dieOn d
  | none => false

/-! ### Failures -/

/-- What a failed check counts. -/
def State.noteFail (s : State) (st : Nat) : State :=
  if st = 1 then s.inc R.NOT_READY_CNT else if st = 2 then s.denied else s
/-- A path's snapshot and hold go. -/
def State.dropHold (s : State) (p : Path) : State := s.setPath { s.pathSt p with snap := none, hold := none }
/-- An unmatched pair word (R572). -/
def State.pwReject (s : State) : State := (s.inc R.PW_REJECT_CNT).raise R.HOSTIF_ERR F.HOSTIF_ERR_PW_REJECT
/-- A high word without its hold (R571). -/
def State.tornWrite (s : State) : State := (s.inc R.TORN_WRITE_CNT).raise R.HOSTIF_ERR F.HOSTIF_ERR_TORN_WRITE

/-! ### Reads -/

/-- Checks 1 to 4 of Table 19.4 for a read or a write that needs role `need`. -/
def State.gate (s : State) (p : Path) (role need a : Nat) : Nat :=
  if s.dieDark a then 1
  else if isDebug a && !s.debugOk p role then 2
  else if role < need then 2
  else if !isMapped a then 3
  else 0

/-- A data window read of one word; `fresh` when it begins a debug read (R586 to R589). -/
def State.dataRead (s : State) (p : Path) (a : Nat) (fresh : Bool) : Nat × Word × State :=
  match dieAddr a with
  | none => (3, 0#32, s)
  | some (d, o) =>
    let s := if fresh then s.inc (R.DBG_READ_CNT d) else s
    let (st, w) := s.dataWord p d (o - 0xC0000)
    let x := s.pathSt p
    let pa := (nth x.phys d 0#64).toNat + (o - 0xC0000)
    let poison : Bool := F.DBG_PAGE_KIND.get (nth x.page d 0#32) == 4 && st == 3 &&
      (match s.img.run.home pa with
        | some (_, k, _) => s.poisoned k
        | none => false)
    (st, w, if poison then s.raise (R.DBG_ERR d) F.DBG_ERR_POISON else s.noteFail st)

/-- A 4-byte read. -/
def State.readOne (s : State) (p : Path) (role a : Nat) (fresh : Bool) : Nat × Word × State :=
  let st := s.gate p role 0 a
  let x := s.pathSt p
  let s := s.dropHold p
  if st ≠ 0 then (st, 0#32, s.noteFail st)
  else if a % 4 ≠ 0 then (4, 0#32, s)
  else if isData a then s.dataRead p a fresh
  else
    let w : Word := match x.snap with
      | some (h, w) => if h = a then w else s.view p a
      | none => s.view p a
    (0, w, if isLow a then s.setPath { s.pathSt p with snap := some (a + 4, s.view p (a + 4)) } else s)

/-- An 8-byte read of a register pair. -/
def State.readPair (s : State) (p : Path) (role a : Nat) : Nat × Nat × State :=
  let st := s.gate p role 0 a
  let s := s.dropHold p
  if st ≠ 0 then (st, 0, s.noteFail st)
  else if a % 4 ≠ 0 ∨ !isLow a then (4, 0, s)
  else (0, (s.view p a).toNat + 2 ^ 32 * (s.view p (a + 4)).toNat, s)

/-! ### Writes -/

/-- Mirrored state that a host writes (R388): setpoints, duty, output commands, watch arming, entries, and trims where set 3 is
mirrored. -/
def State.mirroredAddr (s : State) (a : Nat) : Bool :=
  a == R.DUTY_LO_LO || a == R.DUTY_HI_LO || a == R.DO_CMD_LO || a == R.WATCH_CFG || a == R.ALM_CMD ||
    (idxOf a (R.SETPOINT_LO 0) 4096 8).isSome || (idxOf a (R.AO_CMD_LO 0) 16 64).isSome ||
    (s.img.run.mirrorSets.contains 3 &&
      ((idxOf a (R.AI_ZERO_TRIM_LO 0) 32 64).isSome || (idxOf a (R.AI_SPAN_TRIM_LO 0) 32 64).isSome ||
        (idxOf a (R.AO_ZERO_TRIM_LO 0) 16 64).isSome || (idxOf a (R.AO_SPAN_TRIM_LO 0) 16 64).isSome))
/-- Whether such a write answers BUSY: the unit is in a pair and is without the token. -/
def State.mirrorBusy (s : State) (a : Nat) : Bool := s.mirroredAddr a && s.pairState != 0 && !s.holdsToken

/-- ALM_CMD queues an entry with the present argument; more than 16 in an epoch are not taken. -/
def State.almCmd (s : State) (role v : Nat) : State :=
  if 16 ≤ s.alm.cmds then s.raise R.ALM_ERR F.ALM_ERR_QUEUE_FULL
  else s.modAlm (fun a => { a with
    cmds := a.cmds + 1
    queue := a.queue ++ [⟨v % 256, bitsOf v 23 8, s.regN R.ALM_CMD_ARG_LO, role, .almCmd⟩] })

/-- CHAIN_CTRL: BYPASS_FORCE changes in SERVICE alone, and holds the relay CLOSED. -/
def State.chainCtrl (s : State) (v : Nat) : State :=
  if s.bypassChanges v ∧ s.power ≠ 4 then s.raise R.CHAIN_ERR F.CHAIN_ERR_CMD_REJECT
  else
    let s := s.mergeReg R.CHAIN_CTRL (liveBits R.CHAIN_CTRL) v
    s.setF R.CHAIN_STATUS F.CHAIN_STATUS_RELAY_OPEN
      (b2n (!bitOf v 1 && s.flag R.CHAIN_STATUS F.CHAIN_STATUS_PORTS_READY))

/-- QDBG of quarter `q` (R196, R581). -/
def State.qdbg (s : State) (q v : Nat) : Nat × State :=
  let st := if s.power = 4 then 0 else 2
  (st, if v % 4 = 1 then s.debugEnter q else if v % 4 = 2 then s.debugExit q else s.debugStep q (bitsOf v 15 8))

/-- What a checked 4-byte write does. -/
def State.effect (s : State) (p : Path) (role a v : Nat) : Nat × State :=
  if a = R.IMG_CMD then (0, s.imgCmd (v % 16))
  else if a = R.TIME_CMD then (0, if bitOf v 0 then s.acceptStep else s)
  else if a = R.HARB_CMD then (0, if v % 4 = 1 then s.harbPropose else s.wakeReq 3)
  else if a = R.PAIR_CMD then (0, s.pairCmd (v % 16))
  else if a = R.SYS_CMD then (0, s.restartCmd (bitOf v 4))
  else if a = R.PWR_CMD then (0, if v % 16 = 3 then s.dieResetCmd (bitsOf v 5 4) else s.svcCmd (v % 16))
  else if a = R.FAN_CTRL then (0, s.fanCtrl v)
  else if a = R.ALM_CMD then (0, s.almCmd role v)
  else if a = R.CHAIN_CTRL then (0, s.chainCtrl v)
  else if a = R.PACE_CTRL then (0, (s.writeFields a v (fun s m v => s.putShadow a m v)).paceHeld)
  else if a = R.PTP_CFG then (0, (s.writeFields a v (fun s m v => s.putShadow a m v)).bmca)
  else if a = R.SEC_CMD then (0, s.secCmd v)
  else if a = R.SESS_KILL then (0, s.closeSess v)
  else if a = R.HS_CMD then (0, s.hsCmd p v)
  else match idxOf a (R.CRED_STAGE 0) 8 4 with
    | some w => (0, s.modHost (fun h => { h with credStage := setNth h.credStage w (BitVec.ofNat 32 v) }))
    | none => match dieAddr a with
      | none => (0, s.writeFields a v (fun s m v => s.putShadow a m v))
      | some (d, o) =>
        if o = 0x50008 then
          (0, s.setPath { s.pathSt p with page := setNth (s.pathSt p).page d (BitVec.ofNat 32 (v % 2 ^ 14)) })
        else if 0x10000 ≤ o ∧ o < 0x50000 ∧ o % 0x10000 = 0xC then (0, s.qcmd (4 * d + (o - 0x10000) / 0x10000) (v % 8))
        else if 0x10000 ≤ o ∧ o < 0x50000 ∧ o % 0x10000 = 0x34 then s.qdbg (4 * d + (o - 0x10000) / 0x10000) v
        else (0, s.writeFields a v (fun s m v => s.putShadow a m v))

/-- What a checked write of a register pair does. -/
def State.effectPair (s : State) (p : Path) (a lo hi : Nat) : State :=
  if a = R.SEQ_FLOOR_LO then s.seqFloor lo
  else match dieAddr a with
    | some (d, o) =>
      if o = 0x50010 then
        s.setPath { s.pathSt p with phys := setNth (s.pathSt p).phys d (BitVec.ofNat 64 (lo + 2 ^ 32 * hi)) }
      else s.writePairFields a lo hi (fun s a m v => s.putShadow a m v)
    | none => s.writePairFields a lo hi (fun s a m v => s.putShadow a m v)

/-- Checks 7 and 8 for a write of `v` at `a`: 6, 8 or 0. -/
def State.lastChecks (s : State) (a v : Nat) : Nat :=
  if s.stoppedHit a v ∧ (epochBits a = 0 ∨ !s.encOk a v) then 6
  else if !s.encOk a v then 8
  else 0

/-- A checked 4-byte write takes effect, or fails check 7 or 8. A register with fields of several classes takes what it may and
still answers IGNORED_CLASS (R573). -/
def State.applyOne (s : State) (p : Path) (role a v : Nat) : Nat × State :=
  match s.lastChecks a v with
  | 6 => (6, s.classReject a)
  | 8 => (8, s.badWrite a)
  | _ =>
    if s.mirrorBusy a then (7, s)
    else
      let hit := s.stoppedHit a v
      let (st, s) := s.effect p role a v
      (if hit then 6 else st, s)

/-- The same for a register pair, whose halves apply together. -/
def State.applyPair (s : State) (p : Path) (a lo hi : Nat) : Nat × State :=
  let c0 := s.lastChecks a lo
  let c1 := if isPw a then 0 else s.lastChecks (a + 4) hi
  if c0 = 6 ∨ c1 = 6 then (6, s.classReject a)
  else if c0 = 8 ∨ c1 = 8 then (8, s.badWrite a)
  else if s.mirrorBusy a then (7, s)
  else (0, s.effectPair p a lo hi)

/-- A 4-byte data window write (R586, R590). -/
def State.dataWrite (s : State) (p : Path) (a v : Nat) : Nat × State :=
  match dieAddr a with
  | none => (3, s)
  | some (d, o) =>
    let x := s.pathSt p
    if F.DBG_PAGE_KIND.get (nth x.page d 0#32) ≠ 4 then (2, s.raise (R.DBG_ERR d) F.DBG_ERR_BAD_WRITE)
    else
      let pa := (nth x.phys d 0#64).toNat + (o - 0xC0000)
      match s.img.run.home pa with
      | none => (3, s)
      | some (h, k, _) =>
        if !s.img.run.runs h then (3, s)
        else if allQ.any s.qActive then
          (6, ((s.inc R.CLASS_REJECT_CNT).raise R.HOSTIF_ERR F.HOSTIF_ERR_CLASS).raise (R.DBG_ERR d) F.DBG_ERR_CLASS)
        else if k < 0x1000000000 ∧ hubArea ≤ k % 0x400000000 then (2, s)
        else if s.memState h ≠ 3 then (1, s.inc R.NOT_READY_CNT)
        else if s.poisoned k then (3, s.raise (R.DBG_ERR d) F.DBG_ERR_POISON)
        else (0, s.poke k (leBytes 4 v))

/-- A 4-byte write (R571 to R574). -/
def State.writeOne (s : State) (p : Path) (role a v : Nat) : Nat × State :=
  let st := s.gate p role (s.writeRole a v) a
  let x := s.pathSt p
  let s := s.dropHold p
  if st ≠ 0 then (st, s.noteFail st)
  else if a % 4 ≠ 0 then (4, s)
  else if isData a then s.dataWrite p a v
  else match rowOf a with
    | none => (0, s)
    | some r =>
      if r.acc = .pw then (5, s.pwReject)
      else if r.acc = .w1c then (0, s.setRegN a (s.regN a - Nat.land (s.regN a) (Nat.land v r.mask)))
      else if r.acc = .rw ∧ isLow a = true then
        (0, s.setPath { s.pathSt p with hold := some (a, BitVec.ofNat 32 v) })
      else if r.acc = .rw ∧ isHigh a = true then
        match x.hold with
        | some (l, w) => if l + 4 = a then s.applyPair p l w.toNat v else (4, s.tornWrite)
        | none => (4, s.tornWrite)
      else s.applyOne p role a v

/-- An 8-byte write of a register pair. -/
def State.writePair (s : State) (p : Path) (role a lo hi : Nat) : Nat × State :=
  let st := s.gate p role (s.writeRole a lo) a
  let s := s.dropHold p
  if st ≠ 0 then (st, s.noteFail st)
  else if a % 4 ≠ 0 ∨ !isLow a then (4, s)
  else match rowOf a with
    | none => (0, s)
    | some r =>
      if r.acc = .pw ∧ (hi ≠ compl32 lo ∨ Nat.land lo (pwReserved a) ≠ 0) then (5, s.pwReject)
      else s.applyPair p a lo hi

/-- Read-modify-write of one register: status, old value, state (R330). -/
def State.rmw (s : State) (p : Path) (role a mask v : Nat) : Nat × Word × State :=
  let old := if isMapped a ∧ a % 4 = 0 ∧ !isData a then (s.view p a) else if isData a then (s.dataRead p a false).2.1 else 0#32
  let (st, s) := s.writeOne p role a (mergeBits mask v old.toNat)
  (st, if st = 0 ∨ st = 6 then old else 0#32, s)

/-- BLOCK_READ: words until the first failure. -/
def State.readBlock (s : State) (p : Path) (role a n : Nat) : Nat × List Word × State :=
  (List.range n).foldl (fun r i =>
    if r.1 ≠ 0 then r
    else
      let (st, w, s) := r.2.2.readOne p role (a + 4 * i) (i == 0 || !isData (a + 4 * i - 4))
      if st = 0 then (0, r.2.1 ++ [w], s) else (st, r.2.1, s)) (0, [], s)

/-- BLOCK_WRITE: words until the first failure; how many completed. -/
def State.writeBlockWords (s : State) (p : Path) (role a : Nat) (ws : List Nat) : Nat × Nat × State :=
  (ws.zipIdx).foldl (fun r e =>
    if r.1 ≠ 0 then r
    else
      let (st, s) := r.2.2.writeOne p role (a + 4 * e.2) e.1
      if st = 0 then (0, r.2.1 + 1, s) else (st, r.2.1, s)) (0, 0, s)

/-! ### A command row that is one register write

Each of these is a write on a path by an access that carries `role`, with what Table 19.4 asks of it: NOT_READY before the
first commit of a bring-up (R333), then the checks. -/

/-- A 4-byte write on a path. -/
def State.hostWrite (s : State) (p : Path) (role a v : Nat) : State :=
  if s.host.begun then (s.writeOne p (s.roleOf p role) a v).2 else s.inc R.NOT_READY_CNT
/-- A pair-word write on a path: value `v` with its complement. -/
def State.hostPair (s : State) (p : Path) (role a v : Nat) : State :=
  if s.host.begun then (s.writePair p (s.roleOf p role) a v (compl32 v)).2 else s.inc R.NOT_READY_CNT
/-- An 8-byte write of a 64-bit pair on a path. -/
def State.hostWide (s : State) (p : Path) (role a : Nat) (v : Nat) : State :=
  if s.host.begun then (s.writePair p (s.roleOf p role) a (v % 2 ^ 32) (v / 2 ^ 32)).2 else s.inc R.NOT_READY_CNT
/-- A 4-byte write, or an 8-byte write whose high word is `hi`. -/
def State.hostAny (s : State) (p : Path) (role a v : Nat) (hi : Option Nat) : State :=
  match hi with
  | none => s.hostWrite p role a v
  | some h => s.hostWide p role a (v + 2 ^ 32 * h)
/-- Consecutive words on a path. -/
def State.hostBlock (s : State) (p : Path) (role a : Nat) (ws : List Nat) : State :=
  if s.host.begun then (s.writeBlockWords p (s.roleOf p role) a ws).2.2 else s.inc R.NOT_READY_CNT

end Sys2Proof.Machine
end

