-- ==== Sys2Proof/Machine/Frames.lean ====
section
/-! DEFINITION. Requests from hosts: REGISTER, COMMAND and IMAGE frames with their responses (R325 to R334, R529), Modbus TCP (R339
to R341), and the tag mailbox (R553). -/

namespace Sys2Proof.Machine

/-! ### Kept responses (R332) -/

/-- The response kept for a request, when it is one of the last 16 of its source and not older than 1 s. -/
def State.keptFor (s : State) (src sess req : Nat) : Option KeptResp :=
  s.chain.kept.find? (fun k => k.src == src && k.sess == sess && k.req == req && Nat.ble s.now (k.time + 1000000000))
/-- Keep a response, 16 for each source. -/
def State.keep (s : State) (k : KeptResp) : State :=
  s.modCh (fun c => { c with
    kept := k :: ((c.kept.filter (fun x => x.src == k.src)).take 15 ++ c.kept.filter (fun x => x.src != k.src)) })
/-- Send a response and keep it. -/
def State.answer (s : State) (p : Path) (req typ : Nat) (body : List Byte) : State :=
  match p with
  | .rcp port src sess => (s.respond port typ src body).keep ⟨src, sess, req, s.now, typ, body⟩
  | _ => s

/-! ### REGISTER (R330, R331) -/

/-- A REGISTER response. -/
def regResp (req st n addr : Nat) (data : List Byte) : List Byte :=
  leBytes 4 req ++ leBytes 1 st ++ copies 3 0#8 ++ leBytes 2 n ++ copies 2 0#8 ++ leBytes 4 addr ++ data
/-- Words as bytes. -/
def wordBytes (ws : List Word) : List Byte := (ws.map (fun w => leBytes 4 w.toNat)).flatten
/-- Whether WIDTH, COUNT and length of a request suit its OP. -/
def regShape (op width count len : Nat) : Bool :=
  match op with
  | 1 => (width == 4 || width == 8) && count == 1 && len == 32
  | 2 => (width == 4 || width == 8) && count == 1 && len == 32 + width
  | 3 => width == 4 && count == 1 && len == 40
  | 4 => width == 4 && Nat.ble 1 count && Nat.ble count 256 && len == 32
  | 5 => width == 4 && Nat.ble 1 count && Nat.ble count 256 && len == 32 + 4 * count
  | _ => false

/-- A request that passed AUTH: status, DONE, data, state. -/
def State.regDo (s : State) (p : Path) (role op width count addr : Nat) (d : List Byte) : Nat × Nat × List Byte × State :=
  if op = 1 then
    if width = 8 then
      let (st, v, s) := s.readPair p role addr
      (st, if st = 0 then 2 else 0, leBytes 8 v, s)
    else
      let (st, w, s) := s.readOne p role addr true
      (st, if st = 0 then 1 else 0, leBytes 4 w.toNat, s)
  else if op = 2 then
    if width = 8 then
      let (st, s) := s.writePair p role addr (fieldAt d 0 4) (fieldAt d 4 4)
      (st, if st = 0 then 2 else 0, [], s)
    else
      let (st, s) := s.writeOne p role addr (fieldAt d 0 4)
      (st, if st = 0 then 1 else 0, [], s)
  else if op = 3 then
    let (st, w, s) := s.rmw p role addr (fieldAt d 0 4) (fieldAt d 4 4)
    (st, if st = 0 then 1 else 0, leBytes 4 w.toNat, s)
  else if op = 4 then
    let (st, ws, s) := s.readBlock p role addr count
    (st, ws.length, wordBytes ws, s)
  else
    let (st, n, s) := s.writeBlockWords p role addr ((List.range count).map (fun i => fieldAt d (4 * i) 4))
    (st, n, [], s)

/-- A REGISTER request of OP `k`; a frame of another OP is no such request. -/
def State.register (s0 : State) (k : Nat) (f : RcpFrame) : State :=
  let b := f.payload
  let op := fieldAt b 8 1
  if 1 ≤ op ∧ op ≤ 5 ∧ op ≠ k then s0
  else
    let (del, s) := s0.rcpIn 0x20 f
    if !del ∨ f.resp then s
    else if b.length < 32 ∨ f.dst = groupMac then s.badFrame
    else
      let req := fieldAt b 0 4
      let sess := fieldAt b 4 4
      let width := fieldAt b 9 1
      let count := fieldAt b 10 2
      let addr := fieldAt b 12 4
      let p : Path := .rcp f.port f.src sess
      let inSys : Bool := (op == 1 || op == 4) && Nat.ble (addr + 4 * max count (width / 4)) 0x10000
      if (!s.host.begun ∧ !inSys) ∨ s.dieDark addr = true then
        (s.inc R.NOT_READY_CNT).answer p req 0x20 (regResp req 1 0 addr (if op = 1 then copies width 0#8 else if op = 3 then copies 4 0#8 else []))
      else match s.keptFor f.src sess req with
        | some x => s.respond f.port x.typ f.src x.body
        | none =>
          match s.authCheck 0x20 false 16 f.src b with
          | (none, s) => s.answer p req 0x20 (regResp req 9 0 addr [])
          | (some role, s) =>
            let (st, n, d, s) : Nat × Nat × List Byte × State :=
              if regShape op width count b.length then s.regDo p role op width count addr (b.drop 32) else (8, 0, [], s)
            (s.answer p req 0x20 (regResp req st n addr d)).sessSpent sess

/-- DEBUG_DATA_READ: a 4-byte read of the data window at `a` in request `req`, with its answer (R588, R589). -/
def State.debugRead (s : State) (p : Path) (role req a : Nat) : State :=
  if !s.host.begun then (s.inc R.NOT_READY_CNT).answer p req 0x20 (regResp req 1 0 a [0#8, 0#8, 0#8, 0#8])
  else
    let (st, w, s) := s.readOne p (s.roleOf p role) a true
    s.answer p req 0x20 (regResp req st (b2n (st == 0)) a (leBytes 4 w.toNat))

/-! ### COMMAND (R325, R326, R388, R529) -/

/-- An entry of a COMMAND payload: OP, INDEX, ARG pair. -/
def cmdEntries (b : List Byte) : List (Nat × Nat × Nat) :=
  (List.range (fieldAt b 24 2)).map (fun e => (fieldAt b (32 + 16 * e) 1, fieldAt b (34 + 16 * e) 2, fieldAt b (40 + 16 * e) 8))
/-- Whether the zero bytes, COUNT and length of a COMMAND payload are right. -/
def cmdShape (b : List Byte) : Bool :=
  let n := fieldAt b 24 2
  Nat.ble 1 n && Nat.ble n 91 && b.length == 32 + 16 * n && zeroAt b 26 6 &&
    (List.range n).all (fun e => zeroAt b (33 + 16 * e) 1 && zeroAt b (36 + 16 * e) 4)
/-- A COMMAND response: entries are OP, STATUS and INDEX. -/
def cmdResp (req st : Nat) (es : List (Nat × Nat × Nat)) : List Byte :=
  leBytes 4 req ++ leBytes 1 st ++ copies 3 0#8 ++ leBytes 2 es.length ++ copies 6 0#8 ++
    (es.map (fun e => leBytes 1 e.1 ++ leBytes 1 e.2.1 ++ leBytes 2 e.2.2)).flatten

/-- Entries that pass the role check go to the holder, in a unit without the token. -/
def State.cmdForward (s : State) (p : Path) (req role : Nat) (group : Bool) (es : List (Nat × Nat × Nat)) : State :=
  if group then s
  else
    let low (op : Nat) : Bool := match opRole op with
      | some r => Nat.blt role r
      | none => false
    let s := (es.filter (fun e => low e.1)).foldl (fun s _ => s.denied) s
    let s := s.forwardEntries ((es.filter (fun e => !low e.1)).map (fun e => (e.1, e.2.1, e.2.2 % 2 ^ 32)))
    s.answer p req 0x02 (cmdResp req 0 (es.map (fun e => (e.1, if low e.1 then 2 else 0x12, e.2.1))))

/-- COMMAND_FRAME. -/
def State.commandFrame (s0 : State) (f : RcpFrame) : State :=
  let (del, s) := s0.rcpIn 0x02 f
  let b := f.payload
  let group := f.dst == groupMac
  if !del ∨ f.resp then s
  else if b.length < 32 then s.badFrame
  else
    let req := fieldAt b 0 4
    let sess := fieldAt b 4 4
    let p : Path := .rcp f.port f.src sess
    let refuse (s : State) (st : Nat) : State := if group then s else s.answer p req 0x02 (cmdResp req st [])
    if cmdShape b ∧ (cmdEntries b).any (fun e => !isPairWord e.2.2) then s.pwFrame
    else if !s.host.begun then refuse (s.inc R.NOT_READY_CNT) 1
    else match s.keptFor f.src sess req with
      | some x => if group then s else s.respond f.port x.typ f.src x.body
      | none =>
        match s.authCheck 0x02 group 8 f.src b with
        | (none, s) => refuse s 9
        | (some role, s) =>
          let s : State :=
            if !cmdShape b then (if group then s.badFrame else refuse s 8)
            else if s.pairState ≠ 0 ∧ !s.holdsToken then s.cmdForward p req role group (cmdEntries b)
            else s.modAlm (fun a => { a with
              queue := a.queue ++ (cmdEntries b).map (fun e => ⟨e.1, e.2.1, e.2.2 % 2 ^ 32, role, .frame p req group⟩) })
          s.sessSpent sess

/-- One command entry that reaches the node on a path in request `req`, with the role it carries: it waits for the next commit, is
forwarded to the holder, or finds bring-up still running. -/
def State.entryIn (s : State) (p : Path) (req role op index arg : Nat) : State :=
  if !s.host.begun then (s.inc R.NOT_READY_CNT).answer p req 0x02 (cmdResp req 1 [])
  else if s.pairState ≠ 0 ∧ !s.holdsToken then s.cmdForward p req (s.roleOf p role) false [(op, index, arg)]
  else s.modAlm (fun a => { a with queue := a.queue ++ [⟨op, index, arg, s.roleOf p role, .frame p req false⟩] })

/-- The answer to a frame whose entries a commit applied, given as entry with its status. -/
def State.cmdAnswer (s : State) (p : Path) (req : Nat) (rs : List (CmdEntry × Nat)) : State :=
  s.answer p req 0x02 (cmdResp req 0 (rs.map (fun r => (r.1.op, r.2, r.1.index))))

/-! ### IMAGE (R334) -/

/-- IMAGE. -/
def State.imageFrame (s0 : State) (f : RcpFrame) : State :=
  let (del, s) := s0.rcpIn 0x50 f
  let b := f.payload
  if !del ∨ f.resp then s
  else if b.length < 32 ∨ f.dst = groupMac then s.badFrame
  else
    let req := fieldAt b 0 4
    let sess := fieldAt b 4 4
    let len := fieldAt b 28 2
    let p : Path := .rcp f.port f.src sess
    let reply (s : State) (st : Nat) : State :=
      s.answer p req 0x50 (leBytes 4 req ++ leBytes 1 st ++ copies 3 0#8 ++ leBytes 4 (s.regN R.RECV_BYTES))
    if !s.host.begun then reply (s.inc R.NOT_READY_CNT) 1
    else match s.keptFor f.src sess req with
      | some x => s.respond f.port x.typ f.src x.body
      | none =>
        match s.authCheck 0x50 false 8 f.src b with
        | (none, s) => reply s 9
        | (some role, s) =>
          let s : State :=
            if role < 2 then reply s.denied 2
            else if !(Nat.ble 1 len && Nat.ble len 1456 && b.length == 32 + len && zeroAt b 30 2) then reply s 8
            else
              let (ok, s) := s.imgTransfer (fieldAt b 24 4) (b.drop 32)
              reply s (if ok then 0 else 0x0A)
          s.sessSpent sess

/-! ### Modbus TCP (R339 to R341) -/

/-- Windows of function code 4: first and last Modbus address, node base. -/
def inputWindows : List (Nat × Nat × Nat) :=
  [(0x0000, 0x07FF, 0x0000000), (0x1000, 0x17FF, 0x0010000), (0x2000, 0x3FFF, 0x0070000), (0x4000, 0x47FF, 0x4000000),
   (0x4800, 0x4FFF, 0x4100000), (0x5000, 0x57FF, 0x0030000)]
/-- The window of function codes 3, 6, 16 and 23. -/
def holdingWindows : List (Nat × Nat × Nat) := [(0x0000, 0x1FFF, 0x0070000)]
/-- Byte address in the node of a Modbus word: its register, plus 2 for the high half. -/
def modbusAddr (ws : List (Nat × Nat × Nat)) (m : Nat) : Option Nat :=
  (ws.find? (fun w => Nat.ble w.1 m && Nat.ble m w.2.1)).map (fun w => w.2.2 + 2 * (m - w.1))
/-- Node addresses of consecutive words, when every one lies in a window. -/
def modbusAddrs (ws : List (Nat × Nat × Nat)) (m n : Nat) : Option (List Nat) :=
  (List.range n).foldl (fun l i => match l, modbusAddr ws (m + i) with
    | some l, some a => some (l ++ [a])
    | _, _ => none) (some [])

/-- Whether the server answers on a connection: 0 to 3 on X5, 4 to 7 on the chain. -/
def State.modbusOn (s : State) (conn : Nat) : Bool :=
  if conn < 4 then s.flag R.MODBUS_CFG F.MODBUS_CFG_EN_X5 && s.regN R.IP_X5 != 0
  else s.flag R.MODBUS_CFG F.MODBUS_CFG_EN_CHAIN && s.regN R.IP_CHAIN != 0 && s.portsUp
/-- A Modbus answer leaves its connection: unit, function code, data. -/
def State.modbusOut (s : State) (conn unit fc : Nat) (d : List Byte) : State :=
  s.send (if conn < 4 then 6 else 4) 0x1F6 conn (leBytes 1 unit ++ leBytes 1 fc ++ d)
/-- An exception answer. -/
def State.modbusFail (s : State) (conn unit fc code : Nat) : State := s.modbusOut conn unit (fc + 128) (leBytes 1 code)
/-- The exception of a status of Table 11.7, none where the access passes. -/
def modbusCode (st : Nat) : Option Nat :=
  if st = 0 ∨ st = 3 then none
  else if st = 1 then some 6
  else if st = 2 then some 1
  else if st = 4 then some 2
  else some 4

/-- The words read for node addresses: each register once, in order. -/
def State.modbusRead (s : State) (p : Path) : List Nat → Option (Nat × Word) → List Byte → State → List Byte × State
  | [], _, out, t => (out, t)
  | a :: rest, got, out, t =>
    let r := a / 4 * 4
    let (w, t) : Word × State := match got with
      | some (g, w) => if g = r then (w, t) else (t.readOne p (t.roleOf p 0) r true).2
      | none => (t.readOne p (t.roleOf p 0) r true).2
    s.modbusRead p rest (some (r, w)) (out ++ beBytes 2 (if a % 4 = 0 then w.toNat % 65536 else w.toNat / 65536)) t

/-- Group the words of a write, given with their node addresses, into registers; none when a register is not wholly written, low
word first, or a PW register is not written by its four words. The count bounds the registers. -/
def modbusRegs : Nat → List (Nat × Nat) → Option (List (Nat × Nat × Option Nat))
  | _, [] => some []
  | 0, _ => none
  | k + 1, (a, v) :: (b, w) :: t =>
    if a % 4 ≠ 0 ∨ b ≠ a + 2 then none
    else if isPw a then match t with
      | (c, x) :: (_, y) :: t =>
        if isLow a ∧ c = a + 4 then (modbusRegs k t).map (fun l => (a, v + 65536 * w, some (x + 65536 * y)) :: l) else none
      | _ => none
    else (modbusRegs k t).map (fun l => (a, v + 65536 * w, none) :: l)
  | _, _ => none

/-- Write registers in order until one fails: the exception, and the state. -/
def State.modbusWrite (s : State) (p : Path) : List (Nat × Nat × Option Nat) → State → Option Nat × State
  | [], t => (none, t)
  | (a, v, h) :: rest, t =>
    let (st, t) := match h with
      | some h => t.writePair p (t.roleOf p 0) a v h
      | none => t.writeOne p (t.roleOf p 0) a v
    match modbusCode st with
    | some c => (some c, t)
    | none => s.modbusWrite p rest t

/-- A request on a connection: unit identifier, then the first commit (R341). `sys` says that the request is FC 4 within SYS. -/
def State.modbusReq (s : State) (conn : BitVec 3) (unit : Byte) (fc : Nat) (sys : Bool) (k : State → Nat → Nat → State) : State :=
  let c := conn.toNat
  let u := unit.toNat
  if !s.firmware || !s.modbusOn c then s
  else if u ≠ 0 ∧ u ≠ s.getF R.MODBUS_CFG F.MODBUS_CFG_UNIT_ID then s.modbusFail c u fc 0x0B
  else if !s.host.begun ∧ !sys then s.modbusFail c u fc 6
  else k s c u

/-- Function codes 3 and 4. -/
def State.modbusReads (s : State) (fc : Nat) (ws : List (Nat × Nat × Nat)) (conn : BitVec 3) (unit : Byte) (addr qty : BitVec 16) :
    State :=
  let m := addr.toNat
  let n := qty.toNat
  s.modbusReq conn unit fc (fc == 4 && Nat.ble (m + n) 0x800) (fun s c u =>
    if n = 0 ∨ 125 < n then s.modbusFail c u fc 3
    else match modbusAddrs ws m n with
      | none => s.modbusFail c u fc 2
      | some as =>
        let (d, s) := s.modbusRead (.modbus c) as none [] s
        s.modbusOut c u fc (leBytes 1 (2 * n) ++ d))

/-- Function code 6. -/
def State.modbusSingle (s : State) (conn : BitVec 3) (unit : Byte) (addr value : BitVec 16) : State :=
  s.modbusReq conn unit 6 false (fun s c u =>
    match modbusAddr holdingWindows addr.toNat with
    | none => s.modbusFail c u 6 2
    | some a =>
      let wide : Bool := match rowOf a with
        | some r => Nat.ble 65536 r.mask || r.acc == .pw
        | none => false
      if a % 4 ≠ 0 ∨ wide = true then s.modbusFail c u 6 2
      else
        let (e, s) := s.modbusWrite (.modbus c) [(a, value.toNat, none)] s
        match e with
        | some x => s.modbusFail c u 6 x
        | none => s.modbusOut c u 6 (beBytes 2 addr.toNat ++ beBytes 2 value.toNat))

/-- The write of function codes 16 and 23: the exception, and the state. -/
def State.modbusPut (s : State) (c m : Nat) (vs : List Nat) : Option Nat × State :=
  match modbusAddrs holdingWindows m vs.length with
  | none => (some 2, s)
  | some as => match modbusRegs vs.length (as.zip vs) with
    | none => (some 2, s)
    | some l => s.modbusWrite (.modbus c) l s

/-- Function code 16. -/
def State.modbusMultiple (s : State) (conn : BitVec 3) (unit : Byte) (addr : BitVec 16) (vs : List (BitVec 16)) : State :=
  s.modbusReq conn unit 16 false (fun s c u =>
    if vs.length = 0 ∨ 123 < vs.length then s.modbusFail c u 16 3
    else match s.modbusPut c addr.toNat (vs.map BitVec.toNat) with
      | (some x, s) => s.modbusFail c u 16 x
      | (none, s) => s.modbusOut c u 16 (beBytes 2 addr.toNat ++ beBytes 2 vs.length))

/-- Function code 23: the write, then the read. -/
def State.modbusBoth (s : State) (conn : BitVec 3) (unit : Byte) (raddr rqty waddr : BitVec 16) (vs : List (BitVec 16)) : State :=
  s.modbusReq conn unit 23 false (fun s c u =>
    let n := rqty.toNat
    if n = 0 ∨ 125 < n ∨ vs.length = 0 ∨ 121 < vs.length then s.modbusFail c u 23 3
    else match modbusAddrs holdingWindows raddr.toNat n with
      | none => s.modbusFail c u 23 2
      | some as => match s.modbusPut c waddr.toNat (vs.map BitVec.toNat) with
        | (some x, s) => s.modbusFail c u 23 x
        | (none, s) =>
          let (d, s) := s.modbusRead (.modbus c) as none [] s
          s.modbusOut c u 23 (leBytes 1 (2 * n) ++ d))

/-! ### Mailbox (R553) -/

/-- MAILBOX_SERVE. -/
def State.mailboxServe (s : State) : State :=
  if !s.pwr.up ∨ !s.tag.mbxDue ∨ !s.flag R.TAG_CTRL F.TAG_CTRL_MBX_EN ∨ !s.flag R.TAG_STATUS F.TAG_STATUS_TAG_OK then s
  else match s.tagRecord mailbox with
    | none => (s.modTag (fun t => { t with mbxDue := false })).showMbx
    | some r =>
      let b := r.payload
      let req := fieldAt b 0 4
      let n := fieldAt b 5 1
      let addr := fieldAt b 8 4
      if r.kind ≠ 0x10 ∨ s.tag.answered = some req then (s.modTag (fun t => { t with mbxDue := false })).showMbx
      else if s.tag.session then (s.inc R.HOST_BUSY_CNT).raise R.TAG_ERR F.TAG_ERR_BUSY
      else
        let (st, ws, s) : Nat × List Word × State :=
          if !s.host.begun ∧ 0x10000 < addr + 4 * n then (1, [], s.inc R.NOT_READY_CNT)
          else if b.length ≠ 12 ∨ fieldAt b 4 1 ≠ 1 ∨ n = 0 ∨ 32 < n ∨ fieldAt b 6 2 ≠ 0 then (8, [], s)
          else s.readBlock .mailbox 0 addr n
        let s := s.tagPutRecord mailbox 0x11
          (leBytes 4 req ++ leBytes 1 st ++ [0#8] ++ leBytes 2 ws.length ++ leBytes 4 addr ++ wordBytes ws)
        let s := (s.modTag (fun t => { t with mbxDue := false, answered := some req })).showMbx
        s.setRegN R.MBX_STATUS (req % 65536 + 65536 * st)

end Sys2Proof.Machine
end

