-- ==== Sys2Proof/Machine/Commit.lean ====
section
/-! DEFINITION. The commit of an epoch (10_integrity_and_recovery.md, R292; 02_time_and_epochs.md): results, commands, image
values, the alarm engine, the commit record, and what follows at its end; loss of units (R305), RECONFIGURE (R306), the mirror
record (R365) and the follow commit of a standby (R367). -/

namespace Sys2Proof.Machine

/-! ### Result areas (R287, R288, R290) -/

/-- The 8-byte entries that hold a byte other than zero, as numbers of 8 bytes. -/
def wordKeys : List (Nat × Byte) → List Nat
  | [] => []
  | p :: t => if (wordKeys t).head? = some (p.1 / 8) then wordKeys t else p.1 / 8 :: wordKeys t

/-- First byte of the result area of die `d`. -/
def resultBase (d : Nat) : Nat := d * 0x400000000 + hubArea + 0x4000000

/-- The written entries of die `d`: entry number, value, die. -/
def State.written (s : State) (d : Nat) : List (Nat × Nat × Nat) :=
  let b := resultBase d
  (wordKeys (s.mem.bytes.filter (fun p => Nat.ble b p.1 && Nat.blt p.1 (b + 0x8090)))).map
    (fun k => (k - b / 8, memNat s.mem.bytes (8 * k) 8, d))

/-- The written entries of every running die, dies in increasing number. -/
def State.resultEntries (s : State) : List (Nat × Nat × Nat) :=
  (((List.range 4).filter s.img.run.runs).map s.written).flatten

/-- Whether a written entry stands: a pair word, an output command that follows Table 14.4, a relay command of four bits. -/
def resultOk (e : Nat × Nat × Nat) : Bool :=
  let v := e.2.1 % 2 ^ 32
  isPairWord e.2.1 && (Nat.blt e.1 4096 || (Nat.blt e.1 4112 && aoWordOk v) || e.1 == 4112 || (e.1 == 4113 && Nat.blt v 16))

/-- Poisoned blocks of the result areas the commit reads. -/
def State.resultPoison (s : State) : List Nat :=
  s.mem.poison.filter (fun k => ((List.range 4).filter s.img.run.runs).any (fun d =>
    Nat.ble (resultBase d) k && Nat.blt k (resultBase d + 0x8090)))

/-- The entries taken: for each number the one of the lowest die. -/
def takeFirst : List (Nat × Nat × Nat) → List (Nat × Nat × Nat) → List (Nat × Nat × Nat)
  | acc, [] => acc
  | acc, e :: t => takeFirst (if acc.any (fun x => x.1 == e.1) then acc else acc ++ [e]) t

/-- Apply the outputs of the results (R439); in SERVICE every output holds its committed command (R412). -/
def State.applyResults (s : State) (es : List (Nat × Nat × Nat)) : State :=
  if s.power = 4 then s
  else es.foldl (fun s e =>
    let v := e.2.1 % 2 ^ 32
    if e.1 < 4096 then s
    else if e.1 < 4112 then s.aoWrite (e.1 - 4096) v
    else if e.1 = 4112 then s.setPair R.DO_COMMITTED_LO v
    else s.modIo (fun io => { io with relay := BitVec.ofNat 64 (pairWord v) })) s

/-- The scores among the results: slot, value, die. -/
def resultScores (es : List (Nat × Nat × Nat)) : List (Nat × Nat × Nat) :=
  (es.filter (fun e => Nat.blt e.1 4096)).map (fun e => (e.1, e.2.1 % 2 ^ 32, e.2.2))

/-! ### Commands (R27, R94) -/

/-- Apply epoch-class writes in the order of their latest write (R573). -/
def State.applyShadows (s : State) (n : Nat) : State :=
  s.host.shadows.foldl (fun s e => if e.1 = R.TAG_CMD then s.applyStaging else s.takeReg n e.1 e.2.1 e.2.2)
    (s.modHost (fun h => { h with shadows := [] }))

/-- Whether an entry is a front-panel action. -/
def panelEntry (e : CmdEntry) : Bool := Nat.ble 0x20 e.op && Nat.ble e.op 0x25 && (match e.src with
  | .panel => true
  | .fwd _ => true
  | _ => false)

/-- Apply entries in order, keeping their statuses; a role refusal is counted (R561). -/
def State.applyEntries (x : State × List (CmdEntry × Nat)) (es : List CmdEntry) : State × List (CmdEntry × Nat) :=
  es.foldl (fun x e =>
    if panelEntry e then (x.1.applyPanel e, x.2 ++ [(e, 0)])
    else
      let r := x.1.applyEntry e
      (if r.1 = 2 then r.2.denied else r.2, x.2 ++ [(e, r.1)])) x

/-- Host commands, then front-panel actions. -/
def State.applyCommands (s : State) (n : Nat) : State × List (CmdEntry × Nat) :=
  let es := s.alm.queue
  let s := s.modAlm (fun a => { a with queue := [], cmds := 0 })
  let x := State.applyEntries (s.applyShadows n, []) (es.filter (fun e => !panelEntry e))
  State.applyEntries x (es.filter panelEntry)

/-- Answers to the COMMAND frames whose entries were applied; a group-addressed frame has none. -/
def State.answerFrames (s : State) (rs : List (CmdEntry × Nat)) : State :=
  let keys := (rs.filterMap (fun r => match r.1.src with
    | .frame p req false => some (p, req)
    | _ => none)).eraseDups
  keys.foldl (fun s k => s.cmdAnswer k.1 k.2 (rs.filter (fun r => r.1.src == .frame k.1 k.2 false))) s

/-! ### Lost units (R305, R306) -/

/-- Lost quarters as a list. -/
def State.lostList (s : State) : List Nat := allQ.filter s.isLost

/-- The variant for a set of lost quarters (R81): its ID and KIND. -/
def RunCfg.variantFor (c : RunCfg) (lost : List Nat) : Option (Nat × Nat) :=
  let rs := (tableRecs ((secFind c.secs 13 0).getD [])).filter (fun r =>
    lost.all (fun q => bitOf (fieldAt r 2 2) q) && lost.all (fun q => !bitOf (fieldAt r 4 2) q))
  (List.range 8).findSome? (fun v => (rs.find? (fun r => fieldAt r 0 1 == v)).map (fun r => (v, fieldAt r 1 1)))

/-- Select variant `v`, 0 for the primary configuration, and load its compute sections (R93 steps 3 and 4, R305). -/
def State.selectVariant (s : State) (v : Nat) : State :=
  let s := (s.modImg (fun m => { m with run := { m.run with variant := v } })).showConfig
  let s := (s.drop R.REC_STATUS F.REC_STATUS_DEGRADED).drop R.REC_STATUS F.REC_STATUS_SWITCH_REQ
  (s.adjustDies.beginLoad 2).raise R.REC_STATUS F.REC_STATUS_RECONFIGURING

/-- Step 2 of R305: the standby is asked to take over. -/
def State.lossSwitch (s : State) : Bool := s.pairState == 5 && s.partnerHealthy && s.flag R.REC_CTRL F.REC_CTRL_SWITCH_ON_LOSS

/-- The steps of R305 for the lost quarters of LOST_Q; `pairAllowed` is clear before the first commit (R418). The action of
the event record comes with the state. -/
def State.lossSteps (s : State) (pairAllowed : Bool) : Nat × State :=
  let v := s.img.run.variantFor s.lostList
  let sw := pairAllowed && s.lossSwitch
  let ask (s : State) : State :=
    (s.stopAll.raise R.REC_STATUS F.REC_STATUS_SWITCH_REQ).modPair (fun p => { p with switchAsk := some 2 })
  match v with
  | some (v, kind) =>
    if sw && s.flag R.REC_CTRL F.REC_CTRL_PREFER_SWITCH then (4, ask s) else (if kind = 1 then 3 else 2, s.selectVariant v)
  | none => if sw then (4, ask s) else (5, s.stopAll.raise R.REC_STATUS F.REC_STATUS_DEGRADED)

/-- Quarters that became lost are resolved, with one event record. -/
def State.resolveLoss (s : State) (pairAllowed : Bool) : State :=
  if s.rcv.wantLost.isEmpty then s
  else
    let note := s.rcv.lossNote.getD ⟨0, 0, 0, 0⟩
    let s := s.rcv.wantLost.foldl (fun s q => s.setRegN R.LOST_Q (Nat.lor (s.regN R.LOST_Q) (2 ^ q))) s
    let s := (s.raise R.REC_ERR F.REC_ERR_UNIT_LOST).modR (fun r => { r with wantLost := [], lossNote := none })
    let x := s.lossSteps pairAllowed
    (x.2.event note.unitKind note.cause x.1 note.unitNo note.detail).setCapacity

/-- Whether RECONFIGURE can treat a lost quarter as healthy again: its die was reset, its memory is READY, its links are UP, and
no grain of the quarter is FAILED. -/
def State.restorable (s : State) (q : Nat) : Bool :=
  let d := q / 4
  s.isLost q && s.pwr.fresh.contains d && s.memState d == 3 && s.link d 3 == 2 &&
    (List.range 3).all (fun l => !s.img.run.linked d (linkPeer d l) || s.link d l == 2) && s.countG q 3 == 0

/-- RECONFIGURE at its commit (R306). -/
def State.reconfigure (s : State) : State :=
  if !s.rcv.reconfig then s
  else
    let s := s.modR (fun r => { r with reconfig := false })
    let back := allQ.filter s.restorable
    if back.isEmpty then s.raise R.REC_ERR F.REC_ERR_CMD_REJECT
    else
      let s := back.foldl (fun s q => s.setRegN R.LOST_Q (s.regN R.LOST_Q - 2 ^ q)) s
      let s := s.modP (fun p => { p with fresh := [] })
      let s : State := if s.lostList.isEmpty then s.selectVariant 0 else (s.lossSteps true).2
      (s.event 0 0 11 0 0).setCapacity

/-! ### The commit record and the copies (Table 10.6) -/

/-- OUTCOME of the epoch being committed. -/
def State.outcomeWord (s : State) (skip : Bool) : Nat :=
  b2n skip + 4 * s.getF R.REC_STATUS F.REC_STATUS_ATTEMPT + 16 * b2n s.time.displaced + 32 * b2n s.time.extended

/-- The input log of epoch `n` as the log buffer holds it. -/
def State.logOf (s : State) (n : Nat) : List Byte := (kvFind n s.rcv.logBuf).getD []

/-- The 128 bytes. -/
def State.commitRecord (s : State) (n : Nat) (skip : Bool) : List Byte :=
  let b := leBytes 8 n ++ leBytes 8 (pairWord (n % 2 ^ 32)) ++ leBytes 8 (pairWord (s.outcomeWord skip)) ++
    leBytes 8 s.img.run.imageId ++ leBytes 8 s.img.run.overlayId ++ leBytes 8 (pairWord s.configWord) ++ s.outDigest n ++
    leBytes 8 (pairWord (s.regN R.TOKEN_LO)) ++ leBytes 8 (pairWord (crc32c (s.logOf n))) ++ copies 44 0#8
  b ++ leBytes 4 (crc32c b)

/-- Both copies take the committed hub state; COMMIT_EPOCH shows `n` (R292 steps 3 and 4). -/
def State.writeCopies (s : State) (n : Nat) (skip : Bool) : State :=
  let es := s.hubEntries
  let s := s.modR (fun r => { r with copyA := es, copyB := es, record := s.commitRecord n skip })
  let s := s.setReg64 R.COMMIT_EPOCH_LO n
  s.setRegN R.JOURNAL_PEAK ((List.range 4).foldl (fun m d => max m (s.journalLen d)) 0)

/-- Journals empty and the banks of the epoch stand (R292 step 5, R114). -/
def State.emptyJournals (s : State) : State := ({ s with mem := { s.mem with journal := [] } }).keepBanks

/-- Points whose state word differs from the previous commit, with those an activation restarted (R526, R95). -/
def State.changedPoints (s : State) : List Nat :=
  s.allPoints.filter (fun p => s.alm.changed.contains p ||
    (kvFind (65536 + 8 * p) s.rcv.copyB).getD (BitVec.ofNat 64 (pairWord 0)) != BitVec.ofNat 64 (pairWord (s.point p).st))

/-! ### The mirror record (R365) -/

/-- Entries of a set that differ from the last commit. -/
def State.changedEntries (s : State) (k : Nat) : List (Nat × Nat) :=
  (s.setEntries k).filter (fun e => kvFind (65536 * k + e.1) s.rcv.copyB != some (BitVec.ofNat 64 (pairWord e.2)))

/-- The record of epoch `n`: applied entries, blocks written and sets of the map that was in force in it. -/
def State.mirrorFrames (s : State) (n : Nat) (skip nondet : Bool) (rs : List (CmdEntry × Nat)) (full : Bool) (sets : List Nat)
    (blocks : List (List Byte)) : List (Nat × List Byte) :=
  let head := leBytes 8 n ++ leBytes 8 (pairWord (s.outcomeWord skip + 64 * b2n nondet)) ++
    leBytes 8 (pairWord (s.regN R.TOKEN_LO)) ++ leBytes 8 s.img.run.imageId ++ leBytes 8 s.img.run.overlayId ++
    leBytes 8 (pairWord s.configWord) ++ s.outDigest n
  recordFrames head ((rs.filter (fun r => r.2 == 0)).map (fun r => entryBytes r.1.op r.1.index r.1.arg))
    (if full then s.logOf n else []) ((sets.map (fun k => (k, s.changedEntries k))).filter (fun x => !x.2.isEmpty)) blocks

/-! ### The follow commit (R367, R371) -/

/-- Analogue records of a log. -/
def aiRecOf (r : List Byte) : AiRec :=
  ⟨fieldAt r 2 2, bitsOf (fieldAt r 24 1) 1 1, fieldAt r 16 4, (List.range (fieldAt r 20 4)).map (fun i =>
    let v := fieldAt r (32 + 4 * i) 4
    if v = 0x80000000 then none else some (toSigned 32 v))⟩

/-- Entries of a radio record, each with its padding. -/
def radioEntries : Nat → List Byte → List (List Byte)
  | 0, _ => []
  | n + 1, bs =>
    if bs.length < 32 then []
    else
      let len := (32 + fieldAt bs 24 2 + 7) / 8 * 8
      bs.take len :: radioEntries n (bs.drop len)

/-- Steps 1 and 2 of R292 on the mirrored state for a record: commands, the results of the own replay, and the alarm engine over
the record's log. -/
def State.followState (s : State) (n : Nat) (fs : List (Nat × List Byte)) (ran : Bool) : State :=
  let log := recLog fs
  let s := s.setEpoch n
  let es := (recCmds fs).zipIdx.map (fun e => (⟨e.1.1, e.1.2.1, e.1.2.2, 3, .fwd e.2⟩ : CmdEntry))
  let s := (State.applyEntries (s, []) (es.filter (fun e => !panelEntry e) ++ es.filter panelEntry)).1
  let res := if ran then takeFirst [] s.resultEntries else []
  let s := s.applyResults res
  let s := ((logRecs 64 (log.drop 64)).filter (fun r => fieldAt r 0 2 == 1)).foldl (fun s r => s.aiCommit (aiRecOf r)) s
  let s := match logRec log 3 with
    | some r => (radioEntries (fieldAt r 8 4) (r.drop 64)).foldl (fun (s : State) e => s.radioCommitEntry e) s
    | none => s
  s.alarmEval n ⟨fieldAt log 8 8, logRec log 2, resultScores res⟩

/-- The values of the mirrored sets as another state holds them. -/
def State.copySets (s t : State) : State :=
  s.img.run.mirrorSets.foldl (fun s k => (t.setEntries k).foldl (fun s e => s.putEntry k e.1 e.2) s) s

/-- Whether a record changes the state of a point or the level of a class (R385). -/
def State.recordMoves (s : State) (fs : List (Nat × List Byte)) : Bool :=
  (fs.filter (fun f => f.1 == 0x13)).any (fun f => (hubsetEntries f.2).any (fun e =>
    let v := e.2 % 2 ^ 32
    (fieldAt f.2 0 2 == 1 && Nat.blt e.1 0x8008 && e.1 % 8 == 0 && v != (s.point (e.1 / 8)).st) ||
    (fieldAt f.2 0 2 == 4 && Nat.blt e.1 16 && F.CLASS_STATE_LEVEL.get (BitVec.ofNat 32 v) != s.clsLevel e.1)))

/-- The digest of the own replay does not match the record's (R371). -/
def State.digestDiffers (s : State) (n : Nat) (own theirs : List Byte) (nondet : Bool) : State :=
  if nondet then (s.inc R.NONDET_CNT).raise R.PAIR_ERR F.PAIR_ERR_NONDET
  else (((s.inc R.MISMATCH_CNT).cableSend 0x60 n (leBytes 8 n ++ own ++ theirs)).raise R.PAIR_ERR F.PAIR_ERR_MISMATCH).startSuspect

/-- Apply the first record. -/
def State.followOne (s : State) (n : Nat) (fs : List (Nat × List Byte)) (rest : List (Nat × List (Nat × List Byte))) : State :=
  let h := recHead fs
  let s := s.modPair (fun x => { x with quiet := if s.recordMoves fs then 0 else x.quiet + 1 })
  let s : State := match s.full, s.pair.replayed with
    | true, some (_, ran) =>
      let nondet := bitOf (fieldAt h 8 4) 6
      let t := s.followState n fs ran
      let own := t.outDigest n
      let s := (s.copySets t).emptyJournals
      if own == slice h 48 16 then s else s.digestDiffers n own (slice h 48 16) nondet
    | _, _ => s
  let s := fs.foldl (fun s f => if f.1 = 0x13 then s.applyHubset f.2 else if f.1 = 0x14 then s.applyBlocks f.2 else s) s
  (s.setReg64 R.MIRROR_EPOCH_LO n).modPair (fun x => { x with records := rest, replayed := none })

/-- Apply every record that is ready, at most `k`: at FULL level one whose replay has ended. -/
def State.followAll : Nat → State → State
  | 0, s => s
  | k + 1, s =>
    match s.pair.records with
    | [] => s
    | (n, fs) :: rest =>
      let ran : Bool := match s.pair.replayed with
        | some (m, _) => m == n
        | none => false
      if s.full && !ran then s else State.followAll k (s.followOne n fs rest)

/-- The follow commit within a commit of the own grid. A unit that holds the token drops what it can no longer apply. -/
def State.followCommit (s : State) : State :=
  let st := s.pairState
  if st = 1 ∨ st = 3 ∨ st = 4 ∨ (st = 2 ∧ s.pair.snapDone = true) then
    let s := State.followAll s.pair.records.length s
    if st = 4 then
      (if s.mem.journal.isEmpty then s else s.undoEpoch).modPair (fun x => { x with records := [], replayed := none })
    else s.pairFollow
  else s

/-! ### The end of the commit -/

/-- Registers of a quarter whose attempt has committed; it becomes IDLE. -/
def State.keepQuarter (s : State) (q : Nat) : State :=
  let x := s.qtr q
  let s := s.setRegN (R.DONE_NS q) (match x.doneAt with
    | some t => (t - s.time.launchT) % 2 ^ 31 + 2 ^ 31 * b2n (s.lateQ q)
    | none => 0)
  let s := (s.setRegN (R.LW_CNT q) x.lwCount).setRegN (R.ACC_EPOCH_FLAGS q) (x.tileFlags % 8)
  let s := s.setRegN (R.ACC_STICKY q) (Nat.lor (s.regN (R.ACC_STICKY q)) (x.tileFlags % 8))
  let s := (s.addReg (R.ACC_LIMIT_CNT q) x.cntLimit).addReg (R.ACC_NONFINITE_CNT q) x.cntNonfin
  let s := (s.addReg (R.ACC_CLOSE_CNT q) x.cntClose).addReg (R.VE_OP_CNT q) x.vops
  let s := (s.addReg (R.VE_SAT_CNT q) x.vsat).addReg (R.VE_NONFINITE_CNT q) x.vnonfin
  let s := s.setRegN (R.VE_STICKY q) (Nat.lor (s.regN (R.VE_STICKY q)) (Nat.land x.vflags 11))
  s.setQState q 1

/-- Peaks of memory and link traffic in an epoch with RUN are measurements: free values in per-mille. -/
def State.freePeaks (s : State) : State :=
  let put (s : State) (a : Nat) : State := s.fresh.2.setRegN a (s.fresh.1.toNat % 1001)
  ((List.range 4).filter s.img.run.runs).foldl (fun s d =>
    (List.range 4).foldl (fun s l => put s (R.LINK_PEAK d l)) (put s (R.MEM_PEAK d))) s

/-- QUARTER_HALT (R195): the fault run has reached FAULT_LIMIT. -/
def State.haltQuarter (s : State) (q : Nat) : State :=
  let lim := s.getF (R.FAULT_LIMIT q) F.FAULT_LIMIT_LIMIT
  if lim ≠ 0 ∧ lim ≤ (s.qtr q).faultRun ∧ s.qState q ≠ 4 ∧ s.qState q ≠ 2 ∧ s.qState q ≠ 3 then
    let s := ((s.abandonQ q).setQState q 4).raise (R.QERR q) F.QERR_HALTED
    (s.loseQ [q]).modR (fun r => { r with lossNote := some ⟨2, 1, unitNo q 0 0, 0⟩ })
  else s

/-- Fault runs at a commit; `first` is the quarter that faulted first when R191 resolved the epoch. -/
def State.faultRuns (s : State) (first : Option Nat) : State :=
  allQ.foldl (fun s q =>
    if first = some q then ((s.modQ q (fun x => { x with faultRun := x.faultRun + 1 })).inc (R.FAULT_CNT q)).haltQuarter q
    else s.modQ q (fun x => { x with faultRun := 0 })) s

/-- The classes and targets of a new holder whose map does not mirror set 4 (R538). -/
def State.freshCalls (s : State) : State :=
  if !s.pair.fresh ∨ s.img.run.mirrorSets.contains 4 then s
  else
    let s := (List.range 16).foldl (fun s c => s.setRegN (R.CLASS_STATE c) 0) s
    allT.foldl (fun s t => if s.targetKind t = 1 then
      (s.raise (R.TARGET_STATUS t) F.TARGET_STATUS_PRESENT).modAlm (fun a => { a with ages := kvErase t a.ages }) else s) s

/-- R406: at the end of the last commit before b_h every quarter enters STOPPED. -/
def State.sleepQuarters (s : State) (n : Nat) : State :=
  if s.vote = 3 ∧ s.power = 2 ∧ s.harb.tSleep ≤ s.boundary (n + 1) then
    let qs := allQ.filter s.qActive
    (qs.foldl (fun s q => s.setQState q 0) s).modH (fun h => { h with slept := qs })
  else s

/-- What the commit does for the pair at its end (R355, R363, R373 to R377, R385). -/
def State.pairEnd (s : State) (n : Nat) (activation : Bool) : State :=
  if s.pairState = 0 then s
  else
    let s : State := match s.pair.wantVariant with
      | some v =>
        let s := s.modPair (fun x => { x with wantVariant := none })
        let ok := s.lostList.all (fun q => !(tableRecs ((secFind s.img.run.secs 13 0).getD [])).any (fun r =>
          fieldAt r 0 1 == v && bitOf (fieldAt r 4 2) q))
        if !ok then s.raise R.PAIR_ERR F.PAIR_ERR_CONFIG_MISMATCH
        else if v != s.img.run.variant && !s.stoppedByLoss then s.dropReplay.selectVariant v
        else s
      | none => s
    let s := s.armCommit.pairOn
    let s := if s.holdsToken && !s.rcv.dead then s.renew false else s
    let s := s.setHealth
    let s := s.cableSend 0x04 n s.healthReport
    let s := if activation then s else s.beginRelease n
    s.takeback

/-- The flags and counters of the epoch that has ended. -/
def State.endEpoch (s : State) (skip : Bool) : State :=
  let s := s.setF R.REC_STATUS F.REC_STATUS_ATTEMPT 0
  let s := (s.drop R.REC_STATUS F.REC_STATUS_DISPLACED).drop R.TIME_STATUS F.TIME_STATUS_EXTENDING
  let s := s.modR (fun r => { r with attemptCharges := [], after := 0, stop := none })
  let s := allQ.foldl (fun s q => s.modQ q (fun x => { x with doneAt := none })) s
  s.modT (fun t => { t with
    phase := 0
    outcome := if skip then 1 else if t.extended then 2 else 0
    prevExtended := t.extended
    prevDisplaced := t.displaced
    extended := false
    displaced := false
    stepArmed := t.stepAsked || t.freeStep })

/-- Bring-up ends with the first epoch's commit (R399); the time it took is a measurement. -/
def State.endBringup (s : State) : State :=
  if s.power = 1 then
    let s := s.fresh.2.setRegN (R.BU_T 9) s.fresh.1.toNat
    ((s.setF R.SYS_STATE F.SYS_STATE_POWER_STATE 2).setF R.SYS_STATE F.SYS_STATE_BU_STEP 10).modHost (fun h => { h with begun := true })
  else s

/-- The number of the next epoch to run, with a step that waits (R90). -/
def State.nextRun (s : State) (n : Nat) : Nat :=
  if (s.time.stepAsked || s.time.freeStep) ∧ 0 < s.time.offset then
    let t := s.boundary (n + 1) + s.time.offset.toNat
    let m := s.epochAt t
    if s.boundary m < t then m + 1 else m
  else n + 1

/-- Steps 1 and 2 of R292: the state, the statuses of the entries, and whether a result has faulted. -/
def State.applyEpoch (s : State) (n : Nat) (res : List (Nat × Nat × Nat)) (act : Bool) : State × List (CmdEntry × Nat) :=
  let x := s.applyCommands n
  let s := if act then x.1.imageRegs n else x.1
  let s := s.applyResults res
  let s := ((s.aiCommitAll.diCommit).radioCommit n).ldCommit
  let s : State := if s.pairState = 0 ∨ s.holdsToken then
      s.freshCalls.alarmEval n ⟨s.time.captureT, logRec (s.logOf n) 2, resultScores res⟩
    else s
  (s, x.2)

/-- The last part of the commit of epoch `n`: the followed records, the copies, the counters, the requests that wait for a
commit, and what leaves the node. `rose` says that a point became active, `changed` which points changed, `rs` which
entries are answered. -/
def State.commitClose (s : State) (skip own act rose : Bool) (first : Option Nat) (n : Nat) (changed : List Nat)
    (rs : List (CmdEntry × Nat)) : State :=
  let s := s.followCommit
  let s := s.writeCopies n skip
  let s := if own then s.emptyJournals else s
  let s := if skip then (s.inc R.SKIP_CNT).raise R.TIME_ERR F.TIME_ERR_SKIP else s
  let s := if own then s.pace else s
  let s := (s.faultRuns first).retireAsked
  let s := allQ.foldl (fun s q => s.applyQcmd q) s
  let s := if s.pwr.svc = some 2 ∧ s.power = 4 then
      (allQ.filter (fun q => s.qState q == 5)).foldl (fun s q => s.debugExit q) s
    else s
  let s := s.applySvc.beginDieResets
  let s := s.answerFrames rs
  let s := (s.sendAlarms changed false).callChanges
  let s := if s.pair.fresh && s.holdsToken then s.alarmRefresh.modPair (fun x => { x with fresh := false }) else s
  let s := s.modAlm (fun a => { a with changed := [] })
  let s := if rose && s.vote != 0 then s.wakeReq 1 else s
  let s := (s.pairEnd n act).sleepQuarters n
  let s := if s.pwr.restart then s.rails.modP (fun p => { p with restart := false, restartDue := true }) else s.rails
  s.endBringup.endEpoch skip

/-- The commit of the epoch, from its start on: everything up to its end. `first` is the quarter a program fault came from. -/
def State.commitBody (s : State) (skip : Bool) (first : Option Nat) : State :=
  let n := s.epoch
  let own := s.ownPrograms
  let ran := own && s.time.phase == 2
  let nondet := own && allQ.any (fun q => s.flag (R.QSTATUS q) F.QSTATUS_LIVE_READ)
  let s := s.retireDead.beginActivation (s.nextRun n)
  let act := s.activating
  let all := if ran && !skip then s.resultEntries else []
  let res := takeFirst [] all
  let s := if res.length < all.length then s.raise R.REC_ERR F.REC_ERR_RESULT_CONFLICT else s
  let (s, rs) := s.applyEpoch n res act
  let full := s.full
  let sets := s.img.run.mirrorSets
  let blocks := if s.pairState = 5 ∧ !skip then s.writtenBlocks else []
  let s := if ran && !skip then ((allQ.filter (fun q => s.qState q == 3)).foldl (fun s q => s.keepQuarter q) s).freePeaks else s
  let s := if skip then s.endActivation.resolveLoss true else s.endActivation
  let s := s.reconfigure
  let changed := s.changedPoints
  let rose := s.allPoints.any (fun p => (s.point p).active &&
    !bitOf ((kvFind (65536 + 8 * p) s.rcv.copyB).getD (BitVec.ofNat 64 (pairWord 0))).toNat 0)
  let s := if s.pairState = 5 then s.modPair (fun x => { x with
      mirrorOut := s.mirrorFrames n skip nondet rs full sets blocks
      mirrorEpoch := n }) else s
  s.commitClose skip own act rose first n changed rs

end Sys2Proof.Machine
end

