-- ==== Sys2Proof/Machine/Epoch.lean ====
section
/-! DEFINITION. The course of an epoch (02_time_and_epochs.md, 10_integrity_and_recovery.md): the close of its log, launch, done
reports, lateness, its commit, and what the node does with the faults and losses a command has brought up. -/

namespace Sys2Proof.Machine

/-! ### The input log (R35, R52, R56, R285, R286) -/

/-- The records of one kind, channel by channel. -/
def logAll (f : State → Nat → List Byte × State) (cs : List Nat) (s : State) : List Byte × State :=
  cs.foldl (fun x c => let r := f x.2 c; (x.1 ++ r.1, r.2)) ([], s)

/-- Put the log into its slot on the log die (R285). -/
def State.writeLog (s : State) (n : Nat) (log : List Byte) : State :=
  match s.img.run.logDie with
  | none => s
  | some d =>
    if !s.ownPrograms || s.memState d != 3 then s
    else
      let h := s.headerAddr n
      let s := s.poke h log
      (s.mem.poison.filter (fun k => Nat.ble h k && Nat.blt k (h + log.length))).foldl (fun s k => s.setPoison k false) s

/-- The input log of epoch `n` closes at `t`. -/
def State.closeLog (s : State) (n t : Nat) : State :=
  let s := (s.at t).setEpoch n
  let b := s.boundary n
  let head := padRec (headerBytes n t s.headerFlags s.time.absent)
  let s := s.modIo (fun io => { io with aiRecs := [] })
  let (ai, s) := logAll (fun s c => s.aiLog c b) (List.range 32) s
  let (di, s) := s.diLog b
  let (ra, s) := s.radioLog b
  let (ld, s) := s.ldLog b
  let log := head ++ ai ++ di ++ ra ++ ld
  let s := s.writeLog n log
  let s := s.modR (fun r => { r with logBuf := kvPut n log (r.logBuf.filter (fun e => Nat.blt n (e.1 + 2))) })
  s.modT (fun x => { x with
    phase := 1, captureT := t, missed := false, stepped := false, overran := false, absent := 0, begun := true })

/-- What every new epoch brings with its log: quarters enter their states after LOADING (R189), those that slept for nothing
run again (R406), and MIRROR of the last committed epoch starts (R39). -/
def State.openEpoch (s : State) : State :=
  let s := s.enterStates
  let s := s.harb.slept.foldl (fun s q => if s.qState q = 0 then s.setQState q 1 else s) s
  let s := s.modH (fun h => { h with slept := [] })
  let s := allQ.foldl (fun s q => s.drop (R.QSTATUS q) F.QSTATUS_LIVE_READ) s
  (s.rails.cableAll s.pair.mirrorEpoch s.pair.mirrorOut).modPair (fun x => { x with mirrorOut := [] })

/-- Whether the grid runs: an epoch can begin. -/
def State.gridRuns (s : State) : Bool :=
  s.hasGrid && (s.power == 1 || s.power == 2 || s.power == 3 || s.power == 4) && !s.rcv.dead && !s.pwr.restartDue &&
    !s.flag R.PWR_STATUS F.PWR_STATUS_PFAIL

/-- Epoch `n` begins at its boundary. -/
def State.beginEpoch (s : State) (n : Nat) : State :=
  let t := max s.now (s.boundary n)
  let s := if s.time.stepped then s.modT (fun x => { x with absent := n - s.epoch - 1 }) else s
  let s := if s.vote = 3 ∧ s.power = 2 ∧ s.harb.tSleep ≤ s.boundary n then
      (s.at t).enterHarbour.modH (fun h => { h with slept := [] })
    else s
  (s.closeLog n t).openEpoch

/-- EPOCH_BOUNDARY. When the epoch before has not ended, its log does not close here (R52, R56). -/
def State.epochBoundary (s : State) : State :=
  if !s.time.begun || !s.gridRuns then s
  else if s.time.phase = 0 then s.beginEpoch s.nextEpoch
  else
    let s := (s.at (s.boundary (s.epoch + 1))).modT (fun t => { t with missed := true })
    if s.time.extended then s.raise R.TIME_STATUS F.TIME_STATUS_EXTENDING else s

/-- The first epoch begins, with the event records that waited for its number (R399, R418). -/
def State.firstBegins (s : State) : State :=
  let s := s.beginEpoch s.nextEpoch
  let s := s.rcv.bootEvents.foldl (fun s e => s.event e.2.unitKind e.2.cause e.1 e.2.unitNo e.2.detail) s
  s.modR (fun r => { r with bootEvents := [] })

/-- FIRST_EPOCH (R399): LOADING clear and the time unit LOCKED or FREE. Losses of the bring-up get their event records (R418). -/
def State.firstEpoch (s : State) : State :=
  if s.time.begun || !s.gridRuns || s.power != 1 || s.getF R.SYS_STATE F.SYS_STATE_BU_STEP != 9 ||
      s.flag R.IMG_STATUS F.IMG_STATUS_LOADING || !(s.timeState == 2 || s.timeState == 0) then s
  else s.firstBegins

/-! ### The commit and what follows it -/

/-- After the commit of epoch `n` that ended at `e`: when boundary b_{n+1} has passed, the next log closes at once. `ovr` says that
the commit itself ran past the boundary. -/
def State.afterCommit (s : State) (n e : Nat) (passed ovr : Bool) : State :=
  let s := s.at e
  if !passed || !s.gridRuns then s
  else
    let s := if ovr then (s.inc R.OVERRUN_CNT).raise R.TIME_ERR F.TIME_ERR_OVERRUN else s
    ((s.modT (fun t => { t with missed := !ovr || t.missed, overran := ovr })).closeLog (n + 1) e).openEpoch

/-- The commit that starts at `t` and takes `dur` ns. One that has not ended after 40 µs waits to be abandoned (R57). -/
def State.commitAt (s : State) (skip : Bool) (first : Option Nat) (t dur : Nat) : State :=
  let s := s.at t
  if 40000 < dur then s.modT (fun x => { x with phase := 4 })
  else
    let n := s.epoch
    let b := s.boundary (n + 1)
    let late := s.time.extended || s.time.displaced || Nat.ble b s.now
    (s.commitBody skip first).afterCommit n (s.now + dur) (Nat.ble b (s.now + dur)) (!late)

/-- Discard the running attempt; done instants stay for pacing. -/
def State.discardRun (s : State) : State :=
  let ds := allQ.map (fun q => (q, (s.qtr q).doneAt))
  ds.foldl (fun s d => s.modQ d.1 (fun x => { x with doneAt := d.2 })) s.undoEpoch

/-- An epoch is skipped at `t` (R49): the attempt is discarded, the hub commits its own changes. -/
def State.skipAt (s : State) (first : Option Nat) (t dur : Nat) : State :=
  let run := s.discardRun
  run.commitAt true first t dur

/-- A skip whose commit no command times (R191, R290, R291): it starts now, and its length is a free value of at most 20 µs. -/
def State.skipNow (s : State) (first : Option Nat) : State :=
  let (f, s) := s.fresh
  let d := f.toNat % 20001
  let n := s.epoch
  let b := s.boundary (n + 1)
  let s := s.discardRun
  let late := s.time.extended || s.time.displaced || Nat.ble b s.now
  let passed := Nat.ble b (s.now + 20000) && Nat.ble b (s.now + d)
  (s.commitBody true first).afterCommit n (s.now + d) passed (!late)

/-- One launch more since the last self-test of each quarter (R126). -/
def State.gapped (s : State) : State := allQ.foldl (fun s q => s.modQ q (fun x => { x with testGap := x.testGap + 1 })) s

/-- RUN_LAUNCH (R37): 400 ns after the log has closed. An epoch whose log closed at or after D_n, or with a loss to resolve, is
skipped at once (R55, R297, R305); one without program work commits at once (R22). `dur` is the length of that commit. -/
def State.runLaunch (s : State) (dur : Nat) : State :=
  if s.time.phase ≠ 1 || !s.gridRuns then s
  else
    let t := s.time.captureT + 400
    let n := s.epoch
    let s := s.gapped
    if !s.rcv.wantLost.isEmpty || Nat.ble (s.deadlineOf n) s.time.captureT then s.skipAt none t dur
    else if s.ownPrograms && allQ.any (fun q => s.qState q == 1) then
      (s.launchAll t).modT (fun x => { x with deadline := s.deadlineOf n })
    else s.commitAt false none t dur

/-! ### Done, late (R38, R49 to R55, R186) -/

/-- Whether every operation the quarter issued has completed. -/
def Quarter.drained (x : Quarter) : Bool :=
  x.done.isSome && x.slot == 0 && x.pend.isEmpty && x.outst.isEmpty && x.signals.isEmpty && x.vq.isEmpty && x.vcur.isNone &&
    x.spans.all (fun p => p.2.queue.isEmpty && p.2.pass.isNone && p.2.drains.isEmpty && p.2.groups.all (fun g => g.st != 2))

/-- Whether a group is OPEN. -/
def Quarter.groupOpen (x : Quarter) : Bool := x.spans.any (fun p => p.2.groups.any (fun g => g.st == 1))

/-- A replay of the standby has ended (R366): its results wait for the follow commit. -/
def State.replayEnded (s : State) (ok : Bool) : State :=
  let n := (s.pair.replay.map Prod.fst).getD 0
  let s := (allQ.filter (fun q => s.qState q == 3)).foldl (fun s q => s.setQState q 1) s
  let s := s.setF R.REC_STATUS F.REC_STATUS_ATTEMPT 0
  s.modPair (fun x => { x with replay := none, replayed := some (n, ok) })

/-- The commit of an epoch whose quarters are all done, from `t` on: a result that is poisoned is a detected fault, one that
fails its check resolves the epoch as a program fault (R290). -/
def State.commitResults (s : State) (t dur : Nat) : State :=
  match s.resultPoison with
  | k :: _ => (s.at t).detect 6 7 0 k
  | [] =>
    let bad := s.resultEntries.filter (fun e => !resultOk e)
    if bad.isEmpty then s.commitAt false none t dur
    else (bad.foldl (fun s _ => s.pwMismatch 2) s).skipAt none t dur

/-- DONE_REPORT (R186, R38): a quarter is done at chain time `t`; the commit that starts with the last one takes `dur`. -/
def State.doneReport (s : State) (q t dur : Nat) : State :=
  let x := s.qtr q
  if s.qState q ≠ 2 || x.faulted || !x.drained then s
  else if x.groupOpen then (s.at t).progFault q 0x17 (x.done.getD 0) 2
  else
    let s := ((s.at t).setQState q 3).modQ q (fun x => { x with doneAt := some t })
    if allQ.any (fun k => s.qState k == 2) then s
    else if s.pair.replay.isSome then s.replayEnded true
    else if s.time.phase = 2 then s.commitResults t dur
    else s

/-- Whether the epoch may extend (R51, R54, R296). -/
def State.mayExtend (s : State) : Bool :=
  s.flag R.LATE_POLICY F.LATE_POLICY_POLICY && !s.time.extended && !s.time.prevExtended && !s.time.displaced && !s.time.prevDisplaced

/-- The epoch is extended to the next deadline (R51). -/
def State.extendEpoch (s : State) : State :=
  let s := (s.inc R.EXTEND_CNT).raise R.TIME_ERR F.TIME_ERR_EXTEND
  s.modT (fun t => { t with extended := true, deadline := s.deadlineOf (s.epoch + 1) })

/-- DEADLINE: at the deadline a quarter is still not done. `dur` is the length of the commit of a skip. -/
def State.deadlineHit (s : State) (dur : Nat) : State :=
  if s.time.phase ≠ 2 then s
  else
    let s := s.at s.time.deadline
    if s.mayExtend then s.extendEpoch
    else s.skipAt none s.time.deadline dur

/-- COMMIT_ABANDON (R57): 40 µs after it began. -/
def State.commitAbandon (s : State) : State :=
  if s.time.phase ≠ 4 then s
  else ((s.at (s.now + 40000)).raise R.TIME_ERR F.TIME_ERR_COMMIT_ABANDON).detect 0 9 0 0

/-- NO_PROGRESS (R193): `idle` ns without an issue or a completion. -/
def State.noProgress (s : State) (q idle : Nat) : State :=
  if s.qState q = 2 ∧ (s.qtr q).waiting.isNone ∧ 100000 ≤ idle then
    s.hwFault q 0x42 ((s.qtr q).lastLw.getD 0) 0 2 4 (unitNo q 0 0)
  else s

/-! ### Rollback and replay (R294 to R298, R366) -/

/-- ROLLBACK_COMPLETE by `t`: copy A is restored from copy B, and a block the partner has not sent makes its home lost. The skip
that follows an exhausted replay or a loss commits in `dur`. -/
def State.rollbackComplete (s : State) (t dur : Nat) : State :=
  if !s.flag R.REC_STATUS F.REC_STATUS_ROLLING_BACK then s
  else
    let s := (s.at t).drop R.REC_STATUS F.REC_STATUS_ROLLING_BACK
    let s := s.modR (fun r => { r with copyA := r.copyB })
    let s : State := match s.rcv.awaiting with
      | [] => s
      | b :: bs =>
        let s := (b :: bs).foldl (fun s b => s.loseQ (blockQ b)) s
        s.modR (fun r => { r with awaiting := [], after := 2, lossNote := some ⟨6, 7, 0, b⟩ })
    if s.rcv.after ≠ 2 then s
    else if s.pair.replay.isSome then
      let lost := !s.rcv.wantLost.isEmpty
      let s := (s.replayEnded false).modR (fun r => { r with after := 0, attemptCharges := [] })
      if lost then s else s.startSync
    else if s.time.phase = 3 then s.commitAt true none t dur
    else s

/-- REPLAY_LAUNCH, 400 ns after the rollback has ended. An epoch without program work has nothing to replay: it commits (`dur`). -/
def State.replayStart (s : State) (dur : Nat) : State :=
  if s.rcv.after ≠ 1 || s.flag R.REC_STATUS F.REC_STATUS_ROLLING_BACK then s
  else match s.pair.replay with
    | some (n, k) =>
      let s := (s.inc R.REPLAY_CNT).setF R.REC_STATUS F.REC_STATUS_ATTEMPT (k + 1)
      ((s.at (s.now + 400)).replayOn n (k + 1)).modR (fun r => { r with after := 0 })
    | none =>
      if s.ownPrograms && allQ.any (fun q => s.qState q == 1) then s.replayLaunch
      else if s.time.phase = 3 then s.commitAt false none (s.now + 400) dur
      else s

/-! ### What a command has brought up (R191 to R195, R293) -/

/-- Charge latent faults of quarters (R193). -/
def State.chargeLatent (s : State) : State :=
  let ls := s.rcv.chargedNow
  if ls.isEmpty then s else ls.foldl (fun s q => s.chargeQ q) (s.modR (fun r => { r with chargedNow := [] }))

/-- Whether a detected fault or a loss calls for a rollback now. Between a commit point and the next boundary a fault belongs to
the epoch to come (R293), and waits for it. -/
def State.rollbackDue (s : State) : Bool :=
  let open0 := s.pair.replay.isSome || s.time.phase != 0
  let settled := s.rcv.after == 2 && (s.pair.replay.isSome || s.time.phase == 3)
  open0 && (!s.rcv.notes.isEmpty || (!s.rcv.wantLost.isEmpty && !settled))

/-- Blocks asked of the partner (R389). -/
def State.askBlocks (s : State) : State :=
  s.rcv.awaiting.foldl (fun s b => s.cableSend 0x50 (s.reg64 R.COMMIT_EPOCH_LO) (leBytes 8 b)) s

/-- Roll back the epoch in progress, or the standby's replay, whose own grid runs on. -/
def State.rollBack (s : State) : State :=
  let ph := s.time.phase
  let s := s.startRollback.askBlocks
  if s.pair.replay.isSome then s.modT (fun t => { t with phase := ph }) else s

/-- The epoch ends without its program results. -/
def State.endStopped (s : State) (why : Stop) : State :=
  if s.pair.replay.isSome then
    s.undoEpoch.replayEnded false |>.modR (fun r => { r with stop := none })
  else if s.time.phase = 0 then s.modR (fun r => { r with stop := none })
  else if s.time.phase = 3 then s.modR (fun r => { r with stop := none, after := 2 })
  else match why with
    | .program q => s.skipNow (some q)
    | .journalFull => ((s.raise R.REC_ERR F.REC_ERR_JOURNAL_FULL).event 0 10 6 0 0).skipNow none
    | _ => s.skipNow none

/-- Every command ends here: detected faults and losses roll back, and take precedence over a program fault (R194), which skips
the epoch. -/
def State.settle (s : State) : State :=
  let s := s.chargeLatent
  if s.rollbackDue then s.rollBack
  else match s.rcv.stop with
    | some w => s.endStopped w
    | none => s

end Sys2Proof.Machine
end

