-- ==== Sys2Proof/Machine/Bringup.lean ====
section
/-! DEFINITION. Bring-up, the kinds of reset and what each keeps, power loss and thermal shutdown, and the training of memories
and links (13_power_bringup_harbour.md, 09_memory_and_die_fabric.md). -/

namespace Sys2Proof.Machine

/-! ### What a reset keeps (Table 13.4) -/

/-- Registers whose values are kept in non-volatile stores. -/
def isStored (a : Nat) : Bool :=
  [R.RESTART_CNT, R.PFAIL_CNT, R.SEQ_FLOOR_LO, R.SEQ_FLOOR_HI, R.RCP_ETYPE, R.IP_CHAIN, R.MASK_CHAIN, R.IP_X5, R.MASK_X5,
    R.PAIR_CFG, R.PARTNER_LO, R.PARTNER_HI, R.ARBITER_LO, R.ARBITER_HI, R.PAIR_ID, R.SEC_STATUS, R.REVOKED_CNT].contains a ||
  (idxOf a (R.AI_ZERO_TRIM_LO 0) 32 64).isSome || (idxOf a (R.AI_ZERO_TRIM_HI 0) 32 64).isSome ||
  (idxOf a (R.AI_SPAN_TRIM_LO 0) 32 64).isSome || (idxOf a (R.AI_SPAN_TRIM_HI 0) 32 64).isSome ||
  (idxOf a (R.AO_ZERO_TRIM_LO 0) 16 64).isSome || (idxOf a (R.AO_ZERO_TRIM_HI 0) 16 64).isSome ||
  (idxOf a (R.AO_SPAN_TRIM_LO 0) 16 64).isSome || (idxOf a (R.AO_SPAN_TRIM_HI 0) 16 64).isSome ||
  (idxOf a (R.KEY_ID_LO 0) 8 8).isSome || (idxOf a (R.KEY_ID_HI 0) 8 8).isSome || (idxOf a (R.KEY_STATE 0) 8 4).isSome ||
  (idxOf a (R.CRED_CFG 0) 16 4).isSome || (idxOf a (R.CRED_GROUP_CTR 0) 16 4).isSome ||
  (idxOf a (R.REVOKED_LO 0) 32 8).isSome || (idxOf a (R.REVOKED_HI 0) 32 8).isSome

/-- The machine after a reset: the stores, the tag and the commands that wait stay; with `carrier` the isolated side stays too.
The command in a security store ends with it, a group counter resumes at its reservation (R566). -/
def State.rebooted (s : State) (carrier : Bool) : State :=
  let z := State.reset
  let t : State := { z with
    pending := s.pending
    freeCtr := s.freeCtr
    regs := s.regs.filter (fun e => isStored e.1)
    img := { ImgSt.zero with slotA := s.img.slotA, slotB := s.img.slotB, sel := s.img.sel }
    tag := { s.tag with logQ := [] }
    car := if carrier then s.car else z.car
    radio := if carrier then { z.radio with
        afc := s.radio.afc
        afcMiss := s.radio.afcMiss
        rx := s.radio.rx
        tx := s.radio.tx
        maskHold := s.radio.maskHold } else z.radio
    ld := if carrier then { z.ld with loops := s.ld.loops, dwells := s.ld.dwells, msg := s.ld.msg } else z.ld
    host := { z.host with keys := s.host.keys, creds := s.host.creds, groupRes := s.host.groupRes }
    out := s.out }
  let t := t.setF R.RCP_ETYPE F.RCP_ETYPE_ACTIVE (t.getF R.RCP_ETYPE F.RCP_ETYPE_ETYPE)
  let t := (t.drop R.SEC_STATUS F.SEC_STATUS_WINDOW_OPEN).drop R.SEC_STATUS F.SEC_STATUS_STORE_BUSY
  let t := ((List.range 16).filter (fun j => bitOf (t.regN (R.CRED_CFG j)) 0)).foldl (fun t j =>
    t.setRegN (R.CRED_GROUP_CTR j) (nth s.host.groupRes j 0)) t
  let t : State := match s.tag.modbus with
    | some w => t.setReg R.MODBUS_CFG w
    | none => t
  (t.setF R.IMG_STATUS F.IMG_STATUS_ACTIVE_SLOT (s.img.sel % 2)).setF R.IMG_STATUS F.IMG_STATUS_OVERLAY (s.img.sel / 2 % 2)

/-- Bring-up begins for a cause of RESET_CAUSE: the ROM runs, and step 2 begins; step 1 takes at most 40 ms (Table 13.3). -/
def State.startBringup (s : State) (cause : Nat) : State :=
  let s := (s.incSat R.RESTART_CNT).setRegN R.RESET_CAUSE cause
  let s := s.fresh.2.setRegN (R.BU_T 1) (s.fresh.1.toNat % 41)
  let s := (s.setF R.SYS_STATE F.SYS_STATE_POWER_STATE 1).setF R.SYS_STATE F.SYS_STATE_BU_STEP 2
  s.modP (fun p => { p with up := true, ended := [1] })

/-- HUB_RESET (R25, R401, R402): the isolated side keeps its supply. -/
def State.hubReset (s : State) (cause : Nat) : State := (s.rebooted true).startBringup cause

/-! ### Entries of the fault log that precede a reset -/

/-- Write an entry at once where the tag answers. -/
def State.logNow (s : State) (kind : Nat) (body : List Byte) : State :=
  if s.flag R.TAG_STATUS F.TAG_STATUS_TAG_OK then s.putLog kind body else s.inc R.FLOG_DROP_CNT

/-- Whether bring-up has halted without firmware (Table 13.2). -/
def State.dead (s : State) : Bool := s.getF R.SYS_STATE F.SYS_STATE_HALT == 1 || s.getF R.SYS_STATE F.SYS_STATE_HALT == 2

/-- LOCKSTEP_MISMATCH (R25): `logged` says that hold-up permitted the tag entry. -/
def State.lockstep (s : State) (logged : Bool) : State :=
  if !s.firmware then s
  else
    let s := if logged then s.logNow 4 (s.eventBody 0) else s
    s.hubReset 2

/-- WATCHDOG_EXPIRY (R401). -/
def State.watchdog (s : State) : State := if !s.firmware then s else s.hubReset 3

/-- CHAIN_RESTART (R402): the restart entry follows the entries that wait, 10 ms after the commit the hub resets. -/
def State.chainRestart (s : State) : State :=
  if !s.pwr.restartDue then s
  else
    let s := s.stopAll.modP (fun p => { p with stopTx := true })
    let b := s.eventBody 0
    let s := s.tag.logQ.foldl (fun s e => s.logNow e.1 e.2) s
    (s.logNow 3 b).hubReset 4

/-! ### Loss of supply (R395, R404, R405, R416) -/

/-- Table 13.5: no epoch in progress commits, the dies lose power, the power-loss entry is written and then as many queued
entries as hold-up allows (a free value), the relay closes; the node is OFF, its isolated side without supply. -/
def State.powerLoss (s : State) (thermal : Bool) : State :=
  let s := if s.dead then s
    else
      let (v, s) := s.fresh
      let es := s.tag.logQ
      let s := s.logNow 2 (s.eventBody 0)
      (es.take (v.toNat % (es.length + 1))).foldl (fun s e => s.logNow e.1 e.2) s
  let s := (s.rebooted false).setF R.SYS_STATE F.SYS_STATE_POWER_STATE 0
  s.modP (fun p => { p with thermalOff := thermal })

/-- PFAIL. -/
def State.pfail (s : State) : State :=
  if !s.pwr.up then s
  else (s.incSat R.PFAIL_CNT |>.powerLoss false).raise R.PWR_STATUS F.PWR_STATUS_PFAIL

/-- A power-on reset: everything but the stores is lost. -/
def State.powerOn (s : State) (cause : Nat) : State := (s.rebooted false).startBringup cause

/-- POWER_GOOD (R393). -/
def State.powerGood (s : State) : State := if s.pwr.up then s else s.powerOn 1

/-- PFAIL_RECOVERY (R405). -/
def State.pfailRecovery (s : State) : State :=
  if s.power = 0 ∧ s.flag R.PWR_STATUS F.PWR_STATUS_PFAIL then s.powerOn 1 else s

/-- THERMAL_RESTART (R416): the hub junction at `t` × 0.1 °C. -/
def State.thermalRestart (s : State) (t : Int) : State :=
  if s.power = 0 ∧ s.pwr.thermalOff ∧ t < 900 then s.powerOn 5 else s

/-- TEMPERATURE_READING (R413, R415, R416): the reading, and the trip of Table 13.7. -/
def State.temperature (s : State) (k : Nat) (t : Int) : State :=
  if !s.firmware then s
  else
    let s := s.takeTemp k t
    match tripAt k with
    | none => s
    | some w =>
      if t < w then s
      else if k = 8 then (s.inc R.TRIP_CNT).powerLoss true
      else s.dieTrip (k % 4)

/-! ### Bring-up (R96, R97, R397 to R400, R418, R419) -/

/-- BU_STEP. -/
def State.buStep (s : State) : Nat := s.getF R.SYS_STATE F.SYS_STATE_BU_STEP
/-- Step `k` ends `ms` after power good, and step `next` is in progress. -/
def State.stepEnds (s : State) (k ms next : Nat) : State :=
  ((s.setRegN (R.BU_T k) ms).setF R.SYS_STATE F.SYS_STATE_BU_STEP next).modP (fun p => { p with ended := p.ended ++ [k] })
/-- Bring-up halts. -/
def State.halt (s : State) (code : Nat) : State := s.setF R.SYS_STATE F.SYS_STATE_HALT code

/-- Read and verify stored image `i` (0 and 2 full, 1 and 3 overlays of slots A and B): a bad copy is repaired from the other,
and where both are bad the read fails with STORE (R97). Whether it passes. -/
def State.readImage (s : State) (i : Nat) (b : List Byte) (base : Option (List Byte)) (one both : Nat) : Bool × State :=
  let bad (s : State) (c x : Nat) : Bool × State := (false, (s.imgFail c x 2).raise R.IMG_ERR F.IMG_ERR_VERIFY_FAIL)
  if b.isEmpty then (false, s)
  else if bitOf both i || s.pwr.failed.contains i then bad (s.raise R.IMG_ERR F.IMG_ERR_STORE) 0x13 0xFFFF
  else
    let s := if bitOf one i then (s.raise R.IMG_ERR F.IMG_ERR_STORE).raise R.IMG_STATUS F.IMG_STATUS_STORE_DEGRADED else s
    match s.verify b base with
    | none => (true, s)
    | some (c, x) => bad s c x

/-- The configuration of slot `a` that passes, with its overlay where the selector uses one; whether that overlay failed. -/
def State.trySlot (s : State) (a one both : Nat) : Option (RunCfg × Bool) × State :=
  let x := s.slot a
  let (ok, s) := s.readImage (2 * a) x.full none one both
  if !ok then (none, s)
  else if !bitOf s.img.sel 1 || x.overlay.isEmpty then (some (cfgOf x.full none, false), s)
  else
    let (ok, s) := s.readImage (2 * a + 1) x.overlay (some x.full) one both
    if ok then (some (cfgOf x.overlay (some x.full), false), s) else (some (cfgOf x.full none, true), s)

/-- The image of slot `a` is in force. -/
def State.bootImage (s : State) (a : Nat) (c : RunCfg) (fell : Bool) : State :=
  let s := (s.setF R.IMG_STATUS F.IMG_STATUS_ACTIVE_SLOT a).modImg (fun m => { m with run := c })
  let s := if fell then (s.raise R.IMG_STATUS F.IMG_STATUS_BOOT_FALLBACK).raise R.IMG_ERR F.IMG_ERR_BOOT_FALLBACK else s
  (s.modTag (fun t => { t with booted := (c.imageId, c.seq) })).showConfig

/-- No image passes: bring-up stays at step 5; an image staged in the tag is considered (R552). -/
def State.noImage (s : State) : State :=
  let s := (s.halt 3).raise R.IMG_STATUS F.IMG_STATUS_NO_IMAGE
  match s.tagRecord staging with
  | some r => if r.kind = 1 then s.considerStage 1 else s
  | none => s

/-- Step 6 begins: every running die is powered. -/
def State.powerDies (s : State) : State :=
  ((List.range 4).filter s.img.run.runs).foldl (fun s d => s.dieUp d) s

/-- Steps 6 and 7 end once every running die is READY with its links trained, and step 8 begins; how long they took are
measurements. -/
def State.bringupOn (s : State) : State :=
  if s.power = 1 ∧ s.buStep = 6 ∧ s.diesReady then
    let s := s.fresh.2.stepEnds 6 s.fresh.1.toNat 7
    let s := s.fresh.2.stepEnds 7 s.fresh.1.toNat 8
    s.beginLoad 1
  else s

/-- End of step 3: the firmware runs. It reads the fault log, rewrites the identity area, logs a bring-up after any reset other
than a power-on, and considers the staging record as step 5 begins. -/
def State.loaderRuns (s : State) (ms : Nat) : State :=
  let s := s.stepEnds 3 ms 5
  let s := s.fresh.2.setRegN R.LOADER_VER s.fresh.1.toNat
  let s := ((s.raise R.TAG_STATUS F.TAG_STATUS_TAG_OK).showMbx.loadFaultLog).rewriteIdentity
  let c := s.regN R.RESET_CAUSE
  let s := if c = 1 ∨ c = 5 then s else s.putLog 5 (s.eventBody c)
  s.considerStage 1

/-- End of step 5 (R96): the selected slot, or the other one. -/
def State.imageStep (s : State) (ms one both : Nat) : State :=
  let a := s.img.sel % 2
  let go (s : State) (a : Nat) (c : RunCfg) (fell : Bool) : State :=
    (((s.bootImage a c fell).stepEnds 5 ms 6).powerDies).bringupOn
  match s.trySlot a one both with
  | (some (c, f), s) => go s a c f
  | (none, s) =>
    match s.trySlot (1 - a) one both with
    | (some (c, _), s) => go s (1 - a) c true
    | (none, s) => s.noImage

/-- BRINGUP_STEP_END: step 2, 3 or 5 has ended `ms` after power good, well or not; `one` and `both` tell which stored images have
one or two bad copies. -/
def State.bringupStep (s : State) (step : Nat) (ok : Bool) (ms one both : Nat) : State :=
  if s.power ≠ 1 ∨ !s.pwr.up ∨ s.buStep ≠ step ∨ s.getF R.SYS_STATE F.SYS_STATE_HALT ≠ 0 then s
  else if step = 2 then (if ok then s.stepEnds 2 ms 3 else s.halt 1)
  else if step = 3 then (if ok then s.loaderRuns ms else s.halt 2)
  else if step = 5 then s.imageStep ms one both
  else s

/-- The chain ports are ready after `ms` (R312): the relay opens, frames are numbered from 1, the arbiter of every slot is in
quarantine, and an enabled pair is DETACHED. -/
def State.portsOpen (s : State) (ms : Nat) : State :=
  let s := (s.at 400000000).setRegN (R.BU_T 4) ms
  let s := s.raise R.CHAIN_STATUS F.CHAIN_STATUS_PORTS_READY
  let s := if s.flag R.CHAIN_CTRL F.CHAIN_CTRL_BYPASS_FORCE then s else s.raise R.CHAIN_STATUS F.CHAIN_STATUS_RELAY_OPEN
  let s := s.modP (fun p => { p with ended := p.ended ++ [4] })
  let s := s.modCh (fun c => { c with seq := 1 })
  let s := s.modPair (fun x => { x with portsT := s.now, gotRenew := false, arbs := x.arbs.map (fun a => { a with quar := true }) })
  if s.flag R.PAIR_CFG F.PAIR_CFG_EN ∧ s.pairState = 0 then s.setF R.PAIR_STATUS F.PAIR_STATUS_STATE 1 else s

/-- PORTS_READY (R312): no earlier than 400 ms after power good; the relay opens and SEQ starts at 1. -/
def State.portsReady (s : State) (ms : Nat) : State :=
  if !s.firmware ∨ s.flag R.CHAIN_STATUS F.CHAIN_STATUS_PORTS_READY ∨ ms < 400 then s
  else s.portsOpen ms

/-- ACQ_NO_LINK_TIMEOUT (R398): 5 s after the ports became ready no port has had link. -/
def State.noLinkTimeout (s : State) (t : Nat) : State :=
  if s.flag R.CHAIN_STATUS F.CHAIN_STATUS_PORTS_READY ∧ s.pwr.acqStart.isNone ∧ s.pair.portsT + 5000000000 ≤ t then
    (s.at t).enterFree
  else s

/-! ### Training and loading (R268, R269, R270, R131, R403) -/

/-- Grains of die `d` are marched after a reset of the die: one that was FAILED and passes takes its place again, or becomes a
spare where another has its place (Table 4.6). -/
def State.remarch (s : State) (q : Nat) : State :=
  let s := { s with grains := { s.grains with eccUncorr := s.grains.eccUncorr.filter (fun e => e.1 / 96 != q) } }
  (allG.filter (fun g => s.gState q g == 3 && !s.pwr.marchBad.contains (grainKey q g))).foldl (fun s g =>
    let w := s.regN (R.GCFG q g)
    if grainWorks w && Nat.blt (s.gSpanOf q g) 96 && (s.grainAt q (s.gSpanOf q g) (s.gKpos q g)).isNone then s.setGState q g 2
    else (s.setRegN (R.GCFG q g) (2 ^ 18 + 127)).setGState q g 1) s

/-- Once memory and links of a reset die are up, its grains are marched and refilled. -/
def State.dieFinish (s : State) (d : Nat) : State :=
  if s.pwr.refill.contains d ∧ s.memState d = 3 ∧ (List.range 4).all (fun l => s.link d l != 1) then
    let s := s.modP (fun p => { p with refill := p.refill.filter (fun x => x != d) })
    if !s.img.run.runs d then s
    else
      let s := (dieQ d).foldl (fun s q => ((s.remarch q).marchFails q).placeSpares q) s
      s.refillDie d
  else s

/-- What follows a change of a die's memory or links. -/
def State.trainOn (s : State) : State := ((List.range 4).foldl (fun s d => s.dieFinish d) s).bringupOn

/-- Grains of die `d` whose march failed. -/
def State.marchFound (s : State) (d : Nat) (bad : List Nat) : State :=
  s.modP (fun p => { p with marchBad := p.marchBad ++ bad.map (fun g => 384 * d + g) })

/-- MEM_TRAINING_COMPLETE (R268): INIT after power-up, READY after self-refresh. -/
def State.memTrained (s : State) (d : Nat) (bad : List Nat) : State :=
  if s.memState d ≠ 1 then s
  else if s.pwr.selfRef.contains d then
    let s := s.modP (fun p => { p with selfRef := p.selfRef.filter (fun x => x != d) })
    ((s.setF (R.MEM_STATUS d) F.MEM_STATUS_STATE 3).marchFound d bad).trainOn
  else s.setF (R.MEM_STATUS d) F.MEM_STATUS_STATE 2

/-- ZERO_FILL_COMPLETE (R269). -/
def State.zeroFilled (s : State) (d : Nat) (bad : List Nat) : State :=
  if s.memState d ≠ 2 then s
  else ((((s.clearDie d).setF (R.MEM_STATUS d) F.MEM_STATUS_STATE 3)).marchFound d bad).trainOn

/-- The hub-side sections of the booted image. -/
def State.loadHub (s : State) : State :=
  let s := s.showPolicy.restartPoints RunCfg.zero
  (s.img.run.secs.filter (fun x => x.typ == 12)).foldl (fun s x => s.applyRegset 0 x) s

/-- Losses before the first epoch (R418): the variant loads in step 8, or the node goes on degraded; the event record waits for
the first epoch's number. -/
def State.bootLosses (s : State) : State :=
  let s := s.modR (fun r => { r with notes := [], stop := none, chargedNow := [] })
  if s.rcv.wantLost.isEmpty then s
  else
    let note := s.rcv.lossNote.getD ⟨0, 0, 0, 0⟩
    let s := s.rcv.wantLost.foldl (fun s q => s.setRegN R.LOST_Q (Nat.lor (s.regN R.LOST_Q) (2 ^ q))) s
    let s := (s.raise R.REC_ERR F.REC_ERR_UNIT_LOST).modR (fun r => { r with wantLost := [], lossNote := none })
    let x := s.lossSteps false
    (x.2.modR (fun r => { r with bootEvents := r.bootEvents ++ [(x.1, note)] })).setCapacity

/-- A stored section that neither copy gives (R97, R419): at bring-up the dies lose power and step 5 tries the next image;
otherwise the read fails. `item` numbers the image as readImage does. -/
def State.sectionLost (s : State) (item : Nat) : State :=
  let s := s.raise R.IMG_ERR F.IMG_ERR_STORE
  if s.power ≠ 1 then s.imgFail 0x13 0xFFFF 1
  else
    let s := (List.range 4).foldl (fun s d => if s.dieOn d then s.dieOff d else s) s
    let s := (s.drop R.IMG_STATUS F.IMG_STATUS_LOADING).modImg (fun m => { m with load := 0, run := RunCfg.zero })
    let s := ((s.imgFail 0x13 0xFFFF 2).raise R.IMG_ERR F.IMG_ERR_VERIFY_FAIL).setF R.SYS_STATE F.SYS_STATE_BU_STEP 5
    s.modP (fun p => { p with failed := p.failed ++ [item] })

/-- LOAD_COMPLETE (R93, R397): what LOADING loads is in place `ms` after power good. `copy` is 1 when one stored copy was repaired,
2 or 3 when a section of the full image or of its overlay could not be read. -/
def State.loadComplete (s : State) (ms copy : Nat) : State :=
  if !s.flag R.IMG_STATUS F.IMG_STATUS_LOADING || !s.diesReady then s
  else if 2 ≤ copy then s.sectionLost (2 * s.activeSlot + (copy - 2))
  else
    let s := if copy = 1 then (s.raise R.IMG_ERR F.IMG_ERR_STORE).raise R.IMG_STATUS F.IMG_STATUS_STORE_DEGRADED else s
    let boot := s.power == 1 && !s.time.begun
    let s := if boot && s.img.load == 1 then s.loadHub else s
    let s := s.loadAll
    let lossy := !s.rcv.wantLost.isEmpty
    let s := if boot then s.bootLosses else s
    if boot && lossy && !s.stoppedByLoss then s
    else
      let s := s.endLoading.drop R.REC_STATUS F.REC_STATUS_RECONFIGURING
      if boot then s.stepEnds 8 ms 9 else s

/-! ### No command waits -/

/-- With no command waiting, chain time runs on by 1 ns while the hub has supply (R30; DESIGN CHOICE, log entry 1). -/
def State.tick (s : State) : State := if s.pwr.up then s.at (s.now + 1) else s

end Sys2Proof.Machine
end

