-- ==== Sys2Proof/Machine/ExecAio.lean ====
section
/-! DEFINITION. The meanings of the commands of analogue loops (14): the command's operation, then what it has brought up is
resolved. -/

namespace Sys2Proof.Machine

/-- LP_OVERLOAD (R427, 14_process_loops.md): Loop power has been at its current limit for 10 ms, so it folds back to 3 mA. -/
def execLpOverload (c : BitVec 5) (s : State) : Host.Outcome State Fault Refusal :=
  .next (State.settle (s.lpOverload c.toNat))

/-- LP_RETRY (R427, 14_process_loops.md): Once a second the folded-back loop power retries the 25 mA limit, and LP_OVERLOAD
clears if the current stays below it. -/
def execLpRetry (c : BitVec 5) (below : Bool) (s : State) : Host.Outcome State Fault Refusal :=
  .next (State.settle (s.lpRetry c.toNat below))

/-- AO_RELEASE_SEEN (R436, 14_process_loops.md): An ARMED analogue output sees its terminal below 0.2 V for 200 µs and turns on
within 1 ms. -/
def execAoReleaseSeen (o : BitVec 4) (s : State) : Host.Outcome State Fault Refusal :=
  .next (State.settle ((s.aoRelease o.toNat).pairOn))

/-- AO_THERMAL_FOLDBACK (R435, 14_process_loops.md): A driver junction reaches 150 °C, so the output folds back to 3.6 mA. -/
def execAoThermalFoldback (o : BitVec 4) (s : State) : Host.Outcome State Fault Refusal :=
  .next (State.settle (s.aoFoldback o.toNat))

/-- AO_THERMAL_RESTORE (R435, 14_process_loops.md): The junction has stayed below 130 °C for 100 ms, so the output returns to
its command. -/
def execAoThermalRestore (o : BitVec 4) (s : State) : Host.Outcome State Fault Refusal :=
  .next (State.settle (s.aoRestore o.toNat))

/-- LOAD_HIGH (R452, 14_process_loops.md): The supply is at 27 V and the readback has been more than 120 µA short for 20 ms, so
LOAD_HIGH is set. -/
def execLoadHigh (o : BitVec 4) (s : State) : Host.Outcome State Fault Refusal :=
  .next (State.settle (s.loadHigh o.toNat))

/-- AO_READBACK_FAULT (R453, 14_process_loops.md): The readback has disagreed with a reachable command for 20 ms, which is an
isolated-side fault, so the output parks. -/
def execAoReadbackFault (o : BitVec 4) (s : State) : Host.Outcome State Fault Refusal :=
  .next (State.settle (s.aoIsoFault o.toNat))

/-- MISWIRE (R451, 14_process_loops.md): A reversed or external voltage of 6 V or more sets MISWIRE on an analogue channel. -/
def execMiswire (k : Fin 48) (ext : Bool) (s : State) : Host.Outcome State Fault Refusal :=
  .next (State.settle (s.miswire k.val ext))

/-- MISWIRE_CLEAR (R451, 14_process_loops.md): One second after the miswiring ends, MISWIRE clears. -/
def execMiswireClear (k : Fin 48) (s : State) : Host.Outcome State Fault Refusal :=
  .next (State.settle (s.miswireClear k.val))

/-- REFERENCE_CHECK (R449, 14_process_loops.md): Each second the check converter measures the reference and one input in
rotation, setting REF_FAIL or CHECK_FAIL. -/
def execReferenceCheck (ref own chk : Int) (s : State) : Host.Outcome State Fault Refusal :=
  .next (State.settle (s.refDone ref own chk))

/-- AO_CMD_WRITE (R439, 14_process_loops.md): A host pair-word write of AO_CMD is a value write of the output at the next
commit. -/
def execAoCmdWrite (p : Machine.Path) (role : BitVec 2) (o : BitVec 4) (v : BitVec 32) (s : State) :
    Host.Outcome State Fault Refusal :=
  .next (State.settle (s.hostPair p role.toNat (R.AO_CMD_LO o.toNat) v.toNat))

/-- AO_RANGE_SHADOW_WRITE (R440, 14_process_loops.md): A RANGE_SHADOW write takes effect at the output's next value write. -/
def execAoRangeShadowWrite (p : Machine.Path) (role : BitVec 2) (o : BitVec 4) (v : BitVec 2) (s : State) :
    Host.Outcome State Fault Refusal :=
  .next (State.settle (s.hostWrite p role.toNat (R.AO_CFG o.toNat) (4 * (s.regN (R.AO_CFG o.toNat) / 4) + v.toNat)))

/-- TRIM_OPEN (R445, 14_process_loops.md): The TRIM_CMD OPEN command opens a trim session on an input, or on an output in
SERVICE. -/
def execTrimOpen (p : Machine.Path) (role : BitVec 2) (c : BitVec 6) (s : State) : Host.Outcome State Fault Refusal :=
  .next (State.settle (s.hostWrite p role.toNat R.TRIM_CMD (1 + 16 * c.toNat)))

/-- TRIM_CAPTURE_ZERO (R445, 14_process_loops.md): Captures R_L or M_L, checked against its limits. -/
def execTrimCaptureZero (p : Machine.Path) (role : BitVec 2) (s : State) : Host.Outcome State Fault Refusal :=
  .next (State.settle (s.hostWrite p role.toNat R.TRIM_CMD 2))

/-- TRIM_CAPTURE_SPAN (R445, 14_process_loops.md): Captures R_H or M_H, checked against its limits. -/
def execTrimCaptureSpan (p : Machine.Path) (role : BitVec 2) (s : State) : Host.Outcome State Fault Refusal :=
  .next (State.settle (s.hostWrite p role.toNat R.TRIM_CMD 3))

/-- TRIM_COMMIT (R445, 14_process_loops.md): Computes and commits the new zero and span trims, which the hub then stores to
eMMC. -/
def execTrimCommit (p : Machine.Path) (role : BitVec 2) (s : State) : Host.Outcome State Fault Refusal :=
  .next (State.settle (s.hostWrite p role.toNat R.TRIM_CMD 4))

/-- TRIM_ABORT (R447, 14_process_loops.md): Ends the trim session without changing the trims. -/
def execTrimAbort (p : Machine.Path) (role : BitVec 2) (s : State) : Host.Outcome State Fault Refusal :=
  .next (State.settle (s.hostWrite p role.toNat R.TRIM_CMD 5))

/-- TRIM_TIMEOUT (R447, 14_process_loops.md): Sixty seconds without a trim action end the session with TIMEOUT. -/
def execTrimTimeout (t : Nat) (s : State) : Host.Outcome State Fault Refusal :=
  .next (State.settle (s.trimTimeout t))

/-- PANEL_SEL (R445, 14_process_loops.md): Opens a panel trim session for the channel shown. -/
def execPanelSel (c : BitVec 5) (s : State) : Host.Outcome State Fault Refusal :=
  .next (State.settle (s.panelQueue 0x21 c.toNat))

/-- PANEL_ZERO (R445, 14_process_loops.md): Captures the zero reading in a panel trim session. -/
def execPanelZero (s : State) : Host.Outcome State Fault Refusal :=
  .next (State.settle (s.panelQueue 0x22 0))

/-- PANEL_SPAN (R445, 14_process_loops.md): Captures the span reading in a panel trim session. -/
def execPanelSpan (s : State) : Host.Outcome State Fault Refusal :=
  .next (State.settle (s.panelQueue 0x23 0))

/-- PANEL_ENTER (R445, 14_process_loops.md): Commits the panel trim session. -/
def execPanelEnter (s : State) : Host.Outcome State Fault Refusal :=
  .next (State.settle (s.panelQueue 0x24 0))

/-- PANEL_CANCEL (R447, 14_process_loops.md): Aborts the panel trim session. -/
def execPanelCancel (s : State) : Host.Outcome State Fault Refusal :=
  .next (State.settle (s.panelQueue 0x25 0))

/-- AI_SAMPLING_INSTANT (R426, 14_process_loops.md): At each instant φ + k·T_s the carrier takes the sinc³ output for every
enabled analogue input as a sample ready for delivery. -/
def execAiSamplingInstant (t : Nat) (vals : List (Nat × Int)) (s : State) : Host.Outcome State Fault Refusal :=
  .next (State.settle (s.aiSample t vals))

end Sys2Proof.Machine
end

