-- ==== Sys2Proof/Machine/ExecAlarm.lean ====
section
/-! DEFINITION. The meanings of the commands of alarms and engineer call (17): the command's operation, then what it has brought up is
resolved. -/

namespace Sys2Proof.Machine

/-- ACK (R523, 17_alarm_and_call.md): Acknowledges a point, clearing UNACK and LATCHED, and resets the watch. -/
def execAck (p : Machine.Path) (req : BitVec 32) (role : BitVec 2) (index : BitVec 16) (s : State) :
    Host.Outcome State Fault Refusal :=
  .next (State.settle (s.entryIn p req.toNat role.toNat 1 index.toNat 0))

/-- ACK_GROUP (R523, 17_alarm_and_call.md): Acknowledges every point of a group. -/
def execAckGroup (p : Machine.Path) (req : BitVec 32) (role : BitVec 2) (index : BitVec 16) (s : State) :
    Host.Outcome State Fault Refusal :=
  .next (State.settle (s.entryIn p req.toNat role.toNat 2 index.toNat 0))

/-- ACK_ALL (R523, 17_alarm_and_call.md): Acknowledges every point of the node. -/
def execAckAll (p : Machine.Path) (req : BitVec 32) (role : BitVec 2) (s : State) : Host.Outcome State Fault Refusal :=
  .next (State.settle (s.entryIn p req.toNat role.toNat 3 0 0))

/-- SILENCE (R524, 17_alarm_and_call.md): Sets SILENCED. -/
def execSilence (p : Machine.Path) (req : BitVec 32) (role : BitVec 2) (s : State) : Host.Outcome State Fault Refusal :=
  .next (State.settle (s.entryIn p req.toNat role.toNat 4 0 0))

/-- SHELVE (R525, 17_alarm_and_call.md): Shelves a point for a duration, or is refused. -/
def execShelve (p : Machine.Path) (req : BitVec 32) (role : BitVec 2) (index : BitVec 16) (arg : BitVec 32) (s : State) :
    Host.Outcome State Fault Refusal :=
  .next (State.settle (s.entryIn p req.toNat role.toNat 5 index.toNat arg.toNat))

/-- UNSHELVE (R525, 17_alarm_and_call.md): Clears SHELVED at once. -/
def execUnshelve (p : Machine.Path) (req : BitVec 32) (role : BitVec 2) (index : BitVec 16) (s : State) :
    Host.Outcome State Fault Refusal :=
  .next (State.settle (s.entryIn p req.toNat role.toNat 6 index.toNat 0))

/-- FO_RESET (R522, 17_alarm_and_call.md): Drops the first-out of a group. -/
def execFoReset (p : Machine.Path) (req : BitVec 32) (role : BitVec 2) (index : BitVec 16) (s : State) :
    Host.Outcome State Fault Refusal :=
  .next (State.settle (s.entryIn p req.toNat role.toNat 7 index.toNat 0))

/-- SET_SETPOINT (R528, 17_alarm_and_call.md): Replaces a point's setpoint from its commit onward. -/
def execSetSetpoint (p : Machine.Path) (req : BitVec 32) (role : BitVec 2) (index : BitVec 16) (arg : BitVec 32) (s : State) :
    Host.Outcome State Fault Refusal :=
  .next (State.settle (s.entryIn p req.toNat role.toNat 8 index.toNat arg.toNat))

/-- DUTY (R527, 17_alarm_and_call.md): Writes one half of the duty mask. -/
def execDuty (p : Machine.Path) (req : BitVec 32) (role : BitVec 2) (index : BitVec 16) (arg : BitVec 32) (s : State) :
    Host.Outcome State Fault Refusal :=
  .next (State.settle (s.entryIn p req.toNat role.toNat 9 index.toNat arg.toNat))

/-- WATCH_ARM (R536, 17_alarm_and_call.md): Arms or disarms the watch-safety timer. -/
def execWatchArm (p : Machine.Path) (req : BitVec 32) (role : BitVec 2) (arg : BitVec 32) (s : State) :
    Host.Outcome State Fault Refusal :=
  .next (State.settle (s.entryIn p req.toNat role.toNat 10 0 arg.toNat))

/-- WATCH_RESET (R536, 17_alarm_and_call.md): Restarts the watch timer and clears the watch point. -/
def execWatchReset (p : Machine.Path) (req : BitVec 32) (role : BitVec 2) (index : BitVec 16) (s : State) :
    Host.Outcome State Fault Refusal :=
  .next (State.settle (s.entryIn p req.toNat role.toNat 11 index.toNat 0))

/-- PANEL_ACK (R524, 17_alarm_and_call.md): Acts as SILENCE while the horn sounds, and as ACK_ALL otherwise. -/
def execPanelAck (s : State) : Host.Outcome State Fault Refusal :=
  .next (State.settle (s.panelQueue 0x20 0))

/-- CALL (R527, 17_alarm_and_call.md): A CALL entry received by a node completes with REFUSED. -/
def execCall (p : Machine.Path) (req : BitVec 32) (role : BitVec 2) (index : BitVec 16) (arg : BitVec 32) (s : State) :
    Host.Outcome State Fault Refusal :=
  .next (State.settle (s.entryIn p req.toNat role.toNat 48 index.toNat arg.toNat))

/-- CALL_SEEN (R534, 17_alarm_and_call.md): Marks a panel target PRESENT and zeroes its age. -/
def execCallSeen (p : Machine.Path) (req : BitVec 32) (role : BitVec 2) (index : BitVec 16) (s : State) :
    Host.Outcome State Fault Refusal :=
  .next (State.settle (s.entryIn p req.toNat role.toNat 49 index.toNat 0))

/-- ACCEPT (R531, 17_alarm_and_call.md): Accepts a class call from a target in the calling set, and resets the watch. -/
def execAccept (p : Machine.Path) (req : BitVec 32) (role : BitVec 2) (index : BitVec 16) (arg : BitVec 32) (s : State) :
    Host.Outcome State Fault Refusal :=
  .next (State.settle (s.entryIn p req.toNat role.toNat 50 index.toNat arg.toNat))

/-- SETPOINT_WRITE (R528, 17_alarm_and_call.md): A pair-word write of SETPOINT_p replaces the setpoint from its commit. -/
def execSetpointWrite (p : Machine.Path) (role : BitVec 2) (i : BitVec 12) (v : BitVec 32) (s : State) :
    Host.Outcome State Fault Refusal :=
  .next (State.settle (s.hostPair p role.toNat (R.SETPOINT_LO i.toNat) v.toNat))

/-- POINT_DELAY_EXPIRY (R515, 17_alarm_and_call.md): A point's TIMER passes its on- or off-delay, so ACTIVE follows C. -/
def execPointDelayExpiry (p : BitVec 12) (s : State) : Host.Outcome State Fault Refusal :=
  .next (State.settle (s.delayExpiry p.toNat))

/-- SRC_BAD_SET (R512, 17_alarm_and_call.md): A source has been raw bad for BAD_DELAY commits, so SRC_BAD is set. -/
def execSrcBadSet (p : BitVec 12) (s : State) : Host.Outcome State Fault Refusal :=
  .next (State.settle (s.srcBadSet p.toNat))

/-- SCORE_STALE (R511, 17_alarm_and_call.md): A score slot unwritten for SCORE_STALE commits makes its point STALE. -/
def execScoreStale (p : BitVec 12) (s : State) : Host.Outcome State Fault Refusal :=
  .next (State.settle (s.scoreStale p.toNat))

/-- RADIO_STALE (R512, 17_alarm_and_call.md): No entry for a radio quantity for RADIO_STALE commits makes the source raw bad. -/
def execRadioStale (p : BitVec 12) (s : State) : Host.Outcome State Fault Refusal :=
  .next (State.settle (s.radioStale p.toNat))

/-- SHELVE_EXPIRY (R525, 17_alarm_and_call.md): The shelve count reaches 0, so SHELVED clears. -/
def execShelveExpiry (p : BitVec 12) (s : State) : Host.Outcome State Fault Refusal :=
  .next (State.settle (s.shelveExpiry p.toNat))

/-- ESCALATION (R531, 17_alarm_and_call.md): A class's TIMER reaches ESC_EPOCHS, so calling moves to the next level. -/
def execEscalation (c : BitVec 4) (s : State) : Host.Outcome State Fault Refusal :=
  .next (State.settle (s.escalation c.toNat))

/-- ACCEPT_TIMEOUT (R531, 17_alarm_and_call.md): ACCEPTED has lasted ACCEPT_EPOCHS, so the class calls again. -/
def execAcceptTimeout (c : BitVec 4) (s : State) : Host.Outcome State Fault Refusal :=
  .next (State.settle (s.acceptTimeout c.toNat))

/-- TARGET_PRESENCE_LOST (R534, 17_alarm_and_call.md): A panel target's AGE reaches 3 s worth of commits, so PRESENT clears. -/
def execTargetPresenceLost (t : BitVec 6) (s : State) : Host.Outcome State Fault Refusal :=
  .next (State.settle (s.presenceExpiry t.toNat))

/-- WATCH_PREWARN (R536, 17_alarm_and_call.md): REMAIN has fallen to WATCH_PRE, so the watch enters PREWARN. -/
def execWatchPrewarn (s : State) : Host.Outcome State Fault Refusal :=
  .next (State.settle (s.watchPrewarn))

/-- WATCH_EXPIRY (R536, 17_alarm_and_call.md): REMAIN reaches 0, so the watch point goes ACTIVE. -/
def execWatchExpiry (s : State) : Host.Outcome State Fault Refusal :=
  .next (State.settle (s.watchExpiry))

/-- CALL_FRAME_SEND (R532, 17_alarm_and_call.md): Every second, and at changes, the holder sends CALL frames to panel targets.
-/
def execCallFrameSend (t : BitVec 6) (s : State) : Host.Outcome State Fault Refusal :=
  .next (State.settle (s.callFrame t.toNat))

end Sys2Proof.Machine
end

