-- ==== Sys2Proof/Machine/ExecChain.lean ====
section
/-! DEFINITION. The meanings of the commands of the chain (11): the command's operation, then what it has brought up is
resolved. -/

namespace Sys2Proof.Machine

/-- PORTS_READY (R312, 11_chain.md): The ports are declared ready no earlier than 400 ms after power good or a reset, the bypass
relay opens, and SEQ starts at 1. -/
def execPortsReady (ms : BitVec 32) (s : State) : Host.Outcome State Fault Refusal :=
  .next (State.settle (s.portsReady ms.toNat))

/-- PTP_SYNC (R336, 11_chain.md): A received Sync message is forwarded as a transparent clock with corrections added, and it
disciplines the time unit by slewing or stepping. -/
def execPtpSync (port : Fin 3) (domain : Nat) (gm : Nat) (twoStep : Bool) (corr res : Nat) (off : Int) (s : State) :
    Host.Outcome State Fault Refusal :=
  .next (State.settle (s.ptpSync port.val domain gm twoStep corr res off))

/-- FOLLOW_UP (R336, 11_chain.md): A received Follow_Up is forwarded with residence time and peer delay added, and it completes
a two-step time measurement. -/
def execFollowUp (port : Fin 3) (domain gm corr res : Nat) (off : Int) (s : State) : Host.Outcome State Fault Refusal :=
  .next (State.settle (s.followUp port.val domain gm corr res off))

/-- ANNOUNCE (R335, 11_chain.md): A received Announce message feeds the best master clock algorithm, which chooses the
grandmaster. -/
def execAnnounce (port : Fin 3) (a : Machine.AnnMsg) (s : State) : Host.Outcome State Fault Refusal :=
  .next (State.settle (s.announce port.val a))

/-- ANNOUNCE_TIMEOUT (R335, 11_chain.md): No Announce has arrived for ANN_TIMEOUT intervals, so the best master clock algorithm
chooses again. -/
def execAnnounceTimeout (port : Fin 3) (ival t : Nat) (s : State) : Host.Outcome State Fault Refusal :=
  .next (State.settle (s.annTimeout port.val ival t))

/-- GM_SYNC_SEND (R335, 11_chain.md): While this node is grandmaster of the chain, each interval timer sends Announce and two-
step Sync on the chain. -/
def execGmSyncSend (ann : Bool) (s : State) : Host.Outcome State Fault Refusal :=
  .next (State.settle (s.gmSync ann))

/-- PDELAY_REQ (R321, 11_chain.md): A received peer delay request is answered with the timestamps taken at the MDI. -/
def execPdelayReq (port : Fin 3) (s : State) : Host.Outcome State Fault Refusal :=
  .next (State.settle (s.pdelayReq port.val))

/-- PDELAY_RESP (R321, 11_chain.md): A received peer delay response completes the link delay measurement, and SEG_LONG is set if
the delay exceeds SEG_LIMIT. -/
def execPdelayResp (port : Fin 3) (d : Nat) (s : State) : Host.Outcome State Fault Refusal :=
  .next (State.settle (s.pdelayResp port.val d))

/-- IMAGE (R334, 11_chain.md): An IMAGE transfer request writes its data into the pending area at RECV_BYTES, or is refused with
XFER_REFUSED. -/
def execImage (f : Machine.RcpFrame) (s : State) : Host.Outcome State Fault Refusal :=
  .next (State.settle (s.imageFrame f))

/-- ALARM (R326, 11_chain.md): A received ALARM frame is checked pair word by pair word and forwarded. -/
def execAlarm (f : Machine.RcpFrame) (s : State) : Host.Outcome State Fault Refusal :=
  .next (State.settle (s.alarmFrame f))

/-- ALARM_REFRESH (R324, 11_chain.md): Every 2 s the node repeats the state of active or unacknowledged points in refresh
frames. -/
def execAlarmRefresh (s : State) : Host.Outcome State Fault Refusal :=
  .next (State.settle (s.alarmRefresh))

/-- ALARM_FRAME_DEQUEUE (R327, 11_chain.md): A queued alarm-class frame leaves once the shaping budget allows. -/
def execAlarmFrameDequeue (t : Nat) (s : State) : Host.Outcome State Fault Refusal :=
  .next (State.settle (s.alarmDequeue t))

/-- HELLO (R319, 11_chain.md): A received HELLO updates the neighbour and sets CROSSED on a same-port HELLO. -/
def execHello (w : BitVec 1) (p : List Byte) (s : State) : Host.Outcome State Fault Refusal :=
  .next (State.settle (s.hello w.toNat p))

/-- HELLO_SEND (R318, 11_chain.md): Every 100 ms the node sends a HELLO on each chain port. -/
def execHelloSend (s : State) : Host.Outcome State Fault Refusal :=
  .next (State.settle (s.helloSend))

/-- NEIGHBOUR_LOST (R318, 11_chain.md): No HELLO has arrived on a port for 300 ms, so the neighbour is lost. -/
def execNeighbourLost (w : BitVec 1) (t : Nat) (s : State) : Host.Outcome State Fault Refusal :=
  .next (State.settle (s.neighbourLost w.toNat t))

/-- PORT_LINK_CHANGE (R318, 11_chain.md): A chain port's link goes up or down, updating neighbours, the acquisition start and
wake isolation. -/
def execPortLinkChange (port : Fin 3) (up : Bool) (s : State) : Host.Outcome State Fault Refusal :=
  .next (State.settle (s.portLink port.val up))

/-- TIME_INFO (R322, 11_chain.md): A received TIME_INFO checks P and φ, closes the ring check and can switch the time port. -/
def execTimeInfo (f : Machine.RcpFrame) (s : State) : Host.Outcome State Fault Refusal :=
  .next (State.settle (s.timeInfo f))

/-- TIME_INFO_SEND (R322, 11_chain.md): Every second the node broadcasts its TIME_INFO. -/
def execTimeInfoSend (s : State) : Host.Outcome State Fault Refusal :=
  .next (State.settle (s.timeInfoSend))

/-- RING_CHECK_TIMEOUT (R323, 11_chain.md): The node's own TIME_INFO has not returned within 10 ms, so RING_CLOSED clears. -/
def execRingCheckTimeout (t : Nat) (s : State) : Host.Outcome State Fault Refusal :=
  .next (State.settle (s.ringTimeout t))

/-- RCP_BAD_FRAME (R317, 11_chain.md): A frame of another version, or with a reserved type or bad header, is forwarded but not
delivered. -/
def execRcpBadFrame (version typ : Nat) (f : Machine.RcpFrame) (s : State) : Host.Outcome State Fault Refusal :=
  .next (State.settle (s.rcpBad version typ f))

/-- READ (R330, 11_chain.md): The REGISTER READ operation reads one register, using the snapshot rule for 8-byte reads. -/
def execRead (f : Machine.RcpFrame) (s : State) : Host.Outcome State Fault Refusal :=
  .next (State.settle (s.register 1 f))

/-- WRITE (R330, 11_chain.md): The REGISTER WRITE operation writes one register. -/
def execWrite (f : Machine.RcpFrame) (s : State) : Host.Outcome State Fault Refusal :=
  .next (State.settle (s.register 2 f))

/-- RMW (R330, 11_chain.md): Read-modify-write of a register with MASK and VALUE. -/
def execRmw (f : Machine.RcpFrame) (s : State) : Host.Outcome State Fault Refusal :=
  .next (State.settle (s.register 3 f))

/-- BLOCK_READ (R331, 11_chain.md): Reads up to 256 consecutive words, stopping at the first failure. -/
def execBlockRead (f : Machine.RcpFrame) (s : State) : Host.Outcome State Fault Refusal :=
  .next (State.settle (s.register 4 f))

/-- BLOCK_WRITE (R331, 11_chain.md): Writes up to 256 consecutive words, stopping at the first failure. -/
def execBlockWrite (f : Machine.RcpFrame) (s : State) : Host.Outcome State Fault Refusal :=
  .next (State.settle (s.register 5 f))

/-- HSR_FRAME (R338, 11_chain.md): An HSR-tagged frame is forwarded with duplicate discard, or delivered to the node. -/
def execHsrFrame (port : BitVec 1) (src dst seq : Nat) (body : List Byte) (s : State) : Host.Outcome State Fault Refusal :=
  .next (State.settle (s.hsrFrame port.toNat src dst seq body))

/-- HSR_SUPERVISION (R338, 11_chain.md): Every 2 s the node sends an HSR supervision frame. -/
def execHsrSupervision (s : State) : Host.Outcome State Fault Refusal :=
  .next (State.settle (s.hsrSupervise))

/-- READ_HOLDING_REGISTERS (R340, 11_chain.md): Modbus function code 3 reads the ALM window. -/
def execReadHoldingRegisters (conn : BitVec 3) (unit : Byte) (addr qty : BitVec 16) (s : State) :
    Host.Outcome State Fault Refusal :=
  .next (State.settle (s.modbusReads 3 holdingWindows conn unit addr qty))

/-- READ_INPUT_REGISTERS (R340, 11_chain.md): Modbus function code 4 reads the read-only windows. -/
def execReadInputRegisters (conn : BitVec 3) (unit : Byte) (addr qty : BitVec 16) (s : State) :
    Host.Outcome State Fault Refusal :=
  .next (State.settle (s.modbusReads 4 inputWindows conn unit addr qty))

/-- WRITE_SINGLE_REGISTER (R340, 11_chain.md): Modbus function code 6 writes the low word of a register. -/
def execWriteSingleRegister (conn : BitVec 3) (unit : Byte) (addr value : BitVec 16) (s : State) :
    Host.Outcome State Fault Refusal :=
  .next (State.settle (s.modbusSingle conn unit addr value))

/-- WRITE_MULTIPLE_REGISTERS (R340, 11_chain.md): Modbus function code 16 writes whole registers. -/
def execWriteMultipleRegisters (conn : BitVec 3) (unit : Byte) (addr : BitVec 16) (vs : List (BitVec 16)) (s : State) :
    Host.Outcome State Fault Refusal :=
  .next (State.settle (s.modbusMultiple conn unit addr vs))

/-- READ_WRITE_MULTIPLE_REGISTERS (R340, 11_chain.md): Modbus function code 23 writes and then reads. -/
def execReadWriteMultipleRegisters (conn : BitVec 3) (unit : Byte) (raddr rqty waddr : BitVec 16) (vs : List (BitVec 16)) (s : State) :
    Host.Outcome State Fault Refusal :=
  .next (State.settle (s.modbusBoth conn unit raddr rqty waddr vs))

/-- BYPASS_FORCE (R312, 11_chain.md): A maintainer write of BYPASS_FORCE in SERVICE holds the relay CLOSED, or releases it. -/
def execBypassForce (p : Machine.Path) (role : BitVec 2) (on : Bool) (s : State) : Host.Outcome State Fault Refusal :=
  .next (State.settle (s.hostWrite p role.toNat R.CHAIN_CTRL (F.CHAIN_CTRL_BYPASS_FORCE.set (b2n on) (s.reg R.CHAIN_CTRL)).toNat))

/-- HARB_PROPOSE (R342, 11_chain.md): The HARB_CMD PROPOSE command makes the node initiator and broadcasts PROPOSE. -/
def execHarbPropose (p : Machine.Path) (role : BitVec 2) (s : State) : Host.Outcome State Fault Refusal :=
  .next (State.settle (s.hostWrite p role.toNat R.HARB_CMD 1))

/-- HARB_WAKE (R344, 11_chain.md): The HARB_CMD WAKE host command is a wake request. -/
def execHarbWake (p : Machine.Path) (role : BitVec 2) (s : State) : Host.Outcome State Fault Refusal :=
  .next (State.settle (s.hostWrite p role.toNat R.HARB_CMD 2))

/-- PROPOSE (R343, 11_chain.md): A received PROPOSE is answered with ACCEPT or VETO. -/
def execPropose (f : Machine.RcpFrame) (s : State) : Host.Outcome State Fault Refusal :=
  .next (State.settle (s.proposeIn f))

/-- HARB_ACCEPT (R342, 11_chain.md): The initiator records an ACCEPT, and broadcasts COMMIT once every participant has accepted.
-/
def execHarbAccept (f : Machine.RcpFrame) (s : State) : Host.Outcome State Fault Refusal :=
  .next (State.settle (s.acceptIn f))

/-- VETO (R342, 11_chain.md): The initiator receives a VETO and broadcasts ABORT. -/
def execVeto (f : Machine.RcpFrame) (s : State) : Host.Outcome State Fault Refusal :=
  .next (State.settle (s.vetoIn f))

/-- HARB_COMMIT (R343, 11_chain.md): A received COMMIT before T_sleep moves the node to COMMITTED. -/
def execHarbCommit (f : Machine.RcpFrame) (s : State) : Host.Outcome State Fault Refusal :=
  .next (State.settle (s.commitIn f))

/-- ABORT (R343, 11_chain.md): A received ABORT returns the node to AWAKE. -/
def execAbort (f : Machine.RcpFrame) (s : State) : Host.Outcome State Fault Refusal :=
  .next (State.settle (s.abortIn f))

/-- WAKE (R345, 11_chain.md): A received WAKE moves the node to AWAKE, with a WAKE originated from other states. -/
def execWake (f : Machine.RcpFrame) (s : State) : Host.Outcome State Fault Refusal :=
  .next (State.settle (s.wakeIn f))

/-- HARB_ABORT_DEADLINE (R342, 11_chain.md): At T_sleep − 100 ms with an ACCEPT missing, the initiator broadcasts ABORT. -/
def execHarbAbortDeadline (t : Nat) (s : State) : Host.Outcome State Fault Refusal :=
  .next (State.settle (s.abortDeadline t))

/-- HARB_REPEAT (R342, 11_chain.md): The initiator repeats COMMIT or ABORT, three times 5 ms apart. -/
def execHarbRepeat (s : State) : Host.Outcome State Fault Refusal :=
  .next (State.settle (s.harbRepeat))

/-- T_SLEEP_REACHED (R346, 11_chain.md): At T_sleep, COMMITTED becomes ASLEEP and PROPOSED wakes with cause NO_COMMIT. -/
def execTSleepReached (t : Nat) (s : State) : Host.Outcome State Fault Refusal :=
  .next (State.settle (s.tSleep t))

/-- WAKE_REPEAT (R345, 11_chain.md): The origin node repeats its WAKE 20 ms and 40 ms later. -/
def execWakeRepeat (s : State) : Host.Outcome State Fault Refusal :=
  .next (State.settle (s.wakeRepeat))

/-- ISOLATED_WAKE (R347, 11_chain.md): An ASLEEP node whose two ports have both lost link or neighbour wakes itself. -/
def execIsolatedWake (s : State) : Host.Outcome State Fault Refusal :=
  .next (State.settle (s.isolatedWake))

/-- COMMAND_FRAME (R325, 11_chain.md): A received RCP COMMAND frame is checked for session, AUTH and pair words, forwarded,
answered at once when refused whole, and its entries are queued for the next commit. -/
def execCommandFrame (f : Machine.RcpFrame) (s : State) : Host.Outcome State Fault Refusal :=
  .next (State.settle (s.commandFrame f))

/-- RCP_FORWARD (R315, 11_chain.md): A received valid RCP frame that is addressed to another node is forwarded out of the other
chain port with HOPS increased, and is neither delivered nor counted as bad. -/
def execRcpForward (typ : Nat) (f : Machine.RcpFrame) (s : State) : Host.Outcome State Fault Refusal :=
  .next (State.settle (s.rcpForward typ f))

/-- PDELAY_REQ_SEND (R321, 11_chain.md): Each LOG_PDELAY interval the node sends a peer delay request on each chain port to
measure its link delay. -/
def execPdelayReqSend (s : State) : Host.Outcome State Fault Refusal :=
  .next (State.settle (s.pdelaySend))

/-- DELAY_REQ_SEND (R335, 11_chain.md): As end-to-end slave on X5, the node sends a Delay_Req to its master at the master's
interval. -/
def execDelayReqSend (s : State) : Host.Outcome State Fault Refusal :=
  .next (State.settle (s.delayReqSend))

/-- DELAY_RESP (R335, 11_chain.md): A received Delay_Resp on X5 completes the end-to-end delay measurement used to discipline
chain time to the X5 source. -/
def execDelayResp (d : Nat) (off : Int) (s : State) : Host.Outcome State Fault Refusal :=
  .next (State.settle (s.delayResp d off))

/-- TIME_PORT_SYNC_LOSS (R337, 11_chain.md): The chosen time port has lost the grandmaster's Sync for three intervals, so the
time unit changes to the other chain port and applies the change as a slew. -/
def execTimePortSyncLoss (t : Nat) (s : State) : Host.Outcome State Fault Refusal :=
  .next (State.settle (s.timePortLoss t))

end Sys2Proof.Machine
end

