-- ==== Sys2Proof/Machine/ExecDio.lean ====
section
/-! DEFINITION. The meanings of the commands of digital I/O and the carrier (15): the command's operation, then what it has brought up is
resolved. -/

namespace Sys2Proof.Machine

/-- CARRIER_POWER_UP (R474, 15_digital_io.md): The carrier's isolated supply comes up with outputs OFF or PARKED, default safe
states and no sampling. -/
def execCarrierPowerUp (s : State) : Host.Outcome State Fault Refusal :=
  .next (State.settle (s.carrierUp))

/-- DOWNSTREAM_FRAME_SEND (R465, 15_digital_io.md): In each 25 µs slot, the hub sends a downstream carrier frame on each lane
with committed commands and rotating configuration words. -/
def execDownstreamFrameSend (l : BitVec 2) (j : Nat) (s : State) : Host.Outcome State Fault Refusal :=
  .next (State.settle (s.downSend l.toNat j))

/-- DOWNSTREAM_FRAME (R471, 15_digital_io.md): The carrier checks a received downstream frame and applies its commands, arming,
release and configuration, or discards it whole. -/
def execDownstreamFrame (l : BitVec 2) (bytes : List Byte) (t : Nat) (s : State) : Host.Outcome State Fault Refusal :=
  .next (State.settle ((s.downFrame l.toNat bytes t).pairOn))

/-- UPSTREAM_FRAME_SEND (R470, 15_digital_io.md): In each slot, the carrier sends an upstream frame filled with ready items. -/
def execUpstreamFrameSend (l : BitVec 2) (j : Nat) (ao : List (Nat × Int × Nat × Nat × Int)) (dio : Option (Nat × Nat)) (s : State) :
    Host.Outcome State Fault Refusal :=
  .next (State.settle (s.upSend l.toNat j ao dio))

/-- UPSTREAM_FRAME (R472, 15_digital_io.md): The hub checks a received upstream frame and takes its samples, levels, status and
modem items. -/
def execUpstreamFrame (l : BitVec 2) (bytes : List Byte) (t : Nat) (s : State) : Host.Outcome State Fault Refusal :=
  .next (State.settle (s.upFrame l.toNat bytes t))

/-- SAFE_STATE_TIMEOUT (R473, 15_digital_io.md): A lane has delivered no accepted downstream frame for the timeout, so its
outputs go to their safe states. -/
def execSafeStateTimeout (l : BitVec 2) (t : Nat) (s : State) : Host.Outcome State Fault Refusal :=
  .next (State.settle (s.safeTimeout l.toNat t))

/-- CARRIER_TIME_HOLDOVER (R476, 15_digital_io.md): No lane-3 frame has been accepted for 1 ms, so the carrier sets time
holdover. -/
def execCarrierTimeHoldover (t : Nat) (s : State) : Host.Outcome State Fault Refusal :=
  .next (State.settle (s.carrierHold t))

/-- DO_RELEASE_SEEN (R463, 15_digital_io.md): An ARMED digital output sees its terminal below 2.0 V for 200 µs and turns on. -/
def execDoReleaseSeen (i : BitVec 5) (s : State) : Host.Outcome State Fault Refusal :=
  .next (State.settle ((s.doRelease i.toNat).pairOn))

/-- DO_CURRENT_LIMIT (R478, 15_digital_io.md): An output reaches or leaves its current limit, entering or leaving LIMITING. -/
def execDoCurrentLimit (i : BitVec 5) (on : Bool) (s : State) : Host.Outcome State Fault Refusal :=
  .next (State.settle (s.doLimit i.toNat on))

/-- DO_THERMAL_SHUTDOWN (R478, 15_digital_io.md): An output's switch shuts down thermally, so it is TRIPPED and counted. -/
def execDoThermalShutdown (i : BitVec 5) (s : State) : Host.Outcome State Fault Refusal :=
  .next (State.settle (s.doTrip i.toNat))

/-- DO_THERMAL_RESTART (R461, 15_digital_io.md): After cooling by 15 °C and at least 10 ms off, a tripped output restarts while
commanded on. -/
def execDoThermalRestart (i : BitVec 5) (s : State) : Host.Outcome State Fault Refusal :=
  .next (State.settle (s.doRestart i.toNat))

/-- SWITCH_FAILED_ON (R479, 15_digital_io.md): An output that should be off has carried more than 20 mA for 20 ms, which is an
isolated-side fault. -/
def execSwitchFailedOn (i : BitVec 5) (s : State) : Host.Outcome State Fault Refusal :=
  .next (State.settle (s.doFailedOn i.toNat))

/-- DI_MISWIRE (R480, 15_digital_io.md): An input has been held below −3 V for 10 ms, so it reads 0 and sets MISWIRE. -/
def execDiMiswire (i : Fin 48) (on : Bool) (s : State) : Host.Outcome State Fault Refusal :=
  .next (State.settle (s.diMiswire i.val on))

/-- SUPPLY_REV (R480, 15_digital_io.md): A reversed group supply holds the group's outputs open and sets SUPPLY_REV. -/
def execSupplyRev (g : BitVec 1) (on : Bool) (s : State) : Host.Outcome State Fault Refusal :=
  .next (State.settle (s.supplyRev g.toNat on))

/-- GROUP_SUPPLY_LOW (R481, 15_digital_io.md): A group supply has been below 17 V for 10 ms, so SUPPLY_g_OK clears. -/
def execGroupSupplyLow (g : BitVec 1) (mv : Nat) (s : State) : Host.Outcome State Fault Refusal :=
  .next (State.settle (s.supplyLow g.toNat mv))

/-- DI_SAMPLING_INSTANT (R457, 15_digital_io.md): At each 25 µs instant the carrier samples all 48 digital inputs and advances
each input filter, so that a filtered level changes after N equal samples. -/
def execDiSamplingInstant (j : Nat) (levels : BitVec 48) (s : State) : Host.Outcome State Fault Refusal :=
  .next (State.settle (s.diSample j levels.toNat))

/-- DO_EXT_SOURCE (R480, 15_digital_io.md): An OFF or ARMED digital output finds its terminal above 2.0 V from another source,
so its EXT bit is set. -/
def execDoExtSource (i : BitVec 5) (on : Bool) (s : State) : Host.Outcome State Fault Refusal :=
  .next (State.settle (s.doExt i.toNat on))

end Sys2Proof.Machine
end

