-- ==== Sys2Proof/Machine/ExecHost.lean ====
section
/-! DEFINITION. The meanings of the commands of host access and security (19, 20): the command's operation, then what it has brought up is
resolved. -/

namespace Sys2Proof.Machine

/-- REG_WRITE (R574, 19_host_access_security.md): A host or REGSET write to a register that has no row of its own is checked in
the order of Table 19.4 and then takes effect under its access code and change class. -/
def execRegWrite (p : Machine.Path) (role : BitVec 2) (a v : BitVec 32) (hi : Option (BitVec 32)) (s : State) :
    Host.Outcome State Fault Refusal :=
  .next (State.settle (s.hostAny p role.toNat a.toNat v.toNat (hi.map BitVec.toNat)))

/-- ENROL_WINDOW_EXPIRY (R579, 19_host_access_security.md): The 60 s enrolment window closes. -/
def execEnrolWindowExpiry (t : Nat) (s : State) : Host.Outcome State Fault Refusal :=
  .next (State.settle (s.windowExpiry t))

/-- SESSION_OPEN (R562, 19_host_access_security.md): The HS_CMD OPEN command opens a session with a fresh node nonce, or is
refused. -/
def execSessionOpen (p : Machine.Path) (role : BitVec 2) (s : State) : Host.Outcome State Fault Refusal :=
  .next (State.settle (s.hostWrite p role.toNat R.HS_CMD 1))

/-- SESSION_CLOSE (R564, 19_host_access_security.md): The HS_CMD CLOSE command closes the session. -/
def execSessionClose (p : Machine.Path) (role : BitVec 2) (s : State) : Host.Outcome State Fault Refusal :=
  .next (State.settle (s.hostWrite p role.toNat R.HS_CMD 2))

/-- SESS_KILL (R564, 19_host_access_security.md): A maintainer closes a named session. -/
def execSessKill (p : Machine.Path) (role : BitVec 2) (id : BitVec 32) (s : State) : Host.Outcome State Fault Refusal :=
  .next (State.settle (s.hostWrite p role.toNat R.SESS_KILL id.toNat))

/-- SESSION_IDLE_TIMEOUT (R564, 19_host_access_security.md): A session without a verified request for SESS_IDLE seconds closes.
-/
def execSessionIdleTimeout (id : BitVec 32) (t : Nat) (s : State) : Host.Outcome State Fault Refusal :=
  .next (State.settle (s.sessIdle id.toNat t))

/-- LOCKOUT_EXPIRY (R567, 19_host_access_security.md): The 10 s authentication lockout of a source ends. -/
def execLockoutExpiry (src : BitVec 48) (t : Nat) (s : State) : Host.Outcome State Fault Refusal :=
  .next (State.settle (s.lockoutExpiry src.toNat t))

/-- ENROLL_KEY (R576, 19_host_access_security.md): Enrols the staged image key into an empty slot. -/
def execEnrollKey (p : Machine.Path) (role : BitVec 2) (slot : BitVec 4) (s : State) : Host.Outcome State Fault Refusal :=
  .next (State.settle (s.hostWrite p role.toNat R.SEC_CMD (1 + 16 * slot.toNat)))

/-- REVOKE_KEY (R576, 19_host_access_security.md): Empties a key slot and adds its KEY_ID to the revocation list. -/
def execRevokeKey (p : Machine.Path) (role : BitVec 2) (slot : BitVec 4) (force : Bool) (s : State) :
    Host.Outcome State Fault Refusal :=
  .next (State.settle (s.hostWrite p role.toNat R.SEC_CMD (2 + 16 * slot.toNat + 1024 * b2n force)))

/-- ENROLL_CRED (R576, 19_host_access_security.md): Enrols a credential with a role. -/
def execEnrollCred (p : Machine.Path) (role : BitVec 2) (slot : BitVec 4) (r : BitVec 2) (s : State) :
    Host.Outcome State Fault Refusal :=
  .next (State.settle (s.hostWrite p role.toNat R.SEC_CMD (3 + 16 * slot.toNat + 256 * r.toNat)))

/-- REMOVE_CRED (R576, 19_host_access_security.md): Removes a credential and closes its sessions. -/
def execRemoveCred (p : Machine.Path) (role : BitVec 2) (slot : BitVec 4) (s : State) : Host.Outcome State Fault Refusal :=
  .next (State.settle (s.hostWrite p role.toNat R.SEC_CMD (4 + 16 * slot.toNat)))

/-- SEC_STORE_COMPLETE (R578, 19_host_access_security.md): Both store copies are written, so the security command completes. -/
def execSecStoreComplete (ok : Bool) (s : State) : Host.Outcome State Fault Refusal :=
  .next (State.settle (s.secStored ok))

/-- DEBUG_DATA_READ (R588, 20_address_map.md): A data window read returns the paged content, stalling the affected span. -/
def execDebugDataRead (p : Machine.Path) (role : BitVec 2) (req : BitVec 32) (d : BitVec 2) (o : BitVec 18) (s : State) :
    Host.Outcome State Fault Refusal :=
  .next (State.settle (s.debugRead p role.toNat req.toNat (0x10C0000 + 0x400000 * d.toNat + o.toNat)))

/-- DEBUG_DATA_WRITE (R590, 20_address_map.md): A KIND 4 data window write is accepted while compute is stopped, and is refused
otherwise. -/
def execDebugDataWrite (p : Machine.Path) (role : BitVec 2) (d : BitVec 2) (o : BitVec 18) (v : BitVec 32) (s : State) :
    Host.Outcome State Fault Refusal :=
  .next (State.settle (s.hostWrite p role.toNat (0x10C0000 + 0x400000 * d.toNat + o.toNat) v.toNat))

end Sys2Proof.Machine
end

