-- ==== Sys2Proof/Machine/ExecImage.lean ====
section
/-! DEFINITION. The meanings of the commands of the structure image (03): the command's operation, then what it has brought up is
resolved. -/

namespace Sys2Proof.Machine

/-- ACTIVATION_COMPLETE (R90, 03_structure_image.md): Stopped-class sections have finished loading, so the pending state returns
to EMPTY and ACT_COUNT increments. -/
def execActivationComplete (s : State) : Host.Outcome State Fault Refusal :=
  .next (State.settle (s.activationComplete))

/-- LOAD_COMPLETE (R93, 03_structure_image.md): The compute sections are loaded and the banks filled, so LOADING clears and
programs launch at the next boundary. -/
def execLoadComplete (ms : BitVec 32) (copy : BitVec 2) (s : State) : Host.Outcome State Fault Refusal :=
  .next (State.settle (s.loadComplete ms.toNat copy.toNat))

/-- STAGE_BEGIN (R84, 03_structure_image.md): The IMG_CMD STAGE_BEGIN command discards any pending image and enters RECEIVING.
-/
def execStageBegin (p : Machine.Path) (role : BitVec 2) (s : State) : Host.Outcome State Fault Refusal :=
  .next (State.settle (s.hostWrite p role.toNat R.IMG_CMD 1))

/-- VERIFY (R85, 03_structure_image.md): The IMG_CMD VERIFY command starts verification when all bytes have arrived, and fails
with LENGTH otherwise. -/
def execVerify (p : Machine.Path) (role : BitVec 2) (s : State) : Host.Outcome State Fault Refusal :=
  .next (State.settle (s.hostWrite p role.toNat R.IMG_CMD 2))

/-- VERIFY_COMPLETE (R85, 03_structure_image.md): Verification ends in VERIFIED with both eMMC copies written, or in FAILED with
the first failure code. -/
def execVerifyComplete (s : State) : Host.Outcome State Fault Refusal :=
  .next (State.settle (s.verifyComplete))

/-- ARM (R86, 03_structure_image.md): The IMG_CMD ARM command arms the image for ACT_EPOCH, or makes it the restart
configuration, or activates a live-only partial image at once. -/
def execArm (p : Machine.Path) (role : BitVec 2) (s : State) : Host.Outcome State Fault Refusal :=
  .next (State.settle (s.hostWrite p role.toNat R.IMG_CMD 3))

/-- CANCEL (R89, 03_structure_image.md): The IMG_CMD CANCEL command discards the pending image and, with RESTART_ARMED set,
restores the previous selector. -/
def execCancel (p : Machine.Path) (role : BitVec 2) (s : State) : Host.Outcome State Fault Refusal :=
  .next (State.settle (s.hostWrite p role.toNat R.IMG_CMD 4))

/-- SELECT_PREVIOUS (R89, 03_structure_image.md): The IMG_CMD SELECT_PREVIOUS command makes the other slot the restart
configuration when that slot holds an eligible image. -/
def execSelectPrevious (p : Machine.Path) (role : BitVec 2) (s : State) : Host.Outcome State Fault Refusal :=
  .next (State.settle (s.hostWrite p role.toNat R.IMG_CMD 5))

/-- SEQ_FLOOR_WRITE (R101, 03_structure_image.md): A maintainer pair-word write of SEQ_FLOOR raises the anti-rollback floor, and
a value below the present floor is refused. -/
def execSeqFloorWrite (p : Machine.Path) (role : BitVec 2) (v : BitVec 32) (s : State) : Host.Outcome State Fault Refusal :=
  .next (State.settle (s.hostPair p role.toNat R.SEQ_FLOOR_LO v.toNat))

end Sys2Proof.Machine
end

