-- ==== Sys2Proof/Machine/ExecModem.lean ====
section
/-! DEFINITION. The meanings of the commands of the modems (16): the command's operation, then what it has brought up is
resolved. -/

namespace Sys2Proof.Machine

/-- RADIO_SLOT_OPEN (R488, 16_modems.md): The carrier opens a superframe slot for reception, with the synthesizer tuned by the
slot's AFC value. -/
def execRadioSlotOpen (sf : Nat) (k : BitVec 10) (s : State) : Host.Outcome State Fault Refusal :=
  .next (State.settle (s.slotOpen sf k.toNat))

/-- BEACON (R493, 16_modems.md): In the beacon slots the carrier sends the committed window, or a bare beacon, under the
transmit monitor and time limit. -/
def execBeacon (sf : Nat) (masked : Bool) (s : State) : Host.Outcome State Fault Refusal :=
  .next (State.settle (s.beacon sf masked))

/-- RADIO_TRIGGERED (R491, 16_modems.md): Received strength has been above RSSI_THR for 8 symbol periods inside the trigger
window. -/
def execRadioTriggered (rssi : Int) (dt : Nat) (s : State) : Host.Outcome State Fault Refusal :=
  .next (State.settle (s.radioTrigger rssi dt))

/-- RADIO_CORRELATED (R492, 16_modems.md): Preamble correlation passes, and the frequency residual is measured for the AFC. -/
def execRadioCorrelated (corr : Nat) (inTime : Bool) (e snr : Int) (s : State) : Host.Outcome State Fault Refusal :=
  .next (State.settle (s.radioCorrelate corr inTime e snr))

/-- RADIO_SYNCED (R491, 16_modems.md): The sync word is found within its error limit, and the AFC value is updated. -/
def execRadioSynced (errs : Nat) (inTime : Bool) (s : State) : Host.Outcome State Fault Refusal :=
  .next (State.settle (s.radioSync errs inTime))

/-- RADIO_HEADER (R491, 16_modems.md): The packet header is checked, and decoding starts or the receiver returns to search. -/
def execRadioHeader (h : BitVec 32) (dt : Nat) (s : State) : Host.Outcome State Fault Refusal :=
  .next (State.settle (s.radioHeader h.toNat dt))

/-- RADIO_DECODE_DONE (R487, 16_modems.md): LDPC decoding of the packet's codewords ends and the CRC is checked. -/
def execRadioDecodeDone (llrs : List (List Int)) (s : State) : Host.Outcome State Fault Refusal :=
  .next (State.settle (s.radioDecode llrs))

/-- RADIO_SLOT_END (R488, 16_modems.md): At slot end the carrier reports the slot's result item to the hub. -/
def execRadioSlotEnd (s : State) : Host.Outcome State Fault Refusal :=
  .next (State.settle (s.slotEnd))

/-- AFC_RESET (R492, 16_modems.md): Sixty-four consecutive superframes without SYNCED in a slot reset its AFC value to 0. -/
def execAfcReset (k : BitVec 10) (s : State) : Host.Outcome State Fault Refusal :=
  .next (State.settle (s.afcReset k.toNat))

/-- TAG_OFF_RANGE (R504, 16_modems.md): A tag at its AFC limit has brought no OK entry in 8 slots, so OFF_RANGE is set and its
correction repeated. -/
def execTagOffRange (t : Fin 250) (s : State) : Host.Outcome State Fault Refusal :=
  .next (State.settle (s.tagOffRange t.val))

/-- RADIO_CMD_SEND (R493, 16_modems.md): The RADIO_CMD SEND command queues a tag command for a beacon. -/
def execRadioCmdSend (p : Machine.Path) (role : BitVec 2) (tag : BitVec 8) (len : BitVec 7) (s : State) :
    Host.Outcome State Fault Refusal :=
  .next (State.settle (s.hostWrite p role.toNat R.RADIO_CMD (tag.toNat + 256 * len.toNat + 2 ^ 15)))

/-- RADIO_CMD_FAILED (R493, 16_modems.md): A command not acknowledged within 4 superframes of its beacon becomes FAILED. -/
def execRadioCmdFailed (s : State) : Host.Outcome State Fault Refusal :=
  .next (State.settle (s.radioCmdFailed))

/-- RADIO_CFG_WRITE (R494, 16_modems.md): A RADIO_CFG write sets the radio settings, resets the AFC values and lifts a mask
inhibit. -/
def execRadioCfgWrite (p : Machine.Path) (role : BitVec 2) (v : BitVec 32) (s : State) : Host.Outcome State Fault Refusal :=
  .next (State.settle (s.hostWrite p role.toNat R.RADIO_CFG v.toNat))

/-- RADIO_FIR_WRITE (R495, 16_modems.md): A RADIO_FIR write sets the shaping filter and lifts a mask inhibit. -/
def execRadioFirWrite (p : Machine.Path) (role : BitVec 2) (i : BitVec 2) (v : BitVec 32) (s : State) :
    Host.Outcome State Fault Refusal :=
  .next (State.settle (s.hostWrite p role.toNat (R.RADIO_FIR i.toNat) v.toNat))

/-- LD_DWELL_START (R501, 16_modems.md): Each engine starts a dwell on its next enabled loop and sends its downlink frame. -/
def execLdDwellStart (e : BitVec 2) (m : Nat) (s : State) : Host.Outcome State Fault Refusal :=
  .next (State.settle (s.dwellStart e.toNat m))

/-- LD_UPLINK_FRAME (R497, 16_modems.md): A device's uplink frame is received, tracked and decoded, and any table it carries is
adopted. -/
def execLdUplinkFrame (e : BitVec 2) (off : Int) (h : BitVec 56) (llrs : List (List Int)) (s : State) :
    Host.Outcome State Fault Refusal :=
  .next (State.settle (s.uplinkFrame e.toNat off h.toNat llrs))

/-- LD_DWELL_END (R498, 16_modems.md): At dwell end the node updates SNR and tables and reports the dwell and channel items. -/
def execLdDwellEnd (e : BitVec 2) (snr : List Int) (s : State) : Host.Outcome State Fault Refusal :=
  .next (State.settle (s.dwellEnd e.toNat snr))

/-- LD_LOOP_LOST (R498, 16_modems.md): LOST_DWELLS consecutive dwells without a correct uplink header make the loop LOST. -/
def execLdLoopLost (l : Fin 48) (s : State) : Host.Outcome State Fault Refusal :=
  .next (State.settle (s.loopLost l.val))

/-- LD_MSG_SEND (R502, 16_modems.md): The LD_MSG_CMD SEND command queues a loop-data message. -/
def execLdMsgSend (p : Machine.Path) (role : BitVec 2) (l len : BitVec 6) (s : State) : Host.Outcome State Fault Refusal :=
  .next (State.settle (s.hostWrite p role.toNat R.LD_MSG_CMD (l.toNat + 64 * len.toNat + 4096)))

/-- LD_MSG_FAILED (R502, 16_modems.md): DL_RETRY dwells without MSG_ACK end the message as FAILED. -/
def execLdMsgFailed (s : State) : Host.Outcome State Fault Refusal :=
  .next (State.settle (s.ldMsgFailed))

end Sys2Proof.Machine
end

