-- ==== Sys2Proof/Machine/ExecPair.lean ====
section
/-! DEFINITION. The meanings of the commands of the redundant pair (12): the command's operation, then what it has brought up is
resolved. -/

namespace Sys2Proof.Machine

/-- LEASE_RENEW (R354, 12_redundant_pair.md): The holder renews its lease at each commit point and every LEASE_MS/4, over the
cable and the chain. -/
def execLeaseRenew (t : Nat) (s : State) : Host.Outcome State Fault Refusal :=
  .next (State.settle ((s.at t).leaseRenew))

/-- CONFIRMED_EXPIRY (R356, 12_redundant_pair.md): The holder's chain time reaches its confirmed expiry, so it enters FENCED. -/
def execConfirmedExpiry (t : Nat) (s : State) : Host.Outcome State Fault Refusal :=
  .next (State.settle (s.confirmedExpiry t))

/-- LEASE_EXPIRED_REQUEST (R357, 12_redundant_pair.md): Two milliseconds past the holder's latest EXPIRES, a unit without the
token sends REQUEST. -/
def execLeaseExpiredRequest (t : Nat) (s : State) : Host.Outcome State Fault Refusal :=
  .next (State.settle (s.leaseExpired t))

/-- BRINGUP_REQUEST (R357, 12_redundant_pair.md): No RENEW has arrived within 102 ms of ports ready, so the unit sends REQUEST
for bring-up. -/
def execBringupRequest (t : Nat) (s : State) : Host.Outcome State Fault Refusal :=
  .next (State.settle (s.bringupRequest t))

/-- REQUEST_REPEAT (R357, 12_redundant_pair.md): The unit repeats its REQUEST every 5 ms until it is granted or finally denied.
-/
def execRequestRepeat (s : State) : Host.Outcome State Fault Refusal :=
  .next (State.settle (s.requestRepeat))

/-- HEALTH_SEND (R361, 12_redundant_pair.md): Every LEASE_MS/4 a unit without the token sends HEALTH on the chain. -/
def execHealthSend (s : State) : Host.Outcome State Fault Refusal :=
  .next (State.settle (s.healthSend))

/-- RENEW (R360, 12_redundant_pair.md): The arbiter receives a holder's RENEW and answers CONFIRM or DENY. -/
def execRenew (f : Machine.RcpFrame) (s : State) : Host.Outcome State Fault Refusal :=
  .next (State.settle (s.renewIn f))

/-- PAIR_RENEW (R357, 12_redundant_pair.md): The partner receives a chain RENEW, learning EXPIRES. -/
def execPairRenew (f : Machine.RcpFrame) (s : State) : Host.Outcome State Fault Refusal :=
  .next (State.settle (s.pairRenew f))

/-- CONFIRM (R355, 12_redundant_pair.md): The arbiter's CONFIRM advances the holder's confirmed expiry. -/
def execConfirm (f : Machine.RcpFrame) (s : State) : Host.Outcome State Fault Refusal :=
  .next (State.settle (s.confirmIn f))

/-- REQUEST (R358, 12_redundant_pair.md): The arbiter decides a token REQUEST, granting or denying it. -/
def execRequest (f : Machine.RcpFrame) (s : State) : Host.Outcome State Fault Refusal :=
  .next (State.settle (s.requestIn f))

/-- GRANT (R358, 12_redundant_pair.md): A unit receiving GRANT takes the token and enters TAKING. -/
def execGrant (f : Machine.RcpFrame) (s : State) : Host.Outcome State Fault Refusal :=
  .next (State.settle (s.grantIn f))

/-- DENY (R356, 12_redundant_pair.md): A DENY stops requests, or fences the holder for reason 3. -/
def execDeny (f : Machine.RcpFrame) (s : State) : Host.Outcome State Fault Refusal :=
  .next (State.settle (s.denyIn f))

/-- RELEASE (R359, 12_redundant_pair.md): The arbiter frees the token, reserved for the partner. -/
def execRelease (f : Machine.RcpFrame) (s : State) : Host.Outcome State Fault Refusal :=
  .next (State.settle (s.releaseIn f))

/-- RECLAIM (R359, 12_redundant_pair.md): The arbiter grants or denies a releaser's reclaim. -/
def execReclaim (f : Machine.RcpFrame) (s : State) : Host.Outcome State Fault Refusal :=
  .next (State.settle (s.reclaimIn f))

/-- SUSPECT (R373, 12_redundant_pair.md): The arbiter collects a self-test result and decides when both results are in. -/
def execSuspect (f : Machine.RcpFrame) (s : State) : Host.Outcome State Fault Refusal :=
  .next (State.settle (s.suspectIn f))

/-- SUSPECT_DECISION_TIMEOUT (R373, 12_redundant_pair.md): Three seconds after the first result, the arbiter decides with the
missing result counted as a failure. -/
def execSuspectDecisionTimeout (k : BitVec 3) (t : Nat) (s : State) : Host.Outcome State Fault Refusal :=
  .next (State.settle (s.suspectTimeout k.toNat t))

/-- DECISION (R373, 12_redundant_pair.md): A unit receives DECISION keep or switch. -/
def execDecision (f : Machine.RcpFrame) (s : State) : Host.Outcome State Fault Refusal :=
  .next (State.settle (s.decisionIn f))

/-- HEALTH (R361, 12_redundant_pair.md): The arbiter receives a health word and, with ARB_AUTO set, decides a switch. -/
def execHealth (pair : Bool) (f : Machine.RcpFrame) (s : State) : Host.Outcome State Fault Refusal :=
  .next (State.settle (if pair then s.pairHealthIn f else s.healthIn f))

/-- ARB_QUARANTINE_END (R360, 12_redundant_pair.md): One hundred and two milliseconds after the arbiter's ports are ready, its
quarantine ends. -/
def execArbQuarantineEnd (t : Nat) (s : State) : Host.Outcome State Fault Refusal :=
  .next (State.settle (s.quarantineEnd t))

/-- ARB_HOLDOFF_EXPIRY (R358, 12_redundant_pair.md): ARB_HOLDOFF has passed without a REQUEST from the preferred unit, so the
other unit can be granted. -/
def execArbHoldoffExpiry (k : BitVec 3) (t : Nat) (s : State) : Host.Outcome State Fault Refusal :=
  .next (State.settle (s.holdoffExpiry k.toNat t))

/-- CABLE_LINK_DOWN (R363, 12_redundant_pair.md): No valid frame for 2 ms, or 8 unacknowledged sends, take the cable link DOWN.
-/
def execCableLinkDown (silent sends : Nat) (s : State) : Host.Outcome State Fault Refusal :=
  .next (State.settle (s.cableDown silent sends))

/-- CABLE_LINK_UP (R363, 12_redundant_pair.md): One hundred valid frames in sequence bring the cable link UP. -/
def execCableLinkUp (valid : Nat) (s : State) : Host.Outcome State Fault Refusal :=
  .next (State.settle (s.cableLinkUp valid))

/-- CABLE_RESEND (R363, 12_redundant_pair.md): A frame unacknowledged after 20 µs is resent. -/
def execCableResend (seq : BitVec 32) (s : State) : Host.Outcome State Fault Refusal :=
  .next (State.settle (s.cableResend seq.toNat))

/-- CABLE_IDLE_SEND (R363, 12_redundant_pair.md): An IDLE frame is sent after 10 µs without another frame. -/
def execCableIdleSend (t : Nat) (s : State) : Host.Outcome State Fault Refusal :=
  .next (State.settle (s.cableIdle t))

/-- CABLE_RENEW (R355, 12_redundant_pair.md): The partner receives a renewal over the cable and answers CONFIRM. -/
def execCableRenew (token expires epoch : BitVec 64) (s : State) : Host.Outcome State Fault Refusal :=
  .next (State.settle (s.cableRenew token.toNat expires.toNat epoch.toNat))

/-- CABLE_CONFIRM (R355, 12_redundant_pair.md): The holder receives the partner's CONFIRM. -/
def execCableConfirm (token expires : BitVec 64) (s : State) : Host.Outcome State Fault Refusal :=
  .next (State.settle (s.cableConfirm token.toNat expires.toNat))

/-- CABLE_HEALTH (R374, 12_redundant_pair.md): A unit receives its partner's health report. -/
def execCableHealth (b : List Byte) (s : State) : Host.Outcome State Fault Refusal :=
  .next (State.settle (s.cableHealth b))

/-- MIRROR_RECORD (R365, 12_redundant_pair.md): The standby receives a whole mirror record, checks it, and holds it for replay
and its follow commit. -/
def execMirrorRecord (fs : List (Nat × List Byte)) (s : State) : Host.Outcome State Fault Refusal :=
  .next (State.settle (s.mirrorRecord fs))

/-- STANDBY_REPLAY (R366, 12_redundant_pair.md): At FULL level, once the log is whole and the previous replay has ended, the
standby replays epoch n. -/
def execStandbyReplay (s : State) : Host.Outcome State Fault Refusal :=
  .next (State.settle (s.standbyReplay))

/-- MISMATCH (R371, 12_redundant_pair.md): The active receives MISMATCH and starts the suspect self-test. -/
def execMismatch (s : State) : Host.Outcome State Fault Refusal :=
  .next (State.settle (s.mismatchIn))

/-- SUSPECT_TEST_COMPLETE (R372, 12_redundant_pair.md): The suspect self-test finishes, and SUSPECT is sent to the arbiter. -/
def execSuspectTestComplete (march loopF adc : Bool) (s : State) : Host.Outcome State Fault Refusal :=
  .next (State.settle (s.suspectDone march loopF adc))

/-- SWITCH (R376, 12_redundant_pair.md): The PAIR_CMD SWITCH command starts a controlled switch-over when the partner is
healthy. -/
def execSwitch (p : Machine.Path) (role : BitVec 2) (s : State) : Host.Outcome State Fault Refusal :=
  .next (State.settle (s.hostWrite p role.toNat R.PAIR_CMD 1))

/-- DETACH (R357, 12_redundant_pair.md): The PAIR_CMD DETACH command holds a standby in DETACHED. -/
def execDetach (p : Machine.Path) (role : BitVec 2) (s : State) : Host.Outcome State Fault Refusal :=
  .next (State.settle (s.hostWrite p role.toNat R.PAIR_CMD 2))

/-- ATTACH (R353, 12_redundant_pair.md): The PAIR_CMD ATTACH command ends DETACH. -/
def execAttach (p : Machine.Path) (role : BitVec 2) (s : State) : Host.Outcome State Fault Refusal :=
  .next (State.settle (s.hostWrite p role.toNat R.PAIR_CMD 3))

/-- HANDOVER (R377, 12_redundant_pair.md): The partner receives HANDOVER and requests the token with reason handover. -/
def execHandover (token n : BitVec 64) (s : State) : Host.Outcome State Fault Refusal :=
  .next (State.settle (s.handoverIn token.toNat n.toNat))

/-- ARMED (R377, 12_redundant_pair.md): The old active receives ARMED, releases its outputs and enters SYNCING. -/
def execArmed (token : BitVec 64) (s : State) : Host.Outcome State Fault Refusal :=
  .next (State.settle (s.armedIn token.toNat))

/-- HANDOVER_TIMEOUT (R387, 12_redundant_pair.md): ARMED has not arrived by HANDOVER_TO, so the releasing unit sends RECLAIM. -/
def execHandoverTimeout (t : Nat) (s : State) : Host.Outcome State Fault Refusal :=
  .next (State.settle (s.handoverTimeout t))

/-- ARM_STUCK (R380, 12_redundant_pair.md): An armed output has seen no release by HANDOVER_TO, so ARM_STUCK is set. -/
def execArmStuck (t : Nat) (s : State) : Host.Outcome State Fault Refusal :=
  .next (State.settle (s.armStuck t))

/-- TAKEBACK (R385, 12_redundant_pair.md): The active receives TAKEBACK and starts a controlled switch-over at its next commit.
-/
def execTakeback (token : BitVec 64) (s : State) : Host.Outcome State Fault Refusal :=
  .next (State.settle (s.takebackIn token.toNat))

/-- FWD_CMD (R388, 12_redundant_pair.md): The holder receives forwarded commands and applies them at its next commit. -/
def execFwdCmd (p : List Byte) (s : State) : Host.Outcome State Fault Refusal :=
  .next (State.settle (s.fwdIn p))

/-- RESYNC_REQ (R383, 12_redundant_pair.md): The active receives RESYNC_REQ and sends the snapshot. -/
def execResyncReq (s : State) : Host.Outcome State Fault Refusal :=
  .next (State.settle (s.resyncReq))

/-- SNAP_END (R384, 12_redundant_pair.md): The standby completes the snapshot, makes its banks STALE and resumes replay. -/
def execSnapEnd (epoch : BitVec 64) (fs : List (Nat × List Byte)) (s : State) : Host.Outcome State Fault Refusal :=
  .next (State.settle (s.snapEnd epoch.toNat fs))

/-- BLOCK_REQ (R389, 12_redundant_pair.md): The standby answers a block rebuild request with BLOCK_DATA. -/
def execBlockReq (a : BitVec 64) (s : State) : Host.Outcome State Fault Refusal :=
  .next (State.settle (s.blockReq a.toNat))

end Sys2Proof.Machine
end

