-- ==== Sys2Proof/Machine/ExecPower.lean ====
section
/-! DEFINITION. The meanings of the commands of bring-up, resets and supply (01, 13): the command's operation, then what it has brought up is
resolved. -/

namespace Sys2Proof.Machine

/-- POWER_GOOD (R393, 13_power_bringup_harbour.md): The joined input has held at least 18.0 V for 10 ms with the hub rails in
regulation, so power good is declared and bring-up starts. -/
def execPowerGood (s : State) : Host.Outcome State Fault Refusal :=
  .next (State.settle (s.powerGood))

/-- FEED_LOST (R394, 13_power_bringup_harbour.md): A feed has stayed below 17.0 V for 1 ms, so FEED_x_OK clears and
PWR_ERR.FEED_LOST is set. -/
def execFeedLost (b : Bool) (mv : BitVec 16) (s : State) : Host.Outcome State Fault Refusal :=
  .next (State.settle (s.feedLost b mv.toNat))

/-- FEED_RESTORED (R394, 13_power_bringup_harbour.md): A feed has stayed at or above 18.0 V for 100 ms, so FEED_x_OK is set
again. -/
def execFeedRestored (b : Bool) (mv : BitVec 16) (s : State) : Host.Outcome State Fault Refusal :=
  .next (State.settle (s.feedRestored b mv.toNat))

/-- PFAIL (R404, 13_power_bringup_harbour.md): The joined input has stayed below 16.5 V for 200 µs, so the node launches no RUN,
stops its quarters, lets any running commit finish, removes the compute rails, writes the fault log and closes the relay. -/
def execPfail (s : State) : Host.Outcome State Fault Refusal :=
  .next (State.settle (s.pfail))

/-- PFAIL_RECOVERY (R405, 13_power_bringup_harbour.md): Power good has returned after PFAIL, and the node performs a power-on
reset 50 ms after PFAIL. -/
def execPfailRecovery (s : State) : Host.Outcome State Fault Refusal :=
  .next (State.settle (s.pfailRecovery))

/-- LOCKSTEP_MISMATCH (R25, 01_node_overview.md): The two management cores disagree, so the hub stops both cores, logs the event
to the tag if hold-up allows, and performs a hub reset. -/
def execLockstepMismatch (logged : Bool) (s : State) : Host.Outcome State Fault Refusal :=
  .next (State.settle (s.lockstep logged))

/-- WATCHDOG_EXPIRY (R401, 13_power_bringup_harbour.md): The hub watchdog has gone 100 ms without service, so the node performs
a hub reset with cause WATCHDOG. -/
def execWatchdogExpiry (s : State) : Host.Outcome State Fault Refusal :=
  .next (State.settle (s.watchdog))

/-- ACQ_NO_LINK_TIMEOUT (R398, 13_power_bringup_harbour.md): No port has had link for 5 s after the ports became ready, so the
time unit enters FREE. -/
def execAcqNoLinkTimeout (t : Nat) (s : State) : Host.Outcome State Fault Refusal :=
  .next (State.settle (s.noLinkTimeout t))

/-- FIRST_EPOCH (R399, 13_power_bringup_harbour.md): At the first boundary where LOADING is clear and the time unit is LOCKED or
FREE, the first epoch begins and the quarters enter their states. -/
def execFirstEpoch (s : State) : Host.Outcome State Fault Refusal :=
  .next (State.settle (s.firstEpoch))

/-- TIME_SLOW (R420, 13_power_bringup_harbour.md): The time unit has not reached LOCKED 30 s after entering ACQUIRE with a
source present, so SYS_ERR.TIME_SLOW is set. -/
def execTimeSlow (s : State) : Host.Outcome State Fault Refusal :=
  .next (State.settle (s.timeSlow))

/-- RESTART (R402, 13_power_bringup_harbour.md): The SYS_CMD RESTART command is accepted or refused, and an accepted restart is
scheduled from the end of its epoch's commit. -/
def execRestart (p : Machine.Path) (role : BitVec 2) (force : Bool) (s : State) : Host.Outcome State Fault Refusal :=
  .next (State.settle (s.hostWrite p role.toNat R.SYS_CMD (1 + 16 * b2n force)))

/-- CHAIN_RESTART (R402, 13_power_bringup_harbour.md): After the commit that carries an accepted RESTART, the quarters stop,
carrier frames stop, the tag entry is written, the relay opens and the hub resets 10 ms later. -/
def execChainRestart (s : State) : Host.Outcome State Fault Refusal :=
  .next (State.settle (s.chainRestart))

/-- SVC_ENTER (R411, 13_power_bringup_harbour.md): The PWR_CMD SVC_ENTER command moves the node from ON to SERVICE at the end of
the commit, if no pair token is held. -/
def execSvcEnter (p : Machine.Path) (role : BitVec 2) (s : State) : Host.Outcome State Fault Refusal :=
  .next (State.settle (s.hostWrite p role.toNat R.PWR_CMD 1))

/-- SVC_EXIT (R411, 13_power_bringup_harbour.md): The PWR_CMD SVC_EXIT command returns the node from SERVICE to ON at the end of
the commit. -/
def execSvcExit (p : Machine.Path) (role : BitVec 2) (s : State) : Host.Outcome State Fault Refusal :=
  .next (State.settle (s.hostWrite p role.toNat R.PWR_CMD 2))

/-- DIE_RESET (R403, 13_power_bringup_harbour.md): The PWR_CMD DIE_RESET command is accepted when the die's quarters are stopped
or halted or the die is lost, and the die then enters self-refresh from the end of the next commit. -/
def execDieReset (p : Machine.Path) (role : BitVec 2) (d : BitVec 2) (s : State) : Host.Outcome State Fault Refusal :=
  .next (State.settle (s.hostWrite p role.toNat R.PWR_CMD (3 + 16 * d.toNat)))

/-- DIE_RESET_RELEASE (R403, 13_power_bringup_harbour.md): After the die has been held for 1 ms it is released, and memory and
link retraining, grain march and refill follow. -/
def execDieResetRelease (d : BitVec 2) (s : State) : Host.Outcome State Fault Refusal :=
  .next (State.settle (s.dieRelease d.toNat))

/-- FAN_CTRL_WRITE (R414, 13_power_bringup_harbour.md): A FAN_CTRL write is accepted with MANUAL only in SERVICE, and otherwise
is refused with CMD_REJECT. -/
def execFanCtrlWrite (p : Machine.Path) (role : BitVec 2) (v : BitVec 32) (s : State) : Host.Outcome State Fault Refusal :=
  .next (State.settle (s.hostWrite p role.toNat R.FAN_CTRL v.toNat))

/-- TEMPERATURE_READING (R413, 13_power_bringup_harbour.md): The hub reads the junction, memory, air and coolant sensors, sets
the fan duty and raises or clears thermal warnings. -/
def execTemperatureReading (k : Fin 12) (t : Int) (s : State) : Host.Outcome State Fault Refusal :=
  .next (State.settle (s.temperature k.val t))

/-- THERMAL_RESTART (R416, 13_power_bringup_harbour.md): After a thermal shutdown, the hub junction has fallen below 90 °C, so
the node brings itself up with cause THERMAL. -/
def execThermalRestart (t : Int) (s : State) : Host.Outcome State Fault Refusal :=
  .next (State.settle (s.thermalRestart t))

/-- FAN_FAIL (R417, 13_power_bringup_harbour.md): A fan has run below 30 % of its commanded speed for 2 s, so it is marked
failed and every working fan runs at 100 %. -/
def execFanFail (k : Fin 3) (s : State) : Host.Outcome State Fault Refusal :=
  .next (State.settle (s.fanFail k.val))

/-- DIE_POWER_OFF_COMPLETE (R421, 13_power_bringup_harbour.md): The last die is OFF, which lets a waiting harbour exit power its
dies up again. -/
def execDiePowerOffComplete (d : BitVec 2) (s : State) : Host.Outcome State Fault Refusal :=
  .next (State.settle (s.diePowerOff d.toNat))

/-- BRINGUP_STEP_END (R397, 13_power_bringup_harbour.md): A timed bring-up stage (the lockstep self-test, the loader check or
image verification) ends, which records BU_T_s and starts the next stage or a halt. -/
def execBringupStepEnd (step : BitVec 4) (ok : Bool) (ms : BitVec 32) (one both : BitVec 4) (s : State) :
    Host.Outcome State Fault Refusal :=
  .next (State.settle (s.bringupStep step.toNat ok ms.toNat one.toNat both.toNat))

end Sys2Proof.Machine
end

