-- ==== Sys2Proof/Machine/ExecRecovery.lean ====
section
/-! DEFINITION. The meanings of the commands of memory, links and recovery (09, 10): the command's operation, then what it has brought up is
resolved. -/

namespace Sys2Proof.Machine

/-- WRITE_COMPLETE (R257, 09_memory_and_die_fabric.md): A write becomes visible to every requester, which satisfies fences,
signals and the done report. -/
def execWriteComplete (q : BitVec 4) (i : Nat) (s : State) : Host.Outcome State Fault Refusal :=
  .next (State.settle (s.writeDone q.toNat i))

/-- ROLLBACK_COMPLETE (R294, 10_integrity_and_recovery.md): Every die has finished restoring its journal, so the rollback ends.
-/
def execRollbackComplete (t dur : Nat) (s : State) : Host.Outcome State Fault Refusal :=
  .next (State.settle (s.rollbackComplete t dur))

/-- REPLAY_LAUNCH (R295, 10_integrity_and_recovery.md): 400 ns after the rollback ends, the epoch is replayed from its input log
with its replay deadline. -/
def execReplayLaunch (dur : Nat) (s : State) : Host.Outcome State Fault Refusal :=
  .next (State.settle (s.replayStart dur))

/-- COPY_PATROL (R301, 10_integrity_and_recovery.md): The hub's patrol reads commit copy entries and repairs any failing entry
from the other copy. -/
def execCopyPatrol (k : Nat) (badA badB pair : Bool) (s : State) : Host.Outcome State Fault Refusal :=
  .next (State.settle (s.copyPatrol k badA badB pair))

/-- RECONFIGURE (R306, 10_integrity_and_recovery.md): The REC_CMD RECONFIGURE command restores healthy quarters of a reset die
at the next commit, or is refused. -/
def execReconfigure (p : Machine.Path) (role : BitVec 2) (s : State) : Host.Outcome State Fault Refusal :=
  .next (State.settle (s.hostWrite p role.toNat R.REC_CMD 1))

/-- FLIT_ERROR (R264, 09_memory_and_die_fabric.md): A die or hub link receives a flit with a bad CRC or sequence number and
requests a replay. -/
def execFlitError (d l : BitVec 2) (same : Bool) (s : State) : Host.Outcome State Fault Refusal :=
  .next (State.settle (s.flitError d.toNat l.toNat same))

/-- LINK_TRAINING_COMPLETE (R265, 09_memory_and_die_fabric.md): A link completes training and becomes UP. -/
def execLinkTrainingComplete (d l : BitVec 2) (s : State) : Host.Outcome State Fault Refusal :=
  .next (State.settle ((s.linkTrained d.toNat l.toNat).trainOn))

/-- LINK_TRAINING_TIMEOUT (R265, 09_memory_and_die_fabric.md): Training is not complete within 10 ms, so the link goes DOWN. -/
def execLinkTrainingTimeout (d l : BitVec 2) (s : State) : Host.Outcome State Fault Refusal :=
  .next (State.settle ((s.linkTrainTimeout d.toNat l.toNat).trainOn))

/-- LINK_RETRAIN (R265, 09_memory_and_die_fabric.md): A fourth consecutive replay of one flit, or a loss of lane lock, puts the
link into RETRAIN, where its traffic waits. -/
def execLinkRetrain (d l : BitVec 2) (lockLost : Bool) (s : State) : Host.Outcome State Fault Refusal :=
  .next (State.settle (s.linkRetrain d.toNat l.toNat lockLost))

/-- RETRAIN_COMPLETE (R265, 09_memory_and_die_fabric.md): Retraining ends within 20 µs, and the held flits replay. -/
def execRetrainComplete (d l : BitVec 2) (s : State) : Host.Outcome State Fault Refusal :=
  .next (State.settle (s.retrainDone d.toNat l.toNat))

/-- RETRAIN_TIMEOUT (R272, 09_memory_and_die_fabric.md): Retraining fails within 20 µs, so the link goes DOWN, a detour is set
up or the die is lost, and the epoch rolls back. -/
def execRetrainTimeout (d l : BitVec 2) (s : State) : Host.Outcome State Fault Refusal :=
  .next (State.settle (s.retrainTimeout d.toNat l.toNat))

/-- MEM_TRAINING_COMPLETE (R268, 09_memory_and_die_fabric.md): LPDDR5X training completes, leading to INIT after power-up or to
READY after self-refresh exit. -/
def execMemTrainingComplete (d : BitVec 2) (bad : List (Fin 384)) (s : State) : Host.Outcome State Fault Refusal :=
  .next (State.settle (s.memTrained d.toNat (bad.map Fin.val)))

/-- MEM_TRAINING_TIMEOUT (R268, 09_memory_and_die_fabric.md): Training is not complete within 150 ms, so the memory enters
FAILED. -/
def execMemTrainingTimeout (d : BitVec 2) (s : State) : Host.Outcome State Fault Refusal :=
  .next (State.settle ((s.memTrainTimeout d.toNat).trainOn))

/-- ZERO_FILL_COMPLETE (R269, 09_memory_and_die_fabric.md): The zero fill of the direct range and scratchpads ends, and the
memory becomes READY. -/
def execZeroFillComplete (d : BitVec 2) (bad : List (Fin 384)) (s : State) : Host.Outcome State Fault Refusal :=
  .next (State.settle (s.zeroFilled d.toNat (bad.map Fin.val)))

/-- MEM_SCRUB (R271, 09_memory_and_die_fabric.md): The patrol scrubber reads a block, correcting single-bit errors or poisoning
the block as a latent fault. -/
def execMemScrub (k : Nat) (err : Nat) (s : State) : Host.Outcome State Fault Refusal :=
  .next (State.settle (s.memScrub k err))

/-- DRAM_TEMP_READING (R278, 09_memory_and_die_fabric.md): An MR4 reading above 85 °C doubles refresh, and one above 95 °C sets
HOT. -/
def execDramTempReading (d : BitVec 2) (t : Int) (s : State) : Host.Outcome State Fault Refusal :=
  .next (State.settle (s.dramTemp d.toNat t))

/-- BLOCK_DATA (R307, 10_integrity_and_recovery.md): The active receives block content and rebuilds a poisoned block. -/
def execBlockData (a epoch : BitVec 64) (bs : List Byte) (s : State) : Host.Outcome State Fault Refusal :=
  .next (State.settle (s.blockData a.toNat epoch.toNat bs))

/-- DIE_POWER_FAULT (R305, 10_integrity_and_recovery.md): A power fault of a compute die's rails makes the die lost, which rolls
back the epoch and resolves the loss by variant, switch-over or degraded status. -/
def execDiePowerFault (d : BitVec 2) (s : State) : Host.Outcome State Fault Refusal :=
  .next (State.settle (s.diePowerFault d.toNat))

end Sys2Proof.Machine
end

