-- ==== Sys2Proof/Machine/ExecSeq.lean ====
section
/-! DEFINITION. The meanings of the commands of the sequencers (06, 07): the command's operation, then what it has brought up is
resolved. -/

namespace Sys2Proof.Machine

/-- NOP (R201, 07_long_word_encoding.md): A NOP slot does nothing. -/
def execNop (q : BitVec 4) (j : BitVec 3) (s : State) : Host.Outcome State Fault Refusal :=
  .next (State.settle (s.issueSlot q.toNat j.toNat 0 0#120 (fun t _ => some t)))

/-- ADD (R206, 07_long_word_encoding.md): Scalar 64-bit wrapping addition. -/
def execAdd (q : BitVec 4) (s1 : Bool) (w : BitVec 120) (s : State) : Host.Outcome State Fault Refusal :=
  .next (State.settle (s.scalar q s1 0x1 w))

/-- SUB (R206, 07_long_word_encoding.md): Scalar 64-bit wrapping subtraction. -/
def execSub (q : BitVec 4) (s1 : Bool) (w : BitVec 120) (s : State) : Host.Outcome State Fault Refusal :=
  .next (State.settle (s.scalar q s1 0x2 w))

/-- AND (R206, 07_long_word_encoding.md): Scalar bitwise AND. -/
def execAnd (q : BitVec 4) (s1 : Bool) (w : BitVec 120) (s : State) : Host.Outcome State Fault Refusal :=
  .next (State.settle (s.scalar q s1 0x3 w))

/-- OR (R206, 07_long_word_encoding.md): Scalar bitwise OR. -/
def execOr (q : BitVec 4) (s1 : Bool) (w : BitVec 120) (s : State) : Host.Outcome State Fault Refusal :=
  .next (State.settle (s.scalar q s1 0x4 w))

/-- XOR (R206, 07_long_word_encoding.md): Scalar bitwise XOR. -/
def execXor (q : BitVec 4) (s1 : Bool) (w : BitVec 120) (s : State) : Host.Outcome State Fault Refusal :=
  .next (State.settle (s.scalar q s1 0x5 w))

/-- SHL (R206, 07_long_word_encoding.md): Scalar left shift by the low 6 bits of B. -/
def execShl (q : BitVec 4) (s1 : Bool) (w : BitVec 120) (s : State) : Host.Outcome State Fault Refusal :=
  .next (State.settle (s.scalar q s1 0x6 w))

/-- SHR (R206, 07_long_word_encoding.md): Scalar logical right shift by the low 6 bits of B. -/
def execShr (q : BitVec 4) (s1 : Bool) (w : BitVec 120) (s : State) : Host.Outcome State Fault Refusal :=
  .next (State.settle (s.scalar q s1 0x7 w))

/-- SRA (R206, 07_long_word_encoding.md): Scalar arithmetic right shift by the low 6 bits of B. -/
def execSra (q : BitVec 4) (s1 : Bool) (w : BitVec 120) (s : State) : Host.Outcome State Fault Refusal :=
  .next (State.settle (s.scalar q s1 0x8 w))

/-- MUL (R206, 07_long_word_encoding.md): Scalar multiply, giving the low 64 bits. -/
def execMul (q : BitVec 4) (s1 : Bool) (w : BitVec 120) (s : State) : Host.Outcome State Fault Refusal :=
  .next (State.settle (s.scalar q s1 0x9 w))

/-- MULHU (R206, 07_long_word_encoding.md): Scalar multiply, giving the high 64 bits of the unsigned product. -/
def execMulhu (q : BitVec 4) (s1 : Bool) (w : BitVec 120) (s : State) : Host.Outcome State Fault Refusal :=
  .next (State.settle (s.scalar q s1 0xa w))

/-- MULHS (R206, 07_long_word_encoding.md): Scalar multiply, giving the high 64 bits of the signed product. -/
def execMulhs (q : BitVec 4) (s1 : Bool) (w : BitVec 120) (s : State) : Host.Outcome State Fault Refusal :=
  .next (State.settle (s.scalar q s1 0xb w))

/-- DIVU (R207, 07_long_word_encoding.md): Unsigned division, with all ones for a zero divisor. -/
def execDivu (q : BitVec 4) (s1 : Bool) (w : BitVec 120) (s : State) : Host.Outcome State Fault Refusal :=
  .next (State.settle (s.scalar q s1 0xc w))

/-- DIVS (R207, 07_long_word_encoding.md): Signed division toward zero, with the defined results for a zero divisor and for
overflow. -/
def execDivs (q : BitVec 4) (s1 : Bool) (w : BitVec 120) (s : State) : Host.Outcome State Fault Refusal :=
  .next (State.settle (s.scalar q s1 0xd w))

/-- REMU (R207, 07_long_word_encoding.md): Unsigned remainder, giving A for a zero divisor. -/
def execRemu (q : BitVec 4) (s1 : Bool) (w : BitVec 120) (s : State) : Host.Outcome State Fault Refusal :=
  .next (State.settle (s.scalar q s1 0xe w))

/-- REMS (R207, 07_long_word_encoding.md): Signed remainder, with the defined results for a zero divisor and for overflow. -/
def execRems (q : BitVec 4) (s1 : Bool) (w : BitVec 120) (s : State) : Host.Outcome State Fault Refusal :=
  .next (State.settle (s.scalar q s1 0xf w))

/-- CMPEQ (R206, 07_long_word_encoding.md): Integer equality compare into a predicate. -/
def execCmpeq (q : BitVec 4) (s1 : Bool) (w : BitVec 120) (s : State) : Host.Outcome State Fault Refusal :=
  .next (State.settle (s.scalar q s1 0x10 w))

/-- CMPNE (R206, 07_long_word_encoding.md): Integer inequality compare into a predicate. -/
def execCmpne (q : BitVec 4) (s1 : Bool) (w : BitVec 120) (s : State) : Host.Outcome State Fault Refusal :=
  .next (State.settle (s.scalar q s1 0x11 w))

/-- CMPLTU (R206, 07_long_word_encoding.md): Unsigned less-than compare into a predicate. -/
def execCmpltu (q : BitVec 4) (s1 : Bool) (w : BitVec 120) (s : State) : Host.Outcome State Fault Refusal :=
  .next (State.settle (s.scalar q s1 0x12 w))

/-- CMPLTS (R206, 07_long_word_encoding.md): Signed less-than compare into a predicate. -/
def execCmplts (q : BitVec 4) (s1 : Bool) (w : BitVec 120) (s : State) : Host.Outcome State Fault Refusal :=
  .next (State.settle (s.scalar q s1 0x13 w))

/-- CMPLEU (R206, 07_long_word_encoding.md): Unsigned less-or-equal compare into a predicate. -/
def execCmpleu (q : BitVec 4) (s1 : Bool) (w : BitVec 120) (s : State) : Host.Outcome State Fault Refusal :=
  .next (State.settle (s.scalar q s1 0x14 w))

/-- CMPLES (R206, 07_long_word_encoding.md): Signed less-or-equal compare into a predicate. -/
def execCmples (q : BitVec 4) (s1 : Bool) (w : BitVec 120) (s : State) : Host.Outcome State Fault Refusal :=
  .next (State.settle (s.scalar q s1 0x15 w))

/-- MOVI (R206, 07_long_word_encoding.md): Moves a 64-bit immediate into RD. -/
def execMovi (q : BitVec 4) (s1 : Bool) (w : BitVec 120) (s : State) : Host.Outcome State Fault Refusal :=
  .next (State.settle (s.scalar q s1 0x18 w))

/-- SEL (R206, 07_long_word_encoding.md): Selects A or B according to predicate RC. -/
def execSel (q : BitVec 4) (s1 : Bool) (w : BitVec 120) (s : State) : Host.Outcome State Fault Refusal :=
  .next (State.settle (s.scalar q s1 0x19 w))

/-- PAND (R206, 07_long_word_encoding.md): Predicate AND. -/
def execPand (q : BitVec 4) (s1 : Bool) (w : BitVec 120) (s : State) : Host.Outcome State Fault Refusal :=
  .next (State.settle (s.scalar q s1 0x1a w))

/-- POR (R206, 07_long_word_encoding.md): Predicate OR. -/
def execPor (q : BitVec 4) (s1 : Bool) (w : BitVec 120) (s : State) : Host.Outcome State Fault Refusal :=
  .next (State.settle (s.scalar q s1 0x1b w))

/-- PXOR (R206, 07_long_word_encoding.md): Predicate XOR. -/
def execPxor (q : BitVec 4) (s1 : Bool) (w : BitVec 120) (s : State) : Host.Outcome State Fault Refusal :=
  .next (State.settle (s.scalar q s1 0x1c w))

/-- PNOT (R206, 07_long_word_encoding.md): Predicate NOT. -/
def execPnot (q : BitVec 4) (s1 : Bool) (w : BitVec 120) (s : State) : Host.Outcome State Fault Refusal :=
  .next (State.settle (s.scalar q s1 0x1d w))

/-- FADD (R207, 07_long_word_encoding.md): FP32 addition with round to nearest even. -/
def execFadd (q : BitVec 4) (s1 : Bool) (w : BitVec 120) (s : State) : Host.Outcome State Fault Refusal :=
  .next (State.settle (s.scalar q s1 0x20 w))

/-- FSUB (R207, 07_long_word_encoding.md): FP32 subtraction. -/
def execFsub (q : BitVec 4) (s1 : Bool) (w : BitVec 120) (s : State) : Host.Outcome State Fault Refusal :=
  .next (State.settle (s.scalar q s1 0x21 w))

/-- FMUL (R207, 07_long_word_encoding.md): FP32 multiplication. -/
def execFmul (q : BitVec 4) (s1 : Bool) (w : BitVec 120) (s : State) : Host.Outcome State Fault Refusal :=
  .next (State.settle (s.scalar q s1 0x22 w))

/-- FMA (R207, 07_long_word_encoding.md): FP32 fused multiply-add A × B + C with one rounding. -/
def execFma (q : BitVec 4) (s1 : Bool) (w : BitVec 120) (s : State) : Host.Outcome State Fault Refusal :=
  .next (State.settle (s.scalar q s1 0x23 w))

/-- FDIV (R207, 07_long_word_encoding.md): FP32 division. -/
def execFdiv (q : BitVec 4) (s1 : Bool) (w : BitVec 120) (s : State) : Host.Outcome State Fault Refusal :=
  .next (State.settle (s.scalar q s1 0x24 w))

/-- FSQRT (R207, 07_long_word_encoding.md): FP32 square root. -/
def execFsqrt (q : BitVec 4) (s1 : Bool) (w : BitVec 120) (s : State) : Host.Outcome State Fault Refusal :=
  .next (State.settle (s.scalar q s1 0x25 w))

/-- FMIN (R207, 07_long_word_encoding.md): FP32 minimum, giving NaN for a NaN operand and ordering −0 below +0. -/
def execFmin (q : BitVec 4) (s1 : Bool) (w : BitVec 120) (s : State) : Host.Outcome State Fault Refusal :=
  .next (State.settle (s.scalar q s1 0x26 w))

/-- FMAX (R207, 07_long_word_encoding.md): FP32 maximum, giving NaN for a NaN operand and ordering −0 below +0. -/
def execFmax (q : BitVec 4) (s1 : Bool) (w : BitVec 120) (s : State) : Host.Outcome State Fault Refusal :=
  .next (State.settle (s.scalar q s1 0x27 w))

/-- FCMPEQ (R207, 07_long_word_encoding.md): FP32 equality compare into a predicate, false when either operand is NaN. -/
def execFcmpeq (q : BitVec 4) (s1 : Bool) (w : BitVec 120) (s : State) : Host.Outcome State Fault Refusal :=
  .next (State.settle (s.scalar q s1 0x28 w))

/-- FCMPLT (R207, 07_long_word_encoding.md): FP32 less-than compare into a predicate. -/
def execFcmplt (q : BitVec 4) (s1 : Bool) (w : BitVec 120) (s : State) : Host.Outcome State Fault Refusal :=
  .next (State.settle (s.scalar q s1 0x29 w))

/-- FCMPLE (R207, 07_long_word_encoding.md): FP32 less-or-equal compare into a predicate. -/
def execFcmple (q : BitVec 4) (s1 : Bool) (w : BitVec 120) (s : State) : Host.Outcome State Fault Refusal :=
  .next (State.settle (s.scalar q s1 0x2a w))

/-- CVTIF (R207, 07_long_word_encoding.md): Converts a signed 64-bit integer to FP32. -/
def execCvtif (q : BitVec 4) (s1 : Bool) (w : BitVec 120) (s : State) : Host.Outcome State Fault Refusal :=
  .next (State.settle (s.scalar q s1 0x2b w))

/-- CVTFI (R207, 07_long_word_encoding.md): Converts FP32 to a signed 64-bit integer, rounding to nearest even and saturating,
with 0 for NaN. -/
def execCvtfi (q : BitVec 4) (s1 : Bool) (w : BitVec 120) (s : State) : Host.Outcome State Fault Refusal :=
  .next (State.settle (s.scalar q s1 0x2c w))

/-- FABS (R206, 07_long_word_encoding.md): Clears the FP32 sign bit. -/
def execFabs (q : BitVec 4) (s1 : Bool) (w : BitVec 120) (s : State) : Host.Outcome State Fault Refusal :=
  .next (State.settle (s.scalar q s1 0x2d w))

/-- FNEG (R206, 07_long_word_encoding.md): Inverts the FP32 sign bit. -/
def execFneg (q : BitVec 4) (s1 : Bool) (w : BitVec 120) (s : State) : Host.Outcome State Fault Refusal :=
  .next (State.settle (s.scalar q s1 0x2e w))

/-- BR (R208, 07_long_word_encoding.md): Branches to an immediate long word index when the slot is enabled. -/
def execBr (q : BitVec 4) (w : BitVec 120) (s : State) : Host.Outcome State Fault Refusal :=
  .next (State.settle (s.control q 0x1 w))

/-- BRX (R208, 07_long_word_encoding.md): Branches to the index held in a register, with PC_RANGE raised at fetch for a bad
target. -/
def execBrx (q : BitVec 4) (w : BitVec 120) (s : State) : Host.Outcome State Fault Refusal :=
  .next (State.settle (s.control q 0x2 w))

/-- LOOP (R209, 07_long_word_encoding.md): Sets up a loop whose trip count is taken from a register. -/
def execLoop (q : BitVec 4) (w : BitVec 120) (s : State) : Host.Outcome State Fault Refusal :=
  .next (State.settle (s.control q 0x3 w))

/-- LOOPI (R209, 07_long_word_encoding.md): Sets up a loop with an immediate trip count. -/
def execLoopi (q : BitVec 4) (w : BitVec 120) (s : State) : Host.Outcome State Fault Refusal :=
  .next (State.settle (s.control q 0x4 w))

/-- DONE (R186, 06_sequencer_model.md): Stops issue for the epoch, so that the quarter reports done once all its outstanding
operations have completed. -/
def execDone (q : BitVec 4) (w : BitVec 120) (s : State) : Host.Outcome State Fault Refusal :=
  .next (State.settle ((s.control q 0x0F w).checkUndrained q.toNat))

/-- LD1U (R213, 07_long_word_encoding.md): Loads 1 byte, zero-extended. -/
def execLd1u (q : BitVec 4) (w : BitVec 120) (s : State) : Host.Outcome State Fault Refusal :=
  .next (State.settle (s.memory q 0x1 w))

/-- LD2U (R213, 07_long_word_encoding.md): Loads 2 bytes, zero-extended. -/
def execLd2u (q : BitVec 4) (w : BitVec 120) (s : State) : Host.Outcome State Fault Refusal :=
  .next (State.settle (s.memory q 0x2 w))

/-- LD4U (R213, 07_long_word_encoding.md): Loads 4 bytes, zero-extended. -/
def execLd4u (q : BitVec 4) (w : BitVec 120) (s : State) : Host.Outcome State Fault Refusal :=
  .next (State.settle (s.memory q 0x3 w))

/-- LD8 (R213, 07_long_word_encoding.md): Loads 8 bytes. -/
def execLd8 (q : BitVec 4) (w : BitVec 120) (s : State) : Host.Outcome State Fault Refusal :=
  .next (State.settle (s.memory q 0x4 w))

/-- LD1S (R213, 07_long_word_encoding.md): Loads 1 byte, sign-extended. -/
def execLd1s (q : BitVec 4) (w : BitVec 120) (s : State) : Host.Outcome State Fault Refusal :=
  .next (State.settle (s.memory q 0x5 w))

/-- LD2S (R213, 07_long_word_encoding.md): Loads 2 bytes, sign-extended. -/
def execLd2s (q : BitVec 4) (w : BitVec 120) (s : State) : Host.Outcome State Fault Refusal :=
  .next (State.settle (s.memory q 0x6 w))

/-- LD4S (R213, 07_long_word_encoding.md): Loads 4 bytes, sign-extended. -/
def execLd4s (q : BitVec 4) (w : BitVec 120) (s : State) : Host.Outcome State Fault Refusal :=
  .next (State.settle (s.memory q 0x7 w))

/-- ST1 (R213, 07_long_word_encoding.md): Stores the low byte of DATA, journalling the block first. -/
def execSt1 (q : BitVec 4) (w : BitVec 120) (s : State) : Host.Outcome State Fault Refusal :=
  .next (State.settle (s.memory q 0x8 w))

/-- ST2 (R213, 07_long_word_encoding.md): Stores the low 2 bytes of DATA. -/
def execSt2 (q : BitVec 4) (w : BitVec 120) (s : State) : Host.Outcome State Fault Refusal :=
  .next (State.settle (s.memory q 0x9 w))

/-- ST4 (R213, 07_long_word_encoding.md): Stores the low 4 bytes of DATA. -/
def execSt4 (q : BitVec 4) (w : BitVec 120) (s : State) : Host.Outcome State Fault Refusal :=
  .next (State.settle (s.memory q 0xa w))

/-- ST8 (R213, 07_long_word_encoding.md): Stores 8 bytes of DATA. -/
def execSt8 (q : BitVec 4) (w : BitVec 120) (s : State) : Host.Outcome State Fault Refusal :=
  .next (State.settle (s.memory q 0xb w))

/-- COPY (R214, 07_long_word_encoding.md): Copies L bytes between 64-byte-aligned addresses in increasing order. -/
def execCopy (q : BitVec 4) (w : BitVec 120) (s : State) : Host.Outcome State Fault Refusal :=
  .next (State.settle (s.issueSlot q.toNat 3 0x10 w (fun t v => t.copySlot q.toNat v)))

/-- RESULT_WRITEBACK (R170, 06_sequencer_model.md): A long-latency operation completes and writes its destination register,
which releases long words waiting on it. -/
def execResultWriteback (q : BitVec 4) (i : Nat) (s : State) : Host.Outcome State Fault Refusal :=
  .next (State.settle (s.writeback q.toNat i))

/-- BANK_RELEASE_EFFECT (R216, 07_long_word_encoding.md): A queued release turns LOADED or STALE banks EMPTY, or raises a fault
if it names the active bank. -/
def execBankReleaseEffect (q : BitVec 4) (sp : BitVec 7) (s : State) : Host.Outcome State Fault Refusal :=
  .next (State.settle (s.releaseBank q.toNat sp.toNat))

/-- MOV (R221, 07_long_word_encoding.md): Moves a value between register files. -/
def execMov (q : BitVec 4) (w : BitVec 120) (s : State) : Host.Outcome State Fault Refusal :=
  .next (State.settle (s.xslot q 0x01 w (fun t v => t.movSlot q.toNat v)))

/-- SIGNAL (R178, 06_sequencer_model.md): Issues an increment of a sync counter of a target quarter. -/
def execSignal (q : BitVec 4) (w : BitVec 120) (s : State) : Host.Outcome State Fault Refusal :=
  .next (State.settle (s.xslot q 0x02 w (fun t v => t.signalSlot q.toNat v)))

/-- SIGNAL_DELIVERY (R178, 06_sequencer_model.md): Once the signaller's earlier memory operations have completed, the target
counter increments, or SYNC_TARGET is raised. -/
def execSignalDelivery (q : BitVec 4) (i : Nat) (s : State) : Host.Outcome State Fault Refusal :=
  .next (State.settle (s.deliverSignal q.toNat i))

/-- WAIT (R179, 06_sequencer_model.md): Waits until sync counter c is at least v. -/
def execWait (q : BitVec 4) (w : BitVec 120) (s : State) : Host.Outcome State Fault Refusal :=
  .next (State.settle (s.xslot q 0x03 w (fun t v => t.waitSlot q.toNat v)))

/-- WAIT_COMPLETE (R179, 06_sequencer_model.md): The sync counter has reached v, so the WAIT completes and issue resumes. -/
def execWaitComplete (q : BitVec 4) (s : State) : Host.Outcome State Fault Refusal :=
  .next (State.settle (s.endWait q.toNat))

/-- FENCE (R177, 06_sequencer_model.md): Holds issue until every earlier memory operation of the quarter completes. -/
def execFence (q : BitVec 4) (w : BitVec 120) (s : State) : Host.Outcome State Fault Refusal :=
  .next (State.settle (s.xslot q 0x04 w (fun t v => t.fenceSlot q.toNat v)))

/-- FENCE_COMPLETE (R177, 06_sequencer_model.md): Every earlier memory operation has completed, so the next long word issues. -/
def execFenceComplete (q : BitVec 4) (s : State) : Host.Outcome State Fault Refusal :=
  .next (State.settle (s.endFence q.toNat))

/-- LIVE (R187, 06_sequencer_model.md): Copies chain time, the deadline flag or the rail code into a register, and marks the
epoch non-deterministic. -/
def execLive (q : BitVec 4) (w : BitVec 120) (seen : Bool) (s : State) : Host.Outcome State Fault Refusal :=
  .next (State.settle (s.xslot q 0x05 w (fun t v => t.liveSlot q.toNat v seen)))

/-- DONE_REPORT (R186, 06_sequencer_model.md): Every operation the quarter issued has completed, so the quarter reports done to
the time unit. -/
def execDoneReport (q : BitVec 4) (t dur : Nat) (s : State) : Host.Outcome State Fault Refusal :=
  .next (State.settle (s.doneReport q.toNat t dur))

/-- NO_PROGRESS (R193, 06_sequencer_model.md): A RUNNING quarter has issued and completed nothing for 100 µs, which is a
hardware fault. -/
def execNoProgress (q : BitVec 4) (idle : Nat) (s : State) : Host.Outcome State Fault Refusal :=
  .next (State.settle (s.noProgress q.toNat idle))

/-- QUARTER_HALT (R195, 06_sequencer_model.md): A quarter has faulted first in FAULT_LIMIT consecutive committed epochs, so it
enters HALTED and is reported lost. -/
def execQuarterHalt (q : BitVec 4) (s : State) : Host.Outcome State Fault Refusal :=
  .next (State.settle (s.haltQuarter q.toNat))

/-- START (R190, 06_sequencer_model.md): The QCMD START command moves a quarter to IDLE at the end of the commit, or is refused.
-/
def execStart (p : Machine.Path) (role : BitVec 2) (q : BitVec 4) (s : State) : Host.Outcome State Fault Refusal :=
  .next (State.settle (s.hostWrite p role.toNat (R.QCMD q.toNat) 1))

/-- STOP (R190, 06_sequencer_model.md): The QCMD STOP command moves a quarter to STOPPED at the end of the commit. -/
def execStop (p : Machine.Path) (role : BitVec 2) (q : BitVec 4) (s : State) : Host.Outcome State Fault Refusal :=
  .next (State.settle (s.hostWrite p role.toNat (R.QCMD q.toNat) 2))

/-- DEBUG_ENTER (R196, 06_sequencer_model.md): Puts a STOPPED quarter into DEBUG, in SERVICE only. -/
def execDebugEnter (p : Machine.Path) (role : BitVec 2) (q : BitVec 4) (s : State) : Host.Outcome State Fault Refusal :=
  .next (State.settle (s.hostWrite p role.toNat (R.QDBG q.toNat) 1))

/-- DEBUG_EXIT (R196, 06_sequencer_model.md): Leaves DEBUG, discarding the quarter's debug memory writes. -/
def execDebugExit (p : Machine.Path) (role : BitVec 2) (q : BitVec 4) (s : State) : Host.Outcome State Fault Refusal :=
  .next (State.settle (s.hostWrite p role.toNat (R.QDBG q.toNat) 2))

/-- STEP (R196, 06_sequencer_model.md): Issues COUNT long words of a quarter in DEBUG. -/
def execStep (p : Machine.Path) (role : BitVec 2) (q : BitVec 4) (n : BitVec 8) (s : State) : Host.Outcome State Fault Refusal :=
  .next (State.settle (s.hostWrite p role.toNat (R.QDBG q.toNat) (3 + 256 * n.toNat)))

end Sys2Proof.Machine
end

