-- ==== Sys2Proof/Machine/ExecSpan.lean ====
section
/-! DEFINITION. The meanings of the commands of grains, spans and accumulation (04, 05): the command's operation, then what it has brought up is
resolved. -/

namespace Sys2Proof.Machine

/-- SPAN (R182, 06_sequencer_model.md): A span issue enters the span's queue with its group, rows, input, options and status
register. -/
def execSpan (q : BitVec 4) (g1 : Bool) (w : BitVec 120) (s : State) : Host.Outcome State Fault Refusal :=
  .next (State.settle (s.gslot q g1 0x1 w))

/-- BSWITCH (R183, 06_sequencer_model.md): A bank switch enters the span's queue. -/
def execBswitch (q : BitVec 4) (g1 : Bool) (w : BitVec 120) (s : State) : Host.Outcome State Fault Refusal :=
  .next (State.settle (s.gslot q g1 0x2 w))

/-- BLOAD (R183, 06_sequencer_model.md): A bank load for every grain of the span enters the span's queue. -/
def execBload (q : BitVec 4) (g1 : Bool) (w : BitVec 120) (s : State) : Host.Outcome State Fault Refusal :=
  .next (State.settle (s.gslot q g1 0x3 w))

/-- BRELEASE (R216, 07_long_word_encoding.md): A bank release enters the span's queue. -/
def execBrelease (q : BitVec 4) (g1 : Bool) (w : BitVec 120) (s : State) : Host.Outcome State Fault Refusal :=
  .next (State.settle (s.gslot q g1 0x4 w))

/-- GOPEN (R215, 07_long_word_encoding.md): A standalone group open enters the span's queue. -/
def execGopen (q : BitVec 4) (g1 : Bool) (w : BitVec 120) (s : State) : Host.Outcome State Fault Refusal :=
  .next (State.settle (s.gslot q g1 0x5 w))

/-- GCLOSE (R215, 07_long_word_encoding.md): A standalone group close enters the span's queue. -/
def execGclose (q : BitVec 4) (g1 : Bool) (w : BitVec 120) (s : State) : Host.Outcome State Fault Refusal :=
  .next (State.settle (s.gslot q g1 0x6 w))

/-- PASS_START (R141, 05_accumulation.md): A span issue leaves its queue, its addresses and group are checked, any open is
performed, and its rows stream through the span. -/
def execPassStart (q : BitVec 4) (sp : BitVec 7) (s : State) : Host.Outcome State Fault Refusal :=
  .next (State.settle (s.startPass q.toNat sp.toNat))

/-- BANK_SWITCH_EFFECT (R112, 04_grains_and_spans.md): A queued switch takes effect once its bank is ready, or raises
BANK_NOT_READY. -/
def execBankSwitchEffect (q : BitVec 4) (sp : BitVec 7) (s : State) : Host.Outcome State Fault Refusal :=
  .next (State.settle (s.switchBank q.toNat sp.toNat))

/-- BANK_LOAD_START (R109, 04_grains_and_spans.md): A queued BLOAD leaves its queue and starts copying the weights into the
bank, pre-empting any test of it. -/
def execBankLoadStart (q : BitVec 4) (sp : BitVec 7) (s : State) : Host.Outcome State Fault Refusal :=
  .next (State.settle (s.startLoad q.toNat sp.toNat))

/-- BANK_LOAD_COMPLETE (R109, 04_grains_and_spans.md): A bank load has written its last byte, so the sources and CRC are
recorded and the bank becomes LOADED. -/
def execBankLoadComplete (q : BitVec 4) (s : State) : Host.Outcome State Fault Refusal :=
  .next (State.settle (s.endLoad q.toNat))

/-- BANK_RESTORE_COMPLETE (R115, 04_grains_and_spans.md): A restore of a STALE bank has finished, the CRC is checked against
BANK_CRC, and SOURCE_CHANGED is raised on a mismatch. -/
def execBankRestoreComplete (q : BitVec 4) (badEcc : Bool) (s : State) : Host.Outcome State Fault Refusal :=
  .next (State.settle (s.endRestore q.toNat badEcc))

/-- GROUP_OPEN_EFFECT (R140, 05_accumulation.md): A queued open zeroes a group or loads it from a checked state record. -/
def execGroupOpenEffect (q : BitVec 4) (sp : BitVec 7) (s : State) : Host.Outcome State Fault Refusal :=
  .next (State.settle (s.gopenEffect q.toNat sp.toNat))

/-- GROUP_CLOSE_EFFECT (R154, 05_accumulation.md): A queued close starts draining the group in VALUE, FULL or STATE form. -/
def execGroupCloseEffect (q : BitVec 4) (sp : BitVec 7) (s : State) : Host.Outcome State Fault Refusal :=
  .next (State.settle (s.gcloseEffect q.toNat sp.toNat))

/-- SPAN_ROW_EGRESS (R120, 04_grains_and_spans.md): An input row's column results reach egress, are accumulated or streamed, and
are checked against the checksum column and chain residue. -/
def execSpanRowEgress (q : BitVec 4) (sp : BitVec 7) (badSum badHop : Option (BitVec 7)) (s : State) :
    Host.Outcome State Fault Refusal :=
  .next (State.settle (s.rowEgress q.toNat sp.toNat (badSum.map BitVec.toNat) (badHop.map BitVec.toNat)))

/-- DRAIN_COMPLETE (R139, 05_accumulation.md): The last byte of a close's output has been delivered, so the group becomes CLOSED
and the tile status is written 2 steps later. -/
def execDrainComplete (q : BitVec 4) (sp : BitVec 7) (s : State) : Host.Outcome State Fault Refusal :=
  .next (State.settle (s.endDrain q.toNat sp.toNat))

/-- RETIRE (R124, 04_grains_and_spans.md): The GCTRL RETIRE command puts the grain in FAILED at the next commit. -/
def execRetire (p : Machine.Path) (role : BitVec 2) (q : BitVec 4) (g : Fin 96) (s : State) : Host.Outcome State Fault Refusal :=
  .next (State.settle (s.hostWrite p role.toNat (R.GCTRL q.toNat g.val) 1))

/-- SELFTEST_START (R126, 04_grains_and_spans.md): Every GAP epochs at launch, each quarter starts a march test on its next
eligible bank. -/
def execSelftestStart (q : BitVec 4) (s : State) : Host.Outcome State Fault Refusal :=
  .next (State.settle (s.startTest q.toNat))

/-- MARCH_TEST_COMPLETE (R127, 04_grains_and_spans.md): A bank march and compute test ends, passing to EMPTY or failing as a
latent fault. -/
def execMarchTestComplete (q : BitVec 4) (failed : Bool) (s : State) : Host.Outcome State Fault Refusal :=
  .next (State.settle (s.marchDone q.toNat failed))

/-- GRAIN_SCRUB (R125, 04_grains_and_spans.md): Every 1,024 steps the grain scrubber reads one word of a non-active LOADED bank,
correcting it or marking the bank STALE. -/
def execGrainScrub (q : BitVec 4) (g : Fin 96) (b err : BitVec 2) (s : State) : Host.Outcome State Fault Refusal :=
  .next (State.settle (s.scrubGrain q.toNat g.val b.toNat err.toNat))

end Sys2Proof.Machine
end

