-- ==== Sys2Proof/Machine/ExecTag.lean ====
section
/-! DEFINITION. The meanings of the commands of the tag and the panel (18): the command's operation, then what it has brought up is
resolved. -/

namespace Sys2Proof.Machine

/-- INVENTORY (R543, 18_tag_and_panel.md): ISO/IEC 15693 Inventory at the tag's field port. -/
def execInventory (n : BitVec 7) (mask : BitVec 64) (t : Nat) (s : State) : Host.Outcome State Fault Refusal :=
  .next (State.settle (s.inventory n.toNat mask t))

/-- STAY_QUIET (R543, 18_tag_and_panel.md): Stay quiet command at the tag. -/
def execStayQuiet (uid : BitVec 64) (t : Nat) (s : State) : Host.Outcome State Fault Refusal :=
  .next (State.settle (s.stayQuiet uid t))

/-- SELECT (R543, 18_tag_and_panel.md): Select command at the tag. -/
def execSelect (uid : BitVec 64) (t : Nat) (s : State) : Host.Outcome State Fault Refusal :=
  .next (State.settle (s.tagSelect uid t))

/-- RESET_TO_READY (R543, 18_tag_and_panel.md): Reset to ready command at the tag. -/
def execResetToReady (uid : Option (BitVec 64)) (sel : Bool) (t : Nat) (s : State) : Host.Outcome State Fault Refusal :=
  .next (State.settle (s.resetToReady uid sel t))

/-- GET_SYSTEM_INFORMATION (R543, 18_tag_and_panel.md): Get system information command at the tag. -/
def execGetSystemInformation (uid : Option (BitVec 64)) (sel : Bool) (t : Nat) (s : State) : Host.Outcome State Fault Refusal :=
  .next (State.settle (s.sysInfo uid sel t))

/-- READ_SINGLE_BLOCK (R543, 18_tag_and_panel.md): Reads one tag block over the field. -/
def execReadSingleBlock (uid : Option (BitVec 64)) (sel : Bool) (b : BitVec 16) (ext : Bool) (t : Nat) (s : State) :
    Host.Outcome State Fault Refusal :=
  .next (State.settle (s.readSingle uid sel b ext t))

/-- WRITE_SINGLE_BLOCK (R550, 18_tag_and_panel.md): Writes one tag block over the field, opening an RF session or being refused
under contention. -/
def execWriteSingleBlock (uid : Option (BitVec 64)) (sel : Bool) (b : BitVec 16) (ext : Bool) (v : Word) (lock : Bool) (t : Nat) (s : State) :
    Host.Outcome State Fault Refusal :=
  .next (State.settle (s.writeBlock uid sel b ext v lock t))

/-- READ_MULTIPLE_BLOCKS (R543, 18_tag_and_panel.md): Reads up to 32 tag blocks over the field. -/
def execReadMultipleBlocks (uid : Option (BitVec 64)) (sel : Bool) (b n : BitVec 16) (ext : Bool) (t : Nat) (s : State) :
    Host.Outcome State Fault Refusal :=
  .next (State.settle (s.readMultiple uid sel b n.toNat ext t))

/-- GET_MULTIPLE_BLOCK_SECURITY_STATUS (R543, 18_tag_and_panel.md): Block security status command at the tag. -/
def execGetMultipleBlockSecurityStatus (uid : Option (BitVec 64)) (sel : Bool) (b n : BitVec 16) (ext : Bool) (t : Nat) (s : State) :
    Host.Outcome State Fault Refusal :=
  .next (State.settle (s.blockSecurity uid sel b n.toNat ext t))

/-- RF_SESSION_END (R549, 18_tag_and_panel.md): Loss of the field or 50 ms of silence ends the RF session, after which staging
is considered, a pending apply runs and the enrolment window may open. -/
def execRfSessionEnd (lost : Bool) (t : Nat) (s : State) : Host.Outcome State Fault Refusal :=
  .next (State.settle (s.endSession lost t))

/-- MAILBOX_SERVE (R553, 18_tag_and_panel.md): The hub reads a mailbox REQUEST, executes the READ and writes the RESPONSE. -/
def execMailboxServe (s : State) : Host.Outcome State Fault Refusal :=
  .next (State.settle (s.mailboxServe))

/-- FAULT_LOG_WRITE (R546, 18_tag_and_panel.md): The hub writes the next queued fault log entry to the tag. -/
def execFaultLogWrite (ok : Bool) (s : State) : Host.Outcome State Fault Refusal :=
  .next (State.settle (s.faultLogWrite ok))

/-- APPLY_STAGING (R552, 18_tag_and_panel.md): The TAG_CMD APPLY_STAGING command applies the current staging record, or is held
pending. -/
def execApplyStaging (p : Machine.Path) (role : BitVec 2) (s : State) : Host.Outcome State Fault Refusal :=
  .next (State.settle (s.hostWrite p role.toNat R.TAG_CMD 1))

/-- BUTTON_ACK (R555, 18_tag_and_panel.md): An ACK press queues PANEL_ACK. -/
def execButtonAck (t : Nat) (s : State) : Host.Outcome State Fault Refusal :=
  .next (State.settle (s.buttonAck t))

/-- BUTTON_SEL (R555, 18_tag_and_panel.md): A SEL press enters select mode or steps the channel. -/
def execButtonSel (t : Nat) (s : State) : Host.Outcome State Fault Refusal :=
  .next (State.settle (s.buttonSel t))

/-- BUTTON_ENTER (R555, 18_tag_and_panel.md): An ENTER press pages the status, selects a channel or commits a trim. -/
def execButtonEnter (t : Nat) (s : State) : Host.Outcome State Fault Refusal :=
  .next (State.settle (s.buttonEnter t))

/-- BUTTON_ZERO (R555, 18_tag_and_panel.md): A ZERO press queues PANEL_ZERO in a trim session. -/
def execButtonZero (t : Nat) (s : State) : Host.Outcome State Fault Refusal :=
  .next (State.settle (s.buttonCapture 0x22 t))

/-- BUTTON_SPAN (R555, 18_tag_and_panel.md): A SPAN press queues PANEL_SPAN in a trim session. -/
def execButtonSpan (t : Nat) (s : State) : Host.Outcome State Fault Refusal :=
  .next (State.settle (s.buttonCapture 0x23 t))

/-- SEL_HOLD (R555, 18_tag_and_panel.md): SEL held for 2 s cancels the trim or ends select mode. -/
def execSelHold (t : Nat) (s : State) : Host.Outcome State Fault Refusal :=
  .next (State.settle (s.selHold t))

/-- SELECT_TIMEOUT (R555, 18_tag_and_panel.md): Ten seconds without a press end select mode. -/
def execSelectTimeout (t : Nat) (s : State) : Host.Outcome State Fault Refusal :=
  .next (State.settle (s.selectTimeout t))

/-- MESSAGE_SCREEN_TIMEOUT (R554, 18_tag_and_panel.md): After 2 s the message screen gives way. -/
def execMessageScreenTimeout (t : Nat) (s : State) : Host.Outcome State Fault Refusal :=
  .next (State.settle (s.messageTimeout t))

end Sys2Proof.Machine
end

