-- ==== Sys2Proof/Machine/ExecTime.lean ====
section
/-! DEFINITION. The meanings of the commands of the time unit and epochs (02): the command's operation, then what it has brought up is
resolved. -/

namespace Sys2Proof.Machine

/-- ACQ_TIMEOUT (R66, 02_time_and_epochs.md): The acquisition timeout has expired with no source message, so the node starts its
grid in FREE. -/
def execAcqTimeout (t : Nat) (s : State) : Host.Outcome State Fault Refusal :=
  .next (State.settle (s.acqTimeout t))

/-- TIME_LOCKED (R31, 02_time_and_epochs.md): The offset has stayed within ±100 ns for 16 sync intervals, so the time unit
enters LOCKED and ALIGN_LOST clears. -/
def execTimeLocked (s : State) : Host.Outcome State Fault Refusal :=
  .next (State.settle (s.timeLocked))

/-- TIME_SOURCE_LOST (R61, 02_time_and_epochs.md): No sync message has arrived from the source for 3 s, so the time unit enters
HOLDOVER on its held frequency. -/
def execTimeSourceLost (t : Nat) (s : State) : Host.Outcome State Fault Refusal :=
  .next (State.settle (s.sourceLost t))

/-- ALIGN_LOST (R62, 02_time_and_epochs.md): Twenty seconds after entering HOLDOVER, ALIGN_LOST is set in the status, in
TIME_ERR and in every later epoch header. -/
def execAlignLost (t : Nat) (s : State) : Host.Outcome State Fault Refusal :=
  .next (State.settle (s.alignLost t))

/-- ACCEPT_STEP (R64, 02_time_and_epochs.md): The maintainer command ACCEPT_STEP is accepted while the time unit is DIVERGED
with a forward offset, and is otherwise rejected. -/
def execAcceptStep (p : Machine.Path) (role : BitVec 2) (s : State) : Host.Outcome State Fault Refusal :=
  .next (State.settle (s.hostWrite p role.toNat R.TIME_CMD 1))

/-- TIME_STEP (R64, 02_time_and_epochs.md): At the first boundary after the next commit, chain time is stepped forward, and the
absent epoch numbers are recorded in the header. -/
def execTimeStep (present : Bool) (off : Int) (s : State) : Host.Outcome State Fault Refusal :=
  .next (State.settle (s.timeStep present off))

/-- EPOCH_BOUNDARY (R35, 02_time_and_epochs.md): At b_n the hub closes and trims the input log, forms the header, starts writing
the log, and starts MIRROR of the previous epoch. -/
def execEpochBoundary (s : State) : Host.Outcome State Fault Refusal :=
  .next (State.settle (s.epochBoundary))

/-- RUN_LAUNCH (R37, 02_time_and_epochs.md): At b_n + 400 ns every active quarter starts RUN from ENTRY with the initial
register state. -/
def execRunLaunch (dur : Nat) (s : State) : Host.Outcome State Fault Refusal :=
  .next (State.settle (s.runLaunch dur))

/-- DEADLINE (R49, 02_time_and_epochs.md): At D_n with a quarter still not done, the epoch is skipped or extended according to
the late policy. -/
def execDeadline (dur : Nat) (s : State) : Host.Outcome State Fault Refusal :=
  .next (State.settle (s.deadlineHit dur))

/-- COMMIT_ABANDON (R57, 02_time_and_epochs.md): A commit has not ended 40 µs after it began, so it is abandoned as a detected
fault and rolled back. -/
def execCommitAbandon (s : State) : Host.Outcome State Fault Refusal :=
  .next (State.settle (s.commitAbandon))

/-- SHORT_OF_MARGIN (R59, 02_time_and_epochs.md): A die has asked for a positive step at the ceiling in 1,000 consecutive
epochs, so it is reported short of margin. -/
def execShortOfMargin (d : BitVec 2) (s : State) : Host.Outcome State Fault Refusal :=
  .next (State.settle (s.shortOfMargin d.toNat))

end Sys2Proof.Machine
end

