-- ==== Sys2Proof/Machine/ExecVec.lean ====
section
/-! DEFINITION. The meanings of the commands of the vector engines (08): the command's operation, then what it has brought up is
resolved. -/

namespace Sys2Proof.Machine

/-- VADD (R230, 08_vector_engine.md): Element-wise addition, rounded once. -/
def execVadd (q : BitVec 4) (w : BitVec 120) (s : State) : Host.Outcome State Fault Refusal :=
  .next (State.settle (s.vslot q 0x1 w))

/-- VSUB (R230, 08_vector_engine.md): Element-wise subtraction. -/
def execVsub (q : BitVec 4) (w : BitVec 120) (s : State) : Host.Outcome State Fault Refusal :=
  .next (State.settle (s.vslot q 0x2 w))

/-- VMUL (R230, 08_vector_engine.md): Element-wise multiplication. -/
def execVmul (q : BitVec 4) (w : BitVec 120) (s : State) : Host.Outcome State Fault Refusal :=
  .next (State.settle (s.vslot q 0x3 w))

/-- VFMA (R230, 08_vector_engine.md): Element-wise SRC1 × SRC2 + DST with one rounding. -/
def execVfma (q : BitVec 4) (w : BitVec 120) (s : State) : Host.Outcome State Fault Refusal :=
  .next (State.settle (s.vslot q 0x4 w))

/-- VMIN (R230, 08_vector_engine.md): Element-wise minimum, as FMIN. -/
def execVmin (q : BitVec 4) (w : BitVec 120) (s : State) : Host.Outcome State Fault Refusal :=
  .next (State.settle (s.vslot q 0x5 w))

/-- VMAX (R230, 08_vector_engine.md): Element-wise maximum, as FMAX. -/
def execVmax (q : BitVec 4) (w : BitVec 120) (s : State) : Host.Outcome State Fault Refusal :=
  .next (State.settle (s.vslot q 0x6 w))

/-- VSCALE (R230, 08_vector_engine.md): Multiplies each element by the FP32 PARAM. -/
def execVscale (q : BitVec 4) (w : BitVec 120) (s : State) : Host.Outcome State Fault Refusal :=
  .next (State.settle (s.vslot q 0x7 w))

/-- VEXP (R230, 08_vector_engine.md): Correctly rounded e^x of each element. -/
def execVexp (q : BitVec 4) (w : BitVec 120) (s : State) : Host.Outcome State Fault Refusal :=
  .next (State.settle (s.vslot q 0x10 w))

/-- VLOG (R230, 08_vector_engine.md): Correctly rounded ln x of each element. -/
def execVlog (q : BitVec 4) (w : BitVec 120) (s : State) : Host.Outcome State Fault Refusal :=
  .next (State.settle (s.vslot q 0x11 w))

/-- VRCP (R230, 08_vector_engine.md): Correctly rounded reciprocal of each element. -/
def execVrcp (q : BitVec 4) (w : BitVec 120) (s : State) : Host.Outcome State Fault Refusal :=
  .next (State.settle (s.vslot q 0x12 w))

/-- VRSQRT (R230, 08_vector_engine.md): Correctly rounded reciprocal square root of each element. -/
def execVrsqrt (q : BitVec 4) (w : BitVec 120) (s : State) : Host.Outcome State Fault Refusal :=
  .next (State.settle (s.vslot q 0x13 w))

/-- VSUM (R231, 08_vector_engine.md): Sums the elements in 64 lanes and then a pairwise tree. -/
def execVsum (q : BitVec 4) (w : BitVec 120) (s : State) : Host.Outcome State Fault Refusal :=
  .next (State.settle (s.vslot q 0x18 w))

/-- VRMAX (R231, 08_vector_engine.md): Gives the greatest element, or NaN if any element is NaN. -/
def execVrmax (q : BitVec 4) (w : BitVec 120) (s : State) : Host.Outcome State Fault Refusal :=
  .next (State.settle (s.vslot q 0x19 w))

/-- WADD (R232, 08_vector_engine.md): Adds W192 partials into DST in declared order. -/
def execWadd (q : BitVec 4) (w : BitVec 120) (s : State) : Host.Outcome State Fault Refusal :=
  .next (State.settle (s.vslot q 0x20 w))

/-- WCVT (R232, 08_vector_engine.md): Converts W192 elements to FP32. -/
def execWcvt (q : BitVec 4) (w : BitVec 120) (s : State) : Host.Outcome State Fault Refusal :=
  .next (State.settle (s.vslot q 0x21 w))

/-- FFT (R234, 08_vector_engine.md): Forward radix-4 transform in local scratchpad, exactly as specified. -/
def execFft (q : BitVec 4) (w : BitVec 120) (s : State) : Host.Outcome State Fault Refusal :=
  .next (State.settle (s.vslot q 0x28 w))

/-- IFFT (R234, 08_vector_engine.md): Inverse radix-4 transform. -/
def execIfft (q : BitVec 4) (w : BitVec 120) (s : State) : Host.Outcome State Fault Refusal :=
  .next (State.settle (s.vslot q 0x29 w))

/-- VMAG2 (R234, 08_vector_engine.md): Squared magnitude of each complex element. -/
def execVmag2 (q : BitVec 4) (w : BitVec 120) (s : State) : Host.Outcome State Fault Refusal :=
  .next (State.settle (s.vslot q 0x2a w))

/-- QUANT (R235, 08_vector_engine.md): Quantizes to I8, I4, B8 or I32 with scale exponent PARAM and saturation. -/
def execQuant (q : BitVec 4) (w : BitVec 120) (s : State) : Host.Outcome State Fault Refusal :=
  .next (State.settle (s.vslot q 0x30 w))

/-- DEQUANT (R238, 08_vector_engine.md): Dequantizes integer or B8 elements to FP32 or BF16. -/
def execDequant (q : BitVec 4) (w : BitVec 120) (s : State) : Host.Outcome State Fault Refusal :=
  .next (State.settle (s.vslot q 0x31 w))

/-- DRAIN (R240, 08_vector_engine.md): Moves LEN elements from memory, the drain input or a streaming port to DST. -/
def execDrain (q : BitVec 4) (w : BitVec 120) (s : State) : Host.Outcome State Fault Refusal :=
  .next (State.settle (s.vslot q 0x40 w))

/-- VE_OP_START (R225, 08_vector_engine.md): The vector engine starts its next queued operation once the previous one has
written its last result, and checks it for vector faults. -/
def execVeOpStart (q : BitVec 4) (s : State) : Host.Outcome State Fault Refusal :=
  .next (State.settle (s.startVec q.toNat))

/-- VE_OP_COMPLETE (R241, 08_vector_engine.md): A vector operation has written its last result, and its operation status is
written 2 steps later. -/
def execVeOpComplete (q : BitVec 4) (badCheck : Bool) (s : State) : Host.Outcome State Fault Refusal :=
  .next (State.settle (s.endVec q.toNat badCheck))

/-- VE_STARVED (R244, 08_vector_engine.md): An operation waits for input that no issued span will deliver while the sequencer
cannot issue, which raises a program fault. -/
def execVeStarved (q : BitVec 4) (s : State) : Host.Outcome State Fault Refusal :=
  .next (State.settle (s.starved q.toNat))

end Sys2Proof.Machine
end

