-- ==== Sys2Proof/Machine/Dispatch.lean ====
section
/-! DEFINITION. The dispatch: one arm for each constructor of Instr. -/

namespace Sys2Proof.Machine

/-- The effect of a command on everything but the queue. -/
def exec (i : Instr) (s : State) : Host.Outcome State Fault Refusal :=
  match i with
  | .regWrite p role a v hi => Sys2Proof.Machine.execRegWrite p role a v hi s
  | .powerGood => Sys2Proof.Machine.execPowerGood s
  | .feedLost b mv => Sys2Proof.Machine.execFeedLost b mv s
  | .feedRestored b mv => Sys2Proof.Machine.execFeedRestored b mv s
  | .pfail => Sys2Proof.Machine.execPfail s
  | .pfailRecovery => Sys2Proof.Machine.execPfailRecovery s
  | .lockstepMismatch logged => Sys2Proof.Machine.execLockstepMismatch logged s
  | .watchdogExpiry => Sys2Proof.Machine.execWatchdogExpiry s
  | .portsReady ms => Sys2Proof.Machine.execPortsReady ms s
  | .acqNoLinkTimeout t => Sys2Proof.Machine.execAcqNoLinkTimeout t s
  | .acqTimeout t => Sys2Proof.Machine.execAcqTimeout t s
  | .firstEpoch => Sys2Proof.Machine.execFirstEpoch s
  | .timeSlow => Sys2Proof.Machine.execTimeSlow s
  | .restart p role force => Sys2Proof.Machine.execRestart p role force s
  | .chainRestart => Sys2Proof.Machine.execChainRestart s
  | .svcEnter p role => Sys2Proof.Machine.execSvcEnter p role s
  | .svcExit p role => Sys2Proof.Machine.execSvcExit p role s
  | .dieReset p role d => Sys2Proof.Machine.execDieReset p role d s
  | .dieResetRelease d => Sys2Proof.Machine.execDieResetRelease d s
  | .fanCtrlWrite p role v => Sys2Proof.Machine.execFanCtrlWrite p role v s
  | .temperatureReading k t => Sys2Proof.Machine.execTemperatureReading k t s
  | .thermalRestart t => Sys2Proof.Machine.execThermalRestart t s
  | .fanFail k => Sys2Proof.Machine.execFanFail k s
  | .diePowerOffComplete d => Sys2Proof.Machine.execDiePowerOffComplete d s
  | .ptpSync port domain gm twoStep corr res off => Sys2Proof.Machine.execPtpSync port domain gm twoStep corr res off s
  | .followUp port domain gm corr res off => Sys2Proof.Machine.execFollowUp port domain gm corr res off s
  | .announce port a => Sys2Proof.Machine.execAnnounce port a s
  | .announceTimeout port ival t => Sys2Proof.Machine.execAnnounceTimeout port ival t s
  | .gmSyncSend ann => Sys2Proof.Machine.execGmSyncSend ann s
  | .pdelayReq port => Sys2Proof.Machine.execPdelayReq port s
  | .pdelayResp port d => Sys2Proof.Machine.execPdelayResp port d s
  | .timeLocked => Sys2Proof.Machine.execTimeLocked s
  | .timeSourceLost t => Sys2Proof.Machine.execTimeSourceLost t s
  | .alignLost t => Sys2Proof.Machine.execAlignLost t s
  | .acceptStep p role => Sys2Proof.Machine.execAcceptStep p role s
  | .timeStep present off => Sys2Proof.Machine.execTimeStep present off s
  | .epochBoundary => Sys2Proof.Machine.execEpochBoundary s
  | .runLaunch dur => Sys2Proof.Machine.execRunLaunch dur s
  | .deadline dur => Sys2Proof.Machine.execDeadline dur s
  | .commitAbandon => Sys2Proof.Machine.execCommitAbandon s
  | .shortOfMargin d => Sys2Proof.Machine.execShortOfMargin d s
  | .activationComplete => Sys2Proof.Machine.execActivationComplete s
  | .loadComplete ms copy => Sys2Proof.Machine.execLoadComplete ms copy s
  | .stageBegin p role => Sys2Proof.Machine.execStageBegin p role s
  | .verify p role => Sys2Proof.Machine.execVerify p role s
  | .verifyComplete => Sys2Proof.Machine.execVerifyComplete s
  | .arm p role => Sys2Proof.Machine.execArm p role s
  | .cancel p role => Sys2Proof.Machine.execCancel p role s
  | .selectPrevious p role => Sys2Proof.Machine.execSelectPrevious p role s
  | .seqFloorWrite p role v => Sys2Proof.Machine.execSeqFloorWrite p role v s
  | .image f => Sys2Proof.Machine.execImage f s
  | .nop q j => Sys2Proof.Machine.execNop q j s
  | .add q s1 w => Sys2Proof.Machine.execAdd q s1 w s
  | .sub q s1 w => Sys2Proof.Machine.execSub q s1 w s
  | .and q s1 w => Sys2Proof.Machine.execAnd q s1 w s
  | .or q s1 w => Sys2Proof.Machine.execOr q s1 w s
  | .xor q s1 w => Sys2Proof.Machine.execXor q s1 w s
  | .shl q s1 w => Sys2Proof.Machine.execShl q s1 w s
  | .shr q s1 w => Sys2Proof.Machine.execShr q s1 w s
  | .sra q s1 w => Sys2Proof.Machine.execSra q s1 w s
  | .mul q s1 w => Sys2Proof.Machine.execMul q s1 w s
  | .mulhu q s1 w => Sys2Proof.Machine.execMulhu q s1 w s
  | .mulhs q s1 w => Sys2Proof.Machine.execMulhs q s1 w s
  | .divu q s1 w => Sys2Proof.Machine.execDivu q s1 w s
  | .divs q s1 w => Sys2Proof.Machine.execDivs q s1 w s
  | .remu q s1 w => Sys2Proof.Machine.execRemu q s1 w s
  | .rems q s1 w => Sys2Proof.Machine.execRems q s1 w s
  | .cmpeq q s1 w => Sys2Proof.Machine.execCmpeq q s1 w s
  | .cmpne q s1 w => Sys2Proof.Machine.execCmpne q s1 w s
  | .cmpltu q s1 w => Sys2Proof.Machine.execCmpltu q s1 w s
  | .cmplts q s1 w => Sys2Proof.Machine.execCmplts q s1 w s
  | .cmpleu q s1 w => Sys2Proof.Machine.execCmpleu q s1 w s
  | .cmples q s1 w => Sys2Proof.Machine.execCmples q s1 w s
  | .movi q s1 w => Sys2Proof.Machine.execMovi q s1 w s
  | .sel q s1 w => Sys2Proof.Machine.execSel q s1 w s
  | .pand q s1 w => Sys2Proof.Machine.execPand q s1 w s
  | .por q s1 w => Sys2Proof.Machine.execPor q s1 w s
  | .pxor q s1 w => Sys2Proof.Machine.execPxor q s1 w s
  | .pnot q s1 w => Sys2Proof.Machine.execPnot q s1 w s
  | .fadd q s1 w => Sys2Proof.Machine.execFadd q s1 w s
  | .fsub q s1 w => Sys2Proof.Machine.execFsub q s1 w s
  | .fmul q s1 w => Sys2Proof.Machine.execFmul q s1 w s
  | .fma q s1 w => Sys2Proof.Machine.execFma q s1 w s
  | .fdiv q s1 w => Sys2Proof.Machine.execFdiv q s1 w s
  | .fsqrt q s1 w => Sys2Proof.Machine.execFsqrt q s1 w s
  | .fmin q s1 w => Sys2Proof.Machine.execFmin q s1 w s
  | .fmax q s1 w => Sys2Proof.Machine.execFmax q s1 w s
  | .fcmpeq q s1 w => Sys2Proof.Machine.execFcmpeq q s1 w s
  | .fcmplt q s1 w => Sys2Proof.Machine.execFcmplt q s1 w s
  | .fcmple q s1 w => Sys2Proof.Machine.execFcmple q s1 w s
  | .cvtif q s1 w => Sys2Proof.Machine.execCvtif q s1 w s
  | .cvtfi q s1 w => Sys2Proof.Machine.execCvtfi q s1 w s
  | .fabs q s1 w => Sys2Proof.Machine.execFabs q s1 w s
  | .fneg q s1 w => Sys2Proof.Machine.execFneg q s1 w s
  | .br q w => Sys2Proof.Machine.execBr q w s
  | .brx q w => Sys2Proof.Machine.execBrx q w s
  | .loop q w => Sys2Proof.Machine.execLoop q w s
  | .loopi q w => Sys2Proof.Machine.execLoopi q w s
  | .done q w => Sys2Proof.Machine.execDone q w s
  | .ld1u q w => Sys2Proof.Machine.execLd1u q w s
  | .ld2u q w => Sys2Proof.Machine.execLd2u q w s
  | .ld4u q w => Sys2Proof.Machine.execLd4u q w s
  | .ld8 q w => Sys2Proof.Machine.execLd8 q w s
  | .ld1s q w => Sys2Proof.Machine.execLd1s q w s
  | .ld2s q w => Sys2Proof.Machine.execLd2s q w s
  | .ld4s q w => Sys2Proof.Machine.execLd4s q w s
  | .st1 q w => Sys2Proof.Machine.execSt1 q w s
  | .st2 q w => Sys2Proof.Machine.execSt2 q w s
  | .st4 q w => Sys2Proof.Machine.execSt4 q w s
  | .st8 q w => Sys2Proof.Machine.execSt8 q w s
  | .copy q w => Sys2Proof.Machine.execCopy q w s
  | .resultWriteback q i0 => Sys2Proof.Machine.execResultWriteback q i0 s
  | .writeComplete q i0 => Sys2Proof.Machine.execWriteComplete q i0 s
  | .span q g1 w => Sys2Proof.Machine.execSpan q g1 w s
  | .bswitch q g1 w => Sys2Proof.Machine.execBswitch q g1 w s
  | .bload q g1 w => Sys2Proof.Machine.execBload q g1 w s
  | .brelease q g1 w => Sys2Proof.Machine.execBrelease q g1 w s
  | .gopen q g1 w => Sys2Proof.Machine.execGopen q g1 w s
  | .gclose q g1 w => Sys2Proof.Machine.execGclose q g1 w s
  | .passStart q sp => Sys2Proof.Machine.execPassStart q sp s
  | .bankSwitchEffect q sp => Sys2Proof.Machine.execBankSwitchEffect q sp s
  | .bankLoadStart q sp => Sys2Proof.Machine.execBankLoadStart q sp s
  | .bankLoadComplete q => Sys2Proof.Machine.execBankLoadComplete q s
  | .bankRestoreComplete q badEcc => Sys2Proof.Machine.execBankRestoreComplete q badEcc s
  | .bankReleaseEffect q sp => Sys2Proof.Machine.execBankReleaseEffect q sp s
  | .groupOpenEffect q sp => Sys2Proof.Machine.execGroupOpenEffect q sp s
  | .groupCloseEffect q sp => Sys2Proof.Machine.execGroupCloseEffect q sp s
  | .spanRowEgress q sp badSum badHop => Sys2Proof.Machine.execSpanRowEgress q sp badSum badHop s
  | .rollbackComplete t dur => Sys2Proof.Machine.execRollbackComplete t dur s
  | .replayLaunch dur => Sys2Proof.Machine.execReplayLaunch dur s
  | .drainComplete q sp => Sys2Proof.Machine.execDrainComplete q sp s
  | .vadd q w => Sys2Proof.Machine.execVadd q w s
  | .vsub q w => Sys2Proof.Machine.execVsub q w s
  | .vmul q w => Sys2Proof.Machine.execVmul q w s
  | .vfma q w => Sys2Proof.Machine.execVfma q w s
  | .vmin q w => Sys2Proof.Machine.execVmin q w s
  | .vmax q w => Sys2Proof.Machine.execVmax q w s
  | .vscale q w => Sys2Proof.Machine.execVscale q w s
  | .vexp q w => Sys2Proof.Machine.execVexp q w s
  | .vlog q w => Sys2Proof.Machine.execVlog q w s
  | .vrcp q w => Sys2Proof.Machine.execVrcp q w s
  | .vrsqrt q w => Sys2Proof.Machine.execVrsqrt q w s
  | .vsum q w => Sys2Proof.Machine.execVsum q w s
  | .vrmax q w => Sys2Proof.Machine.execVrmax q w s
  | .wadd q w => Sys2Proof.Machine.execWadd q w s
  | .wcvt q w => Sys2Proof.Machine.execWcvt q w s
  | .fft q w => Sys2Proof.Machine.execFft q w s
  | .ifft q w => Sys2Proof.Machine.execIfft q w s
  | .vmag2 q w => Sys2Proof.Machine.execVmag2 q w s
  | .quant q w => Sys2Proof.Machine.execQuant q w s
  | .dequant q w => Sys2Proof.Machine.execDequant q w s
  | .drain q w => Sys2Proof.Machine.execDrain q w s
  | .veOpStart q => Sys2Proof.Machine.execVeOpStart q s
  | .veOpComplete q badCheck => Sys2Proof.Machine.execVeOpComplete q badCheck s
  | .veStarved q => Sys2Proof.Machine.execVeStarved q s
  | .mov q w => Sys2Proof.Machine.execMov q w s
  | .signal q w => Sys2Proof.Machine.execSignal q w s
  | .signalDelivery q i0 => Sys2Proof.Machine.execSignalDelivery q i0 s
  | .wait q w => Sys2Proof.Machine.execWait q w s
  | .waitComplete q => Sys2Proof.Machine.execWaitComplete q s
  | .fence q w => Sys2Proof.Machine.execFence q w s
  | .fenceComplete q => Sys2Proof.Machine.execFenceComplete q s
  | .live q w seen => Sys2Proof.Machine.execLive q w seen s
  | .doneReport q t dur => Sys2Proof.Machine.execDoneReport q t dur s
  | .noProgress q idle => Sys2Proof.Machine.execNoProgress q idle s
  | .quarterHalt q => Sys2Proof.Machine.execQuarterHalt q s
  | .start p role q => Sys2Proof.Machine.execStart p role q s
  | .stop p role q => Sys2Proof.Machine.execStop p role q s
  | .debugEnter p role q => Sys2Proof.Machine.execDebugEnter p role q s
  | .debugExit p role q => Sys2Proof.Machine.execDebugExit p role q s
  | .step p role q n => Sys2Proof.Machine.execStep p role q n s
  | .retire p role q g => Sys2Proof.Machine.execRetire p role q g s
  | .selftestStart q => Sys2Proof.Machine.execSelftestStart q s
  | .marchTestComplete q failed => Sys2Proof.Machine.execMarchTestComplete q failed s
  | .grainScrub q g b err => Sys2Proof.Machine.execGrainScrub q g b err s
  | .copyPatrol k badA badB pair => Sys2Proof.Machine.execCopyPatrol k badA badB pair s
  | .reconfigure p role => Sys2Proof.Machine.execReconfigure p role s
  | .flitError d l same => Sys2Proof.Machine.execFlitError d l same s
  | .linkTrainingComplete d l => Sys2Proof.Machine.execLinkTrainingComplete d l s
  | .linkTrainingTimeout d l => Sys2Proof.Machine.execLinkTrainingTimeout d l s
  | .linkRetrain d l lockLost => Sys2Proof.Machine.execLinkRetrain d l lockLost s
  | .retrainComplete d l => Sys2Proof.Machine.execRetrainComplete d l s
  | .retrainTimeout d l => Sys2Proof.Machine.execRetrainTimeout d l s
  | .memTrainingComplete d bad => Sys2Proof.Machine.execMemTrainingComplete d bad s
  | .memTrainingTimeout d => Sys2Proof.Machine.execMemTrainingTimeout d s
  | .zeroFillComplete d bad => Sys2Proof.Machine.execZeroFillComplete d bad s
  | .memScrub k err => Sys2Proof.Machine.execMemScrub k err s
  | .dramTempReading d t => Sys2Proof.Machine.execDramTempReading d t s
  | .carrierPowerUp => Sys2Proof.Machine.execCarrierPowerUp s
  | .downstreamFrameSend l j => Sys2Proof.Machine.execDownstreamFrameSend l j s
  | .downstreamFrame l bytes t => Sys2Proof.Machine.execDownstreamFrame l bytes t s
  | .upstreamFrameSend l j ao dio => Sys2Proof.Machine.execUpstreamFrameSend l j ao dio s
  | .upstreamFrame l bytes t => Sys2Proof.Machine.execUpstreamFrame l bytes t s
  | .safeStateTimeout l t => Sys2Proof.Machine.execSafeStateTimeout l t s
  | .carrierTimeHoldover t => Sys2Proof.Machine.execCarrierTimeHoldover t s
  | .lpOverload c => Sys2Proof.Machine.execLpOverload c s
  | .lpRetry c below => Sys2Proof.Machine.execLpRetry c below s
  | .aoReleaseSeen o => Sys2Proof.Machine.execAoReleaseSeen o s
  | .aoThermalFoldback o => Sys2Proof.Machine.execAoThermalFoldback o s
  | .aoThermalRestore o => Sys2Proof.Machine.execAoThermalRestore o s
  | .loadHigh o => Sys2Proof.Machine.execLoadHigh o s
  | .aoReadbackFault o => Sys2Proof.Machine.execAoReadbackFault o s
  | .miswire k ext => Sys2Proof.Machine.execMiswire k ext s
  | .miswireClear k => Sys2Proof.Machine.execMiswireClear k s
  | .referenceCheck ref own chk => Sys2Proof.Machine.execReferenceCheck ref own chk s
  | .aoCmdWrite p role o v => Sys2Proof.Machine.execAoCmdWrite p role o v s
  | .aoRangeShadowWrite p role o v => Sys2Proof.Machine.execAoRangeShadowWrite p role o v s
  | .trimOpen p role c => Sys2Proof.Machine.execTrimOpen p role c s
  | .trimCaptureZero p role => Sys2Proof.Machine.execTrimCaptureZero p role s
  | .trimCaptureSpan p role => Sys2Proof.Machine.execTrimCaptureSpan p role s
  | .trimCommit p role => Sys2Proof.Machine.execTrimCommit p role s
  | .trimAbort p role => Sys2Proof.Machine.execTrimAbort p role s
  | .trimTimeout t => Sys2Proof.Machine.execTrimTimeout t s
  | .doReleaseSeen i0 => Sys2Proof.Machine.execDoReleaseSeen i0 s
  | .doCurrentLimit i0 on => Sys2Proof.Machine.execDoCurrentLimit i0 on s
  | .doThermalShutdown i0 => Sys2Proof.Machine.execDoThermalShutdown i0 s
  | .doThermalRestart i0 => Sys2Proof.Machine.execDoThermalRestart i0 s
  | .switchFailedOn i0 => Sys2Proof.Machine.execSwitchFailedOn i0 s
  | .diMiswire i0 on => Sys2Proof.Machine.execDiMiswire i0 on s
  | .supplyRev g on => Sys2Proof.Machine.execSupplyRev g on s
  | .groupSupplyLow g mv => Sys2Proof.Machine.execGroupSupplyLow g mv s
  | .radioSlotOpen sf k => Sys2Proof.Machine.execRadioSlotOpen sf k s
  | .beacon sf masked => Sys2Proof.Machine.execBeacon sf masked s
  | .radioTriggered rssi dt => Sys2Proof.Machine.execRadioTriggered rssi dt s
  | .radioCorrelated corr inTime e snr => Sys2Proof.Machine.execRadioCorrelated corr inTime e snr s
  | .radioSynced errs inTime => Sys2Proof.Machine.execRadioSynced errs inTime s
  | .radioHeader h dt => Sys2Proof.Machine.execRadioHeader h dt s
  | .radioDecodeDone llrs => Sys2Proof.Machine.execRadioDecodeDone llrs s
  | .radioSlotEnd => Sys2Proof.Machine.execRadioSlotEnd s
  | .afcReset k => Sys2Proof.Machine.execAfcReset k s
  | .tagOffRange t => Sys2Proof.Machine.execTagOffRange t s
  | .radioCmdSend p role tag len => Sys2Proof.Machine.execRadioCmdSend p role tag len s
  | .radioCmdFailed => Sys2Proof.Machine.execRadioCmdFailed s
  | .radioCfgWrite p role v => Sys2Proof.Machine.execRadioCfgWrite p role v s
  | .radioFirWrite p role i0 v => Sys2Proof.Machine.execRadioFirWrite p role i0 v s
  | .ldDwellStart e m => Sys2Proof.Machine.execLdDwellStart e m s
  | .ldUplinkFrame e off h llrs => Sys2Proof.Machine.execLdUplinkFrame e off h llrs s
  | .ldDwellEnd e snr => Sys2Proof.Machine.execLdDwellEnd e snr s
  | .ldLoopLost l => Sys2Proof.Machine.execLdLoopLost l s
  | .ldMsgSend p role l len => Sys2Proof.Machine.execLdMsgSend p role l len s
  | .ldMsgFailed => Sys2Proof.Machine.execLdMsgFailed s
  | .alarm f => Sys2Proof.Machine.execAlarm f s
  | .alarmRefresh => Sys2Proof.Machine.execAlarmRefresh s
  | .alarmFrameDequeue t => Sys2Proof.Machine.execAlarmFrameDequeue t s
  | .hello w p => Sys2Proof.Machine.execHello w p s
  | .helloSend => Sys2Proof.Machine.execHelloSend s
  | .neighbourLost w t => Sys2Proof.Machine.execNeighbourLost w t s
  | .portLinkChange port up => Sys2Proof.Machine.execPortLinkChange port up s
  | .timeInfo f => Sys2Proof.Machine.execTimeInfo f s
  | .timeInfoSend => Sys2Proof.Machine.execTimeInfoSend s
  | .ringCheckTimeout t => Sys2Proof.Machine.execRingCheckTimeout t s
  | .rcpBadFrame version typ f => Sys2Proof.Machine.execRcpBadFrame version typ f s
  | .read f => Sys2Proof.Machine.execRead f s
  | .write f => Sys2Proof.Machine.execWrite f s
  | .rmw f => Sys2Proof.Machine.execRmw f s
  | .blockRead f => Sys2Proof.Machine.execBlockRead f s
  | .blockWrite f => Sys2Proof.Machine.execBlockWrite f s
  | .hsrFrame port src dst seq body => Sys2Proof.Machine.execHsrFrame port src dst seq body s
  | .hsrSupervision => Sys2Proof.Machine.execHsrSupervision s
  | .readHoldingRegisters conn unit addr qty => Sys2Proof.Machine.execReadHoldingRegisters conn unit addr qty s
  | .readInputRegisters conn unit addr qty => Sys2Proof.Machine.execReadInputRegisters conn unit addr qty s
  | .writeSingleRegister conn unit addr value => Sys2Proof.Machine.execWriteSingleRegister conn unit addr value s
  | .writeMultipleRegisters conn unit addr vs => Sys2Proof.Machine.execWriteMultipleRegisters conn unit addr vs s
  | .readWriteMultipleRegisters conn unit raddr rqty waddr vs => Sys2Proof.Machine.execReadWriteMultipleRegisters conn unit raddr rqty waddr vs s
  | .bypassForce p role on => Sys2Proof.Machine.execBypassForce p role on s
  | .harbPropose p role => Sys2Proof.Machine.execHarbPropose p role s
  | .harbWake p role => Sys2Proof.Machine.execHarbWake p role s
  | .propose f => Sys2Proof.Machine.execPropose f s
  | .harbAccept f => Sys2Proof.Machine.execHarbAccept f s
  | .veto f => Sys2Proof.Machine.execVeto f s
  | .harbCommit f => Sys2Proof.Machine.execHarbCommit f s
  | .abort f => Sys2Proof.Machine.execAbort f s
  | .wake f => Sys2Proof.Machine.execWake f s
  | .harbAbortDeadline t => Sys2Proof.Machine.execHarbAbortDeadline t s
  | .harbRepeat => Sys2Proof.Machine.execHarbRepeat s
  | .tSleepReached t => Sys2Proof.Machine.execTSleepReached t s
  | .wakeRepeat => Sys2Proof.Machine.execWakeRepeat s
  | .isolatedWake => Sys2Proof.Machine.execIsolatedWake s
  | .leaseRenew t => Sys2Proof.Machine.execLeaseRenew t s
  | .confirmedExpiry t => Sys2Proof.Machine.execConfirmedExpiry t s
  | .leaseExpiredRequest t => Sys2Proof.Machine.execLeaseExpiredRequest t s
  | .bringupRequest t => Sys2Proof.Machine.execBringupRequest t s
  | .requestRepeat => Sys2Proof.Machine.execRequestRepeat s
  | .healthSend => Sys2Proof.Machine.execHealthSend s
  | .renew f => Sys2Proof.Machine.execRenew f s
  | .pairRenew f => Sys2Proof.Machine.execPairRenew f s
  | .confirm f => Sys2Proof.Machine.execConfirm f s
  | .request f => Sys2Proof.Machine.execRequest f s
  | .grant f => Sys2Proof.Machine.execGrant f s
  | .deny f => Sys2Proof.Machine.execDeny f s
  | .release f => Sys2Proof.Machine.execRelease f s
  | .reclaim f => Sys2Proof.Machine.execReclaim f s
  | .suspect f => Sys2Proof.Machine.execSuspect f s
  | .suspectDecisionTimeout k t => Sys2Proof.Machine.execSuspectDecisionTimeout k t s
  | .decision f => Sys2Proof.Machine.execDecision f s
  | .health pair f => Sys2Proof.Machine.execHealth pair f s
  | .arbQuarantineEnd t => Sys2Proof.Machine.execArbQuarantineEnd t s
  | .arbHoldoffExpiry k t => Sys2Proof.Machine.execArbHoldoffExpiry k t s
  | .cableLinkDown silent sends => Sys2Proof.Machine.execCableLinkDown silent sends s
  | .cableLinkUp valid => Sys2Proof.Machine.execCableLinkUp valid s
  | .cableResend seq => Sys2Proof.Machine.execCableResend seq s
  | .cableIdleSend t => Sys2Proof.Machine.execCableIdleSend t s
  | .cableRenew token expires epoch => Sys2Proof.Machine.execCableRenew token expires epoch s
  | .cableConfirm token expires => Sys2Proof.Machine.execCableConfirm token expires s
  | .cableHealth b => Sys2Proof.Machine.execCableHealth b s
  | .mirrorRecord fs => Sys2Proof.Machine.execMirrorRecord fs s
  | .standbyReplay => Sys2Proof.Machine.execStandbyReplay s
  | .mismatch => Sys2Proof.Machine.execMismatch s
  | .suspectTestComplete march loopF adc => Sys2Proof.Machine.execSuspectTestComplete march loopF adc s
  | .switch p role => Sys2Proof.Machine.execSwitch p role s
  | .detach p role => Sys2Proof.Machine.execDetach p role s
  | .attach p role => Sys2Proof.Machine.execAttach p role s
  | .handover token n => Sys2Proof.Machine.execHandover token n s
  | .armed token => Sys2Proof.Machine.execArmed token s
  | .handoverTimeout t => Sys2Proof.Machine.execHandoverTimeout t s
  | .armStuck t => Sys2Proof.Machine.execArmStuck t s
  | .takeback token => Sys2Proof.Machine.execTakeback token s
  | .fwdCmd p => Sys2Proof.Machine.execFwdCmd p s
  | .resyncReq => Sys2Proof.Machine.execResyncReq s
  | .snapEnd epoch fs => Sys2Proof.Machine.execSnapEnd epoch fs s
  | .blockReq a => Sys2Proof.Machine.execBlockReq a s
  | .blockData a epoch bs => Sys2Proof.Machine.execBlockData a epoch bs s
  | .ack p req role index => Sys2Proof.Machine.execAck p req role index s
  | .ackGroup p req role index => Sys2Proof.Machine.execAckGroup p req role index s
  | .ackAll p req role => Sys2Proof.Machine.execAckAll p req role s
  | .silence p req role => Sys2Proof.Machine.execSilence p req role s
  | .shelve p req role index arg => Sys2Proof.Machine.execShelve p req role index arg s
  | .unshelve p req role index => Sys2Proof.Machine.execUnshelve p req role index s
  | .foReset p req role index => Sys2Proof.Machine.execFoReset p req role index s
  | .setSetpoint p req role index arg => Sys2Proof.Machine.execSetSetpoint p req role index arg s
  | .duty p req role index arg => Sys2Proof.Machine.execDuty p req role index arg s
  | .watchArm p req role arg => Sys2Proof.Machine.execWatchArm p req role arg s
  | .watchReset p req role index => Sys2Proof.Machine.execWatchReset p req role index s
  | .panelAck => Sys2Proof.Machine.execPanelAck s
  | .panelSel c => Sys2Proof.Machine.execPanelSel c s
  | .panelZero => Sys2Proof.Machine.execPanelZero s
  | .panelSpan => Sys2Proof.Machine.execPanelSpan s
  | .panelEnter => Sys2Proof.Machine.execPanelEnter s
  | .panelCancel => Sys2Proof.Machine.execPanelCancel s
  | .call p req role index arg => Sys2Proof.Machine.execCall p req role index arg s
  | .callSeen p req role index => Sys2Proof.Machine.execCallSeen p req role index s
  | .accept p req role index arg => Sys2Proof.Machine.execAccept p req role index arg s
  | .setpointWrite p role i0 v => Sys2Proof.Machine.execSetpointWrite p role i0 v s
  | .pointDelayExpiry p => Sys2Proof.Machine.execPointDelayExpiry p s
  | .srcBadSet p => Sys2Proof.Machine.execSrcBadSet p s
  | .scoreStale p => Sys2Proof.Machine.execScoreStale p s
  | .radioStale p => Sys2Proof.Machine.execRadioStale p s
  | .shelveExpiry p => Sys2Proof.Machine.execShelveExpiry p s
  | .escalation c => Sys2Proof.Machine.execEscalation c s
  | .acceptTimeout c => Sys2Proof.Machine.execAcceptTimeout c s
  | .targetPresenceLost t => Sys2Proof.Machine.execTargetPresenceLost t s
  | .watchPrewarn => Sys2Proof.Machine.execWatchPrewarn s
  | .watchExpiry => Sys2Proof.Machine.execWatchExpiry s
  | .callFrameSend t => Sys2Proof.Machine.execCallFrameSend t s
  | .inventory n mask t => Sys2Proof.Machine.execInventory n mask t s
  | .stayQuiet uid t => Sys2Proof.Machine.execStayQuiet uid t s
  | .select uid t => Sys2Proof.Machine.execSelect uid t s
  | .resetToReady uid sel t => Sys2Proof.Machine.execResetToReady uid sel t s
  | .getSystemInformation uid sel t => Sys2Proof.Machine.execGetSystemInformation uid sel t s
  | .readSingleBlock uid sel b ext t => Sys2Proof.Machine.execReadSingleBlock uid sel b ext t s
  | .writeSingleBlock uid sel b ext v lock t => Sys2Proof.Machine.execWriteSingleBlock uid sel b ext v lock t s
  | .readMultipleBlocks uid sel b n ext t => Sys2Proof.Machine.execReadMultipleBlocks uid sel b n ext t s
  | .getMultipleBlockSecurityStatus uid sel b n ext t => Sys2Proof.Machine.execGetMultipleBlockSecurityStatus uid sel b n ext t s
  | .rfSessionEnd lost t => Sys2Proof.Machine.execRfSessionEnd lost t s
  | .mailboxServe => Sys2Proof.Machine.execMailboxServe s
  | .faultLogWrite ok => Sys2Proof.Machine.execFaultLogWrite ok s
  | .applyStaging p role => Sys2Proof.Machine.execApplyStaging p role s
  | .enrolWindowExpiry t => Sys2Proof.Machine.execEnrolWindowExpiry t s
  | .buttonAck t => Sys2Proof.Machine.execButtonAck t s
  | .buttonSel t => Sys2Proof.Machine.execButtonSel t s
  | .buttonEnter t => Sys2Proof.Machine.execButtonEnter t s
  | .buttonZero t => Sys2Proof.Machine.execButtonZero t s
  | .buttonSpan t => Sys2Proof.Machine.execButtonSpan t s
  | .selHold t => Sys2Proof.Machine.execSelHold t s
  | .selectTimeout t => Sys2Proof.Machine.execSelectTimeout t s
  | .messageScreenTimeout t => Sys2Proof.Machine.execMessageScreenTimeout t s
  | .sessionOpen p role => Sys2Proof.Machine.execSessionOpen p role s
  | .sessionClose p role => Sys2Proof.Machine.execSessionClose p role s
  | .sessKill p role id => Sys2Proof.Machine.execSessKill p role id s
  | .sessionIdleTimeout id t => Sys2Proof.Machine.execSessionIdleTimeout id t s
  | .lockoutExpiry src t => Sys2Proof.Machine.execLockoutExpiry src t s
  | .enrollKey p role slot => Sys2Proof.Machine.execEnrollKey p role slot s
  | .revokeKey p role slot force => Sys2Proof.Machine.execRevokeKey p role slot force s
  | .enrollCred p role slot r => Sys2Proof.Machine.execEnrollCred p role slot r s
  | .removeCred p role slot => Sys2Proof.Machine.execRemoveCred p role slot s
  | .secStoreComplete ok => Sys2Proof.Machine.execSecStoreComplete ok s
  | .debugDataRead p role req d o => Sys2Proof.Machine.execDebugDataRead p role req d o s
  | .debugDataWrite p role d o v => Sys2Proof.Machine.execDebugDataWrite p role d o v s
  | .commandFrame f => Sys2Proof.Machine.execCommandFrame f s
  | .rcpForward typ f => Sys2Proof.Machine.execRcpForward typ f s
  | .bringupStepEnd step ok ms one both => Sys2Proof.Machine.execBringupStepEnd step ok ms one both s
  | .diePowerFault d => Sys2Proof.Machine.execDiePowerFault d s
  | .diSamplingInstant j levels => Sys2Proof.Machine.execDiSamplingInstant j levels s
  | .aiSamplingInstant t vals => Sys2Proof.Machine.execAiSamplingInstant t vals s
  | .doExtSource i0 on => Sys2Proof.Machine.execDoExtSource i0 on s
  | .pdelayReqSend => Sys2Proof.Machine.execPdelayReqSend s
  | .delayReqSend => Sys2Proof.Machine.execDelayReqSend s
  | .delayResp d off => Sys2Proof.Machine.execDelayResp d off s
  | .timePortSyncLoss t => Sys2Proof.Machine.execTimePortSyncLoss t s

end Sys2Proof.Machine
end

