-- ==== Sys2Proof/Safety.lean ====
section
/-! DEFINITION. What claims about a run rest on: the canonical form of the register file and the memories, the queue, and what
it is for a state to have nothing left to resolve. -/

namespace Sys2Proof.Machine

/-- The register file and the byte memories are in canonical form, so that equal contents are equal data. -/
def State.canonical (s : State) : Bool :=
  kvWf resetOf s.regs && Memory.wf s.mem.bytes && Memory.wf s.grains.data && Memory.wf s.tag.mem

/-- What every command keeps: the canonical form, and the sixteen quarters of the node. -/
def State.sound (s : State) : Bool := s.canonical && s.quarters.length == 16

/-- A sound state whose queue is `wait`. -/
def State.kept (s : State) (wait : List Instr) : Prop := s.sound = true ∧ s.pending = wait

/-- Nothing a command has raised waits to be resolved: no program fault, no detected fault, no loss, no latent charge. -/
def State.calm (s : State) : Bool :=
  s.rcv.stop.isNone && s.rcv.notes.isEmpty && s.rcv.wantLost.isEmpty && s.rcv.chargedNow.isEmpty

/-- A step is safe when it answers a next state. -/
def stepSafe (s : State) : Bool :=
  match step s with
  | .next _ => true
  | .fault _ => false
  | .refused _ => false

/-! ### Slots -/

/-- Slot `j` of quarter `q` holding opcode `op` with bits [127:8] `w` issues in `s`: `t` is the state, after the checks and the
snapshot of its long word, in which it acts, and its predicate enables it. -/
def State.issues (s : State) (q : BitVec 4) (j op : Nat) (w : BitVec 120) (t : State) : Prop :=
  s.offer q.toNat j (slotOf op w) = .slot t (slotOf op w) ∧ predOn (t.qtr q.toNat).snap (slotOf op w) = true

/-- Operand A of a scalar slot as a 64-bit value. -/
def State.opA (t : State) (q : BitVec 4) (op : Nat) (w : BitVec 120) : BitVec 64 :=
  BitVec.ofNat 64 (t.src q.toNat (sRA (slotOf op w)))
/-- Operand B of a scalar slot: the immediate or the register. -/
def State.opB (t : State) (q : BitVec 4) (op : Nat) (w : BitVec 120) : BitVec 64 :=
  BitVec.ofNat 64 (t.srcB q.toNat (slotOf op w))
/-- Operand C of a scalar slot. -/
def State.opC (t : State) (q : BitVec 4) (op : Nat) (w : BitVec 120) : BitVec 64 :=
  BitVec.ofNat 64 (t.src q.toNat (sRC (slotOf op w)))

/-- `v` is in the destination of the scalar slot, and the slot has been dealt with. -/
def State.lands (t : State) (q : BitVec 4) (s1 : Bool) (op : Nat) (w : BitVec 120) (v : Nat) : State :=
  ((t.putReg q.toNat (specReg (sRD (slotOf op w))) v).endSlot q.toNat (b2n s1)).settle
/-- `v` is on its way to the destination of the scalar slot, and the slot has been dealt with. -/
def State.sends (t : State) (q : BitVec 4) (s1 : Bool) (op : Nat) (w : BitVec 120) (v : Nat) : State :=
  ((t.pendReg q.toNat (specReg (sRD (slotOf op w))) v none).endSlot q.toNat (b2n s1)).settle
/-- A truth value as a predicate register takes it. -/
def bit64 (b : Bool) : BitVec 64 := if b then 1#64 else 0#64

/-- The address of a load or store may be used now for its `n` bytes: aligned, permitted, in order. -/
def State.mayAccess (t : State) (q : BitVec 4) (n w : Nat) (write : Bool) : Prop :=
  t.effAddr q.toNat w % n = 0 ∧ t.check q.toNat (t.effAddr q.toNat w) n write = .ok ∧
    t.inOrder q.toNat (t.qtr q.toNat).nextSeq (t.effAddr q.toNat w) n write = true
/-- The quarter with one operation more issued and outstanding. -/
def State.issued (t : State) (q : BitVec 4) : State := (t.takeSeq q.toNat).2

/-- A loop set up with a trip count: its counter takes the count; 0 is a branch past END, else the loop runs. -/
def State.beginLoop (t : State) (q : BitVec 4) (w trip : Nat) : State :=
  if trip = 0 then
    (t.putReg q.toNat ⟨.lc, cLC w⟩ 0).modQ q.toNat (fun x => { x with branch := some (cEnd w + 1) })
  else
    (t.putReg q.toNat ⟨.lc, cLC w⟩ trip).modQ q.toNat (fun x => { x with loops := ⟨cLC w, x.pc + 1, cEnd w⟩ :: x.loops })

/-- The span a G slot names is in the configuration, and in G1 no enabled G0 of the same long word names it. -/
def State.spanFree (t : State) (q : BitVec 4) (g1 : Bool) (w : Nat) : Prop :=
  (t.img.run.span q.toNat (gSpan w)).isSome = true ∧
    (g1 = true → ∀ v, v = nth ((t.qtr q.toNat).lw (t.qtr q.toNat).pc) 4 0 →
      slotOp v = 0 ∨ predOn (t.qtr q.toNat).snap v = false ∨ gSpan v ≠ gSpan w)
/-- The operation of a G slot at the end of its span's queue, and the slot dealt with. -/
def State.queued (t : State) (q : BitVec 4) (g1 : Bool) (w : Nat) : State :=
  let x := t.qtr q.toNat
  let y := (t.issued q).span q.toNat (gSpan w)
  let o := spanOpOf x.snap (spanKindOf (slotOp w)) x.pc (4 + b2n g1) x.nextSeq w
  (((t.issued q).setSpan q.toNat (gSpan w) { y with queue := y.queue ++ [o] }).endSlot q.toNat (4 + b2n g1)).settle

/-- The operation a V slot issues, with the registers it reads. -/
def State.vecOp (t : State) (q : BitVec 4) (w : Nat) : VecOp :=
  let x := t.qtr q.toNat
  { op := slotOp w, lw := x.pc, seq := x.nextSeq, dst := x.snap.aN (vDst w), src1 := x.snap.aN (vSrc1 w),
    src2 := x.snap.aN (vSrc2 w), len := x.snap.sN (vLen w) % 2 ^ 32, param := x.snap.sN (vParam w), fin := vFin w,
    fout := vFout w, kind := vKind w, port := vPort w, status := if vStatusEn w then some (vStatus w) else none }
/-- The operation of a V slot at the end of the vector queue, counted, and the slot dealt with. -/
def State.vqueued (t : State) (q : BitVec 4) (w : Nat) : State :=
  let u := (t.issued q).modQ q.toNat (fun x => { x with vq := x.vq ++ [t.vecOp q w] })
  ((u.setF (R.VE_STATUS q.toNat) F.VE_STATUS_QUEUED (u.qtr q.toNat).vq.length).endSlot q.toNat 6).settle

/-- The length of a COPY. -/
def State.copyLen (t : State) (q : BitVec 4) (w : Nat) : Nat :=
  if mcLenImm w then mImm w else (t.qtr q.toNat).snap.sN (mcLen w) % 2 ^ 32

/-- The slot a command issues: quarter, position in the long word, opcode and bits [127:8]. DONE, after which the quarter is
checked for feeds no operation will take (R144), is not among them. -/
def slotRow : Instr → Option (BitVec 4 × Nat × Nat × BitVec 120)
  | .span q g1 w => some (q, 4 + b2n g1, 0x01, w)
  | .bswitch q g1 w => some (q, 4 + b2n g1, 0x02, w)
  | .bload q g1 w => some (q, 4 + b2n g1, 0x03, w)
  | .brelease q g1 w => some (q, 4 + b2n g1, 0x04, w)
  | .gopen q g1 w => some (q, 4 + b2n g1, 0x05, w)
  | .gclose q g1 w => some (q, 4 + b2n g1, 0x06, w)
  | .nop q j => some (q, j.toNat, 0x00, 0#120)
  | .add q s1 w => some (q, b2n s1, 0x01, w)
  | .sub q s1 w => some (q, b2n s1, 0x02, w)
  | .and q s1 w => some (q, b2n s1, 0x03, w)
  | .or q s1 w => some (q, b2n s1, 0x04, w)
  | .xor q s1 w => some (q, b2n s1, 0x05, w)
  | .shl q s1 w => some (q, b2n s1, 0x06, w)
  | .shr q s1 w => some (q, b2n s1, 0x07, w)
  | .sra q s1 w => some (q, b2n s1, 0x08, w)
  | .mul q s1 w => some (q, b2n s1, 0x09, w)
  | .mulhu q s1 w => some (q, b2n s1, 0x0A, w)
  | .mulhs q s1 w => some (q, b2n s1, 0x0B, w)
  | .divu q s1 w => some (q, b2n s1, 0x0C, w)
  | .divs q s1 w => some (q, b2n s1, 0x0D, w)
  | .remu q s1 w => some (q, b2n s1, 0x0E, w)
  | .rems q s1 w => some (q, b2n s1, 0x0F, w)
  | .cmpeq q s1 w => some (q, b2n s1, 0x10, w)
  | .cmpne q s1 w => some (q, b2n s1, 0x11, w)
  | .cmpltu q s1 w => some (q, b2n s1, 0x12, w)
  | .cmplts q s1 w => some (q, b2n s1, 0x13, w)
  | .cmpleu q s1 w => some (q, b2n s1, 0x14, w)
  | .cmples q s1 w => some (q, b2n s1, 0x15, w)
  | .movi q s1 w => some (q, b2n s1, 0x18, w)
  | .sel q s1 w => some (q, b2n s1, 0x19, w)
  | .pand q s1 w => some (q, b2n s1, 0x1A, w)
  | .por q s1 w => some (q, b2n s1, 0x1B, w)
  | .pxor q s1 w => some (q, b2n s1, 0x1C, w)
  | .pnot q s1 w => some (q, b2n s1, 0x1D, w)
  | .fadd q s1 w => some (q, b2n s1, 0x20, w)
  | .fsub q s1 w => some (q, b2n s1, 0x21, w)
  | .fmul q s1 w => some (q, b2n s1, 0x22, w)
  | .fma q s1 w => some (q, b2n s1, 0x23, w)
  | .fdiv q s1 w => some (q, b2n s1, 0x24, w)
  | .fsqrt q s1 w => some (q, b2n s1, 0x25, w)
  | .fmin q s1 w => some (q, b2n s1, 0x26, w)
  | .fmax q s1 w => some (q, b2n s1, 0x27, w)
  | .fcmpeq q s1 w => some (q, b2n s1, 0x28, w)
  | .fcmplt q s1 w => some (q, b2n s1, 0x29, w)
  | .fcmple q s1 w => some (q, b2n s1, 0x2A, w)
  | .cvtif q s1 w => some (q, b2n s1, 0x2B, w)
  | .cvtfi q s1 w => some (q, b2n s1, 0x2C, w)
  | .fabs q s1 w => some (q, b2n s1, 0x2D, w)
  | .fneg q s1 w => some (q, b2n s1, 0x2E, w)
  | .br q w => some (q, 2, 0x01, w)
  | .brx q w => some (q, 2, 0x02, w)
  | .loop q w => some (q, 2, 0x03, w)
  | .loopi q w => some (q, 2, 0x04, w)
  | .ld1u q w => some (q, 3, 0x01, w)
  | .ld2u q w => some (q, 3, 0x02, w)
  | .ld4u q w => some (q, 3, 0x03, w)
  | .ld8 q w => some (q, 3, 0x04, w)
  | .ld1s q w => some (q, 3, 0x05, w)
  | .ld2s q w => some (q, 3, 0x06, w)
  | .ld4s q w => some (q, 3, 0x07, w)
  | .st1 q w => some (q, 3, 0x08, w)
  | .st2 q w => some (q, 3, 0x09, w)
  | .st4 q w => some (q, 3, 0x0A, w)
  | .st8 q w => some (q, 3, 0x0B, w)
  | .copy q w => some (q, 3, 0x10, w)
  | .mov q w => some (q, 7, 0x01, w)
  | .signal q w => some (q, 7, 0x02, w)
  | .wait q w => some (q, 7, 0x03, w)
  | .fence q w => some (q, 7, 0x04, w)
  | .live q w _ => some (q, 7, 0x05, w)
  | .vadd q w => some (q, 6, 0x01, w)
  | .vsub q w => some (q, 6, 0x02, w)
  | .vmul q w => some (q, 6, 0x03, w)
  | .vfma q w => some (q, 6, 0x04, w)
  | .vmin q w => some (q, 6, 0x05, w)
  | .vmax q w => some (q, 6, 0x06, w)
  | .vscale q w => some (q, 6, 0x07, w)
  | .vexp q w => some (q, 6, 0x10, w)
  | .vlog q w => some (q, 6, 0x11, w)
  | .vrcp q w => some (q, 6, 0x12, w)
  | .vrsqrt q w => some (q, 6, 0x13, w)
  | .vsum q w => some (q, 6, 0x18, w)
  | .vrmax q w => some (q, 6, 0x19, w)
  | .wadd q w => some (q, 6, 0x20, w)
  | .wcvt q w => some (q, 6, 0x21, w)
  | .fft q w => some (q, 6, 0x28, w)
  | .ifft q w => some (q, 6, 0x29, w)
  | .vmag2 q w => some (q, 6, 0x2A, w)
  | .quant q w => some (q, 6, 0x30, w)
  | .dequant q w => some (q, 6, 0x31, w)
  | .drain q w => some (q, 6, 0x40, w)
  | _ => none

/-- The state after slot `j` of quarter `q` has acted in `t`, before anything it raised is resolved: `act` is the slot's effect. -/
def State.acted (t : State) (q : BitVec 4) (j op : Nat) (w : BitVec 120) (act : State → Nat → Nat → Option State) : State :=
  ((act t q.toNat (slotOf op w)).getD t).endSlot q.toNat j

/-- What no slot of quarter `q` changes outside the quarter: from `t` to `e` the node's registers are the same but those where
the quarter's faults and its DEBUG_PC are shown, and so are the other quarters, the grains, the configuration, the tag and
what has left the node. -/
def State.framed (t e : State) (q : Nat) : Prop :=
  (∀ a, a ≠ R.QERR q → a ≠ R.QFAULT q → a ≠ R.QFAULT_EPOCH_LO q → a ≠ R.QFAULT_EPOCH_LO q + 4 → a ≠ R.DEBUG_PC q →
    e.reg a = t.reg a) ∧
  (∀ k, k ≠ q → e.qtr k = t.qtr k) ∧
  e.pending = t.pending ∧ e.now = t.now ∧ e.grains = t.grains ∧ e.img = t.img ∧ e.tag = t.tag ∧ e.time = t.time ∧
  e.pwr = t.pwr ∧ e.car = t.car ∧ e.io = t.io ∧ e.radio = t.radio ∧ e.ld = t.ld ∧ e.alm = t.alm ∧ e.chain = t.chain ∧
  e.harb = t.harb ∧ e.pair = t.pair ∧ e.host = t.host ∧ e.panel = t.panel ∧ e.out = t.out

/-! ### Host writes -/

/-- A write of `v` to the register at `a` on path `p` passes every check of Table 19.4: `u` is the state, with the path's
snapshot and hold gone, in which it takes effect. -/
def State.accepts (s u : State) (p : Path) (role : BitVec 2) (a v : Nat) : Prop :=
  u = s.dropHold p ∧ s.host.begun = true ∧ s.gate p (s.roleOf p role.toNat) (s.writeRole a v) a = 0 ∧
    u.lastChecks a v = 0 ∧ u.mirrorBusy a = false ∧ u.stoppedHit a v = false
/-- The same for an 8-byte write of the pair word `v` at the PW register `a`. -/
def State.acceptsPair (s u : State) (p : Path) (role : BitVec 2) (a v : Nat) : Prop :=
  u = s.dropHold p ∧ s.host.begun = true ∧ s.gate p (s.roleOf p role.toNat) (s.writeRole a v) a = 0 ∧
    Nat.land v (pwReserved a) = 0 ∧ u.lastChecks a v = 0 ∧ u.mirrorBusy a = false

/-! ### Frames -/

/-- The REGISTER frame `f` asks for opcode `op`, is delivered, is not a repeat of an answered request, and its session lets it
in with `role`: `v` is the state in which the registers are accessed. -/
def State.admits (s : State) (f : RcpFrame) (op role : Nat) (v : State) : Prop :=
  fieldAt f.payload 8 1 = op ∧ f.resp = false ∧ 32 ≤ f.payload.length ∧ f.dst ≠ groupMac ∧
    regShape op (fieldAt f.payload 9 1) (fieldAt f.payload 10 2) f.payload.length = true ∧
    ∃ u, s.rcpIn 0x20 f = (true, u) ∧ u.host.begun = true ∧ u.dieDark (fieldAt f.payload 12 4) = false ∧
      u.keptFor f.src (fieldAt f.payload 4 4) (fieldAt f.payload 0 4) = none ∧
      u.authCheck 0x20 false 16 f.src f.payload = (some role, v)
/-- The access path of an RCP frame. -/
def pathOf (f : RcpFrame) : Path := .rcp f.port f.src (fieldAt f.payload 4 4)
/-- The answer to a REGISTER request: its status, the registers done and their data; a spent session ends. -/
def State.regAnswer (s : State) (f : RcpFrame) (st n : Nat) (d : List Byte) : State :=
  (s.answer (pathOf f) (fieldAt f.payload 0 4) 0x20
    (regResp (fieldAt f.payload 0 4) st n (fieldAt f.payload 12 4) d)).sessSpent (fieldAt f.payload 4 4)
/-- A harbour frame of subtype `sub` is delivered and well-formed: `u` is the state in which it acts. -/
def State.harbTakes (s : State) (sub : Nat) (f : RcpFrame) (u : State) : Prop :=
  s.rcpIn 0x40 f = (true, u) ∧ f.payload.length = 40 ∧ fieldAt f.payload 0 1 = sub ∧ fieldAt f.payload 2 2 = 0
/-- A pair or arbiter frame of subtype `sub` is delivered and well-formed, its pair words hold, and its sender is known. -/
def State.pairTakes (s : State) (typ sub : Nat) (f : RcpFrame) (u : State) : Prop :=
  f.payload.length = 48 ∧ fieldAt f.payload 0 1 = sub ∧ fieldAt f.payload 2 2 = 0 ∧
    isPairWord (fieldAt f.payload 16 8) = true ∧ isPairWord (fieldAt f.payload 40 8) = true ∧
    ∃ v, s.rcpIn typ f = (true, v) ∧
      u = v.modPair (fun x => { x with macs := kvPut (fieldAt f.payload 8 8) f.src x.macs })
/-- An arbiter frame of subtype `sub` reaches an arbiter that serves its pair `i`, from unit `k` of it. -/
def State.arbTakes (s : State) (sub : Nat) (f : RcpFrame) (i k : Nat) (w : State) : Prop :=
  ∃ u, s.pairTakes 0x31 sub f u ∧ u.arbEn = true ∧
    u.arbFind (fieldAt f.payload 4 4) (fieldAt f.payload 8 8) = some (i, k) ∧
    w = u.modArb i (fun a => { a with health := if sub = 1 ∨ sub = 10 then setNth a.health k (payHealth f.payload) else a.health })
/-- A button press at `t` is counted: `u` is the state in which the button acts. -/
def State.pressed (s : State) (t : Nat) (u : State) : Prop :=
  s.buttonsOn = true ∧ u = ((s.at t).inc R.PRESS_CNT).modPan (fun p => { p with pressT := t }) ∧ u.power ≠ 3
/-- A Modbus request on connection `c` for `unit` is served. -/
def State.modbusServes (s : State) (c unit : Nat) : Prop :=
  s.firmware = true ∧ s.modbusOn c = true ∧ (unit = 0 ∨ unit = s.getF R.MODBUS_CFG F.MODBUS_CFG_UNIT_ID) ∧ s.host.begun = true

end Sys2Proof.Machine
end

