-- ==== Sys2Proof/Certificates/Slice0/Obligations.lean ====
section
/-! DEFINITION. The statements for the provers: what commands do, what stays, and where each command completes. -/

open Sys2Proof Sys2Proof.Machine

/-- A step takes the command at the front of the queue and runs it with the rest of the queue; with nothing waiting, chain time runs on by
1 ns while the node has power (log entry 1). -/
def Obligations.FrontCommandRuns : Prop :=
    (∀ (c : Instr) (rest : List Instr) (s : State), s.pending = c :: rest → step s = exec c { s with pending := rest }) ∧
    (∀ (s : State), s.pending = [] → s.pwr.up = true → step s = .next (s.at (s.now + 1))) ∧
    (∀ (s : State), s.pending = [] → s.pwr.up = false → step s = .next s)

/-- Whatever command runs, the register file and the three byte memories stay in canonical form and the node keeps its sixteen quarters;
so does a step with nothing waiting. -/
def Obligations.EveryStepKeepsTheState : Prop :=
    (∀ (s t : State), s.sound = true → step s = .next t → t.sound = true)

/-- No command takes, adds or reorders the commands that wait: only the step does, at the front. A reset of the node leaves them too. -/
def Obligations.CommandsLeaveTheQueue : Prop :=
    (∀ (c : Instr) (s t : State), s.sound = true → exec c s = .next t → t.pending = s.pending)

/-- Reset: the state after reset is sound and calm, no command waits, no die has power, and the registers hold the Reset column of their
tables (R6): here ALM_SHAPE, SEG_LIMIT, PTP_RATE.ANN_TIMEOUT, PANEL_CTRL, CHAIN_CTRL.HSR_EN and HSR_RATE, MODBUS_CFG.UNIT_ID, and
the counters at zero. The queue, the clock and what has left the node are the model's own fields (log entry 4). -/
def Obligations.ResetState : Prop :=
    (State.reset.sound = true ∧ State.reset.calm = true ∧ State.reset.pending = [] ∧ State.reset.now = 0 ∧ State.reset.out = []) ∧
    (∀ (d : BitVec 2), State.reset.dieOn d.toNat = false) ∧
    (State.reset.regN R.ALM_SHAPE = 960 ∧ State.reset.regN R.SEG_LIMIT = 570 ∧ State.reset.regN R.PANEL_CTRL = 3 ∧ State.reset.getF R.CHAIN_CTRL F.CHAIN_CTRL_HSR_EN = 1 ∧ State.reset.regN R.EPOCH_LO = 0 ∧ State.reset.regN R.SKIP_CNT = 0 ∧ State.reset.regN R.DENIED_CNT = 0) ∧
    (∀ (q : BitVec 4), State.reset.qState q.toNat = 0)

/-- Every command answers a next state from every state: no fault, no refusal (log entry 13). -/
def Obligations.NoCommandStops : Prop :=
    (∀ (c : Instr) (s : State), ∃ t, exec c s = .next t)

/-- The register file: a register reads what was last written to it, other registers are as they were, a 64-bit value and a pair word
read back from their two registers, and a field written reads back modulo its width and leaves the other fields alone. -/
def Obligations.RegistersReadBack : Prop :=
  ∀ (s : State),
    (∀ (a k : Nat) (v : Word), (s.setReg a v).reg k = if k = a then v else s.reg k) ∧
    (∀ (a n : Nat), n < 2 ^ 64 → (s.setReg64 a n).reg64 a = n) ∧
    (∀ (a : Nat) (v : Word), (s.setPair a v.toNat).reg a = v ∧ (s.setPair a v.toNat).reg (a + 4) = ~~~v) ∧
    (∀ (a : Nat) (f : Fld) (v : Nat), f.lo + f.width ≤ 32 → (s.setF a f v).getF a f = v % 2 ^ f.width) ∧
    (∀ (a : Nat) (f g : Fld) (v : Nat), f.lo + f.width ≤ 32 → (g.lo + g.width ≤ f.lo ∨ f.lo + f.width ≤ g.lo) → (s.setF a f v).getF a g = s.getF a g)

/-- Node memory, bank images and tag memory: the bytes a write covers read as written, every other byte as before; a filled bank reads back
and leaves every other bank of the node as it was. -/
def Obligations.MemoryReadsBack : Prop :=
  ∀ (s : State),
    (∀ (k : Nat) (bs : List Byte) (i : Nat) (h : i < bs.length), memGet (s.poke k bs).mem.bytes (k + i) = bs[i]) ∧
    (∀ (k : Nat) (bs : List Byte) (x : Nat), (x < k ∨ k + bs.length ≤ x) → memGet (s.poke k bs).mem.bytes x = memGet s.mem.bytes x) ∧
    (∀ (k : Nat) (bs : List Byte) (i : Nat) (h : i < bs.length), memGet (s.tagWrite k bs).tag.mem (k + i) = bs[i]) ∧
    (∀ (k : Nat) (bs : List Byte) (x : Nat), (x < k ∨ k + bs.length ≤ x) → memGet (s.tagWrite k bs).tag.mem x = memGet s.tag.mem x) ∧
    (∀ (q g n : Nat) (bs xs : List Byte), n < 4 → bs.length = 8192 → xs.length ≤ 256 → (s.fillBank q g n bs xs).bankBytes q g n = bs) ∧
    (∀ (q g n q' g' n' : Nat) (bs xs : List Byte), n < 4 → n' < 4 → g < 96 → g' < 96 → (q ≠ q' ∨ g ≠ g' ∨ n ≠ n') → bs.length = 8192 → xs.length ≤ 256 →
      (s.fillBank q g n bs xs).bankBytes q' g' n' = s.bankBytes q' g' n')

/-- Table 6.1: a register of the four files reads what was written to it in its width, s0 reads zero and p0 true whatever is written, and
no other register changes. -/
def Obligations.SequencerFilesReadBack : Prop :=
  ∀ (r : SeqRegs),
    (∀ (v : Nat), r.put ⟨.s, 0⟩ v = r ∧ r.get ⟨.s, 0⟩ = 0 ∧ r.put ⟨.p, 0⟩ v = r ∧ r.get ⟨.p, 0⟩ = 1) ∧
    (∀ (i : RegId) (v : Nat), ∀ k, k ≠ i → (r.put i v).get k = r.get k) ∧
    (∀ (i v : Nat), 0 < i → i < r.s.length → (r.put ⟨.s, i⟩ v).get ⟨.s, i⟩ = v % 2 ^ 64) ∧
    (∀ (i v : Nat), i < r.a.length → (r.put ⟨.a, i⟩ v).get ⟨.a, i⟩ = v % 2 ^ 64) ∧
    (∀ (i v : Nat), 0 < i → i < r.p.length → (r.put ⟨.p, i⟩ v).get ⟨.p, i⟩ = v % 2) ∧
    (∀ (i v : Nat), i < r.lc.length → (r.put ⟨.lc, i⟩ v).get ⟨.lc, i⟩ = v % 2 ^ 32)

/-- R169, R172, R203, R204, R222: a slot that must wait leaves the state as it is; a long word with an illegal slot, or with a destination
named twice, faults with ILLEGAL before DEST_CONFLICT at the lowest such slot; a slot whose predicate is false does nothing. -/
def Obligations.SlotOffers : Prop :=
  ∀ (c : Instr) (q : BitVec 4) (j op : Nat) (w : BitVec 120) (s : State),
    (slotRow c = some (q, j, op, w) → s.offer q.toNat j (slotOf op w) = .blocked →
      exec c s = .next (State.settle s)) ∧
    (∀ (k : Nat), slotRow c = some (q, j, op, w) → s.mayIssue q.toNat = true → (s.qtr q.toNat).slot = 0 →
      firstIllegal (s.qtr q.toNat).pc 0 ((s.qtr q.toNat).lw (s.qtr q.toNat).pc) = some k →
      exec c s = .next (State.settle (s.progFault q.toNat 0x01 (s.qtr q.toNat).pc k))) ∧
    (∀ (k : Nat), slotRow c = some (q, j, op, w) → s.mayIssue q.toNat = true → (s.qtr q.toNat).slot = 0 →
      firstIllegal (s.qtr q.toNat).pc 0 ((s.qtr q.toNat).lw (s.qtr q.toNat).pc) = none →
      destConflict 0 [] ((s.qtr q.toNat).lw (s.qtr q.toNat).pc) = some k →
      exec c s = .next (State.settle (s.progFault q.toNat 0x03 (s.qtr q.toNat).pc k))) ∧
    (∀ (t : State), slotRow c = some (q, j, op, w) → s.offer q.toNat j (slotOf op w) = .slot t (slotOf op w) → predOn (t.qtr q.toNat).snap (slotOf op w) = false →
      exec c s = .next (State.settle (t.endSlot q.toNat j)))

/-- R169, R170, R207: a scalar slot of S0 or S1 that raises nothing changes, of the registers of its quarter, only its destination and the loop
counters a back edge counts; memory, the other quarters and everything outside the quarter stay. -/
def Obligations.ScalarSlotFrame : Prop :=
  ∀ (c : Instr) (q : BitVec 4) (j op : Nat) (w : BitVec 120) (s t : State),
    (slotRow c = some (q, j, op, w) → j ≤ 1 → 0 < op → s.issues q j op w t → (t.acted q j op w State.scalarSlot).calm = true →
      exec c s = .next (t.acted q j op w State.scalarSlot) ∧ t.mem = s.mem ∧ t.regs = s.regs ∧ s.framed t q.toNat ∧
        t.framed (t.acted q j op w State.scalarSlot) q.toNat ∧ (t.acted q j op w State.scalarSlot).mem = t.mem ∧
        (∀ i : RegId, i.file ≠ .lc → i ≠ specReg (sRD (slotOf op w)) →
          ((t.acted q j op w State.scalarSlot).qtr q.toNat).regs.get i = (t.qtr q.toNat).regs.get i))

/-- R213, R257: a load or store that raises nothing changes, of the bytes of memory, only the ones a store covers at the home of its effective
address, of the address registers only the post-incremented base; everything outside the quarter stays. -/
def Obligations.LoadStoreFrame : Prop :=
  ∀ (c : Instr) (q : BitVec 4) (op : Nat) (w : BitVec 120) (s t : State),
    (slotRow c = some (q, 3, op, w) → 0 < op → op ≤ 0x0B → s.issues q 3 op w t → t.mayAccess q (memSize op) (slotOf op w) (isStoreOp op) →
      (t.acted q 3 op w State.loadStore).calm = true →
      exec c s = .next (t.acted q 3 op w State.loadStore) ∧ t.mem = s.mem ∧ t.regs = s.regs ∧ s.framed t q.toNat ∧ t.framed (t.acted q 3 op w State.loadStore) q.toNat ∧
        (isStoreOp op = false → (t.acted q 3 op w State.loadStore).mem = t.mem) ∧
        (∀ x, x < t.img.run.homeAddr (t.effAddr q.toNat (slotOf op w)) ∨ t.img.run.homeAddr (t.effAddr q.toNat (slotOf op w)) + memSize op ≤ x →
          memGet (t.acted q 3 op w State.loadStore).mem.bytes x = memGet t.mem.bytes x) ∧
        (∀ i : RegId, i.file ≠ .lc → (i ≠ ⟨.a, mBase (slotOf op w)⟩ ∨ mAM (slotOf op w) ≠ 2) →
          ((t.acted q 3 op w State.loadStore).qtr q.toNat).regs.get i = (t.qtr q.toNat).regs.get i))

/-- R559: the roles are ordered, and a role passes every check of an access that a role below it passes. -/
def Obligations.RolesAreOrdered : Prop :=
  ∀ (s : State) (p : Path) (need a : Nat),
    (∀ (r r' : BitVec 2), r ≤ r' → s.gate p r.toNat need a = 0 → s.gate p r'.toNat need a = 0)

/-- R575: while a compute die is off, every access to its address range completes with NOT_READY and returns zero: 4- and 8-byte reads
and writes, read-modify-write and block reads and writes. -/
def Obligations.PoweredOffDieAnswersNotReady : Prop :=
  ∀ (s : State) (p : Path) (role a : Nat) (d o : Nat),
    (∀ (fresh : Bool), dieAddr a = some (d, o) → s.dieOn d = false → (s.readOne p role a fresh).1 = 1 ∧ (s.readOne p role a fresh).2.1 = 0#32) ∧
    (dieAddr a = some (d, o) → s.dieOn d = false → (s.readPair p role a).1 = 1 ∧ (s.readPair p role a).2.1 = 0) ∧
    (∀ (v : Nat), dieAddr a = some (d, o) → s.dieOn d = false → (s.writeOne p role a v).1 = 1 ∧ (s.writeOne p role a v).2 = (s.dropHold p).inc R.NOT_READY_CNT) ∧
    (∀ (lo hi : Nat), dieAddr a = some (d, o) → s.dieOn d = false → (s.writePair p role a lo hi).1 = 1 ∧ (s.writePair p role a lo hi).2 = (s.dropHold p).inc R.NOT_READY_CNT) ∧
    (∀ (m v : Nat), dieAddr a = some (d, o) → s.dieOn d = false → (s.rmw p role a m v).1 = 1 ∧ (s.rmw p role a m v).2.1 = 0#32) ∧
    (∀ (n : Nat), dieAddr a = some (d, o) → s.dieOn d = false → (s.readBlock p role a (n + 1)).1 = 1 ∧ (s.readBlock p role a (n + 1)).2.1 = []) ∧
    (∀ (v : Nat) (vs : List Nat), dieAddr a = some (d, o) → s.dieOn d = false → (s.writeBlockWords p role a (v :: vs)).1 = 1 ∧ (s.writeBlockWords p role a (v :: vs)).2.1 = 0)

/-- R65: ACCEPT_STEP with DIVERGED clear, or with a backward offset, is ignored and sets TIME_ERR.CMD_REJECT; from a role below maintainer it
completes with DENIED under R561 and leaves TIME_ERR as it is. -/
def Obligations.AcceptStepRefusals : Prop :=
  ∀ (s u : State) (p : Path) (role : BitVec 2),
    (s.accepts u p role R.TIME_CMD 1 → (u.flag R.TIME_STATUS F.TIME_STATUS_DIVERGED = false ∨ u.time.offset < 0) →
      exec (.acceptStep p role) s = .next (State.settle (u.raise R.TIME_ERR F.TIME_ERR_CMD_REJECT))) ∧
    (s.host.begun = true → s.roleOf p role.toNat < 3 →
      exec (.acceptStep p role) s = .next (State.settle ((s.dropHold p).denied)) ∧ (s.dropHold p).denied.reg R.TIME_ERR = s.reg R.TIME_ERR)

/-- R200: PRED [10:8] names a predicate register and PRED [11] inverts it; the slot is enabled when their XOR is true; PRED 0 always enables
and PRED 8 is a reserved encoding. -/
def Obligations.PredicateField : Prop :=
  ∀ (r : SeqRegs) (w : Nat),
    (predOn r w = Bool.xor (r.get ⟨.p, bitsOf w 10 8⟩ == 1) (bitOf w 11)) ∧
    (bitsOf w 11 8 = 0 → predOn r w = true) ∧
    (∀ (i j : Nat), bitsOf w 11 8 = 8 → slotLegal i j w = false)

/-- R394: a feed below 17.0 V clears its OK bit and sets PWR_ERR.FEED_LOST, a feed at 18.0 V or more sets its OK bit; apart from the feed's
own voltage register nothing else changes. -/
def Obligations.FeedsComeAndGo : Prop :=
  ∀ (s : State) (b : Bool) (mv : BitVec 16),
    (s.calm = true → mv.toNat < 17000 → ∃ t, exec (.feedLost b mv) s = .next t ∧ t.flag R.PWR_STATUS (feedFld b) = false ∧ t.flag R.PWR_STATUS (feedFld (!b)) = s.flag R.PWR_STATUS (feedFld (!b)) ∧
        t.flag R.PWR_ERR F.PWR_ERR_FEED_LOST = true ∧ t.regN (feedMv b) = mv.toNat ∧
        (∀ a, a ≠ R.PWR_STATUS → a ≠ R.PWR_ERR → a ≠ feedMv b → t.reg a = s.reg a) ∧ t.pending = s.pending ∧ t.now = s.now ∧ t.mem = s.mem ∧ t.grains = s.grains ∧ t.rcv = s.rcv ∧ t.quarters = s.quarters ∧ t.img = s.img ∧ t.time = s.time ∧
        t.tag = s.tag ∧ t.pwr = s.pwr ∧ t.car = s.car ∧ t.io = s.io ∧ t.alm = s.alm ∧ t.chain = s.chain ∧ t.pair = s.pair ∧ t.host = s.host ∧ t.out = s.out ∧
        t.freeCtr = s.freeCtr ∧ t.radio = s.radio ∧ t.ld = s.ld ∧ t.harb = s.harb ∧ t.panel = s.panel) ∧
    (s.calm = true → 18000 ≤ mv.toNat → ∃ t, exec (.feedRestored b mv) s = .next t ∧ t.flag R.PWR_STATUS (feedFld b) = true ∧ t.flag R.PWR_STATUS (feedFld (!b)) = s.flag R.PWR_STATUS (feedFld (!b)) ∧
        t.regN (feedMv b) = mv.toNat ∧ (∀ a, a ≠ R.PWR_STATUS → a ≠ feedMv b → t.reg a = s.reg a) ∧ t.pending = s.pending ∧ t.now = s.now ∧ t.mem = s.mem ∧ t.grains = s.grains ∧ t.rcv = s.rcv ∧ t.quarters = s.quarters ∧ t.img = s.img ∧ t.time = s.time ∧
        t.tag = s.tag ∧ t.pwr = s.pwr ∧ t.car = s.car ∧ t.io = s.io ∧ t.alm = s.alm ∧ t.chain = s.chain ∧ t.pair = s.pair ∧ t.host = s.host ∧ t.out = s.out ∧
        t.freeCtr = s.freeCtr ∧ t.radio = s.radio ∧ t.ld = s.ld ∧ t.harb = s.harb ∧ t.panel = s.panel)

/-- R518, R521: after the evaluation of a defined point, RAISED is DEFINED and (ACTIVE or SRC_BAD or LATCHED) and not SHELVED and not
SUPPRESSED, and SUPPRESSED is SUP_FLAGS [0] and the state of the group named; other points keep their state. -/
def Obligations.RaisedFollowsItsFormula : Prop :=
  ∀ (s : State) (old : PointSt) (r : PointRec),
    (((s.annunciate old r).point r.point).raised = (bitOf ((s.annunciate old r).point r.point).st 10 && (((s.annunciate old r).point r.point).active ||
      ((s.annunciate old r).point r.point).srcBad || ((s.annunciate old r).point r.point).latched) && !((s.annunciate old r).point r.point).shelvd && !((s.annunciate old r).point r.point).suppr)) ∧
    (((s.annunciate old r).point r.point).suppr = (bitOf r.supFlags 0 && s.flag (R.GROUP r.supGroup) F.GROUP_STATE)) ∧
    (∀ k, k ≠ r.point → (s.annunciate old r).point k = s.point k)

/-- Table 7.4: the integer opcodes of S0 and S1 on 64-bit operands. Shifts take B modulo 64; a division by zero gives all ones,
a remainder by zero its dividend. Results of multiply and divide are on their way (Table 6.2). -/
def Obligations.IntegerSlotsWriteTheirResult : Prop :=
  ∀ (q : BitVec 4) (s1 : Bool) (w : BitVec 120) (s t : State),
    (s.issues q (b2n s1) 0x01 w t → exec (.add q s1 w) s = .next (t.lands q s1 0x01 w ((t.opA q 0x01 w) + (t.opB q 0x01 w)).toNat)) ∧
    (s.issues q (b2n s1) 0x02 w t → exec (.sub q s1 w) s = .next (t.lands q s1 0x02 w ((t.opA q 0x02 w) - (t.opB q 0x02 w)).toNat)) ∧
    (s.issues q (b2n s1) 0x03 w t → exec (.and q s1 w) s = .next (t.lands q s1 0x03 w ((t.opA q 0x03 w) &&& (t.opB q 0x03 w)).toNat)) ∧
    (s.issues q (b2n s1) 0x04 w t → exec (.or q s1 w) s = .next (t.lands q s1 0x04 w ((t.opA q 0x04 w) ||| (t.opB q 0x04 w)).toNat)) ∧
    (s.issues q (b2n s1) 0x05 w t → exec (.xor q s1 w) s = .next (t.lands q s1 0x05 w ((t.opA q 0x05 w) ^^^ (t.opB q 0x05 w)).toNat)) ∧
    (s.issues q (b2n s1) 0x06 w t → exec (.shl q s1 w) s = .next (t.lands q s1 0x06 w ((t.opA q 0x06 w) <<< ((t.opB q 0x06 w).toNat % 64)).toNat)) ∧
    (s.issues q (b2n s1) 0x07 w t → exec (.shr q s1 w) s = .next (t.lands q s1 0x07 w ((t.opA q 0x07 w) >>> ((t.opB q 0x07 w).toNat % 64)).toNat)) ∧
    (s.issues q (b2n s1) 0x08 w t → exec (.sra q s1 w) s = .next (t.lands q s1 0x08 w ((t.opA q 0x08 w).sshiftRight ((t.opB q 0x08 w).toNat % 64)).toNat)) ∧
    (s.issues q (b2n s1) 0x09 w t → exec (.mul q s1 w) s = .next (t.sends q s1 0x09 w ((t.opA q 0x09 w) * (t.opB q 0x09 w)).toNat)) ∧
    (s.issues q (b2n s1) 0x0A w t → exec (.mulhu q s1 w) s = .next (t.sends q s1 0x0A w (((t.opA q 0x0A w).setWidth 128 * (t.opB q 0x0A w).setWidth 128).extractLsb' 64 64).toNat)) ∧
    (s.issues q (b2n s1) 0x0B w t → exec (.mulhs q s1 w) s = .next (t.sends q s1 0x0B w (((t.opA q 0x0B w).signExtend 128 * (t.opB q 0x0B w).signExtend 128).extractLsb' 64 64).toNat)) ∧
    (s.issues q (b2n s1) 0x0C w t → exec (.divu q s1 w) s = .next (t.sends q s1 0x0C w (if (t.opB q 0x0C w) = 0#64 then BitVec.allOnes 64 else (t.opA q 0x0C w) / (t.opB q 0x0C w)).toNat)) ∧
    (s.issues q (b2n s1) 0x0D w t → exec (.divs q s1 w) s = .next (t.sends q s1 0x0D w (if (t.opB q 0x0D w) = 0#64 then BitVec.allOnes 64 else (t.opA q 0x0D w).sdiv (t.opB q 0x0D w)).toNat)) ∧
    (s.issues q (b2n s1) 0x0E w t → exec (.remu q s1 w) s = .next (t.sends q s1 0x0E w (if (t.opB q 0x0E w) = 0#64 then (t.opA q 0x0E w) else (t.opA q 0x0E w) % (t.opB q 0x0E w)).toNat)) ∧
    (s.issues q (b2n s1) 0x0F w t → exec (.rems q s1 w) s = .next (t.sends q s1 0x0F w (if (t.opB q 0x0F w) = 0#64 then (t.opA q 0x0F w) else (t.opA q 0x0F w).srem (t.opB q 0x0F w)).toNat))

/-- Table 7.4: comparisons, MOVI, SEL and the predicate operations of S0 and S1. -/
def Obligations.CompareAndPredicateSlots : Prop :=
  ∀ (q : BitVec 4) (s1 : Bool) (w : BitVec 120) (s t : State),
    (s.issues q (b2n s1) 0x10 w t → exec (.cmpeq q s1 w) s = .next (t.lands q s1 0x10 w (bit64 ((t.opA q 0x10 w) == (t.opB q 0x10 w))).toNat)) ∧
    (s.issues q (b2n s1) 0x11 w t → exec (.cmpne q s1 w) s = .next (t.lands q s1 0x11 w (bit64 ((t.opA q 0x11 w) != (t.opB q 0x11 w))).toNat)) ∧
    (s.issues q (b2n s1) 0x12 w t → exec (.cmpltu q s1 w) s = .next (t.lands q s1 0x12 w (bit64 ((t.opA q 0x12 w).ult (t.opB q 0x12 w))).toNat)) ∧
    (s.issues q (b2n s1) 0x13 w t → exec (.cmplts q s1 w) s = .next (t.lands q s1 0x13 w (bit64 ((t.opA q 0x13 w).slt (t.opB q 0x13 w))).toNat)) ∧
    (s.issues q (b2n s1) 0x14 w t → exec (.cmpleu q s1 w) s = .next (t.lands q s1 0x14 w (bit64 ((t.opA q 0x14 w).ule (t.opB q 0x14 w))).toNat)) ∧
    (s.issues q (b2n s1) 0x15 w t → exec (.cmples q s1 w) s = .next (t.lands q s1 0x15 w (bit64 ((t.opA q 0x15 w).sle (t.opB q 0x15 w))).toNat)) ∧
    (s.issues q (b2n s1) 0x18 w t → exec (.movi q s1 w) s = .next (t.lands q s1 0x18 w (BitVec.ofNat 64 (sImm (slotOf 0x18 w))).toNat)) ∧
    (s.issues q (b2n s1) 0x19 w t → exec (.sel q s1 w) s = .next (t.lands q s1 0x19 w (if (t.opC q 0x19 w) = 1#64 then (t.opA q 0x19 w) else (t.opB q 0x19 w)).toNat)) ∧
    (s.issues q (b2n s1) 0x1A w t → exec (.pand q s1 w) s = .next (t.lands q s1 0x1A w (bit64 ((t.opA q 0x1A w) == 1#64 && (t.opB q 0x1A w) == 1#64)).toNat)) ∧
    (s.issues q (b2n s1) 0x1B w t → exec (.por q s1 w) s = .next (t.lands q s1 0x1B w (bit64 ((t.opA q 0x1B w) == 1#64 || (t.opB q 0x1B w) == 1#64)).toNat)) ∧
    (s.issues q (b2n s1) 0x1C w t → exec (.pxor q s1 w) s = .next (t.lands q s1 0x1C w (bit64 (Bool.xor ((t.opA q 0x1C w) == 1#64) ((t.opB q 0x1C w) == 1#64))).toNat)) ∧
    (s.issues q (b2n s1) 0x1D w t → exec (.pnot q s1 w) s = .next (t.lands q s1 0x1D w (bit64 (!((t.opA q 0x1D w) == 1#64))).toNat))

/-- Table 7.4, R207: the floating-point opcodes of S0 and S1 read the low 32 bits of their operands and send their result on its
way; comparisons send a truth value, conversions read or give the 64-bit integer. -/
def Obligations.FloatSlotsSendTheirResult : Prop :=
  ∀ (q : BitVec 4) (s1 : Bool) (w : BitVec 120) (s t : State),
    (s.issues q (b2n s1) 0x20 w t → exec (.fadd q s1 w) s = .next (t.sends q s1 0x20 w (f32Add ((t.opA q 0x20 w).toNat % 2 ^ 32) ((t.opB q 0x20 w).toNat % 2 ^ 32)))) ∧
    (s.issues q (b2n s1) 0x21 w t → exec (.fsub q s1 w) s = .next (t.sends q s1 0x21 w (f32Sub ((t.opA q 0x21 w).toNat % 2 ^ 32) ((t.opB q 0x21 w).toNat % 2 ^ 32)))) ∧
    (s.issues q (b2n s1) 0x22 w t → exec (.fmul q s1 w) s = .next (t.sends q s1 0x22 w (f32Mul ((t.opA q 0x22 w).toNat % 2 ^ 32) ((t.opB q 0x22 w).toNat % 2 ^ 32)))) ∧
    (s.issues q (b2n s1) 0x23 w t → exec (.fma q s1 w) s = .next (t.sends q s1 0x23 w (f32Fma ((t.opA q 0x23 w).toNat % 2 ^ 32) ((t.opB q 0x23 w).toNat % 2 ^ 32) ((t.opC q 0x23 w).toNat % 2 ^ 32)))) ∧
    (s.issues q (b2n s1) 0x24 w t → exec (.fdiv q s1 w) s = .next (t.sends q s1 0x24 w (f32Div ((t.opA q 0x24 w).toNat % 2 ^ 32) ((t.opB q 0x24 w).toNat % 2 ^ 32)))) ∧
    (s.issues q (b2n s1) 0x25 w t → exec (.fsqrt q s1 w) s = .next (t.sends q s1 0x25 w (f32Sqrt ((t.opA q 0x25 w).toNat % 2 ^ 32)))) ∧
    (s.issues q (b2n s1) 0x26 w t → exec (.fmin q s1 w) s = .next (t.sends q s1 0x26 w (f32Min ((t.opA q 0x26 w).toNat % 2 ^ 32) ((t.opB q 0x26 w).toNat % 2 ^ 32)))) ∧
    (s.issues q (b2n s1) 0x27 w t → exec (.fmax q s1 w) s = .next (t.sends q s1 0x27 w (f32Max ((t.opA q 0x27 w).toNat % 2 ^ 32) ((t.opB q 0x27 w).toNat % 2 ^ 32)))) ∧
    (s.issues q (b2n s1) 0x28 w t → exec (.fcmpeq q s1 w) s = .next (t.sends q s1 0x28 w (b2n (f32Eq ((t.opA q 0x28 w).toNat % 2 ^ 32) ((t.opB q 0x28 w).toNat % 2 ^ 32))))) ∧
    (s.issues q (b2n s1) 0x29 w t → exec (.fcmplt q s1 w) s = .next (t.sends q s1 0x29 w (b2n (f32Lt ((t.opA q 0x29 w).toNat % 2 ^ 32) ((t.opB q 0x29 w).toNat % 2 ^ 32))))) ∧
    (s.issues q (b2n s1) 0x2A w t → exec (.fcmple q s1 w) s = .next (t.sends q s1 0x2A w (b2n (f32Le ((t.opA q 0x2A w).toNat % 2 ^ 32) ((t.opB q 0x2A w).toNat % 2 ^ 32))))) ∧
    (s.issues q (b2n s1) 0x2B w t → exec (.cvtif q s1 w) s = .next (t.sends q s1 0x2B w (f32OfInt (t.opA q 0x2B w).toInt 0))) ∧
    (s.issues q (b2n s1) 0x2C w t → exec (.cvtfi q s1 w) s = .next (t.sends q s1 0x2C w (ofSigned 64 (f32ToI64 ((t.opA q 0x2C w).toNat % 2 ^ 32))))) ∧
    (s.issues q (b2n s1) 0x2D w t → exec (.fabs q s1 w) s = .next (t.sends q s1 0x2D w (f32Abs ((t.opA q 0x2D w).toNat % 2 ^ 32)))) ∧
    (s.issues q (b2n s1) 0x2E w t → exec (.fneg q s1 w) s = .next (t.sends q s1 0x2E w (f32Neg ((t.opA q 0x2E w).toNat % 2 ^ 32))))

/-- R208, R209, R212, R223: BR and BRX set the branch target, LOOP and LOOPI set up a loop or branch past END on a trip count
of 0 when the loop counter is free, DONE ends fetching. -/
def Obligations.ControlSlotsSteerTheFetch : Prop :=
  ∀ (q : BitVec 4) (w : BitVec 120) (s t : State),
    (s.issues q 2 0x01 w t → exec (.br q w) s =
      .next (((t.modQ q.toNat (fun x => { x with branch := some (cTarget (slotOf 0x01 w)) })).endSlot q.toNat 2).settle)) ∧
    (s.issues q 2 0x02 w t → exec (.brx q w) s =
      .next (((t.modQ q.toNat (fun x => { x with branch := some (t.src q.toNat (cBrxRA (slotOf 0x02 w))) })).endSlot q.toNat 2).settle)) ∧
    (s.issues q 2 0x03 w t → (t.qtr q.toNat).loops.all (fun l => l.ctr != cLC (slotOf 0x03 w)) = true → exec (.loop q w) s =
      .next (((t.beginLoop q (slotOf 0x03 w) (t.src q.toNat (cLoopRA (slotOf 0x03 w)) % 2 ^ 32)).endSlot q.toNat 2).settle)) ∧
    (s.issues q 2 0x04 w t → (t.qtr q.toNat).loops.all (fun l => l.ctr != cLC (slotOf 0x04 w)) = true → exec (.loopi q w) s =
      .next (((t.beginLoop q (slotOf 0x04 w) (cCount (slotOf 0x04 w))).endSlot q.toNat 2).settle)) ∧
    (s.issues q 2 0x0F w t → exec (.done q w) s =
      .next ((((t.modQ q.toNat (fun x => { x with done := some x.pc })).endSlot q.toNat 2).checkUndrained q.toNat).settle))

/-- Tables 7.6 and 7.7: a load whose address is aligned and permitted sends the 1, 2, 4 or 8 bytes there, least significant first,
zero-extended or sign-extended, on their way to its register; the operation is outstanding until then, and AM 2 adds to the base. -/
def Obligations.LoadsSendWhatMemoryHolds : Prop :=
  ∀ (q : BitVec 4) (w : BitVec 120) (s t : State),
    (s.issues q 3 0x01 w t → t.mayAccess q 1 (slotOf 0x01 w) false → exec (.ld1u q w) s =
      .next (((((t.issued q).pendReg q.toNat (specReg (mData (slotOf 0x01 w))) (t.loadN (t.effAddr q.toNat (slotOf 0x01 w)) 1)
        (some (t.qtr q.toNat).nextSeq)).outstand q.toNat (t.qtr q.toNat).nextSeq).postInc q.toNat (slotOf 0x01 w)).endSlot q.toNat 3).settle) ∧
    (s.issues q 3 0x02 w t → t.mayAccess q 2 (slotOf 0x02 w) false → exec (.ld2u q w) s =
      .next (((((t.issued q).pendReg q.toNat (specReg (mData (slotOf 0x02 w))) (t.loadN (t.effAddr q.toNat (slotOf 0x02 w)) 2)
        (some (t.qtr q.toNat).nextSeq)).outstand q.toNat (t.qtr q.toNat).nextSeq).postInc q.toNat (slotOf 0x02 w)).endSlot q.toNat 3).settle) ∧
    (s.issues q 3 0x03 w t → t.mayAccess q 4 (slotOf 0x03 w) false → exec (.ld4u q w) s =
      .next (((((t.issued q).pendReg q.toNat (specReg (mData (slotOf 0x03 w))) (t.loadN (t.effAddr q.toNat (slotOf 0x03 w)) 4)
        (some (t.qtr q.toNat).nextSeq)).outstand q.toNat (t.qtr q.toNat).nextSeq).postInc q.toNat (slotOf 0x03 w)).endSlot q.toNat 3).settle) ∧
    (s.issues q 3 0x04 w t → t.mayAccess q 8 (slotOf 0x04 w) false → exec (.ld8 q w) s =
      .next (((((t.issued q).pendReg q.toNat (specReg (mData (slotOf 0x04 w))) (t.loadN (t.effAddr q.toNat (slotOf 0x04 w)) 8)
        (some (t.qtr q.toNat).nextSeq)).outstand q.toNat (t.qtr q.toNat).nextSeq).postInc q.toNat (slotOf 0x04 w)).endSlot q.toNat 3).settle) ∧
    (s.issues q 3 0x05 w t → t.mayAccess q 1 (slotOf 0x05 w) false → exec (.ld1s q w) s =
      .next (((((t.issued q).pendReg q.toNat (specReg (mData (slotOf 0x05 w))) ((BitVec.ofNat 8 (t.loadN (t.effAddr q.toNat (slotOf 0x05 w)) 1)).signExtend 64).toNat
        (some (t.qtr q.toNat).nextSeq)).outstand q.toNat (t.qtr q.toNat).nextSeq).postInc q.toNat (slotOf 0x05 w)).endSlot q.toNat 3).settle) ∧
    (s.issues q 3 0x06 w t → t.mayAccess q 2 (slotOf 0x06 w) false → exec (.ld2s q w) s =
      .next (((((t.issued q).pendReg q.toNat (specReg (mData (slotOf 0x06 w))) ((BitVec.ofNat 16 (t.loadN (t.effAddr q.toNat (slotOf 0x06 w)) 2)).signExtend 64).toNat
        (some (t.qtr q.toNat).nextSeq)).outstand q.toNat (t.qtr q.toNat).nextSeq).postInc q.toNat (slotOf 0x06 w)).endSlot q.toNat 3).settle) ∧
    (s.issues q 3 0x07 w t → t.mayAccess q 4 (slotOf 0x07 w) false → exec (.ld4s q w) s =
      .next (((((t.issued q).pendReg q.toNat (specReg (mData (slotOf 0x07 w))) ((BitVec.ofNat 32 (t.loadN (t.effAddr q.toNat (slotOf 0x07 w)) 4)).signExtend 64).toNat
        (some (t.qtr q.toNat).nextSeq)).outstand q.toNat (t.qtr q.toNat).nextSeq).postInc q.toNat (slotOf 0x07 w)).endSlot q.toNat 3).settle)

/-- Tables 7.6 and 7.7: a store whose address is aligned and permitted writes the low 1, 2, 4 or 8 bytes of its register there, and
AM 2 adds to the base. -/
def Obligations.StoresWriteTheirBytes : Prop :=
  ∀ (q : BitVec 4) (w : BitVec 120) (s t : State),
    (s.issues q 3 0x08 w t → t.mayAccess q 1 (slotOf 0x08 w) true → exec (.st1 q w) s =
      .next (((((t.issued q).store q.toNat (t.effAddr q.toNat (slotOf 0x08 w)) (leBytes 1 (t.src q.toNat (mData (slotOf 0x08 w))))).outstand q.toNat
        (t.qtr q.toNat).nextSeq).postInc q.toNat (slotOf 0x08 w)).endSlot q.toNat 3).settle) ∧
    (s.issues q 3 0x09 w t → t.mayAccess q 2 (slotOf 0x09 w) true → exec (.st2 q w) s =
      .next (((((t.issued q).store q.toNat (t.effAddr q.toNat (slotOf 0x09 w)) (leBytes 2 (t.src q.toNat (mData (slotOf 0x09 w))))).outstand q.toNat
        (t.qtr q.toNat).nextSeq).postInc q.toNat (slotOf 0x09 w)).endSlot q.toNat 3).settle) ∧
    (s.issues q 3 0x0A w t → t.mayAccess q 4 (slotOf 0x0A w) true → exec (.st4 q w) s =
      .next (((((t.issued q).store q.toNat (t.effAddr q.toNat (slotOf 0x0A w)) (leBytes 4 (t.src q.toNat (mData (slotOf 0x0A w))))).outstand q.toNat
        (t.qtr q.toNat).nextSeq).postInc q.toNat (slotOf 0x0A w)).endSlot q.toNat 3).settle) ∧
    (s.issues q 3 0x0B w t → t.mayAccess q 8 (slotOf 0x0B w) true → exec (.st8 q w) s =
      .next (((((t.issued q).store q.toNat (t.effAddr q.toNat (slotOf 0x0B w)) (leBytes 8 (t.src q.toNat (mData (slotOf 0x0B w))))).outstand q.toNat
        (t.qtr q.toNat).nextSeq).postInc q.toNat (slotOf 0x0B w)).endSlot q.toNat 3).settle)

/-- R181, R215: a G slot that names a span of the configuration, and not in G1 the span of an enabled G0, puts its operation with
the registers it read at the end of the span queue. -/
def Obligations.SpanSlotsEnterTheirQueue : Prop :=
  ∀ (q : BitVec 4) (g1 : Bool) (w : BitVec 120) (s t : State),
    (s.issues q (4 + b2n g1) 0x01 w t → t.spanFree q g1 (slotOf 0x01 w) → exec (.span q g1 w) s = .next (t.queued q g1 (slotOf 0x01 w))) ∧
    (s.issues q (4 + b2n g1) 0x02 w t → t.spanFree q g1 (slotOf 0x02 w) → exec (.bswitch q g1 w) s = .next (t.queued q g1 (slotOf 0x02 w))) ∧
    (s.issues q (4 + b2n g1) 0x03 w t → t.spanFree q g1 (slotOf 0x03 w) → exec (.bload q g1 w) s = .next (t.queued q g1 (slotOf 0x03 w))) ∧
    (s.issues q (4 + b2n g1) 0x04 w t → t.spanFree q g1 (slotOf 0x04 w) → exec (.brelease q g1 w) s = .next (t.queued q g1 (slotOf 0x04 w))) ∧
    (s.issues q (4 + b2n g1) 0x05 w t → t.spanFree q g1 (slotOf 0x05 w) → exec (.gopen q g1 w) s = .next (t.queued q g1 (slotOf 0x05 w))) ∧
    (s.issues q (4 + b2n g1) 0x06 w t → t.spanFree q g1 (slotOf 0x06 w) → exec (.gclose q g1 w) s = .next (t.queued q g1 (slotOf 0x06 w)))

/-- R185, R220, R225: a V slot puts its operation, with the address and scalar registers it read at issue, at the end of the
vector queue, and QUEUED counts it. -/
def Obligations.VectorSlotsEnterTheQueue : Prop :=
  ∀ (q : BitVec 4) (w : BitVec 120) (s t : State),
    (s.issues q 6 0x01 w t → exec (.vadd q w) s = .next (t.vqueued q (slotOf 0x01 w))) ∧
    (s.issues q 6 0x02 w t → exec (.vsub q w) s = .next (t.vqueued q (slotOf 0x02 w))) ∧
    (s.issues q 6 0x03 w t → exec (.vmul q w) s = .next (t.vqueued q (slotOf 0x03 w))) ∧
    (s.issues q 6 0x04 w t → exec (.vfma q w) s = .next (t.vqueued q (slotOf 0x04 w))) ∧
    (s.issues q 6 0x05 w t → exec (.vmin q w) s = .next (t.vqueued q (slotOf 0x05 w))) ∧
    (s.issues q 6 0x06 w t → exec (.vmax q w) s = .next (t.vqueued q (slotOf 0x06 w))) ∧
    (s.issues q 6 0x07 w t → exec (.vscale q w) s = .next (t.vqueued q (slotOf 0x07 w))) ∧
    (s.issues q 6 0x10 w t → exec (.vexp q w) s = .next (t.vqueued q (slotOf 0x10 w))) ∧
    (s.issues q 6 0x11 w t → exec (.vlog q w) s = .next (t.vqueued q (slotOf 0x11 w))) ∧
    (s.issues q 6 0x12 w t → exec (.vrcp q w) s = .next (t.vqueued q (slotOf 0x12 w))) ∧
    (s.issues q 6 0x13 w t → exec (.vrsqrt q w) s = .next (t.vqueued q (slotOf 0x13 w))) ∧
    (s.issues q 6 0x18 w t → exec (.vsum q w) s = .next (t.vqueued q (slotOf 0x18 w))) ∧
    (s.issues q 6 0x19 w t → exec (.vrmax q w) s = .next (t.vqueued q (slotOf 0x19 w))) ∧
    (s.issues q 6 0x20 w t → exec (.wadd q w) s = .next (t.vqueued q (slotOf 0x20 w))) ∧
    (s.issues q 6 0x21 w t → exec (.wcvt q w) s = .next (t.vqueued q (slotOf 0x21 w))) ∧
    (s.issues q 6 0x28 w t → exec (.fft q w) s = .next (t.vqueued q (slotOf 0x28 w))) ∧
    (s.issues q 6 0x29 w t → exec (.ifft q w) s = .next (t.vqueued q (slotOf 0x29 w))) ∧
    (s.issues q 6 0x2A w t → exec (.vmag2 q w) s = .next (t.vqueued q (slotOf 0x2A w))) ∧
    (s.issues q 6 0x30 w t → exec (.quant q w) s = .next (t.vqueued q (slotOf 0x30 w))) ∧
    (s.issues q 6 0x31 w t → exec (.dequant q w) s = .next (t.vqueued q (slotOf 0x31 w))) ∧
    (s.issues q 6 0x40 w t → exec (.drain q w) s = .next (t.vqueued q (slotOf 0x40 w)))

/-- R177 to R179, R187, R201, R214, R221: MOV, SIGNAL, WAIT, FENCE, LIVE, COPY of aligned permitted blocks, and NOP. -/
def Obligations.ExchangeCopyAndNopSlots : Prop :=
  ∀ (q : BitVec 4) (j : BitVec 3) (w : BitVec 120) (seen : Bool) (s t : State),
    (s.issues q 7 0x01 w t → exec (.mov q w) s = .next (((t.putReg q.toNat (specReg (sRD (slotOf 0x01 w)))
      (t.src q.toNat (sRA (slotOf 0x01 w)))).endSlot q.toNat 7).settle)) ∧
    (s.issues q 7 0x02 w t → exec (.signal q w) s = .next (((t.modQ q.toNat (fun x => { x with
      signals := x.signals ++ [⟨x.nextSeq, xTarget (slotOf 0x02 w), xCounter (slotOf 0x02 w), x.pc⟩]
      nextSeq := x.nextSeq + 1 })).endSlot q.toNat 7).settle)) ∧
    (s.issues q 7 0x03 w t → exec (.wait q w) s = .next ((((t.modQ q.toNat (fun x => { x with
      waiting := some (xWaitCtr (slotOf 0x03 w), x.snap.sN (xWaitV (slotOf 0x03 w)) % 2 ^ 32) })).raise
      (R.QSTATUS q.toNat) F.QSTATUS_WAITING).endSlot q.toNat 7).settle)) ∧
    (s.issues q 7 0x04 w t → exec (.fence q w) s = .next (((t.modQ q.toNat (fun x => { x with
      fence := some x.nextSeq })).endSlot q.toNat 7).settle)) ∧
    (s.issues q 7 0x05 w t → exec (.live q w seen) s = .next (((((t.pendReg q.toNat (specReg (sRD (slotOf 0x05 w)))
      (match xWhich (slotOf 0x05 w) with
        | 0 => t.now
        | 1 => b2n seen
        | _ => t.regN (R.RAIL (q.toNat / 4))) none).raise (R.QSTATUS q.toNat) F.QSTATUS_LIVE_READ).raise
      (R.QERR q.toNat) F.QERR_LIVE_READ).endSlot q.toNat 7).settle)) ∧
    ((t.qtr q.toNat).snap.aN (mcSrc (slotOf 0x10 w)) % 64 = 0 → (t.qtr q.toNat).snap.aN (mcDst (slotOf 0x10 w)) % 64 = 0 →
      t.copyLen q (slotOf 0x10 w) % 64 = 0 →
      t.check q.toNat ((t.qtr q.toNat).snap.aN (mcSrc (slotOf 0x10 w))) (t.copyLen q (slotOf 0x10 w)) false = .ok →
      t.check q.toNat ((t.qtr q.toNat).snap.aN (mcDst (slotOf 0x10 w))) (t.copyLen q (slotOf 0x10 w)) true = .ok →
      t.inOrder q.toNat (t.qtr q.toNat).nextSeq ((t.qtr q.toNat).snap.aN (mcSrc (slotOf 0x10 w))) (t.copyLen q (slotOf 0x10 w)) false = true →
      t.inOrder q.toNat (t.qtr q.toNat).nextSeq ((t.qtr q.toNat).snap.aN (mcDst (slotOf 0x10 w))) (t.copyLen q (slotOf 0x10 w)) true = true →
      s.issues q 3 0x10 w t → exec (.copy q w) s = .next (((((t.issued q).copyBlocks q.toNat
        ((t.qtr q.toNat).snap.aN (mcSrc (slotOf 0x10 w))) ((t.qtr q.toNat).snap.aN (mcDst (slotOf 0x10 w)))
        (t.copyLen q (slotOf 0x10 w) / 64)).outstand q.toNat (t.qtr q.toNat).nextSeq).endSlot q.toNat 3).settle)) ∧
    (s.issues q j.toNat 0 0#120 t → exec (.nop q j) s = .next ((t.endSlot q.toNat j.toNat).settle))

/-- R170, R177 to R180, R186, R193, R257: what was issued completes: a result lands, a write becomes visible, a signal counts at its
target, waits and fences end, a done quarter is DONE, and one without progress has a hardware fault. -/
def Obligations.CompletionsOfASequencer : Prop :=
  ∀ (s : State),
    (∀ (q : BitVec 4) (i : Nat) (p : PendingWrite), (s.qtr q.toNat).pend[i]? = some p →
      exec (.resultWriteback q i) s =
        .next (State.settle (s.modQ q.toNat (fun x => { x with
          pend := x.pend.eraseIdx i
          regs := x.regs.put p.dest p.val
          outst := match p.memSeq with
            | some n => x.outst.filter (fun m => m != n)
            | none => x.outst })))) ∧
    (∀ (q : BitVec 4) (i : Nat) (n : Nat), ((s.qtr q.toNat).outst.filter (fun n => !(s.qtr q.toNat).pend.any (fun p => p.memSeq == some n)))[i]? = some n →
      exec (.writeComplete q i) s =
        .next (State.settle (s.modQ q.toNat (fun x => { x with outst := x.outst.filter (fun m => m != n) })))) ∧
    (∀ (q : BitVec 4) (i : Nat) (g : PendingSignal), (s.qtr q.toNat).signals[i]? = some g →
      s.memDone q.toNat g.seq = true →
      (s.qState g.target = 2 ∨ s.qState g.target = 3) →
      exec (.signalDelivery q i) s =
        .next (State.settle ((s.modQ q.toNat (fun x => { x with signals := x.signals.eraseIdx i })).modQ g.target
          (fun x => { x with sc := setNth x.sc g.ctr (nth x.sc g.ctr 0#32 + 1#32) })))) ∧
    (∀ (q : BitVec 4) (c v : Nat), (s.qtr q.toNat).waiting = some (c, v) →
      v ≤ (nth (s.qtr q.toNat).sc c 0#32).toNat →
      exec (.waitComplete q) s =
        .next (State.settle ((s.modQ q.toNat (fun x => { x with waiting := none })).drop (R.QSTATUS q.toNat) F.QSTATUS_WAITING))) ∧
    (∀ (q : BitVec 4) (n : Nat), (s.qtr q.toNat).fence = some n →
      s.memDone q.toNat n = true →
      exec (.fenceComplete q) s =
        .next (State.settle (s.modQ q.toNat (fun x => { x with fence := none })))) ∧
    (∀ (q : BitVec 4) (t dur : Nat), s.qState q.toNat = 2 →
      (s.qtr q.toNat).faulted = false →
      (s.qtr q.toNat).drained = true →
      (s.qtr q.toNat).groupOpen = false →
      allQ.any (fun k => (((s.at t).setQState q.toNat 3).modQ q.toNat (fun x => { x with doneAt := some t })).qState k == 2) = true →
      exec (.doneReport q t dur) s =
        .next (State.settle (((s.at t).setQState q.toNat 3).modQ q.toNat (fun x => { x with doneAt := some t })))) ∧
    (∀ (q : BitVec 4) (idle : Nat), s.qState q.toNat = 2 →
      (s.qtr q.toNat).waiting = none →
      100000 ≤ idle →
      exec (.noProgress q idle) s =
        .next (State.settle (s.hwFault q.toNat 0x42 ((s.qtr q.toNat).lastLw.getD 0) 0 2 4 (unitNo q.toNat 0 0)))) ∧
    (∀ (q : BitVec 4), s.getF (R.FAULT_LIMIT q.toNat) F.FAULT_LIMIT_LIMIT ≠ 0 →
      s.getF (R.FAULT_LIMIT q.toNat) F.FAULT_LIMIT_LIMIT ≤ (s.qtr q.toNat).faultRun →
      (s.qState q.toNat = 0 ∨ s.qState q.toNat = 1) →
      exec (.quarterHalt q) s =
        .next (State.settle (((((s.abandonQ q.toNat).setQState q.toNat 4).raise (R.QERR q.toNat) F.QERR_HALTED).loseQ [q.toNat]).modR
          (fun r => { r with lossNote := some ⟨2, 1, unitNo q.toNat 0 0, 0⟩ }))))

/-- R225, R240, R241, R244, R247: the next vector operation starts when none is in progress and its checks pass; one whose input has
arrived writes its result bytes, counts, and sends its status; one that nothing will feed raises VE_STARVED. -/
def Obligations.VectorEngineRuns : Prop :=
  ∀ (s : State),
    (∀ (q : BitVec 4) (o : VecOp) (rest : List VecOp), (s.qtr q.toNat).vcur = none →
      (s.qtr q.toNat).vq = o :: rest →
      s.vecFault q.toNat o = none →
      (s.vecCheck q.toNat o).1 = .ok →
      exec (.veOpStart q) s =
        .next (State.settle (s.vecStarts q.toNat o rest))) ∧
    (∀ (q : BitVec 4) (o : VecOp), (s.qtr q.toNat).vcur = some o →
      (o.kind = 0 ∨ o.len ≤ (s.vecWords q.toNat o).length) →
      o.srcs.all (fun p => s.inOrder q.toNat o.seq p.1 p.2 false) = true →
      s.inOrder q.toNat o.seq o.dst o.dstLen true = true →
      (s.vecCheck q.toNat o).1 = .ok →
      exec (.veOpComplete q false) s =
        .next (State.settle (s.vecEnds q.toNat o))) ∧
    (∀ (q : BitVec 4) (o : VecOp), (s.qtr q.toNat).vcur = some o →
      exec (.veOpComplete q true) s =
        .next (State.settle ((s.raise (R.VE_ERR q.toNat) F.VE_ERR_CHECK).hwFault q.toNat 0x43 o.lw 6 2 0 (unitNo q.toNat 0 0)))) ∧
    (∀ (q : BitVec 4) (o : VecOp), s.checkUndrained q.toNat = s →
      (s.qtr q.toNat).faulted = false →
      (s.qtr q.toNat).vcur = some o →
      o.kind ≠ 0 →
      (nth (s.qtr q.toNat).feeds (if o.kind = 1 then 0 else 1 + o.port) []).length < o.len →
      s.willFeed q.toNat (if o.kind = 1 then 0 else 1 + o.port) = false →
      s.cannotIssue q.toNat = true →
      exec (.veStarved q) s =
        .next (State.settle (s.progFault q.toNat 0x28 o.lw 6)))

/-- R109, R112, R115, R183, R216, R217: a queued load starts one job for each grain, in K_POS order; a job writes its bank and records
source and CRC; a ready bank becomes the active one of every grain; a released bank becomes EMPTY. -/
def Obligations.BanksOfASpan : Prop :=
  ∀ (s : State),
    (∀ (q : BitVec 4) (sp : BitVec 7) (o : SpanOp) (d : SpanDesc), s.headOp q.toNat sp.toNat .bload = some o →
      s.img.run.span q.toNat sp.toNat = some d →
      o.src % 64 = 0 →
      o.ustr % 64 = 0 →
      ((s.spanFmt q.toNat sp.toNat).1 = 2 → o.xsrc % 64 = 0 ∧ o.xstr % 64 = 0) →
      (∀ p ∈ s.kGrains q.toNat sp.toNat d, s.check q.toNat (o.loadSrc p.1) 8192 false = .ok) →
      ((s.spanFmt q.toNat sp.toNat).1 = 2 → ∀ p ∈ s.kGrains q.toNat sp.toNat d, s.check q.toNat (o.loadXsrc (s.spanFmt q.toNat sp.toNat).1 p.1) 256 false = .ok) →
      (∀ p ∈ s.kGrains q.toNat sp.toNat d, s.gActive q.toNat p.2 ≠ o.bank) →
      exec (.bankLoadStart q sp) s =
        .next (State.settle (s.queueLoads q.toNat sp.toNat (s.spanFmt q.toNat sp.toNat).1 o (s.kGrains q.toNat sp.toNat d)))) ∧
    (∀ (q : BitVec 4) (j : LoadJob), s.headJob q.toNat = some j →
      j.kind = 0 →
      s.inOrder q.toNat j.seq j.src 8192 false = true →
      s.inOrder q.toNat j.seq j.xsrc (s.jobExp j) false = true →
      s.jobCheck j = .ok →
      exec (.bankLoadComplete q) s =
        .next (State.settle (s.bankLoaded q.toNat j))) ∧
    (∀ (q : BitVec 4) (j : LoadJob), s.headJob q.toNat = some j →
      j.kind ≠ 0 →
      s.check q.toNat j.src 8192 false = .ok →
      s.check q.toNat j.xsrc (s.jobExp j) false = .ok →
      (j.crc = none ∨ j.crc = some (crc32 (s.load j.src 8192 ++ s.load j.xsrc (s.jobExp j)))) →
      exec (.bankRestoreComplete q false) s =
        .next (State.settle (s.bankFilled q.toNat j))) ∧
    (∀ (q : BitVec 4) (sp : BitVec 7) (o : SpanOp) (d : SpanDesc), s.headOp q.toNat sp.toNat .bswitch = some o →
      s.img.run.span q.toNat sp.toNat = some d →
      (∀ g ∈ ((s.kGrains q.toNat sp.toNat d).map Prod.snd), s.bank q.toNat g o.bank = 2) →
      exec (.bankSwitchEffect q sp) s =
        .next (State.settle (((s.kGrains q.toNat sp.toNat d).map Prod.snd).foldl (fun s g =>
          (s.noteActive q.toNat g).setF (R.GSTATE q.toNat g) F.GSTATE_ACTIVE_BANK o.bank) (s.popOp q.toNat sp.toNat)))) ∧
    (∀ (q : BitVec 4) (sp : BitVec 7) (o : SpanOp) (d : SpanDesc), s.headOp q.toNat sp.toNat .brelease = some o →
      s.img.run.span q.toNat sp.toNat = some d →
      (∀ g ∈ ((s.kGrains q.toNat sp.toNat d).map Prod.snd), s.gActive q.toNat g ≠ o.bank ∧ s.bank q.toNat g o.bank ≠ 1) →
      exec (.bankReleaseEffect q sp) s =
        .next (State.settle (((s.kGrains q.toNat sp.toNat d).map Prod.snd).foldl (fun s g =>
          if s.bank q.toNat g o.bank = 2 ∨ s.bank q.toNat g o.bank = 3 then
            (s.noteBank q.toNat g o.bank).setBank q.toNat g o.bank 0 else s) (s.popOp q.toNat sp.toNat))))

/-- R107, R112, R139 to R142, R154, R217: a checked issue starts its pass, a row without a check error enters its group or is
streamed, a checked GOPEN opens its group, a checked GCLOSE starts draining, and a drain delivers its words or its bytes. -/
def Obligations.GroupsAndPassesOfASpan : Prop :=
  ∀ (s : State),
    (∀ (q : BitVec 4) (sp : BitVec 7) (o : SpanOp) (d : SpanDesc), s.headOp q.toNat sp.toNat .span = some o →
      s.img.run.span q.toNat sp.toNat = some d →
      o.rows ≠ 0 →
      o.rows ≤ d.tileRows →
      o.a % 64 = 0 →
      o.t % 64 = 0 →
      rowBytes (s.spanFmt q.toNat sp.toNat).2 d.grains ≤ o.t →
      scratchBase q.toNat ≤ o.a →
      o.a + (o.rows - 1) * o.t + rowBytes (s.spanFmt q.toNat sp.toNat).2 d.grains ≤ scratchBase q.toNat + 0x200000 →
      opMisaligned d o = false →
      (o.opn = 2 → s.inOrder q.toNat o.seq o.osrc 64 false = true) →
      (d.streaming = false → (s.opMemory q.toNat d (s.spanFmt q.toNat sp.toNat).1 o.rows o).1 = .ok) →
      s.passGroupCheck q.toNat sp.toNat d (s.spanFmt q.toNat sp.toNat).1 o = .ok →
      (∀ g ∈ ((s.kGrains q.toNat sp.toNat d).map Prod.snd), s.bank q.toNat g (s.gActive q.toNat g) = 2) →
      exec (.passStart q sp) s =
        .next (State.settle (s.passStarts q.toNat sp.toNat d (s.spanFmt q.toNat sp.toNat).1 o))) ∧
    (∀ (q : BitVec 4) (sp : BitVec 7) (o : SpanOp) (d : SpanDesc) (p : PassSt), (s.span q.toNat sp.toNat).pass = some p →
      p.op = o →
      s.img.run.span q.toNat sp.toNat = some d →
      s.inOrder q.toNat o.seq (o.a + p.done * o.t) (rowBytes (s.spanFmt q.toNat sp.toNat).2 d.grains) false = true →
      s.check q.toNat (o.a + p.done * o.t) (rowBytes (s.spanFmt q.toNat sp.toNat).2 d.grains) false = .ok →
      (d.streaming = true → o.cls ≠ 2 → s.fusedCheck q.toNat sp.toNat d o.opoff (colsOf (s.spanFmt q.toNat sp.toNat).1) p.done 1 = .ok) →
      exec (.spanRowEgress q sp none none) s =
        .next (State.settle (s.rowEnters q.toNat sp.toNat d p))) ∧
    (∀ (q : BitVec 4) (sp : BitVec 7) (o : SpanOp) (d : SpanDesc), s.headOp q.toNat sp.toNat .gopen = some o →
      s.img.run.span q.toNat sp.toNat = some d →
      d.streaming = false →
      (o.opn = 1 → 0 < o.rows ∧ o.rows ≤ d.tileRows) →
      opMisaligned d o = false →
      (o.opn = 2 → s.inOrder q.toNat o.seq o.osrc 64 false = true) →
      (s.opMemory q.toNat d (s.spanFmt q.toNat sp.toNat).1 o.rows o).1 = .ok →
      o.group < d.groups →
      ((s.span q.toNat sp.toNat).group o.group).st ≠ 2 →
      openFault s d (s.spanFmt q.toNat sp.toNat).1 o ((s.span q.toNat sp.toNat).group o.group) o.rows = .ok →
      exec (.groupOpenEffect q sp) s =
        .next (State.settle ((s.popOp q.toNat sp.toNat).openGroup q.toNat sp.toNat d (s.spanFmt q.toNat sp.toNat).1 o o.rows))) ∧
    (∀ (q : BitVec 4) (sp : BitVec 7) (o : SpanOp) (d : SpanDesc), s.headOp q.toNat sp.toNat .gclose = some o →
      s.img.run.span q.toNat sp.toNat = some d →
      d.streaming = false →
      opMisaligned d o = false →
      o.group < d.groups →
      ((s.span q.toNat sp.toNat).group o.group).st = 1 →
      (s.opMemory q.toNat d (s.spanFmt q.toNat sp.toNat).1 ((s.span q.toNat sp.toNat).group o.group).rows o).1 = .ok →
      (o.cls = 2 → ((s.span q.toNat sp.toNat).group o.group).mode = 0) →
      s.fusedShort q.toNat sp.toNat d o ((s.span q.toNat sp.toNat).group o.group).rows (colsOf (s.spanFmt q.toNat sp.toNat).1) = false →
      exec (.groupCloseEffect q sp) s =
        .next (State.settle (s.startDrain q.toNat sp.toNat o))) ∧
    (∀ (q : BitVec 4) (sp : BitVec 7) (d : SpanDesc) (dr : DrainSt) (rest : List DrainSt), (s.span q.toNat sp.toNat).drains = dr :: rest →
      s.img.run.span q.toNat sp.toNat = some d →
      dr.op.cls = 1 →
      s.closeAhead q.toNat dr.op.seq = false →
      s.fusedCheck q.toNat sp.toNat d dr.op.opoff (colsOf (s.spanFmt q.toNat sp.toNat).1) 0 ((s.span q.toNat sp.toNat).group dr.group).rows = .ok →
      exec (.drainComplete q sp) s =
        .next (State.settle (s.drainValue q.toNat sp.toNat d dr rest))) ∧
    (∀ (q : BitVec 4) (sp : BitVec 7) (d : SpanDesc) (dr : DrainSt) (rest : List DrainSt), (s.span q.toNat sp.toNat).drains = dr :: rest →
      s.img.run.span q.toNat sp.toNat = some d →
      dr.op.cls ≠ 1 →
      s.inOrder q.toNat dr.op.seq dr.op.cdst (closeBytes dr.op.cls ((s.span q.toNat sp.toNat).group dr.group).rows (colsOf (s.spanFmt q.toNat sp.toNat).1)) true = true →
      s.check q.toNat dr.op.cdst (closeBytes dr.op.cls ((s.span q.toNat sp.toNat).group dr.group).rows (colsOf (s.spanFmt q.toNat sp.toNat).1)) true = .ok →
      exec (.drainComplete q sp) s =
        .next (State.settle (s.drainMemory q.toNat sp.toNat d dr rest)))

/-- R124 to R127: a test starts on the next eligible bank, ends with EMPTY and counts, a failure leaves the grain to be retired; a
scrub counts a corrected error and makes a bank with an uncorrectable one STALE. -/
def Obligations.GrainTestsAndScrubs : Prop :=
  ∀ (s : State),
    (∀ (q : BitVec 4) (k : Nat), s.flag (R.SELFTEST_CTRL (q.toNat / 4)) F.SELFTEST_CTRL_ENABLE = true →
      s.getF (R.SELFTEST_CTRL (q.toNat / 4)) F.SELFTEST_CTRL_GAP ≤ (s.qtr q.toNat).testGap →
      (s.qtr q.toNat).test = none →
      ((List.range 384).map (fun i => ((s.qtr q.toNat).testRot + i) % 384)).find? (fun k => s.eligible q.toNat (k / 4) (k % 4)) = some k →
      exec (.selftestStart q) s =
        .next (State.settle ((s.setBank q.toNat (k / 4) (k % 4) 4).modQ q.toNat
          (fun x => { x with test := some (k / 4, k % 4), testRot := (k + 1) % 384, testGap := 0 })))) ∧
    (∀ (q : BitVec 4) (g b : Nat), (s.qtr q.toNat).test = some (g, b) →
      exec (.marchTestComplete q false) s =
        .next (State.settle (((((s.modQ q.toNat (fun x => { x with test := none })).setBank q.toNat g b 0).inc (R.MARCH_CNT q.toNat g)).inc
          (R.SELFTEST_PASSES (q.toNat / 4))).notePair (some (384 * q.toNat + 4 * g + b)) false false))) ∧
    (∀ (q : BitVec 4) (g b : Nat), (s.qtr q.toNat).test = some (g, b) →
      exec (.marchTestComplete q true) s =
        .next (State.settle ((s.endTest q.toNat true).notePair (some (384 * q.toNat + 4 * g + b)) true false))) ∧
    (∀ (q : BitVec 4) (g : Fin 96) (b : BitVec 2), s.bank q.toNat g.val b.toNat = 2 →
      s.gActive q.toNat g.val ≠ b.toNat →
      exec (.grainScrub q g b 1) s =
        .next (State.settle (s.incSat (R.ECC_CNT q.toNat g.val)))) ∧
    (∀ (q : BitVec 4) (g : Fin 96) (b : BitVec 2), s.bank q.toNat g.val b.toNat = 2 →
      s.gActive q.toNat g.val ≠ b.toNat →
      exec (.grainScrub q g b 2) s =
        .next (State.settle (((((s.noteBank q.toNat g.val b.toNat).setBank q.toNat g.val b.toNat 3).eccGrain q.toNat g.val).inc R.LATENT_CNT).event 4 2 10
          (unitNo q.toNat ((((s.noteBank q.toNat g.val b.toNat).setBank q.toNat g.val b.toNat 3).eccGrain q.toNat g.val).gSpanOf q.toNat g.val) g.val) 0)))

/-- R83 to R92, R98: an accepted IMG_CMD or SEQ_FLOOR write stages, verifies, arms, cancels or selects when the pending image is in
the state its command needs. -/
def Obligations.ImageCommandsOfTheHost : Prop :=
  ∀ (s : State),
    (∀ (p : Machine.Path) (role : BitVec 2) (u : State), s.accepts u p role R.IMG_CMD 1 →
      u.pendSt ≠ 1 →
      u.pendSt ≠ 2 →
      u.pendSt ≠ 5 →
      exec (.stageBegin p role) s =
        .next (State.settle (u.dropPend.setPend 1))) ∧
    (∀ (p : Machine.Path) (role : BitVec 2) (u : State), s.accepts u p role R.IMG_CMD 2 →
      u.pendSt = 1 →
      u.regN R.RECV_BYTES = u.regN R.PENDING_LEN →
      exec (.verify p role) s =
        .next (State.settle (u.setPend 2))) ∧
    (∀ (p : Machine.Path) (role : BitVec 2) (u : State), s.accepts u p role R.IMG_CMD 3 →
      u.pendSt = 3 →
      (imgKind u.img.pend ≠ 1 ∨ (imgSecs u.img.pend).all (fun x => x.cls == 0) = false) →
      u.reg64 R.ACT_EPOCH_LO ≠ 2 ^ 64 - 1 →
      u.restartArmed = false →
      u.epoch + 2 ≤ u.reg64 R.ACT_EPOCH_LO →
      (imgKind u.img.pend = 0 → (cfgOf u.img.pend none).period = u.img.run.period ∧ (cfgOf u.img.pend none).phase = u.img.run.phase) →
      exec (.arm p role) s =
        .next (State.settle ((u.setPend 4).modImg (fun m => { m with armEpoch := some (u.reg64 R.ACT_EPOCH_LO) })))) ∧
    (∀ (p : Machine.Path) (role : BitVec 2) (u : State), s.accepts u p role R.IMG_CMD 3 →
      u.pendSt = 3 →
      imgKind u.img.pend = 1 →
      (imgSecs u.img.pend).all (fun x => x.cls == 0) = true →
      u.restartArmed = false →
      u.partialRefusal u.img.pend = none →
      exec (.arm p role) s =
        .next (State.settle ((u.setPend 5).mergePartial))) ∧
    (∀ (p : Machine.Path) (role : BitVec 2) (u : State), s.accepts u p role R.IMG_CMD 3 →
      u.pendSt = 3 →
      imgKind u.img.pend = 0 →
      u.reg64 R.ACT_EPOCH_LO = 2 ^ 64 - 1 →
      exec (.arm p role) s =
        .next (State.settle ((u.armRestart u.otherSlot (fun s => s.setSlot s.otherSlot ⟨u.img.pend, []⟩)).dropPend))) ∧
    (∀ (p : Machine.Path) (role : BitVec 2) (u : State), s.accepts u p role R.IMG_CMD 3 →
      u.pendSt = 3 →
      imgKind u.img.pend ≠ 0 →
      (imgKind u.img.pend ≠ 1 ∨ (imgSecs u.img.pend).all (fun x => x.cls == 0) = false) →
      u.reg64 R.ACT_EPOCH_LO = 2 ^ 64 - 1 →
      u.img.sel % 2 = u.activeSlot →
      exec (.arm p role) s =
        .next (State.settle ((u.armRestart (u.activeSlot + 2) (fun s => s.setSlot u.activeSlot { s.slot u.activeSlot with overlay := u.img.pend })).dropPend))) ∧
    (∀ (p : Machine.Path) (role : BitVec 2) (u : State), s.accepts u p role R.IMG_CMD 4 →
      u.pendSt ≠ 5 →
      exec (.cancel p role) s =
        .next (State.settle ((if u.pendSt = 0 ∨ u.pendSt = 6 then u.withdrawRestart else u).dropPend))) ∧
    (∀ (p : Machine.Path) (role : BitVec 2) (u : State), s.accepts u p role R.IMG_CMD 5 →
      u.restartArmed = false →
      (u.slot u.otherSlot).full.isEmpty = false →
      u.regN R.SEQ_FLOOR_LO ≤ imgSeq (u.slot u.otherSlot).full →
      exec (.selectPrevious p role) s =
        .next (State.settle (u.armRestart (u.otherSlot + 2 * b2n (!(u.slot u.otherSlot).overlay.isEmpty)) id))) ∧
    (∀ (p : Machine.Path) (role : BitVec 2) (v : BitVec 32) (u : State), s.acceptsPair u p role R.SEQ_FLOOR_LO v.toNat →
      u.regN R.SEQ_FLOOR_LO ≤ v.toNat →
      exec (.seqFloorWrite p role v) s =
        .next (State.settle (u.setPair R.SEQ_FLOOR_LO v.toNat)))

/-- R64, R190, R196, R375, R402, R403, R407, R411, R414, R562, R567, R568 and the chapters of each: an accepted write of a live
command register has its effect at once. -/
def Obligations.CommandWritesOfTheHost : Prop :=
  ∀ (s : State),
    (∀ (p : Machine.Path) (role : BitVec 2) (u : State), s.accepts u p role R.TIME_CMD 1 →
      u.flag R.TIME_STATUS F.TIME_STATUS_DIVERGED = true →
      0 < u.time.offset →
      exec (.acceptStep p role) s =
        .next (State.settle (u.modT (fun t => { t with stepAsked := true })))) ∧
    (∀ (p : Machine.Path) (role : BitVec 2) (force : Bool) (u : State), s.accepts u p role R.SYS_CMD (1 + 16 * b2n force) →
      (u.power = 2 ∨ u.power = 3 ∨ u.power = 4) →
      (u.holdsToken = false ∨ force = true) →
      exec (.restart p role force) s =
        .next (State.settle (u.modP (fun x => { x with restart := true })))) ∧
    (∀ (p : Machine.Path) (role : BitVec 2) (u : State), s.accepts u p role R.PWR_CMD 1 →
      u.power = 2 →
      u.holdsToken = false →
      exec (.svcEnter p role) s =
        .next (State.settle (u.modP (fun x => { x with svc := some 1 })))) ∧
    (∀ (p : Machine.Path) (role : BitVec 2) (u : State), s.accepts u p role R.PWR_CMD 2 →
      u.power = 4 →
      exec (.svcExit p role) s =
        .next (State.settle (u.modP (fun x => { x with svc := some 2 })))) ∧
    (∀ (p : Machine.Path) (role : BitVec 2) (d : BitVec 2) (u : State), s.accepts u p role R.PWR_CMD (3 + 16 * d.toNat) →
      ((dieQ d.toNat).all (fun q => u.qState q == 0 || u.qState q == 4) = true ∨ (dieQ d.toNat).all u.isLost = true) →
      (u.flag R.PWR_STATUS (dieTripFld d.toNat) = false ∨ u.temp (R.TEMP_DIE d.toNat) < 850) →
      exec (.dieReset p role d) s =
        .next (State.settle (u.modP (fun x => { x with dieAsked := x.dieAsked ++ [d.toNat] })))) ∧
    (∀ (p : Machine.Path) (role : BitVec 2) (v : BitVec 32) (u : State), s.accepts u p role R.FAN_CTRL v.toNat →
      20 ≤ F.FAN_CTRL_DUTY.get v →
      F.FAN_CTRL_DUTY.get v ≤ 100 →
      60 ≤ F.FAN_CTRL_TARGET.get v →
      F.FAN_CTRL_TARGET.get v ≤ 90 →
      10 ≤ F.FAN_CTRL_FAN_MIN.get v →
      F.FAN_CTRL_FAN_MIN.get v ≤ 50 →
      (F.FAN_CTRL_MANUAL.get v = 0 ∨ u.power = 4) →
      exec (.fanCtrlWrite p role v) s =
        .next (State.settle ((u.setReg R.FAN_CTRL (v &&& 0xFFFFFF01#32)).setDuty))) ∧
    (∀ (p : Machine.Path) (role : BitVec 2) (u : State), s.accepts u p role R.HARB_CMD 1 →
      u.vote = 0 →
      u.now + 200000000 ≤ u.reg64 R.HARB_T_LO →
      (u.harbBegin (u.reg64 R.HARB_T_LO)).vetoReason (u.reg64 R.HARB_T_LO) false = 0 →
      exec (.harbPropose p role) s =
        .next (State.settle ((u.harbBegin (u.reg64 R.HARB_T_LO)).harbTryCommit))) ∧
    (∀ (p : Machine.Path) (role : BitVec 2) (u : State), s.accepts u p role R.HARB_CMD 2 →
      u.vote ≠ 0 →
      exec (.harbWake p role) s =
        .next (State.settle (u.wakeUp 3 u.serial u.now true))) ∧
    (∀ (p : Machine.Path) (role : BitVec 2) (u : State), s.accepts u p role R.PAIR_CMD 1 →
      u.pairState = 5 →
      u.partnerHealthy = true →
      exec (.switch p role) s =
        .next (State.settle (u.modPair (fun x => { x with switchAsk := some 1 })))) ∧
    (∀ (p : Machine.Path) (role : BitVec 2) (u : State), s.accepts u p role R.PAIR_CMD 1 →
      u.pairState = 3 →
      exec (.switch p role) s =
        .next (State.settle (u.forwardEntries [(0, 0, 0)]))) ∧
    (∀ (p : Machine.Path) (role : BitVec 2) (u : State), s.accepts u p role R.PAIR_CMD 2 →
      (u.pairState = 1 ∨ u.pairState = 2 ∨ u.pairState = 3 ∨ u.pairState = 7) →
      exec (.detach p role) s =
        .next (State.settle (((u.raise R.PAIR_STATUS F.PAIR_STATUS_DETACH_HELD).modPair (fun x => { x with reason := 0 })).pairFollow))) ∧
    (∀ (p : Machine.Path) (role : BitVec 2) (u : State), s.accepts u p role R.PAIR_CMD 3 →
      u.pairState ≠ 0 →
      exec (.attach p role) s =
        .next (State.settle ((u.drop R.PAIR_STATUS F.PAIR_STATUS_DETACH_HELD).pairFollow))) ∧
    (∀ (p : Machine.Path) (role : BitVec 2) (q : BitVec 4) (u : State), s.accepts u p role (R.QCMD q.toNat) 1 →
      exec (.start p role q) s =
        .next (State.settle (((u.modQ q.toNat (fun x => { x with shadow := some 1 })).setF (R.QSTATUS q.toNat)
          F.QSTATUS_START_PENDING 1).setF (R.QSTATUS q.toNat) F.QSTATUS_STOP_PENDING 0))) ∧
    (∀ (p : Machine.Path) (role : BitVec 2) (q : BitVec 4) (u : State), s.accepts u p role (R.QCMD q.toNat) 2 →
      exec (.stop p role q) s =
        .next (State.settle (((u.modQ q.toNat (fun x => { x with shadow := some 2 })).setF (R.QSTATUS q.toNat)
          F.QSTATUS_START_PENDING 0).setF (R.QSTATUS q.toNat) F.QSTATUS_STOP_PENDING 1))) ∧
    (∀ (p : Machine.Path) (role : BitVec 2) (q : BitVec 4) (u : State), s.accepts u p role (R.QDBG q.toNat) 1 →
      u.power = 4 →
      u.qState q.toNat = 0 →
      exec (.debugEnter p role q) s =
        .next (State.settle (((u.launchQ q.toNat).setQState q.toNat 5).setRegN (R.DEBUG_PC q.toNat) ((u.qtr q.toNat).entry % 2048)))) ∧
    (∀ (p : Machine.Path) (role : BitVec 2) (q : BitVec 4) (u : State), s.accepts u p role (R.QDBG q.toNat) 2 →
      u.power = 4 →
      u.qState q.toNat = 5 →
      exec (.debugExit p role q) s =
        .next (State.settle (u.debugExit q.toNat))) ∧
    (∀ (p : Machine.Path) (role : BitVec 2) (q : BitVec 4) (n : BitVec 8) (u : State), s.accepts u p role (R.QDBG q.toNat) (3 + 256 * n.toNat) →
      u.power = 4 →
      n ≠ 0 →
      u.qState q.toNat = 5 →
      exec (.step p role q n) s =
        .next (State.settle (u.modQ q.toNat (fun x => { x with credit := x.credit + n.toNat })))) ∧
    (∀ (p : Machine.Path) (role : BitVec 2) (id : BitVec 32) (u : State), s.accepts u p role R.SESS_KILL id.toNat →
      id ≠ 0 →
      exec (.sessKill p role id) s =
        .next (State.settle (u.closeSess id.toNat))) ∧
    (∀ (p : Machine.Path) (role : BitVec 2) (sec : List Byte) (u : State), s.accepts u p role R.HS_CMD 1 →
      nth u.host.creds (u.getF R.HS_CRED F.HS_CRED_SLOT) none = some sec →
      (∀ a, p.source = some a → u.lockedOut a = false) →
      exec (.sessionOpen p role) s =
        .next (State.settle (u.sessionOpens sec))) ∧
    (∀ (p : Machine.Path) (role : BitVec 2) (u : State), s.accepts u p role R.HS_CMD 2 →
      p.sess ≠ 0 →
      exec (.sessionClose p role) s =
        .next (State.settle (u.closeSess p.sess)))

/-- R573: an accepted write of an epoch-class register goes into its shadow for the next commit. R566 and R567: an accepted SEC_CMD
that its tables allow starts the store. R312: BYPASS_FORCE changes in SERVICE. R586, R590: a debug data write reaches memory. -/
def Obligations.ShadowedAndStoredWrites : Prop :=
  ∀ (s : State),
    (∀ (p : Machine.Path) (role : BitVec 2) (c : BitVec 6) (u : State), s.accepts u p role R.TRIM_CMD (1 + 16 * c.toNat) →
      exec (.trimOpen p role c) s =
        .next (State.settle (u.modHost (fun h => { h with shadows := h.shadows.filter (fun e => e.1 != R.TRIM_CMD) ++ [(R.TRIM_CMD, epochBits (R.TRIM_CMD), 1 + 16 * c.toNat)] })))) ∧
    (∀ (p : Machine.Path) (role : BitVec 2) (u : State), s.accepts u p role R.TRIM_CMD 2 →
      exec (.trimCaptureZero p role) s =
        .next (State.settle (u.modHost (fun h => { h with shadows := h.shadows.filter (fun e => e.1 != R.TRIM_CMD) ++ [(R.TRIM_CMD, epochBits (R.TRIM_CMD), 2)] })))) ∧
    (∀ (p : Machine.Path) (role : BitVec 2) (u : State), s.accepts u p role R.TRIM_CMD 3 →
      exec (.trimCaptureSpan p role) s =
        .next (State.settle (u.modHost (fun h => { h with shadows := h.shadows.filter (fun e => e.1 != R.TRIM_CMD) ++ [(R.TRIM_CMD, epochBits (R.TRIM_CMD), 3)] })))) ∧
    (∀ (p : Machine.Path) (role : BitVec 2) (u : State), s.accepts u p role R.TRIM_CMD 4 →
      exec (.trimCommit p role) s =
        .next (State.settle (u.modHost (fun h => { h with shadows := h.shadows.filter (fun e => e.1 != R.TRIM_CMD) ++ [(R.TRIM_CMD, epochBits (R.TRIM_CMD), 4)] })))) ∧
    (∀ (p : Machine.Path) (role : BitVec 2) (u : State), s.accepts u p role R.TRIM_CMD 5 →
      exec (.trimAbort p role) s =
        .next (State.settle (u.modHost (fun h => { h with shadows := h.shadows.filter (fun e => e.1 != R.TRIM_CMD) ++ [(R.TRIM_CMD, epochBits (R.TRIM_CMD), 5)] })))) ∧
    (∀ (p : Machine.Path) (role : BitVec 2) (u : State), s.accepts u p role R.TAG_CMD 1 →
      exec (.applyStaging p role) s =
        .next (State.settle (u.modHost (fun h => { h with shadows := h.shadows.filter (fun e => e.1 != R.TAG_CMD) ++ [(R.TAG_CMD, epochBits (R.TAG_CMD), 1)] })))) ∧
    (∀ (p : Machine.Path) (role : BitVec 2) (u : State), s.accepts u p role R.REC_CMD 1 →
      exec (.reconfigure p role) s =
        .next (State.settle (u.modHost (fun h => { h with shadows := h.shadows.filter (fun e => e.1 != R.REC_CMD) ++ [(R.REC_CMD, epochBits (R.REC_CMD), 1)] })))) ∧
    (∀ (p : Machine.Path) (role : BitVec 2) (q : BitVec 4) (g : Fin 96) (u : State), s.accepts u p role (R.GCTRL q.toNat g.val) 1 →
      exec (.retire p role q g) s =
        .next (State.settle (u.modHost (fun h => { h with shadows := h.shadows.filter (fun e => e.1 != R.GCTRL q.toNat g.val) ++ [(R.GCTRL q.toNat g.val, epochBits (R.GCTRL q.toNat g.val), 1)] })))) ∧
    (∀ (p : Machine.Path) (role : BitVec 2) (tag : BitVec 8) (len : BitVec 7) (u : State), s.accepts u p role R.RADIO_CMD (tag.toNat + 256 * len.toNat + 2 ^ 15) →
      exec (.radioCmdSend p role tag len) s =
        .next (State.settle (u.modHost (fun h => { h with shadows := h.shadows.filter (fun e => e.1 != R.RADIO_CMD) ++ [(R.RADIO_CMD, epochBits (R.RADIO_CMD), tag.toNat + 256 * len.toNat + 2 ^ 15)] })))) ∧
    (∀ (p : Machine.Path) (role : BitVec 2) (l len : BitVec 6) (u : State), s.accepts u p role R.LD_MSG_CMD (l.toNat + 64 * len.toNat + 4096) →
      exec (.ldMsgSend p role l len) s =
        .next (State.settle (u.modHost (fun h => { h with shadows := h.shadows.filter (fun e => e.1 != R.LD_MSG_CMD) ++ [(R.LD_MSG_CMD, epochBits (R.LD_MSG_CMD), l.toNat + 64 * len.toNat + 4096)] })))) ∧
    (∀ (p : Machine.Path) (role : BitVec 2) (o : BitVec 4) (v : BitVec 2) (u : State), s.accepts u p role (R.AO_CFG o.toNat) (4 * (s.regN (R.AO_CFG o.toNat) / 4) + v.toNat) →
      exec (.aoRangeShadowWrite p role o v) s =
        .next (State.settle ((u.mergeReg (R.AO_CFG o.toNat) 3 (4 * (u.regN (R.AO_CFG o.toNat) / 4) + v.toNat)).putShadow (R.AO_CFG o.toNat) 0xC
          (4 * (u.regN (R.AO_CFG o.toNat) / 4) + v.toNat)))) ∧
    (∀ (p : Machine.Path) (role : BitVec 2) (o : BitVec 4) (v : BitVec 32) (u : State), s.acceptsPair u p role (R.AO_CMD_LO o.toNat) v.toNat →
      exec (.aoCmdWrite p role o v) s =
        .next (State.settle (u.putShadow (R.AO_CMD_LO o.toNat) 0xFFFFFFFF v.toNat))) ∧
    (∀ (p : Machine.Path) (role : BitVec 2) (i : BitVec 12) (v : BitVec 32) (u : State), s.acceptsPair u p role (R.SETPOINT_LO i.toNat) v.toNat →
      exec (.setpointWrite p role i v) s =
        .next (State.settle (u.putShadow (R.SETPOINT_LO i.toNat) 0xFFFFFFFF v.toNat))) ∧
    (∀ (p : Machine.Path) (role : BitVec 2) (v : BitVec 32) (u : State), s.accepts u p role R.RADIO_CFG v.toNat →
      u.flag R.RADIO_CFG F.RADIO_CFG_EN = false →
      exec (.radioCfgWrite p role v) s =
        .next (State.settle (((u.radioWritten true true).mergeReg R.RADIO_CFG 0x7FFFC v.toNat).putShadow R.RADIO_CFG 1 v.toNat))) ∧
    (∀ (p : Machine.Path) (role : BitVec 2) (i : BitVec 2) (v : BitVec 32) (u : State), s.accepts u p role (R.RADIO_FIR i.toNat) v.toNat →
      u.flag R.RADIO_CFG F.RADIO_CFG_EN = false →
      exec (.radioFirWrite p role i v) s =
        .next (State.settle ((u.radioWritten false true).fieldsTaken (R.RADIO_FIR i.toNat) v.toNat))) ∧
    (∀ (p : Machine.Path) (role : BitVec 2) (on : Bool) (u : State), s.accepts u p role R.CHAIN_CTRL (F.CHAIN_CTRL_BYPASS_FORCE.set (b2n on) (s.reg R.CHAIN_CTRL)).toNat →
      u.power = 4 →
      exec (.bypassForce p role on) s =
        .next (State.settle (u.chainCtrl (F.CHAIN_CTRL_BYPASS_FORCE.set (b2n on) (s.reg R.CHAIN_CTRL)).toNat))) ∧
    (∀ (p : Machine.Path) (role : BitVec 2) (slot : BitVec 4) (u : State), s.accepts u p role R.SEC_CMD (1 + 16 * slot.toNat) →
      u.flag R.SEC_STATUS F.SEC_STATUS_STORE_BUSY = false →
      nth u.host.keys slot.toNat none = none →
      u.revoked.contains (keyId u.stagedKey) = false →
      (∀ k pk, k ∈ u.host.keys → k = some pk → keyId pk ≠ keyId u.stagedKey) →
      u.stagedKey.all (fun b => b == 0#8) = false →
      exec (.enrollKey p role slot) s =
        .next (State.settle ((u.clearStages.modHost (fun h => { h with secOp := some ⟨1, slot.toNat, 0, u.stagedKey⟩ })).raise R.SEC_STATUS F.SEC_STATUS_STORE_BUSY))) ∧
    (∀ (p : Machine.Path) (role : BitVec 2) (slot : BitVec 4) (force : Bool) (pk : List Byte) (u : State), s.accepts u p role R.SEC_CMD (2 + 16 * slot.toNat + 1024 * b2n force) →
      u.flag R.SEC_STATUS F.SEC_STATUS_STORE_BUSY = false →
      nth u.host.keys slot.toNat none = some pk →
      u.regN R.REVOKED_CNT < 32 →
      1 < (u.host.keys.filter Option.isSome).length →
      (u.activeKeys.contains (keyId pk) = false ∨ force = true) →
      exec (.revokeKey p role slot force) s =
        .next (State.settle ((u.clearStages.modHost (fun h => { h with secOp := some ⟨2, slot.toNat, 0, []⟩ })).raise R.SEC_STATUS F.SEC_STATUS_STORE_BUSY))) ∧
    (∀ (p : Machine.Path) (role : BitVec 2) (slot : BitVec 4) (r : BitVec 2) (u : State), s.accepts u p role R.SEC_CMD (3 + 16 * slot.toNat + 256 * r.toNat) →
      u.flag R.SEC_STATUS F.SEC_STATUS_STORE_BUSY = false →
      nth u.host.creds slot.toNat none = none →
      exec (.enrollCred p role slot r) s =
        .next (State.settle ((u.clearStages.modHost (fun h => { h with secOp := some ⟨3, slot.toNat, r.toNat, u.stagedCred⟩ })).raise R.SEC_STATUS F.SEC_STATUS_STORE_BUSY))) ∧
    (∀ (p : Machine.Path) (role : BitVec 2) (slot : BitVec 4) (u : State), s.accepts u p role R.SEC_CMD (4 + 16 * slot.toNat) →
      u.flag R.SEC_STATUS F.SEC_STATUS_STORE_BUSY = false →
      (nth u.host.creds slot.toNat none).isSome = true →
      (List.range 16).any (fun j => j != slot.toNat && u.regN (R.CRED_CFG j) % 8 == 7) = true →
      exec (.removeCred p role slot) s =
        .next (State.settle ((u.clearStages.modHost (fun h => { h with secOp := some ⟨4, slot.toNat, 0, []⟩ })).raise R.SEC_STATUS F.SEC_STATUS_STORE_BUSY))) ∧
    (∀ (p : Machine.Path) (role : BitVec 2) (d : BitVec 2) (o : BitVec 18) (v : BitVec 32) (u : State) (h k : Nat) (x : Bool), u = s.dropHold p →
      s.host.begun = true →
      s.gate p (s.roleOf p role.toNat) (s.writeRole (0x10C0000 + 0x400000 * d.toNat + o.toNat) v.toNat) (0x10C0000 + 0x400000 * d.toNat + o.toNat) = 0 →
      o.toNat % 4 = 0 →
      F.DBG_PAGE_KIND.get (nth (u.pathSt p).page d.toNat 0#32) = 4 →
      u.img.run.home ((nth (u.pathSt p).phys d.toNat 0#64).toNat + o.toNat) = some (h, k, x) →
      u.img.run.runs h = true →
      allQ.any u.qActive = false →
      (k < 0x1000000000 → k % 0x400000000 < hubArea) →
      u.memState h = 3 →
      u.poisoned k = false →
      exec (.debugDataWrite p role d o v) s =
        .next (State.settle (u.poke k (leBytes 4 v.toNat))))

/-- R393 to R399, R401, R402, R404, R405, R412, R416, R312: power good, feeds, PFAIL and its recovery, hub resets, the ends of the
bring-up steps, PORTS_READY and the acquisition timeouts. -/
def Obligations.PowerAndResetEvents : Prop :=
  ∀ (s : State),
    (s.pwr.up = false →
      exec .powerGood s =
        .next (State.settle (s.powerOn 1))) ∧
    (∀ (b : Bool) (mv : BitVec 16), mv.toNat < 17000 →
      exec (.feedLost b mv) s =
        .next (State.settle (((s.setRegN (feedMv b) mv.toNat).drop R.PWR_STATUS (feedFld b)).raise R.PWR_ERR F.PWR_ERR_FEED_LOST))) ∧
    (∀ (b : Bool) (mv : BitVec 16), 18000 ≤ mv.toNat →
      exec (.feedRestored b mv) s =
        .next (State.settle ((s.setRegN (feedMv b) mv.toNat).raise R.PWR_STATUS (feedFld b)))) ∧
    (s.pwr.up = true →
      exec .pfail s =
        .next (State.settle (((s.incSat R.PFAIL_CNT).powerLoss false).raise R.PWR_STATUS F.PWR_STATUS_PFAIL))) ∧
    (s.power = 0 →
      s.flag R.PWR_STATUS F.PWR_STATUS_PFAIL = true →
      exec .pfailRecovery s =
        .next (State.settle (s.powerOn 1))) ∧
    (∀ (logged : Bool), s.firmware = true →
      exec (.lockstepMismatch logged) s =
        .next (State.settle ((if logged then s.logNow 4 (s.eventBody 0) else s).hubReset 2))) ∧
    (s.firmware = true →
      exec .watchdogExpiry s =
        .next (State.settle (s.hubReset 3))) ∧
    (s.pwr.restartDue = true →
      exec .chainRestart s =
        .next (State.settle ((((s.stopAll.modP (fun p => { p with stopTx := true })).tag.logQ.foldl (fun s e => s.logNow e.1 e.2)
          (s.stopAll.modP (fun p => { p with stopTx := true }))).logNow 3 ((s.stopAll.modP (fun p => { p with stopTx := true })).eventBody 0)).hubReset 4))) ∧
    (∀ (t : Int), s.power = 0 →
      s.pwr.thermalOff = true →
      t < 900 →
      exec (.thermalRestart t) s =
        .next (State.settle (s.powerOn 5))) ∧
    (∀ (ok : Bool) (ms : BitVec 32) (one both : BitVec 4), s.power = 1 →
      s.pwr.up = true →
      s.buStep = 2 →
      s.getF R.SYS_STATE F.SYS_STATE_HALT = 0 →
      exec (.bringupStepEnd 2 ok ms one both) s =
        .next (State.settle (if ok then s.stepEnds 2 ms.toNat 3 else s.halt 1))) ∧
    (∀ (ok : Bool) (ms : BitVec 32) (one both : BitVec 4), s.power = 1 →
      s.pwr.up = true →
      s.buStep = 3 →
      s.getF R.SYS_STATE F.SYS_STATE_HALT = 0 →
      exec (.bringupStepEnd 3 ok ms one both) s =
        .next (State.settle (if ok then s.loaderRuns ms.toNat else s.halt 2))) ∧
    (∀ (ok : Bool) (ms : BitVec 32) (one both : BitVec 4), s.power = 1 →
      s.pwr.up = true →
      s.buStep = 5 →
      s.getF R.SYS_STATE F.SYS_STATE_HALT = 0 →
      exec (.bringupStepEnd 5 ok ms one both) s =
        .next (State.settle (s.imageStep ms.toNat one.toNat both.toNat))) ∧
    (∀ (ms : BitVec 32), s.firmware = true →
      s.flag R.CHAIN_STATUS F.CHAIN_STATUS_PORTS_READY = false →
      400 ≤ ms.toNat →
      exec (.portsReady ms) s =
        .next (State.settle (s.portsOpen ms.toNat))) ∧
    (∀ (t : Nat), s.flag R.CHAIN_STATUS F.CHAIN_STATUS_PORTS_READY = true →
      s.pwr.acqStart = none →
      s.pair.portsT + 5000000000 ≤ t →
      s.timeState = 1 →
      s.getF R.TIME_STATUS F.TIME_STATUS_SOURCE = 0 →
      s.time.begun = false →
      s.flag R.TIME_STATUS F.TIME_STATUS_EVER_LOCKED = false →
      exec (.acqNoLinkTimeout t) s =
        .next (State.settle ((s.at t).setTimeState 0))) ∧
    (∀ (t t0 : Nat), s.pwr.acqStart = some t0 →
      t0 + s.getF R.ACQ_TIMEOUT F.ACQ_TIMEOUT_TIMEOUT * 10000000 ≤ t →
      s.timeState = 1 →
      s.getF R.TIME_STATUS F.TIME_STATUS_SOURCE = 0 →
      s.time.begun = false →
      s.flag R.TIME_STATUS F.TIME_STATUS_EVER_LOCKED = false →
      exec (.acqTimeout t) s =
        .next (State.settle ((s.at t).setTimeState 0)))

/-- R403, R413 to R417, R421, R273, R274: a temperature below its trip is taken, a die that trips or loses power leaves with its
quarters, a die reset is released, a die powers off, and a fan that fails is reported. -/
def Obligations.DiesTemperaturesAndFans : Prop :=
  ∀ (s : State),
    (∀ (k : Fin 12) (t w : Int), s.firmware = true →
      (tripAt k.val = none ∨ tripAt k.val = some w ∧ t < w) →
      exec (.temperatureReading k t) s =
        .next (State.settle (s.takeTemp k.val t))) ∧
    (∀ (k : Fin 12) (t w : Int), s.firmware = true →
      tripAt k.val = some w →
      w ≤ t →
      k.val ≠ 8 →
      (s.takeTemp k.val t).dieOn (k.val % 4) = true →
      exec (.temperatureReading k t) s =
        .next (State.settle ((((((s.takeTemp k.val t).raise R.PWR_STATUS (dieTripFld (k.val % 4))).raise R.PWR_ERR F.PWR_ERR_DIE_TRIP).modP (fun p => { p with hot := k.val % 4 :: p.hot })).inc
          R.TRIP_CNT).diePowerFault (k.val % 4)))) ∧
    (∀ (d : BitVec 2), s.dieOn d.toNat = true →
      exec (.diePowerFault d) s =
        .next (State.settle (((s.dieOff d.toNat).detect 1 13 d.toNat 0).loseQ (dieQ d.toNat)))) ∧
    (∀ (d : BitVec 2), s.pwr.dieHeld.contains d.toNat = true →
      exec (.dieResetRelease d) s =
        .next (State.settle (s.dieReleased d.toNat))) ∧
    (∀ (d : BitVec 2), s.pwr.powering.contains d.toNat = true →
      s.pwr.exitWait = false →
      exec (.diePowerOffComplete d) s =
        .next (State.settle ((s.dieOff d.toNat).modP (fun p => { p with powering := p.powering.filter (fun x => x != d.toNat) })))) ∧
    (∀ (k : Fin 3), s.flag (R.FAN k.val) F.FAN_PRESENT = true →
      exec (.fanFail k) s =
        .next (State.settle ((((s.raise (R.FAN k.val) F.FAN_FAIL).raise R.PWR_ERR F.PWR_ERR_FAN_FAIL).raise R.PWR_STATUS F.PWR_STATUS_FAN_FAIL).setDuty))) ∧
    (∀ (d : BitVec 2) (t : Int), s.dieOn d.toNat = true →
      exec (.dramTempReading d t) s =
        .next (State.settle (((s.setRegN (R.DRAM_TEMP d.toNat) (ofSigned 8 t + 256)).setF (R.MEM_STATUS d.toNat) F.MEM_STATUS_REFRESH_2X
          (b2n (decide (85 < t)))).setF (R.MEM_STATUS d.toNat) F.MEM_STATUS_HOT (b2n (decide (95 < t))))))

/-- R264, R265, R268 to R270, R272: links train, count replays, retrain and go down; memory trains, is filled with zeros and is
scrubbed. -/
def Obligations.LinksAndMemoryOfTheDies : Prop :=
  ∀ (s : State),
    (∀ (d l : BitVec 2) (same : Bool), s.link d.toNat l.toNat = 2 →
      exec (.flitError d l same) s =
        .next (State.settle (s.flitCounted d.toNat l.toNat same))) ∧
    (∀ (d l : BitVec 2), s.link d.toNat l.toNat = 1 →
      exec (.linkTrainingComplete d l) s =
        .next (State.settle ((s.setLinkState d.toNat l.toNat 2).trainOn))) ∧
    (∀ (d l : BitVec 2), s.link d.toNat l.toNat = 1 →
      exec (.linkTrainingTimeout d l) s =
        .next (State.settle ((s.linkDown d.toNat l.toNat).trainOn))) ∧
    (∀ (d l : BitVec 2) (lockLost : Bool), s.link d.toNat l.toNat = 2 →
      (lockLost = true ∨ 4 ≤ kvGet (fun _ => 0) (4 * d.toNat + l.toNat) s.mem.linkReplays) →
      exec (.linkRetrain d l lockLost) s =
        .next (State.settle (((linkEnds d.toNat l.toNat).foldl (fun (s : State) e => s.raise (R.LINK_ERR e.1)
          (if l.toNat = 3 then F.LINK_ERR_HUB_RETRAIN else F.LINK_ERR_RETRAIN))
          { s with mem := { s.mem with linkReplays := kvErase (4 * d.toNat + l.toNat) s.mem.linkReplays } }).setLinkState d.toNat l.toNat 3))) ∧
    (∀ (d l : BitVec 2), s.link d.toNat l.toNat = 3 →
      exec (.retrainComplete d l) s =
        .next (State.settle ((linkEnds d.toNat l.toNat).foldl (fun s e => s.incSat (R.LINK_RETRAIN_CNT e.1 e.2)) (s.setLinkState d.toNat l.toNat 2)))) ∧
    (∀ (d l : BitVec 2), s.link d.toNat l.toNat = 3 →
      exec (.retrainTimeout d l) s =
        .next (State.settle (s.linkDown d.toNat l.toNat))) ∧
    (∀ (d : BitVec 2) (bad : List (Fin 384)), s.memState d.toNat = 1 →
      s.pwr.selfRef.contains d.toNat = false →
      exec (.memTrainingComplete d bad) s =
        .next (State.settle (s.setF (R.MEM_STATUS d.toNat) F.MEM_STATUS_STATE 2))) ∧
    (∀ (d : BitVec 2) (bad : List (Fin 384)), s.memState d.toNat = 1 →
      s.pwr.selfRef.contains d.toNat = true →
      exec (.memTrainingComplete d bad) s =
        .next (State.settle ((((s.modP (fun p => { p with selfRef := p.selfRef.filter (fun x => x != d.toNat) })).setF (R.MEM_STATUS d.toNat)
          F.MEM_STATUS_STATE 3).marchFound d.toNat (bad.map Fin.val)).trainOn))) ∧
    (∀ (d : BitVec 2), s.memState d.toNat = 1 →
      exec (.memTrainingTimeout d) s =
        .next (State.settle (((((s.setF (R.MEM_STATUS d.toNat) F.MEM_STATUS_STATE 5).raise (R.MEM_ERR d.toNat) F.MEM_ERR_TRAIN_FAIL).loseQ
          (dieQ d.toNat)).modR (fun r => { r with lossNote := some ⟨1, 6, d.toNat, 0⟩ })).trainOn))) ∧
    (∀ (d : BitVec 2) (bad : List (Fin 384)), s.memState d.toNat = 2 →
      exec (.zeroFillComplete d bad) s =
        .next (State.settle ((((s.clearDie d.toNat).setF (R.MEM_STATUS d.toNat) F.MEM_STATUS_STATE 3).marchFound d.toNat (bad.map Fin.val)).trainOn))) ∧
    (∀ (k : Nat), (k < 0x1000000000 ∨ 0x2000000000 ≤ k ∧ k < 0x2002000000) →
      s.flag (R.MEM_CTRL (dieOf k)) F.MEM_CTRL_SCRUB_EN = true →
      s.memState (dieOf k) = 3 →
      exec (.memScrub k 1) s =
        .next (State.settle (s.incSat (if k < 0x1000000000 then R.MEM_CORR_CNT (dieOf k) else R.SP_CORR_CNT (dieOf k))))) ∧
    (∀ (k : Nat), (k < 0x1000000000 ∨ 0x2000000000 ≤ k ∧ k < 0x2002000000) →
      s.flag (R.MEM_CTRL (dieOf k)) F.MEM_CTRL_SCRUB_EN = true →
      s.memState (dieOf k) = 3 →
      s.poisoned k = false →
      exec (.memScrub k 2) s =
        .next (State.settle ((((((s.setPoison k true).raise (R.MEM_ERR (dieOf k)) F.MEM_ERR_SCRUB_UNCORR).setReg64 (R.FAIL_ADDR_LO (dieOf k))
          (k / 64 * 64)).incSat (R.MEM_UNCORR_CNT (dieOf k))).inc R.LATENT_CNT).event 6 7 10 0 (k / 64 * 64))))

/-- R283, R284, R293 to R298, R303, R389: the copies are repaired or lost, a rollback ends, a replay begins, and a block from the
partner is put in its place. -/
def Obligations.RecoveryEvents : Prop :=
  ∀ (s : State),
    (∀ (k : Nat) (a b : Dword) (badA badB pair : Bool), kvFind k s.rcv.copyA = some a →
      kvFind k s.rcv.copyB = some b →
      badA ≠ badB →
      exec (.copyPatrol k badA badB pair) s =
        .next (State.settle (s.copyRepaired k a b badA badB pair))) ∧
    (∀ (k : Nat) (a b : Dword) (pair : Bool), kvFind k s.rcv.copyA = some a →
      kvFind k s.rcv.copyB = some b →
      exec (.copyPatrol k true true pair) s =
        .next (State.settle (s.copiesLost))) ∧
    (∀ (t dur : Nat), s.flag R.REC_STATUS F.REC_STATUS_ROLLING_BACK = true →
      s.rcv.awaiting = [] →
      s.rcv.after ≠ 2 →
      exec (.rollbackComplete t dur) s =
        .next (State.settle (((s.at t).drop R.REC_STATUS F.REC_STATUS_ROLLING_BACK).modR (fun r => { r with copyA := r.copyB })))) ∧
    (∀ (t dur : Nat), s.flag R.REC_STATUS F.REC_STATUS_ROLLING_BACK = true →
      s.rcv.awaiting = [] →
      s.rcv.after = 2 →
      s.pair.replay = none →
      s.time.phase = 3 →
      exec (.rollbackComplete t dur) s =
        .next (State.settle ((((s.at t).drop R.REC_STATUS F.REC_STATUS_ROLLING_BACK).modR (fun r => { r with copyA := r.copyB })).commitAt true none t dur))) ∧
    (∀ (dur : Nat), s.rcv.after = 1 →
      s.flag R.REC_STATUS F.REC_STATUS_ROLLING_BACK = false →
      s.pair.replay = none →
      s.ownPrograms = true →
      allQ.any (fun q => s.qState q == 1) = true →
      exec (.replayLaunch dur) s =
        .next (State.settle (s.replayLaunch))) ∧
    (∀ (dur n k : Nat), s.rcv.after = 1 →
      s.flag R.REC_STATUS F.REC_STATUS_ROLLING_BACK = false →
      s.pair.replay = some (n, k) →
      exec (.replayLaunch dur) s =
        .next (State.settle (((((s.inc R.REPLAY_CNT).setF R.REC_STATUS F.REC_STATUS_ATTEMPT (k + 1)).at
          (((s.inc R.REPLAY_CNT).setF R.REC_STATUS F.REC_STATUS_ATTEMPT (k + 1)).now + 400)).replayOn n (k + 1)).modR (fun r => { r with after := 0 })))) ∧
    (∀ (a epoch : BitVec 64) (bs : List Byte), s.rcv.awaiting.contains a.toNat = true →
      epoch.toNat = s.reg64 R.COMMIT_EPOCH_LO →
      s.cableUp = true →
      exec (.blockData a epoch bs) s =
        .next (State.settle ((s.modR (fun r => { r with awaiting := r.awaiting.filter (fun x => x != a.toNat) })).rebuilt a.toNat (padTo 64 bs))))

/-- R61 to R66, R399, R420: the time unit locks, loses its source, reports lost alignment and slow bring-up, steps at a boundary, and
the first epoch begins. -/
def Obligations.TimeUnitEvents : Prop :=
  ∀ (s : State),
    (s.timeState = 1 →
      16 ≤ s.time.inBand →
      exec .timeLocked s =
        .next (State.settle (((s.setTimeState 2).raise R.TIME_STATUS F.TIME_STATUS_EVER_LOCKED).drop R.TIME_STATUS F.TIME_STATUS_ALIGN_LOST))) ∧
    (∀ (t : Nat), (s.timeState = 1 ∨ s.timeState = 2) →
      s.time.lastSync + 3000000000 ≤ t →
      s.getF R.TIME_STATUS F.TIME_STATUS_SOURCE ≠ 0 →
      exec (.timeSourceLost t) s =
        .next (State.settle (((s.at t).setTimeState 3).setF R.TIME_STATUS F.TIME_STATUS_SOURCE 0))) ∧
    (∀ (t : Nat), s.timeState = 3 →
      s.time.heldAt + 20000000000 ≤ t →
      exec (.alignLost t) s =
        .next (State.settle (((s.at t).raise R.TIME_STATUS F.TIME_STATUS_ALIGN_LOST).raise R.TIME_ERR F.TIME_ERR_ALIGN_LOST))) ∧
    (s.timeState = 1 →
      s.getF R.TIME_STATUS F.TIME_STATUS_SOURCE ≠ 0 →
      exec .timeSlow s =
        .next (State.settle (s.raise R.SYS_ERR F.SYS_ERR_TIME_SLOW))) ∧
    (∀ (off : Int), s.time.stepArmed = true →
      0 < off →
      exec (.timeStep true off) s =
        .next (State.settle ((s.modT (fun t => { t with stepArmed := false, stepAsked := false, freeStep := false })).stepForward off))) ∧
    (∀ (present : Bool) (off : Int), s.time.stepArmed = true →
      s.time.stepAsked = true →
      (present = false ∨ off ≤ 0) →
      exec (.timeStep present off) s =
        .next (State.settle ((s.modT (fun t => { t with stepArmed := false, stepAsked := false, freeStep := false })).raise R.TIME_ERR F.TIME_ERR_CMD_REJECT))) ∧
    (s.time.begun = false →
      s.gridRuns = true →
      s.power = 1 →
      s.getF R.SYS_STATE F.SYS_STATE_BU_STEP = 9 →
      s.flag R.IMG_STATUS F.IMG_STATUS_LOADING = false →
      (s.timeState = 2 ∨ s.timeState = 0) →
      exec .firstEpoch s =
        .next (State.settle (s.firstBegins)))

/-- R22, R35 to R38, R49 to R57, R59, R297: the log closes at a boundary, RUN launches or the epoch commits or skips, a late epoch is
extended or skipped, a stuck commit is abandoned, and the last done report starts the commit. -/
def Obligations.CourseOfAnEpoch : Prop :=
  ∀ (s : State),
    (s.time.begun = true →
      s.gridRuns = true →
      s.time.phase = 0 →
      exec .epochBoundary s =
        .next (State.settle (s.beginEpoch s.nextEpoch))) ∧
    (s.time.begun = true →
      s.gridRuns = true →
      s.time.phase ≠ 0 →
      s.time.extended = false →
      exec .epochBoundary s =
        .next (State.settle ((s.at (s.boundary (s.epoch + 1))).modT (fun t => { t with missed := true })))) ∧
    (∀ (dur : Nat), s.time.phase = 1 →
      s.gridRuns = true →
      s.gapped.rcv.wantLost = [] →
      s.gapped.time.captureT < s.gapped.deadlineOf s.epoch →
      s.gapped.ownPrograms = true →
      allQ.any (fun q => s.gapped.qState q == 1) = true →
      exec (.runLaunch dur) s =
        .next (State.settle ((s.gapped.launchAll (s.time.captureT + 400)).modT (fun x => { x with deadline := s.gapped.deadlineOf s.epoch })))) ∧
    (∀ (dur : Nat), s.time.phase = 1 →
      s.gridRuns = true →
      s.gapped.rcv.wantLost = [] →
      s.gapped.time.captureT < s.gapped.deadlineOf s.epoch →
      (s.gapped.ownPrograms = false ∨ allQ.any (fun q => s.gapped.qState q == 1) = false) →
      exec (.runLaunch dur) s =
        .next (State.settle (s.gapped.commitAt false none (s.time.captureT + 400) dur))) ∧
    (∀ (dur : Nat), s.time.phase = 1 →
      s.gridRuns = true →
      (s.gapped.rcv.wantLost ≠ [] ∨ s.gapped.deadlineOf s.epoch ≤ s.gapped.time.captureT) →
      exec (.runLaunch dur) s =
        .next (State.settle (s.gapped.skipAt none (s.time.captureT + 400) dur))) ∧
    (∀ (dur : Nat), s.time.phase = 2 →
      (s.at s.time.deadline).mayExtend = true →
      exec (.deadline dur) s =
        .next (State.settle ((s.at s.time.deadline).extendEpoch))) ∧
    (∀ (dur : Nat), s.time.phase = 2 →
      (s.at s.time.deadline).mayExtend = false →
      exec (.deadline dur) s =
        .next (State.settle ((s.at s.time.deadline).skipAt none (s.at s.time.deadline).time.deadline dur))) ∧
    (s.time.phase = 4 →
      exec .commitAbandon s =
        .next (State.settle (((s.at (s.now + 40000)).raise R.TIME_ERR F.TIME_ERR_COMMIT_ABANDON).detect 0 9 0 0))) ∧
    (∀ (d : BitVec 2), 1000 ≤ nth s.time.ceilRun d.toNat 0 →
      s.time.short.contains d.toNat = false →
      exec (.shortOfMargin d) s =
        .next (State.settle (s.modT (fun t => { t with short := t.short ++ [d.toNat] })))) ∧
    (∀ (q : BitVec 4) (t dur : Nat), s.qState q.toNat = 2 →
      (s.qtr q.toNat).faulted = false →
      (s.qtr q.toNat).drained = true →
      (s.qtr q.toNat).groupOpen = false →
      allQ.any (fun k => (((s.at t).setQState q.toNat 3).modQ q.toNat (fun x => { x with doneAt := some t })).qState k == 2) = false →
      s.pair.replay = none →
      s.time.phase = 2 →
      exec (.doneReport q t dur) s =
        .next (State.settle ((((s.at t).setQState q.toNat 3).modQ q.toNat (fun x => { x with doneAt := some t })).commitResults t dur)))

/-- R90, R83, R131, R403, R404: the verifier passes or fails the pending image, LOADING ends with its sections loaded, and the stopped
sections of a partial image are in their units. -/
def Obligations.ImageEvents : Prop :=
  ∀ (s : State),
    (s.pendSt = 2 →
      s.verify s.img.pend s.activeFull = none →
      exec .verifyComplete s =
        .next (State.settle (s.setPend 3))) ∧
    (∀ (c i : Nat), s.pendSt = 2 →
      s.verify s.img.pend s.activeFull = some (c, i) →
      exec .verifyComplete s =
        .next (State.settle (((s.setPend 6).imgFail c i 0).raise R.IMG_ERR F.IMG_ERR_VERIFY_FAIL))) ∧
    (∀ (ms : BitVec 32), s.flag R.IMG_STATUS F.IMG_STATUS_LOADING = true →
      s.diesReady = true →
      s.time.begun = true →
      exec (.loadComplete ms 0) s =
        .next (State.settle (s.loadAll.endLoading.drop R.REC_STATUS F.REC_STATUS_RECONFIGURING))) ∧
    (s.pendSt = 5 →
      s.img.armEpoch = none →
      imgKind s.img.pend = 1 →
      exec .activationComplete s =
        .next (State.settle (s.stoppedLoaded)))

/-- R60, R61, R321, R335 to R337: the node forwards and measures Sync and Follow_Up, takes Announce, answers and sends
delay messages, sends as grandmaster, and changes its time port. -/
def Obligations.PrecisionTimeMessages : Prop :=
  ∀ (s : State),
    (∀ (port : Fin 3) (domain gm : Nat) (corr res : Nat) (off : Int), s.ptpOk port.val domain = true →
      gm ≠ s.clockId →
      exec (.ptpSync port domain gm false corr res off) s =
        .next (State.settle ((s.ptpForward port.val 0x00 gm (corr + res + s.getF (delayReg port.val) F.LINK_DELAY_NS)).ptpMeasure port.val off))) ∧
    (∀ (port : Fin 3) (domain gm : Nat) (corr res : Nat) (off : Int), s.ptpOk port.val domain = true →
      gm ≠ s.clockId →
      exec (.ptpSync port domain gm true corr res off) s =
        .next (State.settle ((s.ptpForward port.val 0x00 gm corr).modCh (fun c => { c with twoStep := c.twoStep.filter (fun p => p != port.val) ++ [port.val] })))) ∧
    (∀ (port : Fin 3) (domain gm corr res : Nat) (off : Int), s.ptpOk port.val domain = true →
      gm ≠ s.clockId →
      (s.ptpForward port.val 0x08 gm (corr + res + s.getF (delayReg port.val) F.LINK_DELAY_NS)).chain.twoStep.contains port.val = true →
      exec (.followUp port domain gm corr res off) s =
        .next (State.settle (((s.ptpForward port.val 0x08 gm (corr + res + s.getF (delayReg port.val) F.LINK_DELAY_NS)).modCh
          (fun c => { c with twoStep := c.twoStep.filter (fun p => p != port.val) })).ptpMeasure port.val off))) ∧
    (∀ (port : Fin 3) (a : AnnMsg), s.ptpOk port.val a.domain = true →
      a.ptp = true →
      a.gm ≠ s.clockId →
      exec (.announce port a) s =
        .next (State.settle ((s.modCh (fun c => { c with anns := c.anns.filter (fun x => x.1 != port.val || x.2.1.gm != a.gm) ++ [(port.val, a, s.now)] })).bmca))) ∧
    (∀ (port : Fin 3) (ival t : Nat), port.val ≠ 2 →
      exec (.announceTimeout port ival t) s =
        .next (State.settle (((s.at t).modCh (fun c => { c with anns := c.anns.filter (fun x => x.1 != port.val ||
          Nat.blt t (x.2.2 + s.getF R.PTP_RATE F.PTP_RATE_ANN_TIMEOUT * (2 ^ (s.getF R.PTP_RATE F.PTP_RATE_LOG_ANN) * 1000000000))) })).bmca))) ∧
    (∀ (ival t : Nat), exec (.announceTimeout 2 ival t) s =
        .next (State.settle (((s.at t).modCh (fun c => { c with anns := c.anns.filter (fun x => x.1 != 2 ||
          Nat.blt t (x.2.2 + s.getF R.PTP_RATE F.PTP_RATE_ANN_TIMEOUT * ival)) })).bmca))) ∧
    (s.isGm = true →
      s.portsUp = true →
      exec (.gmSyncSend true) s =
        .next (State.settle ((s.send 4 0x0B s.clockId (s.ownAnn.key.map (leBytes 8)).flatten).send 5 0x0B s.clockId
          (s.ownAnn.key.map (leBytes 8)).flatten))) ∧
    (s.isGm = true →
      s.portsUp = true →
      exec (.gmSyncSend false) s =
        .next (State.settle ((((s.send 4 0x00 s.clockId (leBytes 8 0)).send 4 0x08 s.clockId (leBytes 8 s.now)).send 5 0x00 s.clockId
          (leBytes 8 0)).send 5 0x08 s.clockId (leBytes 8 s.now)))) ∧
    (∀ (port : Fin 3), port.val ≠ 2 →
      s.portsUp = true →
      exec (.pdelayReq port) s =
        .next (State.settle (s.send (4 + port.val) 0x03 s.clockId (leBytes 8 s.now)))) ∧
    (s.flag R.PTP_CFG F.PTP_CFG_X5_P2P = true →
      exec (.pdelayReq 2) s =
        .next (State.settle (s.send 6 0x03 s.clockId (leBytes 8 s.now)))) ∧
    (∀ (port : Fin 3) (d : Nat), port.val ≠ 2 →
      d ≤ (s.setRegN (delayReg port.val) (min d 65535 + 2 ^ 31)).getF R.SEG_LIMIT F.SEG_LIMIT_NS →
      exec (.pdelayResp port d) s =
        .next (State.settle (s.setRegN (delayReg port.val) (min d 65535 + 2 ^ 31)))) ∧
    (∀ (port : Fin 3) (d : Nat), port.val ≠ 2 →
      (s.setRegN (delayReg port.val) (min d 65535 + 2 ^ 31)).getF R.SEG_LIMIT F.SEG_LIMIT_NS < d →
      exec (.pdelayResp port d) s =
        .next (State.settle ((s.setRegN (delayReg port.val) (min d 65535 + 2 ^ 31)).raise R.CHAIN_ERR F.CHAIN_ERR_SEG_LONG))) ∧
    (∀ (d : Nat), exec (.pdelayResp 2 d) s =
        .next (State.settle (s.modCh (fun c => { c with x5Delay := d })))) ∧
    (s.portsUp = true →
      exec .pdelayReqSend s =
        .next (State.settle ((s.send 4 0x02 s.clockId (leBytes 8 s.now)).send 5 0x02 s.clockId (leBytes 8 s.now)))) ∧
    (s.flag R.PTP_CFG F.PTP_CFG_X5_EN = true →
      s.flag R.PTP_CFG F.PTP_CFG_X5_P2P = false →
      s.x5Ann.isSome = true →
      exec .delayReqSend s =
        .next (State.settle (s.send 6 0x01 s.clockId (leBytes 8 s.now)))) ∧
    (∀ (d : Nat) (off : Int), s.flag R.PTP_CFG F.PTP_CFG_X5_EN = true →
      s.flag R.PTP_CFG F.PTP_CFG_X5_P2P = false →
      exec (.delayResp d off) s =
        .next (State.settle ((s.modCh (fun c => { c with x5Delay := d })).ptpMeasure 2 off))) ∧
    (∀ (t : Nat), s.timeSource ≠ 0 →
      s.timeSource ≠ 1 →
      nth s.chain.syncT s.chain.timePort 0 + 3 * (1000000000 / 2 ^ ((16 - s.getF R.PTP_RATE F.PTP_RATE_LOG_SYNC) % 16)) ≤ t →
      exec (.timePortSyncLoss t) s =
        .next (State.settle ((s.at t).modCh (fun c => { c with timePort := 1 - s.chain.timePort }))))

/-- R425, R427, R434 to R436, R447, R449, R451 to R453: the states of the analogue outputs, miswired channels, the loop supply, the check
against the reference, the end of a trim session, and what is sampled at an instant. -/
def Obligations.AnalogueChannels : Prop :=
  ∀ (s : State),
    (∀ (o : BitVec 4), nth s.car.aoSt o.toNat 0 = 1 →
      exec (.aoReleaseSeen o) s =
        .next (State.settle ((s.aoSet o.toNat 2).pairOn))) ∧
    (∀ (o : BitVec 4), nth s.car.aoSt o.toNat 0 = 2 →
      exec (.aoThermalFoldback o) s =
        .next (State.settle (((s.aoSet o.toNat 3).raise (R.AO_STATUS o.toNat) F.AO_STATUS_THERMAL).incSat (R.AO_FLT_CNT o.toNat)))) ∧
    (∀ (o : BitVec 4), nth s.car.aoSt o.toNat 0 = 3 →
      exec (.aoThermalRestore o) s =
        .next (State.settle (s.aoSet o.toNat 2))) ∧
    (∀ (o : BitVec 4), nth s.car.aoSt o.toNat 0 = 2 →
      s.flag (R.AO_STATUS o.toNat) F.AO_STATUS_LOAD_HIGH = false →
      exec (.loadHigh o) s =
        .next (State.settle ((s.raise (R.AO_STATUS o.toNat) F.AO_STATUS_LOAD_HIGH).incSat (R.AO_FLT_CNT o.toNat)))) ∧
    (∀ (o : BitVec 4), nth s.car.aoSt o.toNat 0 = 2 →
      exec (.aoReadbackFault o) s =
        .next (State.settle ((((s.aoSet o.toNat 0).modC (fun c => { c with iso := true })).raise R.AIO_ERR F.AIO_ERR_ISO_FAULT).unrecoverable 8 12 0 0))) ∧
    (∀ (k : Fin 48) (ext : Bool), k.val < 32 →
      exec (.miswire k ext) s =
        .next (State.settle (s.raise (R.AI_STATUS k.val) F.AI_STATUS_MISWIRE))) ∧
    (∀ (k : Fin 48) (ext : Bool), 32 ≤ k.val →
      s.flag (R.AO_STATUS (k.val - 32)) F.AO_STATUS_MISWIRE = false →
      exec (.miswire k ext) s =
        .next (State.settle (((s.raise (R.AO_STATUS (k.val - 32)) F.AO_STATUS_MISWIRE).setF (R.AO_STATUS (k.val - 32)) F.AO_STATUS_EXT_SOURCE
          (b2n ext)).incSat (R.AO_FLT_CNT (k.val - 32))))) ∧
    (∀ (k : Fin 48), k.val < 32 →
      exec (.miswireClear k) s =
        .next (State.settle (s.drop (R.AI_STATUS k.val) F.AI_STATUS_MISWIRE))) ∧
    (∀ (k : Fin 48), 32 ≤ k.val →
      exec (.miswireClear k) s =
        .next (State.settle ((s.drop (R.AO_STATUS (k.val - 32)) F.AO_STATUS_MISWIRE).drop (R.AO_STATUS (k.val - 32)) F.AO_STATUS_EXT_SOURCE))) ∧
    (∀ (c : BitVec 5), s.flag (R.AI_CFG c.toNat) F.AI_CFG_LP_EN = true →
      exec (.lpOverload c) s =
        .next (State.settle (s.raise (R.AI_STATUS c.toNat) F.AI_STATUS_LP_OVERLOAD))) ∧
    (∀ (c : BitVec 5), exec (.lpRetry c true) s =
        .next (State.settle (s.drop (R.AI_STATUS c.toNat) F.AI_STATUS_LP_OVERLOAD))) ∧
    (∀ (ref own chk : Int), (s.refCheck ref own chk).flag R.AIO_STATUS F.AIO_STATUS_REF_OK = true →
      exec (.referenceCheck ref own chk) s =
        .next (State.settle ((s.refCheck ref own chk).notePair none false false))) ∧
    (∀ (ref own chk : Int), s.flag R.AIO_CTRL F.AIO_CTRL_REFCHK_EN = true →
      (s.refCheck ref own chk).flag R.AIO_STATUS F.AIO_STATUS_REF_OK = false →
      exec (.referenceCheck ref own chk) s =
        .next (State.settle ((s.refCheck ref own chk).notePair none false true))) ∧
    (∀ (t : Nat), s.trimKind ≠ 0 →
      s.io.trimT + 60000000000 ≤ t →
      exec (.trimTimeout t) s =
        .next (State.settle ((s.at t).trimEnd 3))) ∧
    (∀ (t : Nat) (vals : List (Nat × Int)), (s.car.settleCfg t).up = true →
      nth (s.car.settleCfg t).cfg 5 0 ≠ 0 →
      s.aiDue t vals ≠ [] →
      exec (.aiSamplingInstant t vals) s =
        .next (State.settle ({ s with car := { s.car.settleCfg t with ready := (s.car.settleCfg t).ready ++ aiItems t (s.aiDue t vals) } })))

/-- R456, R457, R462, R463, R478 to R481: the states of the digital outputs, external sources, miswired inputs, the supplies of the two
groups, and what is sampled at an instant. -/
def Obligations.DigitalChannels : Prop :=
  ∀ (s : State),
    (∀ (i : BitVec 5), s.doSt i.toNat = 1 →
      exec (.doReleaseSeen i) s =
        .next (State.settle ((s.doSet i.toNat 2).pairOn))) ∧
    (∀ (i : BitVec 5), s.doSt i.toNat = 2 →
      exec (.doCurrentLimit i true) s =
        .next (State.settle ((s.doSet i.toNat 3).setF R.DO_LIMIT ⟨i.toNat, 1⟩ 1))) ∧
    (∀ (i : BitVec 5), s.doSt i.toNat = 3 →
      exec (.doCurrentLimit i false) s =
        .next (State.settle ((s.doSet i.toNat 2).setF R.DO_LIMIT ⟨i.toNat, 1⟩ 0))) ∧
    (∀ (i : BitVec 5), s.doSt i.toNat = 3 →
      exec (.doThermalShutdown i) s =
        .next (State.settle (((((s.doSet i.toNat 4).setF R.DO_LIMIT ⟨i.toNat, 1⟩ 0).setF R.DO_TRIPPED ⟨i.toNat, 1⟩ 1).inc R.DO_TRIP_CNT).raise
          R.DIO_ERR F.DIO_ERR_TRIP))) ∧
    (∀ (i : BitVec 5), s.doSt i.toNat = 4 →
      bitOf s.car.doCmd i.toNat = true →
      exec (.doThermalRestart i) s =
        .next (State.settle (s.doSet i.toNat 2))) ∧
    (∀ (i : BitVec 5), (s.doSt i.toNat = 0 ∨ s.doSt i.toNat = 1 ∨ s.doSt i.toNat = 4) →
      s.car.ext.contains i.toNat = false →
      exec (.switchFailedOn i) s =
        .next (State.settle ((((s.modC (fun c => { c with iso := true })).raise R.DIO_ERR F.DIO_ERR_ISO_FAULT).raise R.DIO_STATUS
          F.DIO_STATUS_ISO_FAULT).unrecoverable 8 12 0 0))) ∧
    (∀ (i : BitVec 5), (s.doSt i.toNat = 0 ∨ s.doSt i.toNat = 1) →
      exec (.doExtSource i true) s =
        .next (State.settle ((s.modC (fun c => { c with ext := c.ext.filter (fun k => k != i.toNat) ++ [i.toNat] })).setF R.DO_EXT ⟨i.toNat, 1⟩ 1))) ∧
    (∀ (i : BitVec 5), exec (.doExtSource i false) s =
        .next (State.settle ((s.modC (fun c => { c with ext := c.ext.filter (fun k => k != i.toNat) })).setF R.DO_EXT ⟨i.toNat, 1⟩ 0))) ∧
    (∀ (i : Fin 48), bitOf s.car.miswire i.val = false →
      exec (.diMiswire i true) s =
        .next (State.settle (((s.modC (fun c => { c with miswire := s.car.miswire + 2 ^ i.val })).setRegN R.DI_MISWIRE_LO
          (s.car.miswire + 2 ^ i.val)).setRegN R.DI_MISWIRE_HI ((s.car.miswire + 2 ^ i.val) / 2 ^ 32)))) ∧
    (∀ (i : Fin 48), bitOf s.car.miswire i.val = true →
      exec (.diMiswire i false) s =
        .next (State.settle (((s.modC (fun c => { c with miswire := s.car.miswire - 2 ^ i.val })).setRegN R.DI_MISWIRE_LO
          (s.car.miswire - 2 ^ i.val)).setRegN R.DI_MISWIRE_HI ((s.car.miswire - 2 ^ i.val) / 2 ^ 32)))) ∧
    (∀ (g : BitVec 1), exec (.supplyRev g true) s =
        .next (State.settle ((List.range 16).foldl (fun (s : State) i => s.doSet (16 * g.toNat + i) 0)
          ((s.modC (fun c => { c with revG := s.car.revG.filter (fun k => k != g.toNat) ++ [g.toNat] })).setF R.DIO_STATUS
            F.DIO_STATUS_SUPPLY_REV 1)))) ∧
    (∀ (g : BitVec 1), s.car.revG.filter (fun k => k != g.toNat) = [] →
      exec (.supplyRev g false) s =
        .next (State.settle ((s.modC (fun c => { c with revG := [] })).setF R.DIO_STATUS F.DIO_STATUS_SUPPLY_REV 0))) ∧
    (∀ (g : BitVec 1) (mv : Nat), mv < 17000 →
      exec (.groupSupplyLow g mv) s =
        .next (State.settle (((s.setRegN (lplus g.toNat) mv).drop R.DIO_STATUS (supplyFld g.toNat)).raise R.DIO_ERR F.DIO_ERR_SUPPLY_LOW))) ∧
    (∀ (j : Nat) (levels : BitVec 48), (s.car.settleCfg (25000 * j)).up = true →
      nth (s.car.settleCfg (25000 * j)).cfg 5 0 ≠ 0 →
      exec (.diSamplingInstant j levels) s =
        .next (State.settle ({ s with car := { s.car.settleCfg (25000 * j) with
          filt := (s.car.settleCfg (25000 * j)).filtered levels.toNat
          ready := (s.car.settleCfg (25000 * j)).ready ++
            [(2, leBytes 2 j ++ leBytes 6 (bitNat (((s.car.settleCfg (25000 * j)).filtered levels.toNat).map Prod.fst)))] } })))

/-- R465 to R476: a downstream frame goes out with its payload and its CRC, the carrier accepts it or counts
it, the upstream frame carries what is ready, the node accepts it or counts it, and a silent lane goes to its safe states. -/
def Obligations.CarrierFrames : Prop :=
  ∀ (s : State),
    (exec .carrierPowerUp s =
        .next (State.settle ((((((List.range 16).foldl (fun (s : State) o => s.setF (R.AO_STATUS o) F.AO_STATUS_STATE 0)
          { s with car := { CarSt.zero with lastOk := copies 4 s.now } }).setRegN R.DO_ARMED 0).setRegN R.DO_LIMIT 0).setRegN
          R.RELAY_STATE 0).modRad (fun r => { r with afc := [], afcMiss := [], rx := none, tx := [], maskHold := false }) |>.modLd
          (fun d => { d with loops := copies 48 LdLoop.zero, dwells := copies 4 none, msg := none })))) ∧
    (∀ (l : BitVec 2) (j : Nat), l.toNat ≠ 3 →
      (s.at (frameStart l.toNat j)).pwr.ended.contains 3 = true →
      (s.at (frameStart l.toNat j)).pwr.stopTx = false →
      (s.at (frameStart l.toNat j)).power ≠ 0 →
      exec (.downstreamFrameSend l j) s =
        .next (State.settle ((s.at (frameStart l.toNat j)).send l.toNat 0x10 j ((s.at (frameStart l.toNat j)).downBytes l.toNat j 0)))) ∧
    (∀ (j k : Nat) (u : State), (s.at (frameStart 3 j)).pwr.ended.contains 3 = true →
      (s.at (frameStart 3 j)).pwr.stopTx = false →
      (s.at (frameStart 3 j)).power ≠ 0 →
      (s.at (frameStart 3 j)).noteChanged.cfgSlot = (k, u) →
      exec (.downstreamFrameSend 3 j) s =
        .next (State.settle (u.send 3 0x10 j (u.downBytes 3 j k)))) ∧
    (∀ (l : BitVec 2) (bytes : List Byte) (t : Nat), (s.car.settleCfg t).up = true →
      crc16 ((padTo 58 bytes).take 56) ≠ fieldAt (padTo 58 bytes) 56 2 →
      exec (.downstreamFrame l bytes t) s =
        .next (State.settle ((State.dnCrc { s with car := { s.car.settleCfg t with
          timed := (s.car.settleCfg t).timed && Nat.blt t ((s.car.settleCfg t).lastL3 + 1000000000) } } l.toNat).pairOn))) ∧
    (∀ (l : BitVec 2) (bytes : List Byte) (t : Nat), l.toNat ≠ 3 →
      (s.car.settleCfg t).up = true →
      (s.car.settleCfg t).timed = true →
      t < (s.car.settleCfg t).lastL3 + 1000000000 →
      crc16 ((padTo 58 bytes).take 56) = fieldAt (padTo 58 bytes) 56 2 →
      fieldAt (padTo 58 bytes) 0 1 = 0x10 + l.toNat →
      seqNear (fieldAt (padTo 58 bytes) 2 2) ((t - 6250 * l.toNat) / 25000) = true →
      (payloadPairs l.toNat (slice (padTo 58 bytes) 8 48)).all isPairWord = true →
      exec (.downstreamFrame l bytes t) s =
        .next (State.settle ((State.downTaken { s with car := { s.car.settleCfg t with timed := true } } l.toNat t (fieldAt (padTo 58 bytes) 2 2)
          (fieldAt (padTo 58 bytes) 1 1) (slice (padTo 58 bytes) 8 48)).pairOn))) ∧
    (∀ (l : BitVec 2) (j : Nat) (ao : List (Nat × Int × Nat × Nat × Int)) (dio : Option (Nat × Nat)), ((s.at (frameStart l.toNat j)).car.settleCfg (s.at (frameStart l.toNat j)).now).up = true →
      exec (.upstreamFrameSend l j ao dio) s =
        .next (State.settle (State.upGoes { s.at (frameStart l.toNat j) with
          car := (s.at (frameStart l.toNat j)).car.settleCfg (s.at (frameStart l.toNat j)).now } l.toNat j ao dio))) ∧
    (∀ (l : BitVec 2) (bytes : List Byte) (t : Nat), crc16 ((padTo 58 bytes).take 56) ≠ fieldAt (padTo 58 bytes) 56 2 →
      exec (.upstreamFrame l bytes t) s =
        .next (State.settle (((s.at t).setF (R.LANE_CRC l.toNat) F.LANE_CRC_UP (satInc16 ((s.at t).getF (R.LANE_CRC l.toNat) F.LANE_CRC_UP))).raise
          R.DIO_ERR F.DIO_ERR_CRC))) ∧
    (∀ (l : BitVec 2) (bytes : List Byte) (t : Nat), crc16 ((padTo 58 bytes).take 56) = fieldAt (padTo 58 bytes) 56 2 →
      fieldAt (padTo 58 bytes) 0 1 = 0x20 + l.toNat →
      seqNear (fieldAt (padTo 58 bytes) 2 2) ((t - 6250 * l.toNat) / 25000) = true →
      exec (.upstreamFrame l bytes t) s =
        .next (State.settle ((s.at t).upTaken l.toNat t (padTo 58 bytes)))) ∧
    (∀ (l : BitVec 2) (t : Nat), (s.car.settleCfg t).up = true →
      nth (s.car.settleCfg t).lastOk l.toNat 0 + nth (s.car.settleCfg t).cfg 0 50 * 1000000 ≤ t →
      nth (s.car.settleCfg t).safeOn l.toNat false = false →
      exec (.safeStateTimeout l t) s =
        .next (State.settle ((State.at { s with car := s.car.settleCfg t } t).laneSafe l.toNat))) ∧
    (∀ (t : Nat), s.car.up = true →
      s.car.timed = true →
      s.car.lastL3 + 1000000 ≤ t →
      exec (.carrierTimeHoldover t) s =
        .next (State.settle ((s.at t).modC (fun c => { c with hold := true }))))

/-- R487, R488, R491 to R496, R504, R506: a slot opens, a burst is detected, correlated, synchronised, its header read and its codewords decoded,
the slot ends, the beacon goes out, and the frequency tracking and the command to a tag give up. -/
def Obligations.RadioCommands : Prop :=
  ∀ (s : State),
    (∀ (sf : Nat) (k : BitVec 10), (s.car.settleCfg s.now).up = true →
      bitOf ((s.car.settleCfg s.now).mw 0) 0 = true →
      nth (s.car.settleCfg s.now).cfg 5 0 ≠ 0 →
      s.sfRuns sf ((s.car.settleCfg s.now).mf 7 23 16) = true →
      (planOf ((s.car.settleCfg s.now).mw 1) ((s.car.settleCfg s.now).mw 2)).beacon ≤ k.toNat →
      k.toNat < (planOf ((s.car.settleCfg s.now).mw 1) ((s.car.settleCfg s.now).mw 2)).n →
      (planOf ((s.car.settleCfg s.now).mw 1) ((s.car.settleCfg s.now).mw 2)).opens (1000 * nth (s.car.settleCfg s.now).cfg 5 0) k.toNat = true →
      exec (.radioSlotOpen sf k) s =
        .next (State.settle (State.modRad { s with car := s.car.settleCfg s.now } (fun r => { r with
          rx := some ⟨sf, k.toNat, 0, 1, 0, 0, 0, 0, false, false, 0, 0, 0, 0, []⟩ })))) ∧
    (∀ (sf : Nat) (masked : Bool), (s.car.settleCfg s.now).up = true →
      bitOf ((s.car.settleCfg s.now).mw 0) 0 = true →
      bitOf ((s.car.settleCfg s.now).mw 0) 1 = true →
      nth (s.car.settleCfg s.now).safeOn 3 false = false →
      s.sfRuns sf ((s.car.settleCfg s.now).mf 7 23 16) = true →
      exec (.beacon sf masked) s =
        .next (State.settle (State.beaconGoes { s with car := s.car.settleCfg s.now } sf masked))) ∧
    (∀ (x : RxSt) (rssi : Int) (dt : Nat), s.radio.rx = some x →
      x.stage = 0 →
      ((s.car.mf 3 7 0 : Nat) : Int) - 280 ≤ rssi →
      dt ≤ 2 * (4000 * s.car.mf 5 23 16) + symTime (s.car.mw 0) (s.car.mf 3 31 24) →
      exec (.radioTriggered rssi dt) s =
        .next (State.settle (s.modRx (fun x => { x with stage := 1, rssi := rssi })))) ∧
    (∀ (x : RxSt) (corr : Nat) (e snr : Int), s.radio.rx = some x →
      x.stage = 1 →
      s.car.mf 3 15 8 ≤ corr →
      exec (.radioCorrelated corr true e snr) s =
        .next (State.settle (s.modRx (fun x => { x with stage := 2, resid := e, snr := snr })))) ∧
    (∀ (x : RxSt) (errs : Nat), s.radio.rx = some x →
      x.stage = 2 →
      errs ≤ s.car.mf 3 19 16 →
      (planOf (s.car.mw 1) (s.car.mw 2)).joins x.slot = true →
      exec (.radioSynced errs true) s =
        .next (State.settle ((s.modRx (fun y => { y with stage := 3, off := s.afc x.slot + y.resid, synced := true, atLim := false, ncw := 0 })).modRad
          (fun r => { r with afc := kvSet (fun _ => 0) x.slot 0 r.afc, afcMiss := kvErase x.slot r.afcMiss })))) ∧
    (∀ (x : RxSt) (errs : Nat), s.radio.rx = some x →
      x.stage = 2 →
      errs ≤ s.car.mf 3 19 16 →
      (planOf (s.car.mw 1) (s.car.mw 2)).joins x.slot = false →
      exec (.radioSynced errs true) s =
        .next (State.settle ((s.modRx (fun y => { y with stage := 3, off := s.afc x.slot + y.resid, synced := true, ncw := 0, atLim := decide (s.afc x.slot + (if x.resid < 0 then -rneInt x.resid.natAbs (-1) else rneInt x.resid.natAbs (-1)) ≠
                                       afcNext (s.afc x.slot) x.resid (s.car.mf 7 15 0)) })).modRad (fun r => { r with
          afc := kvSet (fun _ => 0) x.slot (afcNext (s.afc x.slot) x.resid (s.car.mf 7 15 0)) r.afc, afcMiss := kvErase x.slot r.afcMiss })))) ∧
    (∀ (x : RxSt) (h : BitVec 32) (dt : Nat), s.radio.rx = some x →
      x.stage = 3 →
      x.ncw = 0 →
      hdrOk h.toNat 2 = true →
      bitsOf h.toNat 3 0 ≠ 0 →
      bitsOf h.toNat 5 4 ≠ 3 →
      dt + symTime (s.car.mw 0) (bitsOf h.toNat 3 0 * 648 / (if bitOf h.toNat 6 then 2 else 1)) + 100000 + 70000 * bitsOf h.toNat 3 0 ≤
        1000 * (planOf (s.car.mw 1) (s.car.mw 2)).slot →
      exec (.radioHeader h dt) s =
        .next (State.settle (s.modRx (fun x => { x with ncw := bitsOf h.toNat 3 0, rate := bitsOf h.toNat 5 4 })))) ∧
    (∀ (x : RxSt) (llrs : List (List Int)), s.radio.rx = some x →
      x.stage = 3 →
      x.ncw ≠ 0 →
      llrs.length = x.ncw →
      exec (.radioDecodeDone llrs) s =
        .next (State.settle (s.decoded x llrs))) ∧
    (∀ (x : RxSt), s.radio.rx = some x →
      exec .radioSlotEnd s =
        .next (State.settle (s.slotOver x))) ∧
    (∀ (k : BitVec 10), 64 ≤ kvGet (fun _ => 0) k.toNat s.radio.afcMiss →
      exec (.afcReset k) s =
        .next (State.settle (s.modRad (fun r => { r with afc := kvErase k.toNat r.afc, afcMiss := kvErase k.toNat r.afcMiss })))) ∧
    (∀ (t : Fin 250), (s.tagMem t.val).atLim = true →
      8 ≤ (s.tagMem t.val).missed →
      exec (.tagOffRange t) s =
        .next (State.settle (s.setF (R.RTAG_OFFSET t.val) F.TAG_OFFSET_OFF_RANGE 1))) ∧
    (∀ (c : TagCmd), s.radio.cmds.find? (fun c => c.st == 2 && Nat.blt (c.sf + 4) (s.reg64 R.SF_NUM_LO)) = some c →
      (s.modRad (fun r => { r with cmds := r.cmds.filter (fun x => x != c) })).getF R.RADIO_CMD_STATUS F.RADIO_CMD_STATUS_CMD_SEQ = c.seq →
      exec .radioCmdFailed s =
        .next (State.settle ((s.modRad (fun r => { r with cmds := r.cmds.filter (fun x => x != c) })).setF R.RADIO_CMD_STATUS F.RADIO_CMD_STATUS_STATE 4)))

/-- R487, R497 to R503: a dwell begins on the next loop, takes an uplink frame and ends, a loop without headers is lost, and a message without
an acknowledgement fails. -/
def Obligations.LineDataCommands : Prop :=
  ∀ (s : State),
    (∀ (e : BitVec 2) (m l : Nat), (s.car.settleCfg s.now).up = true →
      nth (((s.car.settleCfg s.now).ldCfg.loops e.toNat).map some) (m % max ((s.car.settleCfg s.now).ldCfg.loops e.toNat).length 1) none = some l →
      (State.ldEnables { s with car := s.car.settleCfg s.now } (s.car.settleCfg s.now).ldCfg.en).dwellRuns (s.car.settleCfg s.now).ldCfg m = true →
      exec (.ldDwellStart e m) s =
        .next (State.settle ((State.ldEnables { s with car := s.car.settleCfg s.now } (s.car.settleCfg s.now).ldCfg.en).dwellBegins e.toNat m l))) ∧
    (∀ (e : BitVec 2) (w : DwellSt) (off : Int) (h : BitVec 56) (llrs : List (List Int)), nth s.ld.dwells e.toNat none = some w →
      w.result = 1 →
      exec (.ldUplinkFrame e off h llrs) s =
        .next (State.settle (s.uplinkTaken e.toNat w off h.toNat llrs))) ∧
    (∀ (e : BitVec 2) (w : DwellSt) (snr : List Int), nth s.ld.dwells e.toNat none = some w →
      exec (.ldDwellEnd e snr) s =
        .next (State.settle (s.dwellOver e.toNat w snr))) ∧
    (∀ (l : Fin 48), ((s.loop l.val).st = 1 ∨ (s.loop l.val).st = 2) →
      max s.car.ldCfg.lost 1 ≤ (s.loop l.val).noHdr →
      exec (.ldLoopLost l) s =
        .next (State.settle ((s.modLoop l.val (fun x => { x with st := 3, dlMap := 0 })).channelReport l.val))) ∧
    (∀ (q n : Nat), s.ld.msg = some (q, n, false) →
      max s.car.ldCfg.retry 1 ≤ n →
      exec .ldMsgFailed s =
        .next (State.settle ((s.modLd (fun d => { d with msg := some (q, n, true) })).addItem 0x15 (leBytes 1 1 ++ leBytes 1 4 ++ leBytes 2 q))))

/-- R315 to R320, R322 to R327, R338: HELLO, TIME_INFO, alarm frames and the ring check, links and neighbours, frames that are not
delivered, and HSR. -/
def Obligations.ChainFrames : Prop :=
  ∀ (s : State),
    (∀ (f : RcpFrame) (u : State), s.rcpIn 1 f = (true, u) →
      1 ≤ fieldAt f.payload 8 2 →
      fieldAt f.payload 8 2 ≤ 61 →
      f.payload.length = 16 + 24 * fieldAt f.payload 8 2 →
      fieldAt f.payload 10 1 ≤ 1 →
      fieldAt f.payload 11 5 = 0 →
      (List.range (fieldAt f.payload 8 2)).any (fun e => fieldAt f.payload (20 + 24 * e) 4 != 0) = false →
      (List.range (fieldAt f.payload 8 2)).all (fun e => isPairWord (fieldAt f.payload (24 + 24 * e) 8) && isPairWord
        (fieldAt f.payload (32 + 24 * e) 8)) = true →
      exec (.alarm f) s =
        .next (State.settle (u))) ∧
    (∀ (f : RcpFrame) (u : State), s.rcpIn 1 f = (true, u) →
      1 ≤ fieldAt f.payload 8 2 →
      fieldAt f.payload 8 2 ≤ 61 →
      f.payload.length = 16 + 24 * fieldAt f.payload 8 2 →
      fieldAt f.payload 10 1 ≤ 1 →
      fieldAt f.payload 11 5 = 0 →
      (List.range (fieldAt f.payload 8 2)).any (fun e => fieldAt f.payload (20 + 24 * e) 4 != 0) = false →
      (List.range (fieldAt f.payload 8 2)).all (fun e => isPairWord (fieldAt f.payload (24 + 24 * e) 8) && isPairWord
        (fieldAt f.payload (32 + 24 * e) 8)) = false →
      exec (.alarm f) s =
        .next (State.settle (u.pwFrame))) ∧
    (exec .alarmRefresh s =
        .next (State.settle (s.sendAlarms (s.allPoints.filter (fun p => (s.point p).active || (s.point p).unack)) true))) ∧
    (∀ (t typ dst : Nat) (p : List Byte) (rest : List (Nat × Nat × List Byte)), (s.at t).chain.alarmQ = (typ, dst, p) :: rest →
      (s.at t).mayShape (wireBytes p) = true →
      exec (.alarmFrameDequeue t) s =
        .next (State.settle ((((s.at t).rcpOut (typ % 256) dst (typ / 256 == 1) p).modCh (fun c => { c with alarmQ := rest, shape := c.shape.filter (fun e => Nat.blt ((s.at t).rcpOut (typ % 256) dst (typ / 256 == 1) p).now (e.1 + 1500000)) ++
                   [(((s.at t).rcpOut (typ % 256) dst (typ / 256 == 1) p).now, wireBytes p)] })).setFlood))) ∧
    (∀ (w : BitVec 1) (p : List Byte), s.portsUp = true →
      p.length = 16 →
      fieldAt p 8 1 ≤ 1 →
      fieldAt p 9 1 ≤ 3 →
      fieldAt p 8 1 ≠ w.toNat →
      exec (.hello w p) s =
        .next (State.settle ((State.bypassOf (((s.modCh (fun c => { c with hello := setNth c.hello w.toNat s.now, peers := setNth c.peers w.toNat (fieldAt p 9 1) })).setReg64
          (neighReg w.toNat) (fieldAt p 0 8)).raise R.CHAIN_STATUS (neighFld w.toNat)) w.toNat).setPeers))) ∧
    (∀ (w : BitVec 1) (p : List Byte), s.portsUp = true →
      p.length = 16 →
      fieldAt p 8 1 ≤ 1 →
      fieldAt p 9 1 ≤ 3 →
      fieldAt p 8 1 = w.toNat →
      exec (.hello w p) s =
        .next (State.settle ((State.bypassOf ((((s.modCh (fun c => { c with hello := setNth c.hello w.toNat s.now, peers := setNth c.peers w.toNat (fieldAt p 9 1) })).setReg64
          (neighReg w.toNat) (fieldAt p 0 8)).raise R.CHAIN_STATUS (neighFld w.toNat)).raise R.CHAIN_ERR F.CHAIN_ERR_CROSSED) w.toNat).setPeers))) ∧
    (s.portsUp = true →
      exec .helloSend s =
        .next (State.settle ((List.range 2).foldl (fun (s : State) w => (s.send (4 + w) 0x10 helloMac (rcpBytes 0x10 false s.chain.seq 0
          (leBytes 8 s.serial ++ leBytes 1 w ++ leBytes 1 (s.getF R.HARB_STATUS F.HARB_STATUS_STATE) ++ copies 6 0#8))).modCh
          (fun c => { c with seq := (c.seq + 1) % 2 ^ 32 })) s))) ∧
    (∀ (w : BitVec 1) (t : Nat), nth s.chain.hello w.toNat 0 + 300000000 ≤ t →
      exec (.neighbourLost w t) s =
        .next (State.settle ((s.at t).neighGone w.toNat))) ∧
    (∀ (port : Fin 3), s.pwr.acqStart.isSome = true →
      port.val ≠ 2 →
      exec (.portLinkChange port true) s =
        .next (State.settle (s.setF R.CHAIN_STATUS (linkUpFld port.val) 1))) ∧
    (s.pwr.acqStart = none →
      exec (.portLinkChange 2 true) s =
        .next (State.settle (s.modP (fun p => { p with acqStart := some s.now })))) ∧
    (∀ (port : Fin 3), port.val ≠ 2 →
      exec (.portLinkChange port false) s =
        .next (State.settle ((s.setF R.CHAIN_STATUS (linkUpFld port.val) 0).neighGone port.val))) ∧
    (∀ (f : RcpFrame), f.src = s.macChain →
      f.port ≠ 2 →
      s.now ≤ s.chain.ringT + 10000000 →
      exec (.timeInfo f) s =
        .next (State.settle ((s.modCh (fun c => { c with ringBack := true })).raise R.CHAIN_STATUS F.CHAIN_STATUS_RING_CLOSED))) ∧
    (∀ (f : RcpFrame) (u : State), f.src ≠ s.macChain →
      s.rcpIn 0x11 f = (true, u) →
      f.payload.length = 32 →
      fieldAt f.payload 16 1 ≤ 3 →
      fieldAt f.payload 17 1 = 0 →
      fieldAt f.payload 8 4 = u.img.run.period / 1000 →
      fieldAt f.payload 12 4 = u.img.run.phase →
      exec (.timeInfo f) s =
        .next (State.settle ({ u.modCh (fun c => { c with infos := kvPut (fieldAt f.payload 0 8) u.now c.infos }) with
          pair := { u.pair with macs := kvPut (fieldAt f.payload 0 8) f.src u.pair.macs } }))) ∧
    (exec .timeInfoSend s =
        .next (State.settle ((s.originate 0x11 groupMac false (leBytes 8 s.serial ++ leBytes 4 (s.img.run.period / 1000) ++ leBytes 4 s.img.run.phase ++
          leBytes 1 s.timeState ++ leBytes 1 (b2n s.isGm) ++ copies 6 0#8 ++ leBytes 8 s.gmId)).modCh
          (fun c => { c with ringT := s.now, ringBack := false })))) ∧
    (∀ (t : Nat), s.chain.ringBack = false →
      s.chain.ringT + 10000000 ≤ t →
      s.flag R.CHAIN_STATUS F.CHAIN_STATUS_RING_CLOSED = true →
      exec (.ringCheckTimeout t) s =
        .next (State.settle ((((s.at t).drop R.CHAIN_STATUS F.CHAIN_STATUS_RING_CLOSED).inc R.RING_OPEN_CNT).raise R.CHAIN_ERR F.CHAIN_ERR_RING_OPEN))) ∧
    (∀ (typ : Nat) (f : RcpFrame), exec (.rcpBadFrame 1 typ f) s =
        .next (State.settle ((s.rcpIn typ f).2.badFrame))) ∧
    (∀ (version typ : Nat) (f : RcpFrame), version ≠ 1 →
      exec (.rcpBadFrame version typ f) s =
        .next (State.settle ((s.rcpIn typ f).2))) ∧
    (∀ (typ : Nat) (f : RcpFrame) (u : State), s.rcpIn typ f = (false, u) →
      exec (.rcpForward typ f) s =
        .next (State.settle (u))) ∧
    (∀ (port : BitVec 1) (src dst seq : Nat) (body : List Byte), s.flag R.CHAIN_CTRL F.CHAIN_CTRL_HSR_EN = true →
      s.portsUp = true →
      src ≠ s.macChain →
      s.chain.hsrDup.any (fun e => e.1 == src && e.2.1 == seq && Nat.ble s.now (e.2.2 + 400000000)) = true →
      exec (.hsrFrame port src dst seq body) s =
        .next (State.settle (s.inc R.HSR_DUP_CNT))) ∧
    (∀ (port : BitVec 1) (src dst seq : Nat) (body : List Byte), s.flag R.CHAIN_CTRL F.CHAIN_CTRL_HSR_EN = true →
      s.portsUp = true →
      src ≠ s.macChain →
      s.chain.hsrDup.any (fun e => e.1 == src && e.2.1 == seq && Nat.ble s.now (e.2.2 + 400000000)) = false →
      dst ≠ s.macChain →
      exec (.hsrFrame port src dst seq body) s =
        .next (State.settle ((s.modCh (fun c => { c with hsrDup := ((src, seq, s.now) :: c.hsrDup).take 2048, hsrNodes := ((src, s.now) :: c.hsrNodes.filter (fun n => n.1 != src &&
                                      Nat.ble s.now (n.2 + 60000000000))).take 256 })).send (4 + (1 - port.toNat)) 0x892F dst body))) ∧
    (s.flag R.CHAIN_CTRL F.CHAIN_CTRL_HSR_EN = true →
      s.portsUp = true →
      exec .hsrSupervision s =
        .next (State.settle (((s.modCh (fun c => { c with hsrSeq := (c.hsrSeq + 1) % 65536, hsrNodes := c.hsrNodes.filter (fun n => Nat.ble s.now (n.2 + 60000000000)) })).send 4 0x88FB
          0x01154E000100 (leBytes 2 s.chain.hsrSeq ++ beBytes 6 s.macChain)).send 5 0x88FB 0x01154E000100
          (leBytes 2 s.chain.hsrSeq ++ beBytes 6 s.macChain))))

/-- R330, R331, R332, R565, R574: a REGISTER request that is delivered and let in accesses the registers in its role and is answered
OK with its count and its data; a write on a bare path and a read of the data window act as the access does. -/
def Obligations.RegisterRequests : Prop :=
  ∀ (s : State),
    (∀ (f : RcpFrame) (role m : Nat) (d : List Byte) (v w : State), s.admits f 1 role v →
      v.regDo (pathOf f) role 1 (fieldAt f.payload 9 1) (fieldAt f.payload 10 2) (fieldAt f.payload 12 4) (f.payload.drop 32) =
        (0, m, d, w) →
      exec (.read f) s =
        .next (State.settle (w.regAnswer f 0 m d))) ∧
    (∀ (f : RcpFrame) (role m : Nat) (d : List Byte) (v w : State), s.admits f 2 role v →
      v.regDo (pathOf f) role 2 (fieldAt f.payload 9 1) (fieldAt f.payload 10 2) (fieldAt f.payload 12 4) (f.payload.drop 32) =
        (0, m, d, w) →
      exec (.write f) s =
        .next (State.settle (w.regAnswer f 0 m d))) ∧
    (∀ (f : RcpFrame) (role m : Nat) (d : List Byte) (v w : State), s.admits f 3 role v →
      v.regDo (pathOf f) role 3 (fieldAt f.payload 9 1) (fieldAt f.payload 10 2) (fieldAt f.payload 12 4) (f.payload.drop 32) =
        (0, m, d, w) →
      exec (.rmw f) s =
        .next (State.settle (w.regAnswer f 0 m d))) ∧
    (∀ (f : RcpFrame) (role m : Nat) (d : List Byte) (v w : State), s.admits f 4 role v →
      v.regDo (pathOf f) role 4 (fieldAt f.payload 9 1) (fieldAt f.payload 10 2) (fieldAt f.payload 12 4) (f.payload.drop 32) =
        (0, m, d, w) →
      exec (.blockRead f) s =
        .next (State.settle (w.regAnswer f 0 m d))) ∧
    (∀ (f : RcpFrame) (role m : Nat) (d : List Byte) (v w : State), s.admits f 5 role v →
      v.regDo (pathOf f) role 5 (fieldAt f.payload 9 1) (fieldAt f.payload 10 2) (fieldAt f.payload 12 4) (f.payload.drop 32) =
        (0, m, d, w) →
      exec (.blockWrite f) s =
        .next (State.settle (w.regAnswer f 0 m d))) ∧
    (∀ (p : Path) (role : BitVec 2) (a v : BitVec 32) (u : State), s.host.begun = true →
      s.writeOne p (s.roleOf p role.toNat) a.toNat v.toNat = (0, u) →
      exec (.regWrite p role a v none) s =
        .next (State.settle (u))) ∧
    (∀ (p : Path) (role : BitVec 2) (a v hi : BitVec 32) (u : State), s.host.begun = true →
      s.hostWide p role.toNat a.toNat (v.toNat + 2 ^ 32 * hi.toNat) = u →
      exec (.regWrite p role a v (some hi)) s =
        .next (State.settle (u))) ∧
    (∀ (p : Path) (role : BitVec 2) (req : BitVec 32) (d : BitVec 2) (o : BitVec 18) (w : Word) (u : State), s.host.begun = true →
      s.readOne p (s.roleOf p role.toNat) (0x10C0000 + 0x400000 * d.toNat + o.toNat) true = (0, w, u) →
      exec (.debugDataRead p role req d o) s =
        .next (State.settle (u.answer p req.toNat 0x20 (regResp req.toNat 0 1 (0x10C0000 + 0x400000 * d.toNat + o.toNat) (leBytes 4 w.toNat))))) ∧
    (∀ (f : RcpFrame) (u v : State) (role : Nat), f.resp = false →
      s.rcpIn 0x50 f = (true, u) →
      33 ≤ f.payload.length →
      f.payload.length = 32 + fieldAt f.payload 28 2 →
      fieldAt f.payload 28 2 ≤ 1456 →
      zeroAt f.payload 30 2 = true →
      f.dst ≠ groupMac →
      u.host.begun = true →
      u.keptFor f.src (fieldAt f.payload 4 4) (fieldAt f.payload 0 4) = none →
      u.authCheck 0x50 false 8 f.src f.payload = (some role, v) →
      2 ≤ role →
      exec (.image f) s =
        .next (State.settle (((v.imgTransfer (fieldAt f.payload 24 4) (f.payload.drop 32)).2.answer (pathOf f) (fieldAt f.payload 0 4) 0x50
          (leBytes 4 (fieldAt f.payload 0 4) ++ leBytes 1 (if (v.imgTransfer (fieldAt f.payload 24 4) (f.payload.drop 32)).1 then 0
            else 0x0A) ++ copies 3 0#8 ++ leBytes 4 ((v.imgTransfer (fieldAt f.payload 24 4) (f.payload.drop 32)).2.regN
            R.RECV_BYTES))).sessSpent (fieldAt f.payload 4 4)))) ∧
    (∀ (f : RcpFrame) (u v : State) (role : Nat), f.resp = false →
      s.rcpIn 0x02 f = (true, u) →
      32 ≤ f.payload.length →
      cmdShape f.payload = true →
      (cmdEntries f.payload).all (fun e => isPairWord e.2.2) = true →
      u.host.begun = true →
      u.keptFor f.src (fieldAt f.payload 4 4) (fieldAt f.payload 0 4) = none →
      u.authCheck 0x02 (f.dst == groupMac) 8 f.src f.payload = (some role, v) →
      (v.pairState = 0 ∨ v.holdsToken = true) →
      exec (.commandFrame f) s =
        .next (State.settle ((v.modAlm (fun a => { a with queue := a.queue ++ (cmdEntries f.payload).map (fun e => ⟨e.1, e.2.1, e.2.2 % 2 ^ 32, role,
          .frame (pathOf f) (fieldAt f.payload 0 4) (f.dst == groupMac)⟩) })).sessSpent (fieldAt f.payload 4 4))))

/-- R339 to R341: each Modbus function that is served reads or writes the registers its addresses map to and is answered. -/
def Obligations.ModbusRequests : Prop :=
  ∀ (s : State),
    (∀ (conn : BitVec 3) (unit : Byte) (addr qty : BitVec 16) (as : List Nat), s.modbusServes conn.toNat unit.toNat →
      1 ≤ qty.toNat →
      qty.toNat ≤ 125 →
      modbusAddrs holdingWindows addr.toNat qty.toNat = some as →
      exec (.readHoldingRegisters conn unit addr qty) s =
        .next (State.settle ((s.modbusRead (.modbus conn.toNat) as none [] s).2.modbusOut conn.toNat unit.toNat 3
          (leBytes 1 (2 * qty.toNat) ++ (s.modbusRead (.modbus conn.toNat) as none [] s).1)))) ∧
    (∀ (conn : BitVec 3) (unit : Byte) (addr qty : BitVec 16) (as : List Nat), s.modbusServes conn.toNat unit.toNat →
      1 ≤ qty.toNat →
      qty.toNat ≤ 125 →
      modbusAddrs inputWindows addr.toNat qty.toNat = some as →
      exec (.readInputRegisters conn unit addr qty) s =
        .next (State.settle ((s.modbusRead (.modbus conn.toNat) as none [] s).2.modbusOut conn.toNat unit.toNat 4
          (leBytes 1 (2 * qty.toNat) ++ (s.modbusRead (.modbus conn.toNat) as none [] s).1)))) ∧
    (∀ (conn : BitVec 3) (unit : Byte) (addr value : BitVec 16) (a : Nat) (r : RegRow) (u : State), s.modbusServes conn.toNat unit.toNat →
      modbusAddr holdingWindows addr.toNat = some a →
      a % 4 = 0 →
      rowOf a = some r →
      r.mask < 65536 →
      r.acc ≠ .pw →
      s.modbusWrite (.modbus conn.toNat) [(a, value.toNat, none)] s = (none, u) →
      exec (.writeSingleRegister conn unit addr value) s =
        .next (State.settle (u.modbusOut conn.toNat unit.toNat 6 (beBytes 2 addr.toNat ++ beBytes 2 value.toNat)))) ∧
    (∀ (conn : BitVec 3) (unit : Byte) (addr : BitVec 16) (vs : List (BitVec 16)) (u : State), s.modbusServes conn.toNat unit.toNat →
      1 ≤ vs.length →
      vs.length ≤ 123 →
      s.modbusPut conn.toNat addr.toNat (vs.map BitVec.toNat) = (none, u) →
      exec (.writeMultipleRegisters conn unit addr vs) s =
        .next (State.settle (u.modbusOut conn.toNat unit.toNat 16 (beBytes 2 addr.toNat ++ beBytes 2 vs.length)))) ∧
    (∀ (conn : BitVec 3) (unit : Byte) (raddr rqty waddr : BitVec 16) (vs : List (BitVec 16)) (as : List Nat) (u : State), s.modbusServes conn.toNat unit.toNat →
      1 ≤ rqty.toNat →
      rqty.toNat ≤ 125 →
      1 ≤ vs.length →
      vs.length ≤ 121 →
      modbusAddrs holdingWindows raddr.toNat rqty.toNat = some as →
      s.modbusPut conn.toNat waddr.toNat (vs.map BitVec.toNat) = (none, u) →
      exec (.readWriteMultipleRegisters conn unit raddr rqty waddr vs) s =
        .next (State.settle ((u.modbusRead (.modbus conn.toNat) as none [] u).2.modbusOut conn.toNat unit.toNat 23
          (leBytes 1 (2 * rqty.toNat) ++ (u.modbusRead (.modbus conn.toNat) as none [] u).1))))

/-- R342 to R347, R406, R409: the messages of the HARBOUR vote, its deadlines and its repeats. -/
def Obligations.HarbourVote : Prop :=
  ∀ (s : State),
    (∀ (f : RcpFrame) (u : State), s.harbTakes 1 f u →
      u.vetoReason (fieldAt f.payload 16 8) (u.vote != 0 && !(u.vote == 1 && u.sameProp f.payload)) = 0 →
      exec (.propose f) s =
        .next (State.settle (State.originate ((((u.modH (fun h => { h with tSleep := fieldAt f.payload 16 8, closing := none })).setRegN R.HARB_PROP_SEQ
          (fieldAt f.payload 4 4)).setReg64 R.HARB_INIT_LO (fieldAt f.payload 8 8)).setVote 1) 0x40 f.src false
          (harbPayload 2 0 (fieldAt f.payload 4 4) (fieldAt f.payload 8 8) (fieldAt f.payload 16 8)
            ((((u.modH (fun h => { h with tSleep := fieldAt f.payload 16 8, closing := none })).setRegN R.HARB_PROP_SEQ
              (fieldAt f.payload 4 4)).setReg64 R.HARB_INIT_LO (fieldAt f.payload 8 8)).setVote 1).serial
            ((((u.modH (fun h => { h with tSleep := fieldAt f.payload 16 8, closing := none })).setRegN R.HARB_PROP_SEQ
              (fieldAt f.payload 4 4)).setReg64 R.HARB_INIT_LO (fieldAt f.payload 8 8)).setVote 1).now)))) ∧
    (∀ (f : RcpFrame) (u : State) (r : Nat), s.harbTakes 1 f u →
      u.vetoReason (fieldAt f.payload 16 8) (u.vote != 0 && !(u.vote == 1 && u.sameProp f.payload)) = r →
      r ≠ 0 →
      exec (.propose f) s =
        .next (State.settle (State.originate (u.setF R.HARB_STATUS F.HARB_STATUS_LAST_CAUSE r) 0x40 f.src false
          (harbPayload 3 r (fieldAt f.payload 4 4) (fieldAt f.payload 8 8) (fieldAt f.payload 16 8)
            (u.setF R.HARB_STATUS F.HARB_STATUS_LAST_CAUSE r).serial (u.setF R.HARB_STATUS F.HARB_STATUS_LAST_CAUSE r).now)))) ∧
    (∀ (f : RcpFrame) (u : State), s.harbTakes 2 f u →
      u.initiating f.payload = true →
      exec (.harbAccept f) s =
        .next (State.settle ((u.modH (fun h => { h with accepts := h.accepts ++ [fieldAt f.payload 24 8] })).harbTryCommit))) ∧
    (∀ (f : RcpFrame) (u : State), s.harbTakes 3 f u →
      u.initiating f.payload = true →
      exec (.veto f) s =
        .next (State.settle (u.harbAbort 2 (fieldAt f.payload 1 1)))) ∧
    (∀ (f : RcpFrame) (u : State), s.harbTakes 4 f u →
      u.vote = 1 →
      u.sameProp f.payload = true →
      u.now < u.harb.tSleep →
      exec (.harbCommit f) s =
        .next (State.settle (u.setVote 2))) ∧
    (∀ (f : RcpFrame) (u : State), s.harbTakes 5 f u →
      u.vote = 1 →
      u.sameProp f.payload = true →
      exec (.abort f) s =
        .next (State.settle ((u.setVote 0).harbOutcome 3 (u.getF R.HARB_STATUS F.HARB_STATUS_LAST_CAUSE)))) ∧
    (∀ (f : RcpFrame) (u : State), s.harbTakes 6 f u →
      exec (.wake f) s =
        .next (State.settle (u.wakeUp (fieldAt f.payload 1 1) (fieldAt f.payload 24 8) (fieldAt f.payload 32 8) false))) ∧
    (∀ (t : Nat), s.vote = 1 →
      s.flag R.HARB_STATUS F.HARB_STATUS_INITIATOR = true →
      s.harb.tSleep ≤ t + 100000000 →
      s.harb.parts.all s.harb.accepts.contains = false →
      exec (.harbAbortDeadline t) s =
        .next (State.settle ((s.at t).harbAbort 3 0))) ∧
    (∀ (sub n : Nat), s.harb.closing = some (sub, n + 1) →
      exec .harbRepeat s =
        .next (State.settle ((s.harbSend sub 0 groupMac).modH (fun h => { h with closing := some (sub, n) })))) ∧
    (∀ (t : Nat), s.harb.tSleep ≤ t →
      s.vote = 2 →
      exec (.tSleepReached t) s =
        .next (State.settle (((s.at t).setVote 3).harbOutcome 1 0))) ∧
    (∀ (t : Nat), s.harb.tSleep ≤ t →
      s.vote = 1 →
      exec (.tSleepReached t) s =
        .next (State.settle ((s.at t).wakeReq 5))) ∧
    (s.harb.wakeLeft ≠ 0 →
      exec .wakeRepeat s =
        .next (State.settle ((s.originate 0x40 groupMac false s.harb.wake).modH (fun h => { h with wakeLeft := h.wakeLeft - 1 })))) ∧
    (s.vote = 3 →
      (s.flag R.CHAIN_STATUS (linkUpFld 0) = false ∨ s.flag R.CHAIN_STATUS (neighFld 0) = false) →
      (s.flag R.CHAIN_STATUS (linkUpFld 1) = false ∨ s.flag R.CHAIN_STATUS (neighFld 1) = false) →
      exec .isolatedWake s =
        .next (State.settle (s.wakeReq 6)))

/-- R354 to R357, R375: the holder renews and is confirmed or fences itself, the other unit learns the lease, requests the token, and
health is exchanged. -/
def Obligations.LeaseOfTheHolder : Prop :=
  ∀ (s : State),
    (∀ (t : Nat), (s.at t).holdsToken = true →
      (s.at t).rcv.dead = false →
      exec (.leaseRenew t) s =
        .next (State.settle ((s.at t).renew true))) ∧
    (∀ (t : Nat), s.holdsToken = true →
      s.expires ≤ t →
      exec (.confirmedExpiry t) s =
        .next (State.settle ((s.at t).fence))) ∧
    (∀ (t : Nat), s.mayRequest = true →
      s.pair.reason = 0 →
      s.expires ≠ 0 →
      s.expires + 2000000 ≤ t →
      exec (.leaseExpiredRequest t) s =
        .next (State.settle ((s.at t).request 1))) ∧
    (∀ (t : Nat), s.mayRequest = true →
      s.pair.reason = 0 →
      s.portsUp = true →
      s.pair.gotRenew = false →
      s.pair.portsT + 102000000 ≤ t →
      exec (.bringupRequest t) s =
        .next (State.settle ((s.at t).request 3))) ∧
    (exec .requestRepeat s =
        .next (State.settle (s.request s.pair.reason))) ∧
    (s.pairState ≠ 0 →
      s.holdsToken = false →
      exec .healthSend s =
        .next (State.settle ((s.setHealth.pairSend 0x31 10 0 0).pairSend 0x30 10 0 0))) ∧
    (∀ (f : RcpFrame) (u : State), s.pairTakes 0x30 1 f u →
      u.ofPair f.payload u.partner = true →
      u.holdsToken = false →
      exec (.pairRenew f) s =
        .next (State.settle (((u.learn (payToken f.payload) (payExpires f.payload) (fieldAt f.payload 32 8)).partnerHealth (payHealth f.payload)).pairFollow))) ∧
    (∀ (f : RcpFrame) (u : State), s.pairTakes 0x31 2 f u →
      u.ofPair f.payload u.arbiter = true →
      exec (.confirm f) s =
        .next (State.settle (u.arbSeen.confirmTo (payToken f.payload) (payExpires f.payload)))) ∧
    (∀ (f : RcpFrame) (u : State), s.pairTakes 0x30 10 f u →
      u.ofPair f.payload u.partner = true →
      exec (.health true f) s =
        .next (State.settle ((u.partnerHealth (payHealth f.payload)).pairFollow))) ∧
    (∀ (token expires epoch : BitVec 64), s.pairState ≠ 0 →
      s.cableUp = true →
      isPairWord token.toNat = true →
      s.holdsToken = true →
      s.gen < genOf token.toNat →
      exec (.cableRenew token expires epoch) s =
        .next (State.settle (s.fence))) ∧
    (∀ (token expires epoch : BitVec 64), s.pairState ≠ 0 →
      s.cableUp = true →
      isPairWord token.toNat = true →
      s.holdsToken = false →
      s.pair.highGen ≤ genOf token.toNat →
      exec (.cableRenew token expires epoch) s =
        .next (State.settle (((s.learn (token.toNat % 2 ^ 32) expires.toNat epoch.toNat).cableSend 0x03
          ((s.learn (token.toNat % 2 ^ 32) expires.toNat epoch.toNat).reg64 R.COMMIT_EPOCH_LO)
          (tokenBytes (token.toNat % 2 ^ 32) expires.toNat)).pairFollow))) ∧
    (∀ (token expires : BitVec 64), s.pairState ≠ 0 →
      s.cableUp = true →
      isPairWord token.toNat = true →
      exec (.cableConfirm token expires) s =
        .next (State.settle (s.confirmTo (token.toNat % 2 ^ 32) expires.toNat))) ∧
    (∀ (b : List Byte), s.pairState ≠ 0 →
      s.cableUp = true →
      isPairWord (fieldAt (padTo 64 b) 8 8) = true →
      isPairWord (fieldAt (padTo 64 b) 40 8) = true →
      exec (.cableHealth b) s =
        .next (State.settle (((s.partnerHealth (fieldAt (padTo 64 b) 8 4)).learnPeer (fieldAt (padTo 64 b) 24 8) (fieldAt (padTo 64 b) 32 8)
          (fieldAt (padTo 64 b) 40 4)).pairFollow)))

/-- R358 to R361, R373: what the arbiter does with renewals, requests, releases, reclaims, self-test results and health, and when its
quarantine and its hold-off end. -/
def Obligations.ArbiterMessages : Prop :=
  ∀ (s : State),
    (∀ (f : RcpFrame) (i k : Nat) (w : State), s.arbTakes 1 f i k w →
      (w.arb i).quar = true →
      exec (.renew f) s =
        .next (State.settle (((((w.setPair (R.ARB_TOKEN_LO i) (payToken f.payload)).setReg64 (R.ARB_EXPIRES_LO i) (payExpires f.payload)).modArb i (fun a => { a with quar := false })).arbSend
          i 2 0 f.src).arbAuto i))) ∧
    (∀ (f : RcpFrame) (i k : Nat) (w : State), s.arbTakes 1 f i k w →
      (w.arb i).quar = false →
      genOf (payToken f.payload) = genOf (w.arbToken i) →
      exec (.renew f) s =
        .next (State.settle (((w.setReg64 (R.ARB_EXPIRES_LO i) (payExpires f.payload)).arbSend i 2 0 f.src).arbAuto i))) ∧
    (∀ (f : RcpFrame) (i k : Nat) (w : State), s.arbTakes 1 f i k w →
      (w.arb i).quar = false →
      genOf (payToken f.payload) < genOf (w.arbToken i) →
      exec (.renew f) s =
        .next (State.settle (w.arbSend i 5 3 f.src))) ∧
    (∀ (f : RcpFrame) (u : State) (i k : Nat), s.pairTakes 0x31 3 f u →
      u.arbEn = true →
      u.arbFind (fieldAt f.payload 4 4) (fieldAt f.payload 8 8) = some (i, k) →
      (u.arb i).quar = true →
      exec (.request f) s =
        .next (State.settle (u.arbSend i 5 2 f.src))) ∧
    (∀ (f : RcpFrame) (u w : State) (i k : Nat), s.pairTakes 0x31 3 f u →
      u.arbEn = true →
      u.arbFind (fieldAt f.payload 4 4) (fieldAt f.payload 8 8) = some (i, k) →
      (u.arb i).quar = false →
      w = u.modArb i (fun a => { a with firstReq := if a.firstReq.isSome then a.firstReq else some u.now, prefAsked := a.prefAsked || k == u.arbPref i }) →
      w.arbMay i k (fieldAt f.payload 1 1) = true →
      exec (.request f) s =
        .next (State.settle (w.arbGrant i k (payExpires f.payload) f.src))) ∧
    (∀ (f : RcpFrame) (u w : State) (i k : Nat), s.pairTakes 0x31 3 f u →
      u.arbEn = true →
      u.arbFind (fieldAt f.payload 4 4) (fieldAt f.payload 8 8) = some (i, k) →
      (u.arb i).quar = false →
      w = u.modArb i (fun a => { a with firstReq := if a.firstReq.isSome then a.firstReq else some u.now, prefAsked := a.prefAsked || k == u.arbPref i }) →
      w.arbMay i k (fieldAt f.payload 1 1) = false →
      exec (.request f) s =
        .next (State.settle (w.arbSend i 5 1 f.src))) ∧
    (∀ (f : RcpFrame) (i k : Nat) (w : State), s.arbTakes 6 f i k w →
      genOf (payToken f.payload) = genOf (w.arbToken i) →
      w.arbHolder i = k →
      w.arbFree i = false →
      exec (.release f) s =
        .next (State.settle ((w.setPair (R.ARB_TOKEN_LO i) (genOf (w.arbToken i) + 2 ^ 24 * k + 2 ^ 25)).modArb i (fun a => { a with
          released := true, releaser := some k, reserve := payExpires f.payload, firstReq := none, prefAsked := false, holdoffOver := false })))) ∧
    (∀ (f : RcpFrame) (i k : Nat) (w : State), s.arbTakes 9 f i k w →
      (w.arb i).releaser = some k →
      (w.arbFree i = true ∨ w.arbExpires i + 2000000 ≤ w.now) →
      exec (.reclaim f) s =
        .next (State.settle (w.arbGrant i k (payExpires f.payload) f.src))) ∧
    (∀ (f : RcpFrame) (i k : Nat) (v w : State), s.arbTakes 7 f i k v →
      w = v.modArb i (fun a => { a with results := setNth a.results k (some (fieldAt f.payload 1 1 == 1)), resT := if a.resT.isSome then a.resT else some v.now }) →
      (w.arb i).results.all Option.isSome = false →
      exec (.suspect f) s =
        .next (State.settle (w))) ∧
    (∀ (f : RcpFrame) (i k : Nat) (v w : State), s.arbTakes 7 f i k v →
      w = v.modArb i (fun a => { a with results := setNth a.results k (some (fieldAt f.payload 1 1 == 1)), resT := if a.resT.isSome then a.resT else some v.now }) →
      (w.arb i).results.all Option.isSome = true →
      exec (.suspect f) s =
        .next (State.settle (w.decideNow i))) ∧
    (∀ (k : BitVec 3) (t t0 : Nat), (s.arb k.toNat).resT = some t0 →
      s.arbEn = true →
      t0 + 3000000000 ≤ t →
      exec (.suspectDecisionTimeout k t) s =
        .next (State.settle ((s.at t).decideNow k.toNat))) ∧
    (∀ (f : RcpFrame) (i k : Nat) (w : State), s.arbTakes 10 f i k w →
      w.flag R.ARB_CTRL F.ARB_CTRL_ARB_AUTO = true →
      (bitOf (nth (w.arb i).health (w.arbHolder i) 0) 6 = true ∨ bitOf (nth (w.arb i).health (w.arbHolder i) 0) 7 = true) →
      healthyWord (nth (w.arb i).health (1 - w.arbHolder i) 0) = true →
      exec (.health false f) s =
        .next (State.settle (w.decide i 2))) ∧
    (∀ (t : Nat), s.portsUp = true →
      s.pair.portsT + 102000000 ≤ t →
      exec (.arbQuarantineEnd t) s =
        .next (State.settle ((s.at t).modPair (fun x => { x with arbs := x.arbs.map (fun a => { a with quar := false }) })))) ∧
    (∀ (k : BitVec 3) (t t0 : Nat), (s.arb k.toNat).firstReq = some t0 →
      t0 + s.getF R.ARB_CTRL F.ARB_CTRL_ARB_HOLDOFF * 10000000 ≤ t →
      (s.arb k.toNat).prefAsked = false →
      exec (.arbHoldoffExpiry k t) s =
        .next (State.settle ((s.at t).modArb k.toNat (fun a => { a with holdoffOver := true }))))

/-- R356, R357, R363, R365 to R367, R371 to R373, R376 to R380, R383 to R388: grants and denials, decisions, the cable link, mirror
records, replays, suspicion, the handover in its order, forwarded commands and resynchronisation. -/
def Obligations.MessagesOfThePair : Prop :=
  ∀ (s : State),
    (∀ (f : RcpFrame) (u : State), s.pairTakes 0x31 4 f u →
      u.ofPair f.payload u.arbiter = true →
      u.arbSeen.pairState = 1 →
      exec (.grant f) s =
        .next (State.settle ((u.arbSeen.modPair (fun x => { x with highGen := max x.highGen (genOf (payToken f.payload)) })).take (payToken f.payload) (payExpires f.payload)))) ∧
    (∀ (f : RcpFrame) (u : State), s.pairTakes 0x31 4 f u →
      u.ofPair f.payload u.arbiter = true →
      u.arbSeen.pairState = 6 →
      exec (.grant f) s =
        .next (State.settle ((((((u.arbSeen.modPair (fun x => { x with highGen := max x.highGen (genOf (payToken f.payload)) })).setPair R.TOKEN_LO (payToken f.payload)).setReg64
          R.EXPIRES_LO (payExpires f.payload)).modIo (fun io => { io with frozen := none })).modPair (fun x => { x with handover := none, cause := 0 })).toPair 5))) ∧
    (∀ (f : RcpFrame) (u : State), s.pairTakes 0x31 5 f u →
      u.ofPair f.payload u.arbiter = true →
      fieldAt f.payload 1 1 = 3 →
      (u.arbSeen.raise R.PAIR_ERR F.PAIR_ERR_DENIED).holdsToken = true →
      exec (.deny f) s =
        .next (State.settle ((u.arbSeen.raise R.PAIR_ERR F.PAIR_ERR_DENIED).fence))) ∧
    (∀ (f : RcpFrame) (u : State), s.pairTakes 0x31 5 f u →
      u.ofPair f.payload u.arbiter = true →
      fieldAt f.payload 1 1 ≠ 2 →
      (u.arbSeen.raise R.PAIR_ERR F.PAIR_ERR_DENIED).holdsToken = false →
      (u.arbSeen.raise R.PAIR_ERR F.PAIR_ERR_DENIED).pairState ≠ 6 →
      exec (.deny f) s =
        .next (State.settle ((u.arbSeen.raise R.PAIR_ERR F.PAIR_ERR_DENIED).modPair (fun x => { x with reason := 0 })))) ∧
    (∀ (f : RcpFrame) (u v : State), s.pairTakes 0x31 8 f u →
      u.ofPair f.payload u.arbiter = true →
      fieldAt f.payload 1 1 = 2 →
      u.flag R.PAIR_STATUS F.PAIR_STATUS_SUSPECT = false →
      v = (u.drop R.PAIR_STATUS F.PAIR_STATUS_SUSPECT).modPair (fun x => { x with suspect := none }) →
      v.pairState ≠ 5 →
      exec (.decision f) s =
        .next (State.settle ((v.modPair (fun x => { x with cause := 6 })).request 4))) ∧
    (∀ (f : RcpFrame) (u v : State), s.pairTakes 0x31 8 f u →
      u.ofPair f.payload u.arbiter = true →
      fieldAt f.payload 1 1 = 2 →
      u.flag R.PAIR_STATUS F.PAIR_STATUS_SUSPECT = false →
      v = (u.drop R.PAIR_STATUS F.PAIR_STATUS_SUSPECT).modPair (fun x => { x with suspect := none }) →
      v.pairState = 5 →
      exec (.decision f) s =
        .next (State.settle ((v.modPair (fun x => { x with switchAsk := some 6 })).setHealth))) ∧
    (∀ (silent sends : Nat), s.pairState ≠ 0 →
      s.cableUp = true →
      (2000000 ≤ silent ∨ 8 ≤ sends) →
      exec (.cableLinkDown silent sends) s =
        .next (State.settle ((((s.drop R.PAIR_STATUS F.PAIR_STATUS_CABLE_UP).raise R.PAIR_ERR F.PAIR_ERR_CABLE_DOWN).modPair
          (fun x => { x with sentFrames := [] })).pairFollow))) ∧
    (∀ (valid : Nat), s.pairState ≠ 0 →
      s.cableUp = false →
      100 ≤ valid →
      exec (.cableLinkUp valid) s =
        .next (State.settle ((s.raise R.PAIR_STATUS F.PAIR_STATUS_CABLE_UP).pairFollow))) ∧
    (∀ (seq : BitVec 32) (q n : Nat) (b : List Byte), s.pair.sentFrames.find? (fun f => f.1 == seq.toNat) = some (q, n, b) →
      s.cableUp = true →
      n < 8 →
      exec (.cableResend seq) s =
        .next (State.settle ((s.send 7 (fieldAt b 0 1) 0 b).modPair (fun x => { x with lastSend := (s.send 7 (fieldAt b 0 1) 0 b).now, sentFrames := x.sentFrames.map (fun f => if f.1 == seq.toNat then (f.1, f.2.1 + 1, f.2.2) else f) })))) ∧
    (∀ (t : Nat), s.pairState ≠ 0 →
      s.pair.lastSend + 10000 ≤ t →
      (s.at t).cableUp = true →
      exec (.cableIdleSend t) s =
        .next (State.settle ((s.at t).cableSend 0x01 ((s.at t).reg64 R.COMMIT_EPOCH_LO) []))) ∧
    (∀ (fs : List (Nat × List Byte)), (s.pairState = 2 ∨ s.pairState = 3) →
      s.cableUp = true →
      recordOk fs = false →
      exec (.mirrorRecord fs) s =
        .next (State.settle (((s.pwMismatch 7).raise R.PAIR_ERR F.PAIR_ERR_RECORD_FAIL).startSync))) ∧
    (∀ (fs : List (Nat × List Byte)), (s.pairState = 2 ∨ s.pairState = 3) →
      s.cableUp = true →
      recordOk fs = true →
      (s.learnPeer (fieldAt (recHead fs) 24 8) (fieldAt (recHead fs) 32 8) (fieldAt (recHead fs) 40 4)).pair.handover ≠ some (fieldAt (recHead fs) 0 8) →
      exec (.mirrorRecord fs) s =
        .next (State.settle ((s.learnPeer (fieldAt (recHead fs) 24 8) (fieldAt (recHead fs) 32 8) (fieldAt (recHead fs) 40 4)).modPair
          (fun x => { x with records := x.records ++ [(fieldAt (recHead fs) 0 8, fs)] })))) ∧
    (∀ (n : Nat) (fs : List (Nat × List Byte)) (rest : List (Nat × List (Nat × List Byte))), s.pair.records = (n, fs) :: rest →
      s.full = true →
      s.replayOk = true →
      s.pair.replay = none →
      s.pair.replayed = none →
      s.pairState = 3 →
      s.img.run.logDie = none →
      fieldAt (recHead fs) 8 4 % 4 ≠ 1 →
      exec .standbyReplay s =
        .next (State.settle ((s.modR (fun r => { r with logBuf := kvPut n (recLog fs) (r.logBuf.filter (fun e => Nat.blt n (e.1 + 2))) })).replayOn n 0))) ∧
    (s.pairState = 5 →
      s.cableUp = true →
      exec .mismatch s =
        .next (State.settle (s.startSuspect))) ∧
    (∀ (march loopF adc : Bool), s.flag R.PAIR_STATUS F.PAIR_STATUS_SUSPECT = true →
      s.pairState ≠ 0 →
      exec (.suspectTestComplete march loopF adc) s =
        .next (State.settle ((s.modPair (fun x => { x with march := x.march || march, loopF := x.loopF || loopF, adc := x.adc || adc, suspect := some (!(march || loopF || adc)) })).setHealth.pairSend 0x31 7
          (if !(march || loopF || adc) then 1 else 2) 0))) ∧
    (∀ (token n : BitVec 64), s.pairState = 3 →
      s.cableUp = true →
      isPairWord token.toNat = true →
      s.pair.cause ≠ 0 →
      exec (.handover token n) s =
        .next (State.settle ((s.modPair (fun x => { x with handover := some n.toNat })).request 2))) ∧
    (∀ (token n : BitVec 64), s.pairState = 3 →
      s.cableUp = true →
      isPairWord token.toNat = true →
      s.pair.cause = 0 →
      s.pair.records.find? (fun r => r.1 == n.toNat) = none →
      exec (.handover token n) s =
        .next (State.settle ((s.modPair (fun x => { x with handover := some n.toNat, cause := 1 })).request 2))) ∧
    (∀ (token : BitVec 64), s.pairState = 6 →
      s.cableUp = true →
      isPairWord token.toNat = true →
      exec (.armed token) s =
        .next (State.settle (((s.modIo (fun io => { io with frozen := none })).modPair (fun x => { x with handover := none, cause := 0, highGen := max x.highGen (genOf token.toNat) })).startSync))) ∧
    (∀ (t : Nat), s.pairState = 6 →
      s.pair.handT + s.handoverNs ≤ t →
      exec (.handoverTimeout t) s =
        .next (State.settle ((s.at t).pairSend 0x31 9 0 (t + s.leaseNs)))) ∧
    (∀ (t : Nat), s.pairState = 4 →
      s.pair.armed = true →
      s.pair.armT + s.handoverNs ≤ t →
      s.allOn = false →
      exec (.armStuck t) s =
        .next (State.settle (((s.at t).raise R.PAIR_ERR F.PAIR_ERR_ARM_STUCK).becomeActive))) ∧
    (∀ (token : BitVec 64), s.pairState = 5 →
      s.cableUp = true →
      isPairWord token.toNat = true →
      exec (.takeback token) s =
        .next (State.settle (s.switchActive 5))) ∧
    (∀ (op index w : Nat) (p : List Byte), s.holdsToken = true →
      s.cableUp = true →
      p.length = 16 →
      fieldAt p 0 1 = op →
      fieldAt p 2 2 = index →
      fieldAt p 8 8 = w →
      isPairWord w = true →
      op ≠ 0 →
      exec (.fwdCmd p) s =
        .next (State.settle (s.modAlm (fun a => { a with queue := a.queue ++ [⟨op, index, w % 2 ^ 32, 3, .fwd 0⟩] })))) ∧
    (∀ (p : List Byte), s.holdsToken = true →
      s.cableUp = true →
      ((List.range (p.length / 16)).all (fun i => isPairWord (fieldAt p (16 * i + 8) 8))) = false →
      exec (.fwdCmd p) s =
        .next (State.settle (s.pwMismatch 7))) ∧
    (s.pairState = 5 →
      s.cableUp = true →
      exec .resyncReq s =
        .next (State.settle (s.snapshotGoes))) ∧
    (∀ (epoch : BitVec 64) (fs : List (Nat × List Byte)), s.pairState = 2 →
      s.cableUp = true →
      fs.all (fun f => pairsHold f.1 f.2) = true →
      exec (.snapEnd epoch fs) s =
        .next (State.settle (s.snapshotTaken epoch.toNat fs))) ∧
    (∀ (epoch : BitVec 64) (fs : List (Nat × List Byte)), s.pairState = 2 →
      s.cableUp = true →
      fs.all (fun f => pairsHold f.1 f.2) = false →
      exec (.snapEnd epoch fs) s =
        .next (State.settle (((s.pwMismatch 7).raise R.PAIR_ERR F.PAIR_ERR_RECORD_FAIL).startSync))) ∧
    (∀ (a : BitVec 64) (d k : Nat) (n : Bool), s.pairState = 3 →
      s.full = true →
      s.cableUp = true →
      s.img.run.home a.toNat = some (d, k, n) →
      (s.committedBlock (k / 64 * 64)).isEmpty = false →
      exec (.blockReq a) s =
        .next (State.settle (s.cableSend 0x51 (s.reg64 R.MIRROR_EPOCH_LO) (leBytes 8 a.toNat ++ s.committedBlock (k / 64 * 64)))))

/-- R325, R527, Table 17.3: each COMMAND entry that reaches a unit which executes it waits for the next commit with its opcode, index,
argument and role; a front-panel action waits with the right of the panel. -/
def Obligations.CommandEntries : Prop :=
  ∀ (s : State),
    (∀ (p : Path) (req : BitVec 32) (role : BitVec 2) (index : BitVec 16), s.host.begun = true →
      (s.pairState = 0 ∨ s.holdsToken = true) →
      exec (.ack p req role index) s =
        .next (State.settle (s.modAlm (fun a => { a with queue := a.queue ++ [⟨1, index.toNat, 0, s.roleOf p role.toNat, .frame p req.toNat false⟩] })))) ∧
    (∀ (p : Path) (req : BitVec 32) (role : BitVec 2) (index : BitVec 16), s.host.begun = true →
      (s.pairState = 0 ∨ s.holdsToken = true) →
      exec (.ackGroup p req role index) s =
        .next (State.settle (s.modAlm (fun a => { a with queue := a.queue ++ [⟨2, index.toNat, 0, s.roleOf p role.toNat, .frame p req.toNat false⟩] })))) ∧
    (∀ (p : Path) (req : BitVec 32) (role : BitVec 2), s.host.begun = true →
      (s.pairState = 0 ∨ s.holdsToken = true) →
      exec (.ackAll p req role) s =
        .next (State.settle (s.modAlm (fun a => { a with queue := a.queue ++ [⟨3, 0, 0, s.roleOf p role.toNat, .frame p req.toNat false⟩] })))) ∧
    (∀ (p : Path) (req : BitVec 32) (role : BitVec 2), s.host.begun = true →
      (s.pairState = 0 ∨ s.holdsToken = true) →
      exec (.silence p req role) s =
        .next (State.settle (s.modAlm (fun a => { a with queue := a.queue ++ [⟨4, 0, 0, s.roleOf p role.toNat, .frame p req.toNat false⟩] })))) ∧
    (∀ (p : Path) (req : BitVec 32) (role : BitVec 2) (index : BitVec 16) (arg : BitVec 32), s.host.begun = true →
      (s.pairState = 0 ∨ s.holdsToken = true) →
      exec (.shelve p req role index arg) s =
        .next (State.settle (s.modAlm (fun a => { a with queue := a.queue ++ [⟨5, index.toNat, arg.toNat, s.roleOf p role.toNat, .frame p req.toNat false⟩] })))) ∧
    (∀ (p : Path) (req : BitVec 32) (role : BitVec 2) (index : BitVec 16), s.host.begun = true →
      (s.pairState = 0 ∨ s.holdsToken = true) →
      exec (.unshelve p req role index) s =
        .next (State.settle (s.modAlm (fun a => { a with queue := a.queue ++ [⟨6, index.toNat, 0, s.roleOf p role.toNat, .frame p req.toNat false⟩] })))) ∧
    (∀ (p : Path) (req : BitVec 32) (role : BitVec 2) (index : BitVec 16), s.host.begun = true →
      (s.pairState = 0 ∨ s.holdsToken = true) →
      exec (.foReset p req role index) s =
        .next (State.settle (s.modAlm (fun a => { a with queue := a.queue ++ [⟨7, index.toNat, 0, s.roleOf p role.toNat, .frame p req.toNat false⟩] })))) ∧
    (∀ (p : Path) (req : BitVec 32) (role : BitVec 2) (index : BitVec 16) (arg : BitVec 32), s.host.begun = true →
      (s.pairState = 0 ∨ s.holdsToken = true) →
      exec (.setSetpoint p req role index arg) s =
        .next (State.settle (s.modAlm (fun a => { a with queue := a.queue ++ [⟨8, index.toNat, arg.toNat, s.roleOf p role.toNat, .frame p req.toNat false⟩] })))) ∧
    (∀ (p : Path) (req : BitVec 32) (role : BitVec 2) (index : BitVec 16) (arg : BitVec 32), s.host.begun = true →
      (s.pairState = 0 ∨ s.holdsToken = true) →
      exec (.duty p req role index arg) s =
        .next (State.settle (s.modAlm (fun a => { a with queue := a.queue ++ [⟨9, index.toNat, arg.toNat, s.roleOf p role.toNat, .frame p req.toNat false⟩] })))) ∧
    (∀ (p : Path) (req : BitVec 32) (role : BitVec 2) (arg : BitVec 32), s.host.begun = true →
      (s.pairState = 0 ∨ s.holdsToken = true) →
      exec (.watchArm p req role arg) s =
        .next (State.settle (s.modAlm (fun a => { a with queue := a.queue ++ [⟨10, 0, arg.toNat, s.roleOf p role.toNat, .frame p req.toNat false⟩] })))) ∧
    (∀ (p : Path) (req : BitVec 32) (role : BitVec 2) (index : BitVec 16), s.host.begun = true →
      (s.pairState = 0 ∨ s.holdsToken = true) →
      exec (.watchReset p req role index) s =
        .next (State.settle (s.modAlm (fun a => { a with queue := a.queue ++ [⟨11, index.toNat, 0, s.roleOf p role.toNat, .frame p req.toNat false⟩] })))) ∧
    (∀ (p : Path) (req : BitVec 32) (role : BitVec 2) (index : BitVec 16) (arg : BitVec 32), s.host.begun = true →
      (s.pairState = 0 ∨ s.holdsToken = true) →
      exec (.call p req role index arg) s =
        .next (State.settle (s.modAlm (fun a => { a with queue := a.queue ++ [⟨48, index.toNat, arg.toNat, s.roleOf p role.toNat, .frame p req.toNat false⟩] })))) ∧
    (∀ (p : Path) (req : BitVec 32) (role : BitVec 2) (index : BitVec 16), s.host.begun = true →
      (s.pairState = 0 ∨ s.holdsToken = true) →
      exec (.callSeen p req role index) s =
        .next (State.settle (s.modAlm (fun a => { a with queue := a.queue ++ [⟨49, index.toNat, 0, s.roleOf p role.toNat, .frame p req.toNat false⟩] })))) ∧
    (∀ (p : Path) (req : BitVec 32) (role : BitVec 2) (index : BitVec 16) (arg : BitVec 32), s.host.begun = true →
      (s.pairState = 0 ∨ s.holdsToken = true) →
      exec (.accept p req role index arg) s =
        .next (State.settle (s.modAlm (fun a => { a with queue := a.queue ++ [⟨50, index.toNat, arg.toNat, s.roleOf p role.toNat, .frame p req.toNat false⟩] })))) ∧
    ((s.alm.queue.filter (fun e => e.src == .panel)).length < 16 →
      exec .panelAck s =
        .next (State.settle (s.modAlm (fun a => { a with queue := a.queue ++ [⟨0x20, 0, 0, 3, .panel⟩] })))) ∧
    ((s.alm.queue.filter (fun e => e.src == .panel)).length < 16 →
      exec .panelZero s =
        .next (State.settle (s.modAlm (fun a => { a with queue := a.queue ++ [⟨0x22, 0, 0, 3, .panel⟩] })))) ∧
    ((s.alm.queue.filter (fun e => e.src == .panel)).length < 16 →
      exec .panelSpan s =
        .next (State.settle (s.modAlm (fun a => { a with queue := a.queue ++ [⟨0x23, 0, 0, 3, .panel⟩] })))) ∧
    ((s.alm.queue.filter (fun e => e.src == .panel)).length < 16 →
      exec .panelEnter s =
        .next (State.settle (s.modAlm (fun a => { a with queue := a.queue ++ [⟨0x24, 0, 0, 3, .panel⟩] })))) ∧
    ((s.alm.queue.filter (fun e => e.src == .panel)).length < 16 →
      exec .panelCancel s =
        .next (State.settle (s.modAlm (fun a => { a with queue := a.queue ++ [⟨0x25, 0, 0, 3, .panel⟩] })))) ∧
    (∀ (c : BitVec 5), (s.alm.queue.filter (fun e => e.src == .panel)).length < 16 →
      exec (.panelSel c) s =
        .next (State.settle (s.modAlm (fun a => { a with queue := a.queue ++ [⟨0x21, c.toNat, 0, 3, .panel⟩] }))))

/-- R511, R512, R515, R525, R530 to R532, R534, R536: the delays, staleness and shelving of a point, the escalation of a class, the
presence of targets and the watch timer. -/
def Obligations.PointsClassesAndWatch : Prop :=
  ∀ (s : State),
    (∀ (p : BitVec 12) (r : PointRec), s.img.run.pointRec p.toNat = some r →
      (s.point p.toNat).c ≠ (s.point p.toNat).active →
      (if (s.point p.toNat).active then r.off else r.on) < (s.point p.toNat).timer + 1 →
      exec (.pointDelayExpiry p) s =
        .next (State.settle ((s.setPoint p.toNat (PointSt.put { (s.point p.toNat) with timer := 0 } 0 (s.point p.toNat).c)).annunciate (s.point p.toNat) r))) ∧
    (∀ (p : BitVec 12) (r : PointRec), s.img.run.pointRec p.toNat = some r →
      (s.point p.toNat).bad ≠ 0 →
      (s.point p.toNat).srcBad = false →
      s.getF R.ALM_CTRL F.ALM_CTRL_BAD_DELAY ≤ (s.point p.toNat).bad + 1 →
      exec (.srcBadSet p) s =
        .next (State.settle ((s.setPoint p.toNat (PointSt.put { (s.point p.toNat) with bad := min ((s.point p.toNat).bad + 1) 255 } 3 true)).annunciate (s.point p.toNat) r))) ∧
    (∀ (p : BitVec 12) (r : PointRec), s.img.run.pointRec p.toNat = some r →
      r.source = 2 →
      s.getF R.ALM_CTRL F.ALM_CTRL_SCORE_STALE ≠ 0 →
      s.getF R.ALM_CTRL F.ALM_CTRL_SCORE_STALE ≤ (s.point p.toNat).age + 1 →
      exec (.scoreStale p) s =
        .next (State.settle (s.setPoint p.toNat (PointSt.put { (s.point p.toNat) with age := min ((s.point p.toNat).age + 1) (2 ^ 20 - 1) } 4 true)))) ∧
    (∀ (p : BitVec 12) (r : PointRec), s.img.run.pointRec p.toNat = some r →
      r.source = 3 →
      (s.point p.toNat).bad = 0 →
      s.getF R.RADIO_STALE F.RADIO_STALE_COMMITS ≤ (s.point p.toNat).age + 1 →
      exec (.radioStale p) s =
        .next (State.settle (s.setPoint p.toNat { (s.point p.toNat) with age := min ((s.point p.toNat).age + 1) (2 ^ 20 - 1), bad := 1 }))) ∧
    (∀ (p : BitVec 12) (r : PointRec), s.img.run.pointRec p.toNat = some r →
      (s.point p.toNat).shelvd = true →
      (s.point p.toNat).shelve = 1 →
      exec (.shelveExpiry p) s =
        .next (State.settle (s.annunciate (s.point p.toNat) r))) ∧
    (∀ (c : BitVec 4), s.clsState c.toNat = 1 →
      s.clsLevel c.toNat < s.lastLevel c.toNat →
      s.escOf c.toNat (s.clsLevel c.toNat) ≤ s.clsTimer c.toNat + 1 →
      exec (.escalation c) s =
        .next (State.settle (s.setCls c.toNat 1 (s.callFrom c.toNat 4 (s.clsLevel c.toNat + 1)) 0))) ∧
    (∀ (c : BitVec 4), s.clsState c.toNat = 2 →
      s.getF (R.CLASS_CFG c.toNat) F.CLASS_CFG_ACCEPT_EPOCHS ≠ 0 →
      s.getF (R.CLASS_CFG c.toNat) F.CLASS_CFG_ACCEPT_EPOCHS ≤ s.clsTimer c.toNat + 1 →
      exec (.acceptTimeout c) s =
        .next (State.settle (s.setCls c.toNat 1 (s.clsLevel c.toNat) 0))) ∧
    (∀ (t : BitVec 6), s.targetKind t.toNat = 1 →
      s.present t.toNat = true →
      s.ageLimit ≤ kvGet (fun _ => 0) t.toNat s.alm.ages + 1 →
      exec (.targetPresenceLost t) s =
        .next (State.settle (s.targetAge t.toNat))) ∧
    (∀ (t : BitVec 6), s.targetKind t.toNat = 1 →
      (s.pairState = 0 ∨ s.holdsToken = true) →
      exec (.callFrameSend t) s =
        .next (State.settle ((s.modAlm (fun a => { a with sent := kvPut t.toNat (s.callValues t.toNat) a.sent })).originate 2
          ((s.modAlm (fun a => { a with sent := kvPut t.toNat (s.callValues t.toNat) a.sent })).reg64 (R.TARGET_MAC_LO t.toNat)) false
          (leBytes 4 (s.modAlm (fun a => { a with sent := kvPut t.toNat (s.callValues t.toNat) a.sent })).chain.seq ++
            copies 20 0#8 ++ leBytes 2 (s.callValues t.toNat).length ++ copies 6 0#8 ++
            ((s.callValues t.toNat).map (fun v => [0x30#8, 0#8] ++ leBytes 2 t.toNat ++ copies 4 0#8 ++
              leBytes 8 (pairWord v))).flatten)))) ∧
    (s.watchState = 1 →
      1 < s.regN R.WATCH_REMAIN →
      s.regN R.WATCH_REMAIN - 1 ≤ s.getF R.WATCH_PRE F.WATCH_PRE_EPOCHS →
      exec .watchPrewarn s =
        .next (State.settle (s.watchTick))) ∧
    ((s.watchState = 1 ∨ s.watchState = 2) →
      s.regN R.WATCH_REMAIN ≤ 1 →
      exec .watchExpiry s =
        .next (State.settle (s.watchTick.watchAnnounce (s.point watchPoint))))

/-- R542, R543, R549, R550, R579: the commands of the field port: inventory and selection, blocks read and written, the security status,
and the end of an RF session. -/
def Obligations.TagCommands : Prop :=
  ∀ (s : State),
    (∀ (n : BitVec 7) (mask : BitVec 64) (t : Nat), (s.fieldSeen t).tag.quiet = false →
      mask.toNat % 2 ^ min n.toNat 64 = Config.tagUid.toNat % 2 ^ min n.toNat 64 →
      exec (.inventory n mask t) s =
        .next (State.settle ((s.fieldSeen t).tagAnswer (0#8 :: leBytes 8 Config.tagUid.toNat)))) ∧
    (∀ (t : Nat), exec (.stayQuiet Config.tagUid t) s =
        .next (State.settle ((s.fieldSeen t).modTag (fun x => { x with quiet := true, selected := false })))) ∧
    (∀ (t : Nat), exec (.select Config.tagUid t) s =
        .next (State.settle (((s.fieldSeen t).modTag (fun x => { x with selected := true, quiet := false })).tagAnswer []))) ∧
    (∀ (uid : BitVec 64) (t : Nat), uid ≠ Config.tagUid →
      exec (.select uid t) s =
        .next (State.settle ((s.fieldSeen t).modTag (fun x => { x with selected := false })))) ∧
    (∀ (uid : Option (BitVec 64)) (sel : Bool) (t : Nat), (s.fieldSeen t).tagTakes uid sel = true →
      exec (.resetToReady uid sel t) s =
        .next (State.settle (((s.fieldSeen t).modTag (fun x => { x with quiet := false, selected := false })).tagAnswer []))) ∧
    (∀ (uid : Option (BitVec 64)) (sel : Bool) (t : Nat), (s.fieldSeen t).tagTakes uid sel = true →
      exec (.getSystemInformation uid sel t) s =
        .next (State.settle ((s.fieldSeen t).tagAnswer (4#8 :: leBytes 8 Config.tagUid.toNat ++ leBytes 2 2047 ++ [3#8])))) ∧
    (∀ (uid : Option (BitVec 64)) (sel : Bool) (b : BitVec 16) (ext : Bool) (t : Nat), (s.fieldSeen t).tagTakes uid sel = true →
      blockNo b ext < 2032 →
      exec (.readSingleBlock uid sel b ext t) s =
        .next (State.settle ((s.fieldSeen t).tagAnswer ((s.fieldSeen t).tagRead (4 * blockNo b ext) 4)))) ∧
    (∀ (uid : Option (BitVec 64)) (sel : Bool) (b : BitVec 16) (ext : Bool) (v : Word) (lock : Bool) (t : Nat), (s.fieldSeen t).tagTakes uid sel = true →
      832 ≤ blockNo b ext →
      blockNo b ext < 2032 →
      (lock = false ∨ (s.fieldSeen t).tag.session = true) →
      exec (.writeSingleBlock uid sel b ext v lock t) s =
        .next (State.settle (((s.fieldSeen t).beginSession.tagWrite (4 * blockNo b ext) (leBytes 4 v.toNat)).tagAnswer []))) ∧
    (∀ (uid : Option (BitVec 64)) (sel : Bool) (b n : BitVec 16) (ext : Bool) (t : Nat), (s.fieldSeen t).tagTakes uid sel = true →
      1 ≤ n.toNat →
      n.toNat ≤ 32 →
      blockNo b ext + n.toNat ≤ 2032 →
      exec (.readMultipleBlocks uid sel b n ext t) s =
        .next (State.settle ((s.fieldSeen t).tagAnswer ((s.fieldSeen t).tagRead (4 * blockNo b ext) (4 * n.toNat))))) ∧
    (∀ (uid : Option (BitVec 64)) (sel : Bool) (b n : BitVec 16) (ext : Bool) (t : Nat), (s.fieldSeen t).tagTakes uid sel = true →
      1 ≤ n.toNat →
      blockNo b ext + n.toNat ≤ 2032 →
      exec (.getMultipleBlockSecurityStatus uid sel b n ext t) s =
        .next (State.settle ((s.fieldSeen t).tagAnswer (copies n.toNat 0#8)))) ∧
    (∀ (t : Nat), s.tag.session = true →
      s.tag.lastField + 50000000 ≤ t →
      s.pwr.up = false →
      exec (.rfSessionEnd false t) s =
        .next (State.settle ((s.at t).modTag (fun x => { x with session := false, mbxDue := true })))) ∧
    (∀ (t : Nat), s.tag.session = true →
      s.tag.lastField + 50000000 ≤ t →
      s.pwr.up = true →
      exec (.rfSessionEnd false t) s =
        .next (State.settle (State.rfSessionOver ((s.at t).modTag (fun x => { x with session := false, mbxDue := true })))))

/-- R554 to R556, R388, R445, R447: the buttons of the front panel and the times its screens stay. -/
def Obligations.PanelButtons : Prop :=
  ∀ (s : State),
    (∀ (t : Nat) (u : State), s.pressed t u →
      u.flag R.PANEL_CTRL F.PANEL_CTRL_ACK_EN = true →
      (u.pairState = 0 ∨ u.holdsToken = true) →
      exec (.buttonAck t) s =
        .next (State.settle (u.panelQueue 0x20 0))) ∧
    (∀ (t : Nat) (u : State), s.pressed t u →
      u.flag R.PANEL_CTRL F.PANEL_CTRL_ACK_EN = true →
      u.pairState ≠ 0 →
      u.holdsToken = false →
      exec (.buttonAck t) s =
        .next (State.settle (u.forwardEntries [(0x20, 0, 0)]))) ∧
    (∀ (t : Nat) (u : State), s.pressed t u →
      u.trimKind ≠ 1 →
      u.trimBarred = false →
      u.panel.sel = none →
      exec (.buttonSel t) s =
        .next (State.settle (u.modPan (fun p => { p with sel := some p.last })))) ∧
    (∀ (t : Nat) (u : State) (c : Nat), s.pressed t u →
      u.trimKind ≠ 1 →
      u.trimBarred = false →
      u.panel.sel = some c →
      exec (.buttonSel t) s =
        .next (State.settle (u.modPan (fun p => { p with sel := some ((c + 1) % 32), last := (c + 1) % 32 })))) ∧
    (∀ (t : Nat) (u : State), s.pressed t u →
      u.trimKind = 1 →
      u.trimBarred = false →
      exec (.buttonEnter t) s =
        .next (State.settle (u.panelQueue 0x24 0))) ∧
    (∀ (t : Nat) (u : State) (c : Nat), s.pressed t u →
      u.trimKind ≠ 1 →
      u.trimBarred = false →
      u.panel.sel = some c →
      exec (.buttonEnter t) s =
        .next (State.settle ((u.modPan (fun p => { p with last := c })).panelQueue 0x21 c))) ∧
    (∀ (t : Nat) (u : State), s.pressed t u →
      u.trimKind ≠ 1 →
      u.panel.sel = none →
      exec (.buttonEnter t) s =
        .next (State.settle (u.setF R.PANEL_STATUS F.PANEL_STATUS_PAGE ((u.getF R.PANEL_STATUS F.PANEL_STATUS_PAGE + 1) % 6)))) ∧
    (∀ (t : Nat) (u : State), s.pressed t u →
      u.trimKind = 1 →
      u.trimBarred = false →
      exec (.buttonZero t) s =
        .next (State.settle (u.panelQueue 0x22 0))) ∧
    (∀ (t : Nat) (u : State), s.pressed t u →
      u.trimKind = 1 →
      u.trimBarred = false →
      exec (.buttonSpan t) s =
        .next (State.settle (u.panelQueue 0x23 0))) ∧
    (∀ (t : Nat), s.buttonsOn = true →
      s.trimKind = 1 →
      s.trimBarred = false →
      exec (.selHold t) s =
        .next (State.settle ((s.at t).panelQueue 0x25 0))) ∧
    (∀ (t : Nat), s.buttonsOn = true →
      s.trimKind ≠ 1 →
      exec (.selHold t) s =
        .next (State.settle ((s.at t).modPan (fun p => { p with sel := none })))) ∧
    (∀ (t : Nat), s.panel.sel.isSome = true →
      s.panel.pressT + 10000000000 ≤ t →
      exec (.selectTimeout t) s =
        .next (State.settle ((s.at t).modPan (fun p => { p with sel := none })))) ∧
    (∀ (t t0 : Nat) (m : Nat), s.panel.msg = some (m, t0) →
      t0 + 2000000000 ≤ t →
      exec (.messageScreenTimeout t) s =
        .next (State.settle ((s.at t).modPan (fun p => { p with msg := none }))))

/-- R545, R546, R553, R564, R567, R576 to R579: an idle session closes, a lockout and the enrolment window end, the store of a security
command completes, the fault log is written, and the mailbox is served. -/
def Obligations.SessionsKeysAndStores : Prop :=
  ∀ (s : State),
    (∀ (id : BitVec 32) (t : Nat) (y : SessSt), s.openSess id.toNat = some y →
      y.last + s.getF R.HOSTIF_CTRL F.HOSTIF_CTRL_SESS_IDLE * 1000000000 ≤ t →
      exec (.sessionIdleTimeout id t) s =
        .next (State.settle ((s.at t).closeSess id.toNat))) ∧
    (∀ (src : BitVec 48) (t : Nat), exec (.lockoutExpiry src t) s =
        .next (State.settle ((s.at t).modHost (fun h => { h with locks := h.locks.filter (fun l => l.1 != src.toNat || Nat.blt (s.at t).now l.2) })))) ∧
    (∀ (e t : Nat), s.host.window = some e →
      e ≤ t →
      exec (.enrolWindowExpiry t) s =
        .next (State.settle ((s.at t).closeWindow))) ∧
    (∀ (o : SecOp), s.host.secOp = some o →
      exec (.secStoreComplete true) s =
        .next (State.settle ((((((s.modHost (fun h => { h with secOp := none })).drop R.SEC_STATUS F.SEC_STATUS_STORE_BUSY).secDone o).secCounts).secResult
          o.cmd o.slot 1)))) ∧
    (∀ (o : SecOp), s.host.secOp = some o →
      exec (.secStoreComplete false) s =
        .next (State.settle ((((s.modHost (fun h => { h with secOp := none })).drop R.SEC_STATUS F.SEC_STATUS_STORE_BUSY).secResult o.cmd o.slot 7).raise
          R.SEC_ERR F.SEC_ERR_STORE))) ∧
    (∀ (k : Nat) (bs : List Byte) (rest : List (Nat × List Byte)), s.tag.logQ = (k, bs) :: rest →
      s.pwr.up = true →
      exec (.faultLogWrite true) s =
        .next (State.settle (((s.modTag (fun x => { x with logQ := rest })).raise R.TAG_STATUS F.TAG_STATUS_TAG_OK).putLog k bs))) ∧
    (∀ (k : Nat) (bs : List Byte) (rest : List (Nat × List Byte)), s.tag.logQ = (k, bs) :: rest →
      s.pwr.up = true →
      exec (.faultLogWrite false) s =
        .next (State.settle (s.tagFails))) ∧
    (∀ (r : TagRec) (ws : List Word) (u : State), s.pwr.up = true →
      s.tag.mbxDue = true →
      s.flag R.TAG_CTRL F.TAG_CTRL_MBX_EN = true →
      s.flag R.TAG_STATUS F.TAG_STATUS_TAG_OK = true →
      s.tagRecord mailbox = some r →
      r.kind = 0x10 →
      s.tag.answered ≠ some (fieldAt r.payload 0 4) →
      s.tag.session = false →
      s.host.begun = true →
      r.payload.length = 12 →
      fieldAt r.payload 4 1 = 1 →
      fieldAt r.payload 5 1 ≠ 0 →
      fieldAt r.payload 5 1 ≤ 32 →
      fieldAt r.payload 6 2 = 0 →
      s.readBlock .mailbox 0 (fieldAt r.payload 8 4) (fieldAt r.payload 5 1) = (0, ws, u) →
      exec .mailboxServe s =
        .next (State.settle (((u.tagPutRecord mailbox 0x11 (leBytes 4 (fieldAt r.payload 0 4) ++ leBytes 1 0 ++ [0#8] ++ leBytes 2 ws.length ++
          leBytes 4 (fieldAt r.payload 8 4) ++ wordBytes ws)).modTag (fun t => { t with mbxDue := false, answered := some (fieldAt r.payload 0 4) })).setRegN
          R.MBX_STATUS (fieldAt r.payload 0 4 % 65536))))
end

