-- ==== Sys2Proof/Laws/Tables.lean ====
section
/-! SUPPORT. Sparse tables and byte memories: what reads back after a write, and that every operation keeps the canonical
form. -/

namespace Sys2Proof.Machine

variable {α : Type}

/-! ### What reads back -/

theorem kvFind_kvPut (k b : Nat) (v : α) (t : List (Nat × α)) :
    kvFind b (kvPut k v t) = if b = k then some v else kvFind b t := by
  induction t with
  | nil => simp [kvPut, kvFind]
  | cons p t ih =>
    obtain ⟨j, w⟩ := p
    simp only [kvPut]
    split
    · simp [kvFind]
    · split
      · subst_vars; simp only [kvFind]; split <;> rfl
      · simp only [kvFind, ih]; split <;> split <;> simp_all

theorem kvFind_kvErase (k b : Nat) (t : List (Nat × α)) :
    kvFind b (kvErase k t) = if b = k then none else kvFind b t := by
  induction t with
  | nil => simp [kvErase, kvFind]
  | cons p t ih =>
    obtain ⟨j, w⟩ := p
    simp only [kvErase]
    split
    · simp only [ih, kvFind]; split <;> simp_all
    · simp only [kvFind, ih]; split <;> split <;> simp_all

/-- What a table reads after one key is set. -/
theorem kvGet_kvSet [DecidableEq α] (d : Nat → α) (k b : Nat) (v : α) (t : List (Nat × α)) :
    kvGet d b (kvSet d k v t) = if b = k then v else kvGet d b t := by
  unfold kvGet kvSet
  by_cases h : v = d k
  · rw [if_pos h, kvFind_kvErase]; split <;> simp_all
  · rw [if_neg h, kvFind_kvPut]; split <;> simp_all

/-- A byte that a store does not reach reads as before. -/
theorem memGet_memWrite_out (bs : List Byte) : ∀ (m : List (Nat × Byte)) (a x : Nat), (x < a ∨ a + bs.length ≤ x) →
    memGet (memWrite m a bs) x = memGet m x := by
  induction bs with
  | nil => intros; rfl
  | cons b bs ih =>
    intro m a x h
    simp only [List.length_cons] at h
    rw [memWrite, ih _ _ _ (by omega), memGet, kvGet_kvSet, if_neg (by omega)]; rfl

/-- A byte that a store reaches reads as stored. -/
theorem memGet_memWrite_in (bs : List Byte) : ∀ (m : List (Nat × Byte)) (a i : Nat) (h : i < bs.length),
    memGet (memWrite m a bs) (a + i) = bs[i] := by
  induction bs with
  | nil => intro m a i h; simp at h
  | cons b bs ih =>
    intro m a i h
    rw [memWrite]
    cases i with
    | zero => rw [memGet_memWrite_out _ _ _ _ (by omega), memGet, kvGet_kvSet]; simp
    | succ i =>
      have h' : i < bs.length := by simpa using h
      have := ih (kvSet byteDflt a b m) (a + 1) i h'
      simpa [Nat.add_comm, Nat.add_left_comm, Nat.add_assoc] using this

/-! ### The canonical form -/

theorem kvRising_cons (p : Nat × α) (t : List (Nat × α)) :
    kvRising (p :: t) = true ↔ (∀ q ∈ t.head?, p.1 < q.1) ∧ kvRising t = true := by
  cases t with
  | nil => simp [kvRising]
  | cons q t => obtain ⟨j, v⟩ := p; obtain ⟨k, w⟩ := q; simp [kvRising, Nat.blt_eq]

/-- Keys that rise step by step rise throughout. -/
theorem kvRising_iff (t : List (Nat × α)) : kvRising t = true ↔ t.Pairwise (fun p q => p.1 < q.1) := by
  induction t with
  | nil => simp [kvRising]
  | cons p t ih =>
    rw [kvRising_cons, List.pairwise_cons, ← ih]
    constructor
    · rintro ⟨h, ht⟩
      refine ⟨?_, ht⟩
      cases t with
      | nil => simp
      | cons q t =>
        have hq : p.1 < q.1 := h q (by simp)
        intro r hr
        rcases List.mem_cons.mp hr with rfl | hr
        · exact hq
        · exact Nat.lt_trans hq ((List.pairwise_cons.mp (ih.mp ht)).1 r hr)
    · rintro ⟨h, ht⟩
      refine ⟨?_, ht⟩
      intro q hq
      exact h q (List.mem_of_mem_head? hq)

theorem kvWf_iff [DecidableEq α] (d : Nat → α) (t : List (Nat × α)) :
    kvWf d t = true ↔ t.Pairwise (fun p q => p.1 < q.1) ∧ ∀ p ∈ t, p.2 ≠ d p.1 := by
  simp [kvWf, kvRising_iff, List.all_eq_true]

/-- Leaving entries out keeps the canonical form. -/
theorem kvWf_filter [DecidableEq α] {d : Nat → α} {t : List (Nat × α)} (f : Nat × α → Bool) (h : kvWf d t = true) :
    kvWf d (t.filter f) = true := by
  rw [kvWf_iff] at *
  exact ⟨h.1.filter f, fun p hp => h.2 p (List.mem_of_mem_filter hp)⟩

theorem kvErase_eq_filter (k : Nat) (t : List (Nat × α)) : kvErase k t = t.filter (fun p => p.1 != k) := by
  induction t with
  | nil => rfl
  | cons p t ih =>
    obtain ⟨j, w⟩ := p
    by_cases h : k = j
    · subst h; simp [kvErase, ih]
    · have : j ≠ k := fun e => h e.symm
      simp [kvErase, h, this, ih]

theorem mem_kvPut {k : Nat} {v : α} {t : List (Nat × α)} {p : Nat × α} (h : p ∈ kvPut k v t) : p = (k, v) ∨ p ∈ t := by
  induction t with
  | nil => simpa [kvPut] using h
  | cons q t ih =>
    obtain ⟨j, w⟩ := q
    simp only [kvPut] at h
    split at h
    · simp_all
    · split at h
      · rcases List.mem_cons.mp h with h | h <;> simp_all
      · rcases List.mem_cons.mp h with h | h
        · simp_all
        · rcases ih h with h | h <;> simp_all

theorem pairwise_kvPut {k : Nat} {v : α} {t : List (Nat × α)} (h : t.Pairwise (fun p q => p.1 < q.1)) :
    (kvPut k v t).Pairwise (fun p q => p.1 < q.1) := by
  induction t with
  | nil => simp [kvPut]
  | cons q t ih =>
    obtain ⟨j, w⟩ := q
    have hc := List.pairwise_cons.mp h
    simp only [kvPut]
    split
    · rename_i hk
      refine List.pairwise_cons.mpr ⟨?_, h⟩
      intro p hp
      rcases List.mem_cons.mp hp with rfl | hp
      · exact hk
      · exact Nat.lt_trans hk (hc.1 p hp)
    · split
      · rename_i hk; subst hk; exact List.pairwise_cons.mpr ⟨fun p hp => hc.1 p hp, hc.2⟩
      · refine List.pairwise_cons.mpr ⟨?_, ih hc.2⟩
        intro p hp
        rcases mem_kvPut hp with rfl | hp
        · show j < k; omega
        · exact hc.1 p hp

/-- Setting a key keeps the canonical form. -/
theorem kvWf_kvSet [DecidableEq α] {d : Nat → α} {t : List (Nat × α)} (k : Nat) (v : α) (h : kvWf d t = true) :
    kvWf d (kvSet d k v t) = true := by
  unfold kvSet
  by_cases hv : v = d k
  · rw [if_pos hv, kvErase_eq_filter]; exact kvWf_filter _ h
  · rw [if_neg hv]
    rw [kvWf_iff] at *
    refine ⟨pairwise_kvPut h.1, fun p hp => ?_⟩
    rcases mem_kvPut hp with rfl | hp
    · exact hv
    · exact h.2 p hp

/-- A store keeps a memory canonical. -/
theorem Memory.wf_memWrite (bs : List Byte) : ∀ (m : List (Nat × Byte)) (a : Nat), Memory.wf m = true →
    Memory.wf (memWrite m a bs) = true := by
  induction bs with
  | nil => intro m a h; exact h
  | cons b bs ih => intro m a h; exact ih _ _ (kvWf_kvSet a b h)

/-- Clearing a range keeps a memory canonical. -/
theorem Memory.wf_memClear (m : List (Nat × Byte)) (a n : Nat) (h : Memory.wf m = true) :
    Memory.wf (memClear m a n) = true := kvWf_filter _ h

end Sys2Proof.Machine
end

