-- ==== Sys2Proof/Laws/Kept.lean ====
section
/-! SUPPORT. What every command keeps, under the elementary updates: a sound state (canonical tables, sixteen quarters) and
the queue. -/

namespace Sys2Proof.Machine

variable {wait : List Instr}

theorem State.kept_iff (s : State) : s.kept wait ↔
    kvWf resetOf s.regs = true ∧ Memory.wf s.mem.bytes = true ∧ Memory.wf s.grains.data = true ∧
      Memory.wf s.tag.mem = true ∧ s.quarters.length = 16 ∧ s.pending = wait := by
  simp [State.kept, State.sound, State.canonical, and_assoc]

theorem State.kept_regs {s : State} (h : s.kept wait) : kvWf resetOf s.regs = true := (s.kept_iff.mp h).1
theorem State.kept_mem {s : State} (h : s.kept wait) : Memory.wf s.mem.bytes = true := (s.kept_iff.mp h).2.1
theorem State.kept_grains {s : State} (h : s.kept wait) : Memory.wf s.grains.data = true := (s.kept_iff.mp h).2.2.1
theorem State.kept_tag {s : State} (h : s.kept wait) : Memory.wf s.tag.mem = true := (s.kept_iff.mp h).2.2.2.1
theorem State.kept_quarters {s : State} (h : s.kept wait) : s.quarters.length = 16 := (s.kept_iff.mp h).2.2.2.2.1
theorem State.kept_pending {s : State} (h : s.kept wait) : s.pending = wait := (s.kept_iff.mp h).2.2.2.2.2

/-- What it takes for a state written out as a record to be kept. -/
theorem State.mk_kept {pd n f rg m g r q i t tg pw ca io ra ld al ch hb pr ho pa o} :
    (State.mk pd n f rg m g r q i t tg pw ca io ra ld al ch hb pr ho pa o).kept wait ↔
      kvWf resetOf rg = true ∧ Memory.wf m.bytes = true ∧ Memory.wf g.data = true ∧ Memory.wf tg.mem = true ∧
        q.length = 16 ∧ pd = wait := by
  rw [State.kept_iff]

theorem State.setReg_kept (s : State) (a : Nat) (v : Word) (h : s.kept wait) : (s.setReg a v).kept wait := by
  rw [State.kept_iff] at *
  exact ⟨kvWf_kvSet a v h.1, h.2⟩

theorem State.setQtr_kept (s : State) (q : Nat) (v : Quarter) (h : s.kept wait) : (s.setQtr q v).kept wait := by
  rw [State.kept_iff] at *
  exact ⟨h.1, h.2.1, h.2.2.1, h.2.2.2.1, by simp [State.setQtr, setNth, h.2.2.2.2.1], h.2.2.2.2.2⟩

theorem State.poke_kept (s : State) (k : Nat) (bs : List Byte) (h : s.kept wait) : (s.poke k bs).kept wait := by
  rw [State.kept_iff] at *
  exact ⟨h.1, Memory.wf_memWrite bs _ k h.2.1, h.2.2⟩

theorem State.fillBank_kept (s : State) (q g b : Nat) (bs xs : List Byte) (h : s.kept wait) :
    (s.fillBank q g b bs xs).kept wait := by
  rw [State.kept_iff] at *
  exact ⟨h.1, h.2.1, Memory.wf_memWrite _ _ _ (Memory.wf_memWrite _ _ _ h.2.2.1), h.2.2.2⟩

theorem State.tagWrite_kept (s : State) (a : Nat) (bs : List Byte) (h : s.kept wait) : (s.tagWrite a bs).kept wait := by
  rw [State.kept_iff] at *
  exact ⟨h.1, h.2.1, h.2.2.1, Memory.wf_memWrite _ _ _ h.2.2.2.1, h.2.2.2.2⟩

theorem State.modTag_kept (s : State) (f : TagSt → TagSt) (h : s.kept wait) (hf : (f s.tag).mem = s.tag.mem) :
    (s.modTag f).kept wait := by
  rw [State.kept_iff] at *
  refine ⟨h.1, h.2.1, h.2.2.1, ?_, h.2.2.2.2⟩
  show Memory.wf (f s.tag).mem = true
  rw [hf]; exact h.2.2.2.1

theorem State.clearDie_kept (s : State) (d : Nat) (h : s.kept wait) : (s.clearDie d).kept wait := by
  unfold State.clearDie State.setF
  apply State.setReg_kept
  rw [State.kept_iff] at *
  exact ⟨h.1, Memory.wf_memClear _ _ _ (Memory.wf_memClear _ _ _ h.2.1), h.2.2⟩

/-! ### Lists and pairs -/

theorem foldl_kept {β : Type} {f : State → β → State} (hf : ∀ s x, s.kept wait → (f s x).kept wait) :
    ∀ (l : List β) (s : State), s.kept wait → (l.foldl f s).kept wait
  | [], _, h => h
  | x :: l, s, h => foldl_kept hf l (f s x) (hf s x h)

theorem foldl_kept2 {β γ : Type} {f : γ × State → β → γ × State}
    (hf : ∀ p x, p.2.kept wait → (f p x).2.kept wait) :
    ∀ (l : List β) (p : γ × State), p.2.kept wait → (l.foldl f p).2.kept wait
  | [], _, h => h
  | x :: l, p, h => foldl_kept2 hf l (f p x) (hf p x h)

theorem foldl_kept3 {β γ δ : Type} {f : γ × δ × State → β → γ × δ × State}
    (hf : ∀ p x, p.2.2.kept wait → (f p x).2.2.kept wait) :
    ∀ (l : List β) (p : γ × δ × State), p.2.2.kept wait → (l.foldl f p).2.2.kept wait
  | [], _, h => h
  | x :: l, p, h => foldl_kept3 hf l (f p x) (hf p x h)

theorem foldl_kept1 {β γ : Type} {f : State × γ → β → State × γ}
    (hf : ∀ p x, p.1.kept wait → (f p x).1.kept wait) :
    ∀ (l : List β) (p : State × γ), p.1.kept wait → (l.foldl f p).1.kept wait
  | [], _, h => h
  | x :: l, p, h => foldl_kept1 hf l (f p x) (hf p x h)

theorem State.each_kept {β : Type} (s : State) (l : List β) (f : State → β → State) (h : s.kept wait)
    (hf : ∀ s x, s.kept wait → (f s x).kept wait) : (s.each l f).kept wait := foldl_kept hf l s h

theorem ite_kept {c : Prop} [Decidable c] {s t : State} (hs : s.kept wait) (ht : t.kept wait) :
    (if c then s else t).kept wait := by split <;> assumption
theorem ite_kept2 {γ : Type} {c : Prop} [Decidable c] {p q : γ × State} (hp : p.2.kept wait) (hq : q.2.kept wait) :
    (if c then p else q).2.kept wait := by split <;> assumption
theorem fst_kept {γ : Type} {p : State × γ} {t : State} {x : γ} (e : p = (t, x)) (h : p.1.kept wait) : t.kept wait := by
  subst e; exact h
theorem snd_kept {γ : Type} {p : γ × State} {t : State} {x : γ} (e : p = (x, t)) (h : p.2.kept wait) : t.kept wait := by
  subst e; exact h
theorem thd_kept {γ δ : Type} {p : γ × δ × State} {t : State} {x : γ} {y : δ} (e : p = (x, y, t))
    (h : p.2.2.kept wait) : t.kept wait := by
  subst e; exact h

theorem State.rebooted_kept (s : State) (c : Bool) (h : s.kept wait) : (s.rebooted c).kept wait := by
  unfold State.rebooted State.drop State.setRegN State.setF
  dsimp only
  apply State.setReg_kept
  apply State.setReg_kept
  split <;> try apply State.setReg_kept
  all_goals
    refine foldl_kept (fun _ _ ht => State.setReg_kept _ _ _ ht) _ _ ?_
    apply State.setReg_kept
    apply State.setReg_kept
    apply State.setReg_kept
    rw [State.kept_iff] at *
    exact ⟨kvWf_filter _ h.1, rfl, rfl, h.2.2.2.1, by simp [State.reset, copies], h.2.2.2.2.2⟩

end Sys2Proof.Machine
end

