-- ==== Sys2Proof/Laws/Kept1.lean ====
section
/-! SUPPORT. Every operation keeps State.kept: those of Ops, Memory, Sequencer, Spans, Vector, Grain, Power, Time,
Recovery. -/

namespace Sys2Proof.Machine

variable {wait : List Instr}

theorem State.inc_kept (s : State) (a : Nat) (h : s.kept wait) :
    (s.inc a).kept wait := by
  unfold State.inc
  with_reducible repeat' first | assumption | apply State.setReg_kept

theorem State.setF_kept (s : State) (a : Nat) (f : Fld) (v : Nat) (h : s.kept wait) :
    (s.setF a f v).kept wait := by
  unfold State.setF
  with_reducible repeat' first | assumption | apply State.setReg_kept

theorem State.raise_kept (s : State) (a : Nat) (f : Fld) (h : s.kept wait) :
    (s.raise a f).kept wait := by
  unfold State.raise
  with_reducible repeat' first | assumption | apply State.setF_kept

theorem State.setRegN_kept (s : State) (a : Nat) (n : Nat) (h : s.kept wait) :
    (s.setRegN a n).kept wait := by
  unfold State.setRegN
  with_reducible repeat' first | assumption | apply State.setReg_kept

theorem State.fresh_kept (s : State) (h : s.kept wait) :
    (s.fresh).2.kept wait := by
  unfold State.fresh
  try dsimp only
  with_reducible repeat' first | assumption | split | exact (rfl : TagSt.mem _ = TagSt.mem _) | apply State.kept_mem | apply State.kept_grains | apply State.kept_tag | apply State.kept_regs | apply State.kept_quarters | apply State.kept_pending | simp only [State.mk_kept] | apply And.intro

theorem State.setReg64_kept (s : State) (a : Nat) (n : Nat) (h : s.kept wait) :
    (s.setReg64 a n).kept wait := by
  unfold State.setReg64
  with_reducible repeat' first | assumption | apply State.setRegN_kept

theorem State.setPair_kept (s : State) (a : Nat) (v : Nat) (h : s.kept wait) :
    (s.setPair a v).kept wait := by
  unfold State.setPair
  with_reducible repeat' first | assumption | apply State.setRegN_kept

theorem State.drop_kept (s : State) (a : Nat) (f : Fld) (h : s.kept wait) :
    (s.drop a f).kept wait := by
  unfold State.drop
  with_reducible repeat' first | assumption | apply State.setF_kept

theorem State.addReg_kept (s : State) (a : Nat) (n : Nat) (h : s.kept wait) :
    (s.addReg a n).kept wait := by
  unfold State.addReg
  with_reducible repeat' first | assumption | apply State.setRegN_kept

theorem State.modQ_kept (s : State) (q : Nat) (f : Quarter → Quarter) (h : s.kept wait) :
    (s.modQ q f).kept wait := by
  unfold State.modQ
  with_reducible repeat' first | assumption | apply State.setQtr_kept

theorem State.setQState_kept (s : State) (q : Nat) (v : Nat) (h : s.kept wait) :
    (s.setQState q v).kept wait := by
  unfold State.setQState
  with_reducible repeat' first | assumption | apply State.setF_kept

theorem State.setBank_kept (s : State) (q : Nat) (g : Nat) (b : Nat) (v : Nat) (h : s.kept wait) :
    (s.setBank q g b v).kept wait := by
  unfold State.setBank
  with_reducible repeat' first | assumption | apply State.setF_kept

theorem State.incSat_kept (s : State) (a : Nat) (h : s.kept wait) :
    (s.incSat a).kept wait := by
  unfold State.incSat
  with_reducible repeat' first | assumption | apply State.setReg_kept

theorem State.ringPut_kept (s : State) (bs : List Byte) (h : s.kept wait) :
    (s.ringPut bs).kept wait := by
  unfold State.ringPut
  try dsimp only
  with_reducible repeat' first | assumption | apply State.each_kept | apply State.raise_kept | apply State.setF_kept | apply State.setRegN_kept | split | dsimp only | apply foldl_kept | intro _

theorem State.tagLog_kept (s : State) (kind : Nat) (body : List Byte) (h : s.kept wait) :
    (s.tagLog kind body).kept wait := by
  unfold State.tagLog
  try dsimp only
  with_reducible repeat' first | assumption | apply State.inc_kept | split | exact (rfl : TagSt.mem _ = TagSt.mem _) | apply State.kept_mem | apply State.kept_grains | apply State.kept_tag | apply State.kept_regs | apply State.kept_quarters | apply State.kept_pending | simp only [State.mk_kept] | apply And.intro

theorem State.event_kept (s : State) (kind : Nat) (cause : Nat) (action : Nat) (unit : Nat) (detail : Nat) (h : s.kept wait) :
    (s.event kind cause action unit detail).kept wait := by
  unfold State.event
  with_reducible repeat' first | assumption | apply State.ringPut_kept | apply State.tagLog_kept

theorem State.at_kept (s : State) (t : Nat) (h : s.kept wait) :
    (s.at t).kept wait := by
  unfold State.at
  try dsimp only
  with_reducible repeat' first | assumption | split | exact (rfl : TagSt.mem _ = TagSt.mem _) | apply State.kept_mem | apply State.kept_grains | apply State.kept_tag | apply State.kept_regs | apply State.kept_quarters | apply State.kept_pending | simp only [State.mk_kept] | apply And.intro

theorem State.setCapacity_kept (s : State) (h : s.kept wait) :
    (s.setCapacity).kept wait := by
  unfold State.setCapacity
  with_reducible repeat' first | assumption | apply State.setRegN_kept

theorem State.recount_kept (s : State) (q : Nat) (h : s.kept wait) :
    (s.recount q).kept wait := by
  unfold State.recount
  with_reducible repeat' first | assumption | apply State.setF_kept

theorem State.setGState_kept (s : State) (q : Nat) (g : Nat) (v : Nat) (h : s.kept wait) :
    (s.setGState q g v).kept wait := by
  unfold State.setGState
  with_reducible repeat' first | assumption | apply State.recount_kept | apply State.setF_kept

theorem State.incF_kept (s : State) (a : Nat) (f : Fld) (h : s.kept wait) :
    (s.incF a f).kept wait := by
  unfold State.incF
  with_reducible repeat' first | assumption | apply State.setF_kept | split

theorem State.setPoison_kept (s : State) (k : Nat) (on : Bool) (h : s.kept wait) :
    (s.setPoison k on).kept wait := by
  unfold State.setPoison
  try dsimp only
  with_reducible repeat' first | assumption | apply State.setF_kept | split | exact (rfl : TagSt.mem _ = TagSt.mem _) | apply State.kept_mem | apply State.kept_grains | apply State.kept_tag | apply State.kept_regs | apply State.kept_quarters | apply State.kept_pending | simp only [State.mk_kept] | apply And.intro

theorem State.restoreBlock_kept (s : State) (e : Nat × List Byte) (h : s.kept wait) :
    (s.restoreBlock e).kept wait := by
  unfold State.restoreBlock
  try dsimp only
  with_reducible repeat' first | assumption | apply State.poke_kept | apply State.setPoison_kept | split

theorem State.loseQ_kept (s : State) (qs : List Nat) (h : s.kept wait) :
    (s.loseQ qs).kept wait := by
  unfold State.loseQ
  try dsimp only
  with_reducible repeat' first | assumption | split | exact (rfl : TagSt.mem _ = TagSt.mem _) | apply State.kept_mem | apply State.kept_grains | apply State.kept_tag | apply State.kept_regs | apply State.kept_quarters | apply State.kept_pending | simp only [State.mk_kept] | apply And.intro

theorem State.detect_kept (s : State) (unitKind : Nat) (cause : Nat) (unit : Nat) (detail : Nat) (h : s.kept wait) :
    (s.detect unitKind cause unit detail).kept wait := by
  unfold State.detect
  try dsimp only
  with_reducible repeat' first | assumption | split | exact (rfl : TagSt.mem _ = TagSt.mem _) | apply State.kept_mem | apply State.kept_grains | apply State.kept_tag | apply State.kept_regs | apply State.kept_quarters | apply State.kept_pending | simp only [State.mk_kept] | apply And.intro

theorem State.putFault_kept (s : State) (q : Nat) (code : Nat) (lw : Nat) (slot : Nat) (kind : Nat) (h : s.kept wait) :
    (s.putFault q code lw slot kind).kept wait := by
  unfold State.putFault
  with_reducible repeat' first | assumption | apply State.setReg64_kept | apply State.setRegN_kept

theorem State.hwFault_kept (s : State) (q : Nat) (code : Nat) (lw : Nat) (slot : Nat) (unitKind : Nat) (cause : Nat) (unit : Nat) (h : s.kept wait) :
    (s.hwFault q code lw slot unitKind cause unit).kept wait := by
  unfold State.hwFault
  try dsimp only
  with_reducible repeat' first | assumption | apply State.detect_kept | apply State.event_kept | apply State.inc_kept | apply State.putFault_kept | apply State.raise_kept | split | exact (rfl : TagSt.mem _ = TagSt.mem _) | apply State.kept_mem | apply State.kept_grains | apply State.kept_tag | apply State.kept_regs | apply State.kept_quarters | apply State.kept_pending | simp only [State.mk_kept] | apply And.intro

theorem State.faultBit_kept (s : State) (q : Nat) (code : Nat) (h : s.kept wait) :
    (s.faultBit q code).kept wait := by
  unfold State.faultBit
  with_reducible repeat' first | assumption | apply State.raise_kept | apply State.setF_kept | split

theorem State.progFault_kept (s : State) (q : Nat) (code : Nat) (lw : Nat) (slot : Nat) (h : s.kept wait) :
    (s.progFault q code lw slot).kept wait := by
  unfold State.progFault
  try dsimp only
  with_reducible repeat' first | assumption | apply State.faultBit_kept | apply State.modQ_kept | apply State.putFault_kept | apply State.raise_kept | split | exact (rfl : TagSt.mem _ = TagSt.mem _) | apply State.kept_mem | apply State.kept_grains | apply State.kept_tag | apply State.kept_regs | apply State.kept_quarters | apply State.kept_pending | simp only [State.mk_kept] | apply And.intro

theorem State.storePiece_kept (s : State) (q : Nat) (p : Nat × List Byte) (h : s.kept wait) :
    (s.storePiece q p).kept wait := by
  unfold State.storePiece
  try dsimp only
  with_reducible repeat' first | assumption | apply State.poke_kept | apply State.setPoison_kept | split | exact (rfl : TagSt.mem _ = TagSt.mem _) | apply State.kept_mem | apply State.kept_grains | apply State.kept_tag | apply State.kept_regs | apply State.kept_quarters | apply State.kept_pending | simp only [State.mk_kept] | apply And.intro

theorem State.store_kept (s : State) (q : Nat) (a : Nat) (bs : List Byte) (h : s.kept wait) :
    (s.store q a bs).kept wait := by
  unfold State.store
  try dsimp only
  with_reducible repeat' first | assumption | apply State.storePiece_kept | split | dsimp only | apply foldl_kept | intro _

theorem State.accFault_kept (s : State) (q : Nat) (lw : Nat) (slot : Nat) (a : Nat) (n : Nat) (r : Acc) (h : s.kept wait) :
    (s.accFault q lw slot a n r).kept wait := by
  unfold State.accFault
  with_reducible repeat' first | assumption | apply State.detect_kept | apply State.inc_kept | apply State.incSat_kept | apply State.loseQ_kept | apply State.progFault_kept | apply State.raise_kept | apply State.setReg64_kept | split

theorem State.endFence_kept (s : State) (q : Nat) (h : s.kept wait) :
    (s.endFence q).kept wait := by
  unfold State.endFence
  with_reducible repeat' first | assumption | apply State.modQ_kept | split

theorem State.pendReg_kept (s : State) (q : Nat) (i : RegId) (v : Nat) (m : Option Nat) (h : s.kept wait) :
    (s.pendReg q i v m).kept wait := by
  unfold State.pendReg
  with_reducible repeat' first | assumption | apply State.modQ_kept

theorem State.putReg_kept (s : State) (q : Nat) (i : RegId) (v : Nat) (h : s.kept wait) :
    (s.putReg q i v).kept wait := by
  unfold State.putReg
  with_reducible repeat' first | assumption | apply State.modQ_kept

theorem State.scalarSlot_kept (s : State) (q : Nat) (w : Nat) (h : s.kept wait) :
    ∀ u, s.scalarSlot q w = some u → u.kept wait := by
  intro u hu
  unfold State.scalarSlot at hu
  try dsimp only at hu
  all_goals
    cases hu
    with_reducible repeat' first | assumption | apply State.pendReg_kept | apply State.putReg_kept | split

theorem State.setLoop_kept (s : State) (q : Nat) (w : Nat) (trip : Nat) (h : s.kept wait) :
    (s.setLoop q w trip).kept wait := by
  unfold State.setLoop
  try dsimp only
  with_reducible repeat' first | assumption | apply State.modQ_kept | apply State.progFault_kept | apply State.putReg_kept | split

theorem State.controlSlot_kept (s : State) (q : Nat) (w : Nat) (h : s.kept wait) :
    ∀ u, s.controlSlot q w = some u → u.kept wait := by
  intro u hu
  unfold State.controlSlot at hu
  try dsimp only at hu
  repeat' split at hu
  all_goals
    cases hu
    with_reducible repeat' first | assumption | apply State.modQ_kept | apply State.setLoop_kept

theorem State.copyBlocks_kept (s : State) (q : Nat) (src : Nat) (dst : Nat) (x4 : Nat) (h : s.kept wait) :
    (s.copyBlocks q src dst x4).kept wait := by
  induction x4 generalizing s src dst with
  | zero => exact h
  | succ k ih => exact ih _ _ _ (State.store_kept _ _ _ _ h)

theorem State.movSlot_kept (s : State) (q : Nat) (w : Nat) (h : s.kept wait) :
    ∀ u, s.movSlot q w = some u → u.kept wait := by
  intro u hu
  unfold State.movSlot at hu
  try dsimp only at hu
  all_goals
    cases hu
    with_reducible repeat' first | assumption | apply State.putReg_kept

theorem State.outstand_kept (s : State) (q : Nat) (seq : Nat) (h : s.kept wait) :
    (s.outstand q seq).kept wait := by
  unfold State.outstand
  with_reducible repeat' first | assumption | apply State.modQ_kept

theorem State.takeSeq_kept (s : State) (q : Nat) (h : s.kept wait) :
    (s.takeSeq q).2.kept wait := by
  unfold State.takeSeq
  with_reducible repeat' first | assumption | apply State.modQ_kept

theorem State.copySlot_kept (s : State) (q : Nat) (w : Nat) (h : s.kept wait) :
    ∀ u, s.copySlot q w = some u → u.kept wait := by
  intro u hu
  unfold State.copySlot at hu
  try dsimp only at hu
  repeat' split at hu
  all_goals
    cases hu
    with_reducible repeat' first | assumption | apply State.accFault_kept | apply State.copyBlocks_kept | apply State.outstand_kept | apply State.progFault_kept | apply State.takeSeq_kept

theorem State.writeback_kept (s : State) (q : Nat) (i : Nat) (h : s.kept wait) :
    (s.writeback q i).kept wait := by
  unfold State.writeback
  with_reducible repeat' first | assumption | apply State.modQ_kept | split

theorem State.postInc_kept (s : State) (q : Nat) (w : Nat) (h : s.kept wait) :
    (s.postInc q w).kept wait := by
  unfold State.postInc
  with_reducible repeat' first | assumption | apply State.putReg_kept | split

theorem State.signalSlot_kept (s : State) (q : Nat) (w : Nat) (h : s.kept wait) :
    ∀ u, s.signalSlot q w = some u → u.kept wait := by
  intro u hu
  unfold State.signalSlot at hu
  try dsimp only at hu
  all_goals
    cases hu
    with_reducible repeat' first | assumption | apply State.modQ_kept

theorem State.endLw_kept (s : State) (q : Nat) (h : s.kept wait) :
    (s.endLw q).kept wait := by
  unfold State.endLw
  try dsimp only
  with_reducible repeat' first | assumption | apply State.modQ_kept | apply State.progFault_kept | apply State.setQtr_kept | apply State.setRegN_kept | split

theorem State.endSlot_kept (s : State) (q : Nat) (j : Nat) (h : s.kept wait) :
    (s.endSlot q j).kept wait := by
  unfold State.endSlot
  try dsimp only
  with_reducible repeat' first | assumption | apply State.endLw_kept | apply State.modQ_kept | split

theorem State.startLw_kept (s : State) (q : Nat) (ws : List Nat) (h : s.kept wait) :
    (s.startLw q ws).kept wait := by
  unfold State.startLw
  with_reducible repeat' first | assumption | apply State.modQ_kept

theorem State.issueSlot_kept (s : State) (q : Nat) (j : Nat) (op : Nat) (w : BitVec 120) (f : State → Nat → Option State) (h : s.kept wait) (hf : ∀ (y0 : State) (y1 : Nat), y0.kept wait → ∀ u, f y0 y1 = some u → u.kept wait) :
    (s.issueSlot q j op w f).kept wait := by
  have ho : (∀ t, s.offer q j (slotOf op w) = .fault t → t.kept wait) ∧
      (∀ t v, s.offer q j (slotOf op w) = .slot t v → t.kept wait) := by
    unfold State.offer
    dsimp only
    constructor <;> intros <;> rename_i ht <;> (repeat' split at ht) <;> first
      | (cases ht; done)
      | (cases ht; with_reducible repeat' first | assumption | apply State.progFault_kept | apply State.startLw_kept)
  unfold State.issueSlot
  split
  · exact h
  · rename_i t ht; exact ho.1 t ht
  · rename_i t v ht
    have hs := ho.2 t v ht
    split
    · split
      · exact h
      · rename_i u hu; exact State.endSlot_kept _ _ _ (hf t v hs u hu)
    · exact State.endSlot_kept _ _ _ hs

theorem State.control_kept (s : State) (q : BitVec 4) (op : Nat) (w : BitVec 120) (h : s.kept wait) :
    (s.control q op w).kept wait := by
  exact State.issueSlot_kept _ _ _ _ _ _ h (fun t v ht => State.controlSlot_kept _ _ _ ht)

theorem State.deliverSignal_kept (s : State) (q : Nat) (i : Nat) (h : s.kept wait) :
    (s.deliverSignal q i).kept wait := by
  unfold State.deliverSignal
  try dsimp only
  with_reducible repeat' first | assumption | apply State.modQ_kept | apply State.progFault_kept | split

theorem State.waitSlot_kept (s : State) (q : Nat) (w : Nat) (h : s.kept wait) :
    ∀ u, s.waitSlot q w = some u → u.kept wait := by
  intro u hu
  unfold State.waitSlot at hu
  try dsimp only at hu
  all_goals
    cases hu
    with_reducible repeat' first | assumption | apply State.modQ_kept | apply State.raise_kept

theorem State.loadStore_kept (s : State) (q : Nat) (w : Nat) (h : s.kept wait) :
    ∀ u, s.loadStore q w = some u → u.kept wait := by
  intro u hu
  unfold State.loadStore at hu
  try dsimp only at hu
  repeat' split at hu
  all_goals
    cases hu
    with_reducible repeat' first | assumption | apply State.accFault_kept | apply State.outstand_kept | apply State.pendReg_kept | apply State.postInc_kept | apply State.progFault_kept | apply State.store_kept | apply State.takeSeq_kept

theorem State.memory_kept (s : State) (q : BitVec 4) (op : Nat) (w : BitVec 120) (h : s.kept wait) :
    (s.memory q op w).kept wait := by
  unfold State.memory
  try dsimp only
  with_reducible repeat' first | assumption | apply State.issueSlot_kept | apply State.loadStore_kept | split | dsimp only | apply foldl_kept | intro _

theorem State.setSpan_kept (s : State) (q : Nat) (sp : Nat) (v : SpanSt) (h : s.kept wait) :
    (s.setSpan q sp v).kept wait := by
  unfold State.setSpan
  with_reducible repeat' first | assumption | apply State.modQ_kept

theorem State.fenceSlot_kept (s : State) (q : Nat) (_w : Nat) (h : s.kept wait) :
    ∀ u, s.fenceSlot q _w = some u → u.kept wait := by
  intro u hu
  unfold State.fenceSlot at hu
  try dsimp only at hu
  all_goals
    cases hu
    with_reducible repeat' first | assumption | apply State.modQ_kept

theorem State.writeDone_kept (s : State) (q : Nat) (i : Nat) (h : s.kept wait) :
    (s.writeDone q i).kept wait := by
  unfold State.writeDone
  try dsimp only
  with_reducible repeat' first | assumption | apply State.modQ_kept | split

theorem State.liveSlot_kept (s : State) (q : Nat) (w : Nat) (seen : Bool) (h : s.kept wait) :
    ∀ u, s.liveSlot q w seen = some u → u.kept wait := by
  intro u hu
  unfold State.liveSlot at hu
  try dsimp only at hu
  all_goals
    cases hu
    with_reducible repeat' first | assumption | apply State.pendReg_kept | apply State.raise_kept

theorem State.endWait_kept (s : State) (q : Nat) (h : s.kept wait) :
    (s.endWait q).kept wait := by
  unfold State.endWait
  with_reducible repeat' first | assumption | apply State.drop_kept | apply State.modQ_kept | split

theorem State.scalar_kept (s : State) (q : BitVec 4) (s1 : Bool) (op : Nat) (w : BitVec 120) (h : s.kept wait) :
    (s.scalar q s1 op w).kept wait := by
  unfold State.scalar
  try dsimp only
  with_reducible repeat' first | assumption | apply State.issueSlot_kept | apply State.scalarSlot_kept | split | dsimp only | apply foldl_kept | intro _

theorem State.xslot_kept (s : State) (q : BitVec 4) (op : Nat) (w : BitVec 120) (f : State → Nat → Option State) (h : s.kept wait) (hf : ∀ (y0 : State) (y1 : Nat), y0.kept wait → ∀ u, f y0 y1 = some u → u.kept wait) :
    (s.xslot q op w f).kept wait := by
  exact State.issueSlot_kept _ _ _ _ _ _ h hf

theorem State.failGrain_kept (s : State) (q : Nat) (g : Nat) (h : s.kept wait) :
    (s.failGrain q g).kept wait := by
  unfold State.failGrain
  try dsimp only
  with_reducible repeat' first | assumption | apply State.setBank_kept | apply State.setGState_kept | split | dsimp only | apply foldl_kept | intro _

theorem State.grainErr_kept (s : State) (q : Nat) (g : Nat) (f : Fld) (h : s.kept wait) :
    (s.grainErr q g f).kept wait := by
  unfold State.grainErr
  with_reducible repeat' first | assumption | apply State.raise_kept

theorem State.addJob_kept (s : State) (j : LoadJob) (h : s.kept wait) :
    (s.addJob j).kept wait := by
  unfold State.addJob
  try dsimp only
  with_reducible repeat' first | assumption | apply State.modQ_kept | apply State.setBank_kept | split | exact (rfl : TagSt.mem _ = TagSt.mem _) | apply State.kept_mem | apply State.kept_grains | apply State.kept_tag | apply State.kept_regs | apply State.kept_quarters | apply State.kept_pending | simp only [State.mk_kept] | apply And.intro

theorem State.eccGrain_kept (s : State) (q : Nat) (g : Nat) (h : s.kept wait) :
    (s.eccGrain q g).kept wait := by
  unfold State.eccGrain
  try dsimp only
  with_reducible repeat' first | assumption | apply State.grainErr_kept | split | exact (rfl : TagSt.mem _ = TagSt.mem _) | apply State.kept_mem | apply State.kept_grains | apply State.kept_tag | apply State.kept_regs | apply State.kept_quarters | apply State.kept_pending | simp only [State.mk_kept] | apply And.intro

theorem State.noteBank_kept (s : State) (q : Nat) (g : Nat) (b : Nat) (h : s.kept wait) :
    (s.noteBank q g b).kept wait := by
  unfold State.noteBank
  try dsimp only
  with_reducible repeat' first | assumption | split | exact (rfl : TagSt.mem _ = TagSt.mem _) | apply State.kept_mem | apply State.kept_grains | apply State.kept_tag | apply State.kept_regs | apply State.kept_quarters | apply State.kept_pending | simp only [State.mk_kept] | apply And.intro

theorem State.popJob_kept (s : State) (j : LoadJob) (h : s.kept wait) :
    (s.popJob j).kept wait := by
  unfold State.popJob
  try dsimp only
  with_reducible repeat' first | assumption | split | exact (rfl : TagSt.mem _ = TagSt.mem _) | apply State.kept_mem | apply State.kept_grains | apply State.kept_tag | apply State.kept_regs | apply State.kept_quarters | apply State.kept_pending | simp only [State.mk_kept] | apply And.intro

theorem State.bankFilled_kept (s : State) (q : Nat) (j : LoadJob) (h : s.kept wait) :
    (s.bankFilled q j).kept wait := by
  unfold State.bankFilled
  with_reducible repeat' first | assumption | apply State.fillBank_kept | apply State.popJob_kept | apply State.setBank_kept | apply State.setRegN_kept

theorem State.feed_kept (s : State) (q : Nat) (k : Nat) (ws : List FeedWord) (h : s.kept wait) :
    (s.feed q k ws).kept wait := by
  unfold State.feed
  with_reducible repeat' first | assumption | apply State.modQ_kept

theorem State.opFault_kept (s : State) (q : Nat) (code : Nat) (o : SpanOp) (h : s.kept wait) :
    (s.opFault q code o).kept wait := by
  unfold State.opFault
  with_reducible repeat' first | assumption | apply State.progFault_kept

theorem State.popOp_kept (s : State) (q : Nat) (sp : Nat) (h : s.kept wait) :
    (s.popOp q sp).kept wait := by
  unfold State.popOp
  with_reducible repeat' first | assumption | apply State.setSpan_kept

theorem State.releaseBank_kept (s : State) (q : Nat) (sp : Nat) (h : s.kept wait) :
    (s.releaseBank q sp).kept wait := by
  unfold State.releaseBank
  try dsimp only
  with_reducible repeat' first | assumption | apply State.noteBank_kept | apply State.opFault_kept | apply State.popOp_kept | apply State.setBank_kept | split | dsimp only | apply foldl_kept | intro _

theorem State.accWrite_kept (s : State) (q : Nat) (off : Nat) (bs : List Byte) (h : s.kept wait) :
    (s.accWrite q off bs).kept wait := by
  unfold State.accWrite
  try dsimp only
  with_reducible repeat' first | assumption | split | exact (rfl : TagSt.mem _ = TagSt.mem _) | apply State.kept_mem | apply State.kept_grains | apply State.kept_tag | apply State.kept_regs | apply State.kept_quarters | apply State.kept_pending | simp only [State.mk_kept] | apply And.intro

theorem State.setElem_kept (s : State) (q : Nat) (d : SpanDesc) (mode : Nat) (wf : Nat) (g : Nat) (i : Nat) (x : Elem) (h : s.kept wait) :
    (s.setElem q d mode wf g i x).kept wait := by
  unfold State.setElem
  with_reducible repeat' first | assumption | apply State.accWrite_kept

theorem State.setGroup_kept (s : State) (q : Nat) (sp : Nat) (g : Nat) (v : GroupSt) (h : s.kept wait) :
    (s.setGroup q sp g v).kept wait := by
  unfold State.setGroup
  with_reducible repeat' first | assumption | apply State.setSpan_kept

theorem State.openGroup_kept (s : State) (q : Nat) (sp : Nat) (d : SpanDesc) (wf : Nat) (o : SpanOp) (rows : Nat) (h : s.kept wait) :
    (s.openGroup q sp d wf o rows).kept wait := by
  unfold State.openGroup
  try dsimp only
  with_reducible repeat' first | assumption | apply State.accWrite_kept | apply State.setElem_kept | apply State.setGroup_kept | split | dsimp only | apply foldl_kept | intro _

theorem State.gopenEffect_kept (s : State) (q : Nat) (sp : Nat) (h : s.kept wait) :
    (s.gopenEffect q sp).kept wait := by
  unfold State.gopenEffect
  try dsimp only
  with_reducible repeat' first | assumption | apply State.accFault_kept | apply State.opFault_kept | apply State.openGroup_kept | apply State.popOp_kept | split

theorem State.queueLoads_kept (s : State) (q : Nat) (sp : Nat) (wf : Nat) (o : SpanOp) (gs : List (Nat × Nat)) (h : s.kept wait) :
    (s.queueLoads q sp wf o gs).kept wait := by
  unfold State.queueLoads
  try dsimp only
  with_reducible repeat' first | assumption | apply State.addJob_kept | apply State.noteBank_kept | apply State.popOp_kept | split | dsimp only | apply foldl_kept | intro _

theorem State.startLoad_kept (s : State) (q : Nat) (sp : Nat) (h : s.kept wait) :
    (s.startLoad q sp).kept wait := by
  unfold State.startLoad
  try dsimp only
  with_reducible repeat' first | assumption | apply State.accFault_kept | apply State.opFault_kept | apply State.queueLoads_kept | split

theorem State.tileDone_kept (s : State) (q : Nat) (o : SpanOp) (st : Nat) (isClose : Bool) (h : s.kept wait) :
    (s.tileDone q o st isClose).kept wait := by
  unfold State.tileDone
  try dsimp only
  with_reducible repeat' first | assumption | apply State.modQ_kept | apply State.pendReg_kept | split

theorem State.endPass_kept (s : State) (q : Nat) (sp : Nat) (d : SpanDesc) (o : SpanOp) (h : s.kept wait) :
    (s.endPass q sp d o).kept wait := by
  unfold State.endPass
  with_reducible repeat' first | assumption | apply State.pendReg_kept | apply State.setGroup_kept | apply State.setSpan_kept | apply State.tileDone_kept | split

theorem State.noteActive_kept (s : State) (q : Nat) (g : Nat) (h : s.kept wait) :
    (s.noteActive q g).kept wait := by
  unfold State.noteActive
  try dsimp only
  with_reducible repeat' first | assumption | split | exact (rfl : TagSt.mem _ = TagSt.mem _) | apply State.kept_mem | apply State.kept_grains | apply State.kept_tag | apply State.kept_regs | apply State.kept_quarters | apply State.kept_pending | simp only [State.mk_kept] | apply And.intro

theorem State.startRestores_kept (s : State) (q : Nat) (o : SpanOp) (gbs : List (Nat × Nat)) (h : s.kept wait) :
    (s.startRestores q o gbs).kept wait := by
  unfold State.startRestores
  try dsimp only
  with_reducible repeat' first | assumption | apply State.addJob_kept | apply State.noteBank_kept | split | dsimp only | apply foldl_kept | intro _

theorem State.switchBank_kept (s : State) (q : Nat) (sp : Nat) (h : s.kept wait) :
    (s.switchBank q sp).kept wait := by
  unfold State.switchBank
  try dsimp only
  with_reducible repeat' first | assumption | apply State.noteActive_kept | apply State.opFault_kept | apply State.popOp_kept | apply State.setF_kept | apply State.startRestores_kept | split | dsimp only | apply foldl_kept | intro _

theorem State.drained_kept (s : State) (q : Nat) (sp : Nat) (dr : DrainSt) (rest : List DrainSt) (g : GroupSt) (st : Nat) (h : s.kept wait) :
    (s.drained q sp dr rest g st).kept wait := by
  unfold State.drained
  with_reducible repeat' first | assumption | apply State.setGroup_kept | apply State.setSpan_kept | apply State.tileDone_kept

theorem State.drainMemory_kept (s : State) (q : Nat) (sp : Nat) (d : SpanDesc) (dr : DrainSt) (rest : List DrainSt) (h : s.kept wait) :
    (s.drainMemory q sp d dr rest).kept wait := by
  unfold State.drainMemory
  with_reducible repeat' first | assumption | apply State.drained_kept | apply State.store_kept

theorem State.formCheck_kept (s : State) (q : Nat) (h : s.kept wait) :
    (s.formCheck q).kept wait := by
  unfold State.formCheck
  try dsimp only
  with_reducible repeat' first | assumption | apply State.progFault_kept | split

theorem State.drainValue_kept (s : State) (q : Nat) (sp : Nat) (d : SpanDesc) (dr : DrainSt) (rest : List DrainSt) (h : s.kept wait) :
    (s.drainValue q sp d dr rest).kept wait := by
  unfold State.drainValue
  with_reducible repeat' first | assumption | apply State.drained_kept | apply State.feed_kept | apply State.formCheck_kept

theorem State.endDrain_kept (s : State) (q : Nat) (sp : Nat) (h : s.kept wait) :
    (s.endDrain q sp).kept wait := by
  unfold State.endDrain
  try dsimp only
  with_reducible repeat' first | assumption | apply State.accFault_kept | apply State.drainMemory_kept | apply State.drainValue_kept | split

theorem State.endRestore_kept (s : State) (q : Nat) (badEcc : Bool) (h : s.kept wait) :
    (s.endRestore q badEcc).kept wait := by
  unfold State.endRestore
  try dsimp only
  with_reducible repeat' first | assumption | apply State.accFault_kept | apply State.bankFilled_kept | apply State.eccGrain_kept | apply State.grainErr_kept | apply State.hwFault_kept | apply State.popJob_kept | apply State.progFault_kept | apply State.setBank_kept | split

theorem State.keepPartials_kept (s : State) (q : Nat) (sp : Nat) (d : SpanDesc) (row : List Byte) (h : s.kept wait) :
    (s.keepPartials q sp d row).kept wait := by
  unfold State.keepPartials
  try dsimp only
  with_reducible repeat' first | assumption | exact (rfl : TagSt.mem _ = TagSt.mem _) | apply State.kept_mem | apply State.kept_grains | apply State.kept_tag | apply State.kept_regs | apply State.kept_quarters | apply State.kept_pending | apply Memory.wf_memClear | simp only [State.mk_kept] | apply And.intro | split | apply foldl_kept | intro _

theorem State.spanSlot_kept (s : State) (q : Nat) (j : Nat) (w : Nat) (h : s.kept wait) :
    ∀ u, s.spanSlot q j w = some u → u.kept wait := by
  intro u hu
  unfold State.spanSlot at hu
  try dsimp only at hu
  repeat' split at hu
  all_goals
    cases hu
    with_reducible repeat' first | assumption | apply State.progFault_kept | apply State.setSpan_kept | apply State.takeSeq_kept

theorem State.computeFault_kept (s : State) (q : Nat) (g : Nat) (h : s.kept wait) :
    (s.computeFault q g).kept wait := by
  unfold State.computeFault
  try dsimp only
  with_reducible repeat' first | assumption | apply State.incSat_kept | split | exact (rfl : TagSt.mem _ = TagSt.mem _) | apply State.kept_mem | apply State.kept_grains | apply State.kept_tag | apply State.kept_regs | apply State.kept_quarters | apply State.kept_pending | simp only [State.mk_kept] | apply And.intro

theorem State.rowEnters_kept (s : State) (q : Nat) (sp : Nat) (d : SpanDesc) (p : PassSt) (h : s.kept wait) :
    (s.rowEnters q sp d p).kept wait := by
  unfold State.rowEnters
  try dsimp only
  with_reducible repeat' first | assumption | apply State.endPass_kept | apply State.feed_kept | apply State.formCheck_kept | apply State.keepPartials_kept | apply State.setElem_kept | apply State.setSpan_kept | split | dsimp only | apply foldl_kept | intro _

theorem State.rowEgress_kept (s : State) (q : Nat) (sp : Nat) (badSum : Option Nat) (badHop : Option Nat) (h : s.kept wait) :
    (s.rowEgress q sp badSum badHop).kept wait := by
  unfold State.rowEgress
  try dsimp only
  with_reducible repeat' first | assumption | apply State.accFault_kept | apply State.computeFault_kept | apply State.grainErr_kept | apply State.hwFault_kept | apply State.loseQ_kept | apply State.rowEnters_kept | split | exact (rfl : TagSt.mem _ = TagSt.mem _) | apply State.kept_mem | apply State.kept_grains | apply State.kept_tag | apply State.kept_regs | apply State.kept_quarters | apply State.kept_pending | simp only [State.mk_kept] | apply And.intro

theorem State.passStarts_kept (s : State) (q : Nat) (sp : Nat) (d : SpanDesc) (wf : Nat) (o : SpanOp) (h : s.kept wait) :
    (s.passStarts q sp d wf o).kept wait := by
  unfold State.passStarts
  try dsimp only
  with_reducible repeat' first | assumption | apply State.opFault_kept | apply State.openGroup_kept | apply State.popOp_kept | apply State.setSpan_kept | split

theorem State.startPass_kept (s : State) (q : Nat) (sp : Nat) (h : s.kept wait) :
    (s.startPass q sp).kept wait := by
  unfold State.startPass
  try dsimp only
  with_reducible repeat' first | assumption | apply State.accFault_kept | apply State.opFault_kept | apply State.passStarts_kept | apply State.startRestores_kept | split

theorem State.startDrain_kept (s : State) (q : Nat) (sp : Nat) (o : SpanOp) (h : s.kept wait) :
    (s.startDrain q sp o).kept wait := by
  unfold State.startDrain
  with_reducible repeat' first | assumption | apply State.popOp_kept | apply State.setGroup_kept | apply State.setSpan_kept

theorem State.gcloseEffect_kept (s : State) (q : Nat) (sp : Nat) (h : s.kept wait) :
    (s.gcloseEffect q sp).kept wait := by
  unfold State.gcloseEffect
  try dsimp only
  with_reducible repeat' first | assumption | apply State.accFault_kept | apply State.opFault_kept | apply State.startDrain_kept | split

theorem State.bankLoaded_kept (s : State) (q : Nat) (j : LoadJob) (h : s.kept wait) :
    (s.bankLoaded q j).kept wait := by
  unfold State.bankLoaded
  try dsimp only
  with_reducible repeat' first | assumption | apply State.bankFilled_kept | split | exact (rfl : TagSt.mem _ = TagSt.mem _) | apply State.kept_mem | apply State.kept_grains | apply State.kept_tag | apply State.kept_regs | apply State.kept_quarters | apply State.kept_pending | simp only [State.mk_kept] | apply And.intro

theorem State.endLoad_kept (s : State) (q : Nat) (h : s.kept wait) :
    (s.endLoad q).kept wait := by
  unfold State.endLoad
  try dsimp only
  with_reducible repeat' first | assumption | apply State.accFault_kept | apply State.bankLoaded_kept | split

theorem State.gslot_kept (s : State) (q : BitVec 4) (g1 : Bool) (op : Nat) (w : BitVec 120) (h : s.kept wait) :
    (s.gslot q g1 op w).kept wait := by
  unfold State.gslot
  try dsimp only
  with_reducible repeat' first | assumption | apply State.issueSlot_kept | apply State.spanSlot_kept | split | dsimp only | apply foldl_kept | intro _

theorem State.countVec_kept (s : State) (q : Nat) (st : Nat) (h : s.kept wait) :
    (s.countVec q st).kept wait := by
  unfold State.countVec
  with_reducible repeat' first | assumption | apply State.modQ_kept | split

theorem State.vecEnds_kept (s : State) (q : Nat) (o : VecOp) (h : s.kept wait) :
    (s.vecEnds q o).kept wait := by
  unfold State.vecEnds
  with_reducible repeat' first | assumption | apply State.countVec_kept | apply State.drop_kept | apply State.modQ_kept | apply State.pendReg_kept | apply State.store_kept | split

theorem State.endVec_kept (s : State) (q : Nat) (badCheck : Bool) (h : s.kept wait) :
    (s.endVec q badCheck).kept wait := by
  unfold State.endVec
  try dsimp only
  with_reducible repeat' first | assumption | apply State.accFault_kept | apply State.hwFault_kept | apply State.raise_kept | apply State.vecEnds_kept | split

theorem State.vecTake_kept (s : State) (q : Nat) (rest : List VecOp) (h : s.kept wait) :
    (s.vecTake q rest).kept wait := by
  unfold State.vecTake
  with_reducible repeat' first | assumption | apply State.modQ_kept | apply State.setF_kept

theorem State.vecStarts_kept (s : State) (q : Nat) (o : VecOp) (rest : List VecOp) (h : s.kept wait) :
    (s.vecStarts q o rest).kept wait := by
  unfold State.vecStarts
  with_reducible repeat' first | assumption | apply State.formCheck_kept | apply State.modQ_kept | apply State.raise_kept | apply State.setF_kept | apply State.vecTake_kept

theorem State.startVec_kept (s : State) (q : Nat) (h : s.kept wait) :
    (s.startVec q).kept wait := by
  unfold State.startVec
  try dsimp only
  with_reducible repeat' first | assumption | apply State.accFault_kept | apply State.progFault_kept | apply State.vecStarts_kept | apply State.vecTake_kept | split

theorem State.vectorSlot_kept (s : State) (q : Nat) (w : Nat) (h : s.kept wait) :
    ∀ u, s.vectorSlot q w = some u → u.kept wait := by
  intro u hu
  unfold State.vectorSlot at hu
  try dsimp only at hu
  all_goals
    cases hu
    with_reducible repeat' first | assumption | apply State.modQ_kept | apply State.setF_kept | apply State.takeSeq_kept

theorem State.vslot_kept (s : State) (q : BitVec 4) (op : Nat) (w : BitVec 120) (h : s.kept wait) :
    (s.vslot q op w).kept wait := by
  unfold State.vslot
  try dsimp only
  with_reducible repeat' first | assumption | apply State.issueSlot_kept | apply State.vectorSlot_kept | split | dsimp only | apply foldl_kept | intro _

theorem State.checkUndrained_kept (s : State) (q : Nat) (h : s.kept wait) :
    (s.checkUndrained q).kept wait := by
  unfold State.checkUndrained
  try dsimp only
  with_reducible repeat' first | assumption | apply State.progFault_kept | split

theorem State.starved_kept (s : State) (q : Nat) (h : s.kept wait) :
    (s.starved q).kept wait := by
  unfold State.starved
  try dsimp only
  with_reducible repeat' first | assumption | apply State.checkUndrained_kept | apply State.progFault_kept | split

theorem State.abandonQ_kept (s : State) (q : Nat) (h : s.kept wait) :
    (s.abandonQ q).kept wait := by
  unfold State.abandonQ
  with_reducible repeat' first | assumption | apply State.drop_kept | apply State.modQ_kept | apply State.setRegN_kept

theorem State.undoBanks_kept (s : State) (h : s.kept wait) :
    (s.undoBanks).kept wait := by
  unfold State.undoBanks
  try dsimp only
  with_reducible repeat' first | assumption | apply State.setBank_kept | apply State.setF_kept | apply State.setRegN_kept | exact (rfl : TagSt.mem _ = TagSt.mem _) | apply State.kept_mem | apply State.kept_grains | apply State.kept_tag | apply State.kept_regs | apply State.kept_quarters | apply State.kept_pending | apply Memory.wf_memClear | simp only [State.mk_kept] | apply And.intro | split | apply foldl_kept | intro _

theorem State.qcmd_kept (s : State) (q : Nat) (v : Nat) (h : s.kept wait) :
    (s.qcmd q v).kept wait := by
  unfold State.qcmd
  with_reducible repeat' first | assumption | apply State.modQ_kept | apply State.setF_kept

theorem State.launchAt_kept (s : State) (q : Nat) (n : Nat) (h : s.kept wait) :
    (s.launchAt q n).kept wait := by
  unfold State.launchAt
  with_reducible repeat' first | assumption | apply State.drop_kept | apply State.modQ_kept | apply State.setReg64_kept | apply State.setRegN_kept

theorem State.launchQ_kept (s : State) (q : Nat) (h : s.kept wait) :
    (s.launchQ q).kept wait := by
  unfold State.launchQ
  with_reducible repeat' first | assumption | apply State.launchAt_kept

theorem State.debugEnter_kept (s : State) (q : Nat) (h : s.kept wait) :
    (s.debugEnter q).kept wait := by
  unfold State.debugEnter
  with_reducible repeat' first | assumption | apply State.launchQ_kept | apply State.raise_kept | apply State.setQState_kept | apply State.setRegN_kept | split

theorem State.debugExit_kept (s : State) (q : Nat) (h : s.kept wait) :
    (s.debugExit q).kept wait := by
  unfold State.debugExit
  try dsimp only
  with_reducible repeat' first | assumption | apply State.abandonQ_kept | apply State.raise_kept | apply State.restoreBlock_kept | apply State.setQState_kept | apply State.setRegN_kept | exact (rfl : TagSt.mem _ = TagSt.mem _) | apply State.kept_mem | apply State.kept_grains | apply State.kept_tag | apply State.kept_regs | apply State.kept_quarters | apply State.kept_pending | apply Memory.wf_memClear | simp only [State.mk_kept] | apply And.intro | split | apply foldl_kept | intro _

theorem State.debugStep_kept (s : State) (q : Nat) (n : Nat) (h : s.kept wait) :
    (s.debugStep q n).kept wait := by
  unfold State.debugStep
  with_reducible repeat' first | assumption | apply State.modQ_kept | apply State.raise_kept | split

theorem State.applyQcmd_kept (s : State) (q : Nat) (h : s.kept wait) :
    (s.applyQcmd q).kept wait := by
  unfold State.applyQcmd
  try dsimp only
  with_reducible repeat' first | assumption | apply State.drop_kept | apply State.modQ_kept | apply State.raise_kept | apply State.setQState_kept | split

theorem State.keepBanks_kept (s : State) (h : s.kept wait) :
    (s.keepBanks).kept wait := by
  unfold State.keepBanks
  try dsimp only
  with_reducible repeat' first | assumption | apply State.setReg64_kept | exact (rfl : TagSt.mem _ = TagSt.mem _) | apply State.kept_mem | apply State.kept_grains | apply State.kept_tag | apply State.kept_regs | apply State.kept_quarters | apply State.kept_pending | apply Memory.wf_memClear | simp only [State.mk_kept] | apply And.intro | split | apply foldl_kept | intro _

theorem State.remap_kept (s : State) (q : Nat) (g : Nat) (n : Nat) (h : s.kept wait) :
    (s.remap q g n).kept wait := by
  unfold State.remap
  try dsimp only
  with_reducible repeat' first | assumption | apply State.addJob_kept | apply State.setF_kept | apply State.setGState_kept | apply State.setReg64_kept | apply State.setRegN_kept | split | dsimp only | apply foldl_kept | intro _

theorem State.retireGrain_kept (s : State) (k : Nat) (cause : Nat) (h : s.kept wait) :
    (s.retireGrain k cause).kept wait := by
  unfold State.retireGrain
  try dsimp only
  with_reducible repeat' first | assumption | apply State.event_kept | apply State.failGrain_kept | apply State.grainErr_kept | apply State.loseQ_kept | apply State.remap_kept | apply State.setCapacity_kept | split | exact (rfl : TagSt.mem _ = TagSt.mem _) | apply State.kept_mem | apply State.kept_grains | apply State.kept_tag | apply State.kept_regs | apply State.kept_quarters | apply State.kept_pending | simp only [State.mk_kept] | apply And.intro

theorem State.retireAsked_kept (s : State) (h : s.kept wait) :
    (s.retireAsked).kept wait := by
  unfold State.retireAsked
  try dsimp only
  with_reducible repeat' first | assumption | apply State.retireGrain_kept | exact (rfl : TagSt.mem _ = TagSt.mem _) | apply State.kept_mem | apply State.kept_grains | apply State.kept_tag | apply State.kept_regs | apply State.kept_quarters | apply State.kept_pending | apply Memory.wf_memClear | simp only [State.mk_kept] | apply And.intro | split | apply foldl_kept | intro _

theorem State.retireDead_kept (s : State) (h : s.kept wait) :
    (s.retireDead).kept wait := by
  unfold State.retireDead
  try dsimp only
  with_reducible repeat' first | assumption | apply State.retireGrain_kept | exact (rfl : TagSt.mem _ = TagSt.mem _) | apply State.kept_mem | apply State.kept_grains | apply State.kept_tag | apply State.kept_regs | apply State.kept_quarters | apply State.kept_pending | apply Memory.wf_memClear | simp only [State.mk_kept] | apply And.intro | split | apply foldl_kept | intro _

theorem State.scrubGrain_kept (s : State) (q : Nat) (g : Nat) (b : Nat) (err : Nat) (h : s.kept wait) :
    (s.scrubGrain q g b err).kept wait := by
  unfold State.scrubGrain
  with_reducible repeat' first | assumption | apply State.eccGrain_kept | apply State.event_kept | apply State.inc_kept | apply State.incSat_kept | apply State.noteBank_kept | apply State.setBank_kept | split

theorem State.endTest_kept (s : State) (q : Nat) (failed : Bool) (h : s.kept wait) :
    (s.endTest q failed).kept wait := by
  unfold State.endTest
  try dsimp only
  with_reducible repeat' first | assumption | apply State.event_kept | apply State.grainErr_kept | apply State.inc_kept | apply State.modQ_kept | apply State.raise_kept | apply State.setBank_kept | split | exact (rfl : TagSt.mem _ = TagSt.mem _) | apply State.kept_mem | apply State.kept_grains | apply State.kept_tag | apply State.kept_regs | apply State.kept_quarters | apply State.kept_pending | simp only [State.mk_kept] | apply And.intro

theorem State.startTest_kept (s : State) (q : Nat) (h : s.kept wait) :
    (s.startTest q).kept wait := by
  unfold State.startTest
  try dsimp only
  with_reducible repeat' first | assumption | apply State.modQ_kept | apply State.setBank_kept | split

theorem State.modP_kept (s : State) (f : PwrSt → PwrSt) (h : s.kept wait) :
    (s.modP f).kept wait := by
  unfold State.modP
  try dsimp only
  with_reducible repeat' first | assumption | split | exact (rfl : TagSt.mem _ = TagSt.mem _) | apply State.kept_mem | apply State.kept_grains | apply State.kept_tag | apply State.kept_regs | apply State.kept_quarters | apply State.kept_pending | simp only [State.mk_kept] | apply And.intro

theorem State.dieResetCmd_kept (s : State) (d : Nat) (h : s.kept wait) :
    (s.dieResetCmd d).kept wait := by
  unfold State.dieResetCmd
  try dsimp only
  with_reducible repeat' first | assumption | apply State.modP_kept | apply State.raise_kept | split

theorem State.setDuty_kept (s : State) (h : s.kept wait) :
    (s.setDuty).kept wait := by
  unfold State.setDuty
  try dsimp only
  with_reducible repeat' first | assumption | apply State.fresh_kept | apply State.modP_kept | split

theorem State.fanCtrl_kept (s : State) (v : Nat) (h : s.kept wait) :
    (s.fanCtrl v).kept wait := by
  unfold State.fanCtrl
  try dsimp only
  with_reducible repeat' first | assumption | apply State.raise_kept | apply State.setDuty_kept | apply State.setRegN_kept | split

theorem State.restartCmd_kept (s : State) (force : Bool) (h : s.kept wait) :
    (s.restartCmd force).kept wait := by
  unfold State.restartCmd
  with_reducible repeat' first | assumption | apply State.modP_kept | apply State.raise_kept | split

theorem State.svcCmd_kept (s : State) (v : Nat) (h : s.kept wait) :
    (s.svcCmd v).kept wait := by
  unfold State.svcCmd
  with_reducible repeat' first | assumption | apply State.modP_kept | apply State.raise_kept | split

theorem State.setLink_kept (s : State) (a : Nat) (b : Nat) (st : Nat) (h : s.kept wait) :
    (s.setLink a b st).kept wait := by
  unfold State.setLink
  with_reducible repeat' first | assumption | apply State.setF_kept

theorem State.linksTrain_kept (s : State) (d : Nat) (h : s.kept wait) :
    (s.linksTrain d).kept wait := by
  unfold State.linksTrain
  try dsimp only
  with_reducible repeat' first | assumption | apply State.setF_kept | apply State.setLink_kept | split | dsimp only | apply foldl_kept | intro _

theorem State.dieUp_kept (s : State) (d : Nat) (h : s.kept wait) :
    (s.dieUp d).kept wait := by
  unfold State.dieUp
  with_reducible repeat' first | assumption | apply State.linksTrain_kept | apply State.modP_kept | apply State.raise_kept | apply State.setF_kept

theorem State.emptyBanks_kept (s : State) (d : Nat) (h : s.kept wait) :
    (s.emptyBanks d).kept wait := by
  unfold State.emptyBanks
  try dsimp only
  with_reducible repeat' first | assumption | apply State.modQ_kept | apply State.setBank_kept | exact (rfl : TagSt.mem _ = TagSt.mem _) | apply State.kept_mem | apply State.kept_grains | apply State.kept_tag | apply State.kept_regs | apply State.kept_quarters | apply State.kept_pending | apply Memory.wf_memClear | simp only [State.mk_kept] | apply And.intro | split | apply foldl_kept | intro _

theorem State.linksOff_kept (s : State) (d : Nat) (h : s.kept wait) :
    (s.linksOff d).kept wait := by
  unfold State.linksOff
  try dsimp only
  with_reducible repeat' first | assumption | apply State.setF_kept | apply State.setLink_kept | split | dsimp only | apply foldl_kept | intro _

theorem State.dieOff_kept (s : State) (d : Nat) (h : s.kept wait) :
    (s.dieOff d).kept wait := by
  unfold State.dieOff
  try dsimp only
  with_reducible repeat' first | assumption | apply State.modP_kept | apply State.abandonQ_kept | apply State.drop_kept | apply State.emptyBanks_kept | apply State.linksOff_kept | apply State.setF_kept | apply State.setQState_kept | apply State.setRegN_kept | apply State.clearDie_kept | exact (rfl : TagSt.mem _ = TagSt.mem _) | apply State.kept_mem | apply State.kept_grains | apply State.kept_tag | apply State.kept_regs | apply State.kept_quarters | apply State.kept_pending | apply Memory.wf_memClear | simp only [State.mk_kept] | apply And.intro | split | apply foldl_kept | intro _

theorem State.diePowerFault_kept (s : State) (d : Nat) (h : s.kept wait) :
    (s.diePowerFault d).kept wait := by
  unfold State.diePowerFault
  with_reducible repeat' first | assumption | apply State.detect_kept | apply State.dieOff_kept | apply State.loseQ_kept | split

theorem State.dieTrip_kept (s : State) (d : Nat) (h : s.kept wait) :
    (s.dieTrip d).kept wait := by
  unfold State.dieTrip
  try dsimp only
  with_reducible repeat' first | assumption | apply State.modP_kept | apply State.diePowerFault_kept | apply State.inc_kept | apply State.raise_kept | split

theorem State.warnings_kept (s : State) (k : Nat) (t : Int) (h : s.kept wait) :
    (s.warnings k t).kept wait := by
  unfold State.warnings
  with_reducible repeat' first | assumption | apply State.modP_kept | apply State.raise_kept | apply State.setF_kept | split

theorem State.takeTemp_kept (s : State) (k : Nat) (t : Int) (h : s.kept wait) :
    (s.takeTemp k t).kept wait := by
  unfold State.takeTemp
  try dsimp only
  with_reducible repeat' first | assumption | apply State.modP_kept | apply State.setDuty_kept | apply State.setRegN_kept | apply State.warnings_kept | split

theorem State.applySvc_kept (s : State) (h : s.kept wait) :
    (s.applySvc).kept wait := by
  unfold State.applySvc
  try dsimp only
  with_reducible repeat' first | assumption | apply State.modP_kept | apply State.setDuty_kept | apply State.setF_kept | split

theorem State.beginDieResets_kept (s : State) (h : s.kept wait) :
    (s.beginDieResets).kept wait := by
  unfold State.beginDieResets
  try dsimp only
  with_reducible repeat' first | assumption | apply State.abandonQ_kept | apply State.emptyBanks_kept | apply State.linksOff_kept | apply State.modP_kept | apply State.setF_kept | apply State.setQState_kept | split | dsimp only | apply foldl_kept | intro _

theorem State.dieReleased_kept (s : State) (d : Nat) (h : s.kept wait) :
    (s.dieReleased d).kept wait := by
  unfold State.dieReleased
  try dsimp only
  with_reducible repeat' first | assumption | apply State.dieUp_kept | apply State.drop_kept | apply State.linksTrain_kept | apply State.modP_kept | apply State.setF_kept | split

theorem State.dieRelease_kept (s : State) (d : Nat) (h : s.kept wait) :
    (s.dieRelease d).kept wait := by
  unfold State.dieRelease
  with_reducible repeat' first | assumption | apply State.dieReleased_kept | split

theorem State.fanFail_kept (s : State) (k : Nat) (h : s.kept wait) :
    (s.fanFail k).kept wait := by
  unfold State.fanFail
  with_reducible repeat' first | assumption | apply State.raise_kept | apply State.setDuty_kept | split

theorem State.feedRestored_kept (s : State) (b : Bool) (mv : Nat) (h : s.kept wait) :
    (s.feedRestored b mv).kept wait := by
  unfold State.feedRestored
  with_reducible repeat' first | assumption | apply State.raise_kept | apply State.setRegN_kept | split

theorem State.feedLost_kept (s : State) (b : Bool) (mv : Nat) (h : s.kept wait) :
    (s.feedLost b mv).kept wait := by
  unfold State.feedLost
  with_reducible repeat' first | assumption | apply State.drop_kept | apply State.raise_kept | apply State.setRegN_kept | split

theorem State.dramTemp_kept (s : State) (d : Nat) (t : Int) (h : s.kept wait) :
    (s.dramTemp d t).kept wait := by
  unfold State.dramTemp
  with_reducible repeat' first | assumption | apply State.setF_kept | apply State.setRegN_kept | split

theorem State.modT_kept (s : State) (f : TimeSt → TimeSt) (h : s.kept wait) :
    (s.modT f).kept wait := by
  unfold State.modT
  try dsimp only
  with_reducible repeat' first | assumption | split | exact (rfl : TagSt.mem _ = TagSt.mem _) | apply State.kept_mem | apply State.kept_grains | apply State.kept_tag | apply State.kept_regs | apply State.kept_quarters | apply State.kept_pending | simp only [State.mk_kept] | apply And.intro

theorem State.acceptStep_kept (s : State) (h : s.kept wait) :
    (s.acceptStep).kept wait := by
  unfold State.acceptStep
  with_reducible repeat' first | assumption | apply State.modT_kept | apply State.raise_kept | split

theorem State.setRail_kept (s : State) (d : Nat) (code : Nat) (h : s.kept wait) :
    (s.setRail d code).kept wait := by
  unfold State.setRail
  with_reducible repeat' first | assumption | apply State.modT_kept | apply State.setRegN_kept

theorem State.paceHeld_kept (s : State) (h : s.kept wait) :
    (s.paceHeld).kept wait := by
  unfold State.paceHeld
  try dsimp only
  with_reducible repeat' first | assumption | apply State.setRail_kept | split | dsimp only | apply foldl_kept | intro _

theorem State.setTimeState_kept (s : State) (v : Nat) (h : s.kept wait) :
    (s.setTimeState v).kept wait := by
  unfold State.setTimeState
  with_reducible repeat' first | assumption | apply State.modT_kept | apply State.setF_kept | split

theorem State.enterFree_kept (s : State) (h : s.kept wait) :
    (s.enterFree).kept wait := by
  unfold State.enterFree
  with_reducible repeat' first | assumption | apply State.setTimeState_kept | split

theorem State.measure_kept (s : State) (port : Nat) (off : Int) (h : s.kept wait) :
    (s.measure port off).kept wait := by
  unfold State.measure
  try dsimp only
  with_reducible repeat' first | assumption | apply State.drop_kept | apply State.modT_kept | apply State.raise_kept | apply State.setF_kept | apply State.setRegN_kept | apply State.setTimeState_kept | split | exact (rfl : TagSt.mem _ = TagSt.mem _) | apply State.kept_mem | apply State.kept_grains | apply State.kept_tag | apply State.kept_regs | apply State.kept_quarters | apply State.kept_pending | simp only [State.mk_kept] | apply And.intro

theorem State.setEpoch_kept (s : State) (n : Nat) (h : s.kept wait) :
    (s.setEpoch n).kept wait := by
  unfold State.setEpoch
  with_reducible repeat' first | assumption | apply State.setPair_kept | apply State.setReg64_kept

theorem State.paceDie_kept (s : State) (d : Nat) (h : s.kept wait) :
    (s.paceDie d).kept wait := by
  unfold State.paceDie
  with_reducible repeat' first | assumption | apply State.modT_kept | apply State.raise_kept | apply State.setRegN_kept | split

theorem State.pace_kept (s : State) (h : s.kept wait) :
    (s.pace).kept wait := by
  unfold State.pace
  try dsimp only
  with_reducible repeat' first | assumption | apply State.drop_kept | apply State.inc_kept | apply State.paceDie_kept | apply State.setRail_kept | apply State.setRegN_kept | split | dsimp only | apply foldl_kept | intro _

theorem State.railOf_kept (s : State) (d : Nat) (h : s.kept wait) :
    (s.railOf d).kept wait := by
  unfold State.railOf
  try dsimp only
  with_reducible repeat' first | assumption | apply State.modT_kept | apply State.setRail_kept | split

theorem State.rails_kept (s : State) (h : s.kept wait) :
    (s.rails).kept wait := by
  unfold State.rails
  try dsimp only
  with_reducible repeat' first | assumption | apply State.railOf_kept | split | dsimp only | apply foldl_kept

theorem State.timeSlow_kept (s : State) (h : s.kept wait) :
    (s.timeSlow).kept wait := by
  unfold State.timeSlow
  with_reducible repeat' first | assumption | apply State.raise_kept | split

theorem State.acqTimeout_kept (s : State) (t : Nat) (h : s.kept wait) :
    (s.acqTimeout t).kept wait := by
  unfold State.acqTimeout
  with_reducible repeat' first | assumption | apply State.at_kept | apply State.enterFree_kept | split

theorem State.stepForward_kept (s : State) (off : Int) (h : s.kept wait) :
    (s.stepForward off).kept wait := by
  unfold State.stepForward
  try dsimp only
  with_reducible repeat' first | assumption | apply State.drop_kept | apply State.modT_kept | apply State.raise_kept | apply State.setRegN_kept | apply State.setTimeState_kept | split | exact (rfl : TagSt.mem _ = TagSt.mem _) | apply State.kept_mem | apply State.kept_grains | apply State.kept_tag | apply State.kept_regs | apply State.kept_quarters | apply State.kept_pending | simp only [State.mk_kept] | apply And.intro

theorem State.timeStep_kept (s : State) (present : Bool) (off : Int) (h : s.kept wait) :
    (s.timeStep present off).kept wait := by
  unfold State.timeStep
  try dsimp only
  with_reducible repeat' first | assumption | apply State.modT_kept | apply State.raise_kept | apply State.stepForward_kept | split

theorem State.alignLost_kept (s : State) (t : Nat) (h : s.kept wait) :
    (s.alignLost t).kept wait := by
  unfold State.alignLost
  with_reducible repeat' first | assumption | apply State.at_kept | apply State.raise_kept | split

theorem State.sourceLost_kept (s : State) (t : Nat) (h : s.kept wait) :
    (s.sourceLost t).kept wait := by
  unfold State.sourceLost
  with_reducible repeat' first | assumption | apply State.at_kept | apply State.setF_kept | apply State.setTimeState_kept | split

theorem State.timeLocked_kept (s : State) (h : s.kept wait) :
    (s.timeLocked).kept wait := by
  unfold State.timeLocked
  with_reducible repeat' first | assumption | apply State.drop_kept | apply State.raise_kept | apply State.setTimeState_kept | split

theorem State.shortOfMargin_kept (s : State) (d : Nat) (h : s.kept wait) :
    (s.shortOfMargin d).kept wait := by
  unfold State.shortOfMargin
  with_reducible repeat' first | assumption | apply State.modT_kept | split

theorem State.undoEpoch_kept (s : State) (h : s.kept wait) :
    (s.undoEpoch).kept wait := by
  unfold State.undoEpoch
  try dsimp only
  with_reducible repeat' first | assumption | apply State.abandonQ_kept | apply State.restoreBlock_kept | apply State.setQState_kept | apply State.undoBanks_kept | exact (rfl : TagSt.mem _ = TagSt.mem _) | apply State.kept_mem | apply State.kept_grains | apply State.kept_tag | apply State.kept_regs | apply State.kept_quarters | apply State.kept_pending | apply Memory.wf_memClear | simp only [State.mk_kept] | apply And.intro | split | apply foldl_kept | intro _

theorem State.unrecoverable_kept (s : State) (kind : Nat) (cause : Nat) (unit : Nat) (detail : Nat) (h : s.kept wait) :
    (s.unrecoverable kind cause unit detail).kept wait := by
  unfold State.unrecoverable
  with_reducible repeat' first | assumption | apply State.event_kept | apply State.raise_kept

theorem State.modR_kept (s : State) (f : RecSt → RecSt) (h : s.kept wait) :
    (s.modR f).kept wait := by
  unfold State.modR
  try dsimp only
  with_reducible repeat' first | assumption | split | exact (rfl : TagSt.mem _ = TagSt.mem _) | apply State.kept_mem | apply State.kept_grains | apply State.kept_tag | apply State.kept_regs | apply State.kept_quarters | apply State.kept_pending | simp only [State.mk_kept] | apply And.intro

theorem State.pwMismatch_kept (s : State) (place : Nat) (h : s.kept wait) :
    (s.pwMismatch place).kept wait := by
  unfold State.pwMismatch
  with_reducible repeat' first | assumption | apply State.inc_kept | apply State.raise_kept | apply State.setRegN_kept

theorem State.chargeQ_kept (s : State) (q : Nat) (h : s.kept wait) :
    (s.chargeQ q).kept wait := by
  unfold State.chargeQ
  try dsimp only
  with_reducible repeat' first | assumption | apply State.loseQ_kept | apply State.modR_kept | split

theorem State.chargeAttempt_kept (s : State) (q : Nat) (h : s.kept wait) :
    (s.chargeAttempt q).kept wait := by
  unfold State.chargeAttempt
  try dsimp only
  with_reducible repeat' first | assumption | apply State.chargeQ_kept | apply State.loseQ_kept | apply State.modR_kept | split

theorem State.charge_kept (s : State) (h : s.kept wait) :
    (s.charge).kept wait := by
  unfold State.charge
  try dsimp only
  with_reducible repeat' first | assumption | apply State.chargeAttempt_kept | apply State.chargeQ_kept | apply State.modR_kept | split | dsimp only | apply foldl_kept | intro _

theorem State.rebuilt_kept (s : State) (b : Nat) (bs : List Byte) (h : s.kept wait) :
    (s.rebuilt b bs).kept wait := by
  unfold State.rebuilt
  with_reducible repeat' first | assumption | apply State.event_kept | apply State.poke_kept | apply State.raise_kept | apply State.setPoison_kept

theorem State.rebuildBlock_kept (s : State) (b : Nat) (h : s.kept wait) :
    (s.rebuildBlock b).kept wait := by
  unfold State.rebuildBlock
  with_reducible repeat' first | assumption | apply State.event_kept | apply State.loseQ_kept | apply State.modR_kept | apply State.poke_kept | apply State.raise_kept | apply State.rebuilt_kept | apply State.setPoison_kept | split

theorem State.startRollback_kept (s : State) (h : s.kept wait) :
    (s.startRollback).kept wait := by
  unfold State.startRollback
  dsimp only
  with_reducible repeat' first | assumption | apply State.charge_kept | apply State.event_kept | apply State.inc_kept | apply State.modR_kept | apply State.modT_kept | apply State.raise_kept | apply State.rebuildBlock_kept | apply State.retireDead_kept | apply State.undoEpoch_kept | apply ite_kept | apply foldl_kept | intro _ | apply fst_kept (by assumption) | split

theorem State.clearResults_kept (s : State) (h : s.kept wait) :
    (s.clearResults).kept wait := by
  unfold State.clearResults
  try dsimp only
  with_reducible repeat' first | assumption | exact (rfl : TagSt.mem _ = TagSt.mem _) | apply State.kept_mem | apply State.kept_grains | apply State.kept_tag | apply State.kept_regs | apply State.kept_quarters | apply State.kept_pending | apply Memory.wf_memClear | simp only [State.mk_kept] | apply And.intro | split | apply foldl_kept | intro _

theorem State.launchOn_kept (s : State) (n : Nat) (h : s.kept wait) :
    (s.launchOn n).kept wait := by
  unfold State.launchOn
  try dsimp only
  with_reducible repeat' first | assumption | apply State.clearResults_kept | apply State.launchAt_kept | apply State.setQState_kept | exact (rfl : TagSt.mem _ = TagSt.mem _) | apply State.kept_mem | apply State.kept_grains | apply State.kept_tag | apply State.kept_regs | apply State.kept_quarters | apply State.kept_pending | apply Memory.wf_memClear | simp only [State.mk_kept] | apply And.intro | split | apply foldl_kept | intro _

theorem State.launchAll_kept (s : State) (t : Nat) (h : s.kept wait) :
    (s.launchAll t).kept wait := by
  unfold State.launchAll
  with_reducible repeat' first | assumption | apply State.at_kept | apply State.launchOn_kept | apply State.modT_kept

theorem State.replayLaunch_kept (s : State) (h : s.kept wait) :
    (s.replayLaunch).kept wait := by
  unfold State.replayLaunch
  with_reducible repeat' first | assumption | apply State.inc_kept | apply State.launchAll_kept | apply State.modR_kept | apply State.modT_kept | apply State.setF_kept | split

theorem State.setLinkState_kept (s : State) (d : Nat) (l : Nat) (v : Nat) (h : s.kept wait) :
    (s.setLinkState d l v).kept wait := by
  unfold State.setLinkState
  try dsimp only
  with_reducible repeat' first | assumption | apply State.setF_kept | split | dsimp only | apply foldl_kept | intro _

theorem State.linkDown_kept (s : State) (d : Nat) (l : Nat) (h : s.kept wait) :
    (s.linkDown d l).kept wait := by
  unfold State.linkDown
  try dsimp only
  with_reducible repeat' first | assumption | apply State.detect_kept | apply State.loseQ_kept | apply State.raise_kept | apply State.setF_kept | apply State.setLinkState_kept | split | dsimp only | apply foldl_kept | intro _

theorem State.retrainTimeout_kept (s : State) (d : Nat) (l : Nat) (h : s.kept wait) :
    (s.retrainTimeout d l).kept wait := by
  unfold State.retrainTimeout
  with_reducible repeat' first | assumption | apply State.linkDown_kept | split

theorem State.linkTrained_kept (s : State) (d : Nat) (l : Nat) (h : s.kept wait) :
    (s.linkTrained d l).kept wait := by
  unfold State.linkTrained
  with_reducible repeat' first | assumption | apply State.setLinkState_kept | split

theorem State.copiesLost_kept (s : State) (h : s.kept wait) :
    (s.copiesLost).kept wait := by
  unfold State.copiesLost
  try dsimp only
  with_reducible repeat' first | assumption | apply State.abandonQ_kept | apply State.modP_kept | apply State.modR_kept | apply State.setQState_kept | apply State.unrecoverable_kept | split | dsimp only | apply foldl_kept | intro _

theorem State.flitCounted_kept (s : State) (d : Nat) (l : Nat) (same : Bool) (h : s.kept wait) :
    (s.flitCounted d l same).kept wait := by
  unfold State.flitCounted
  try dsimp only
  with_reducible repeat' first | assumption | apply State.incSat_kept | apply State.raise_kept | split | exact (rfl : TagSt.mem _ = TagSt.mem _) | apply State.kept_mem | apply State.kept_grains | apply State.kept_tag | apply State.kept_regs | apply State.kept_quarters | apply State.kept_pending | simp only [State.mk_kept] | apply And.intro

theorem State.flitError_kept (s : State) (d : Nat) (l : Nat) (same : Bool) (h : s.kept wait) :
    (s.flitError d l same).kept wait := by
  unfold State.flitError
  with_reducible repeat' first | assumption | apply State.flitCounted_kept | split

theorem State.retrainDone_kept (s : State) (d : Nat) (l : Nat) (h : s.kept wait) :
    (s.retrainDone d l).kept wait := by
  unfold State.retrainDone
  try dsimp only
  with_reducible repeat' first | assumption | apply State.incSat_kept | apply State.setLinkState_kept | split | dsimp only | apply foldl_kept | intro _

theorem State.copyRepaired_kept (s : State) (k : Nat) (a : Dword) (b : Dword) (badA : Bool) (badB : Bool) (pair : Bool) (h : s.kept wait) :
    (s.copyRepaired k a b badA badB pair).kept wait := by
  unfold State.copyRepaired
  with_reducible repeat' first | assumption | apply State.event_kept | apply State.inc_kept | apply State.modR_kept | apply State.pwMismatch_kept | apply State.raise_kept | split

theorem State.copyPatrol_kept (s : State) (k : Nat) (badA : Bool) (badB : Bool) (pair : Bool) (h : s.kept wait) :
    (s.copyPatrol k badA badB pair).kept wait := by
  unfold State.copyPatrol
  with_reducible repeat' first | assumption | apply State.copiesLost_kept | apply State.copyRepaired_kept | split

theorem State.memTrainTimeout_kept (s : State) (d : Nat) (h : s.kept wait) :
    (s.memTrainTimeout d).kept wait := by
  unfold State.memTrainTimeout
  with_reducible repeat' first | assumption | apply State.loseQ_kept | apply State.modR_kept | apply State.raise_kept | apply State.setF_kept | split

theorem State.linkRetrain_kept (s : State) (d : Nat) (l : Nat) (lockLost : Bool) (h : s.kept wait) :
    (s.linkRetrain d l lockLost).kept wait := by
  unfold State.linkRetrain
  try dsimp only
  with_reducible repeat' first | assumption | apply State.raise_kept | apply State.setLinkState_kept | exact (rfl : TagSt.mem _ = TagSt.mem _) | apply State.kept_mem | apply State.kept_grains | apply State.kept_tag | apply State.kept_regs | apply State.kept_quarters | apply State.kept_pending | apply Memory.wf_memClear | simp only [State.mk_kept] | apply And.intro | split | apply foldl_kept | intro _

theorem State.memScrub_kept (s : State) (k : Nat) (err : Nat) (h : s.kept wait) :
    (s.memScrub k err).kept wait := by
  unfold State.memScrub
  try dsimp only
  with_reducible repeat' first | assumption | apply State.event_kept | apply State.inc_kept | apply State.incSat_kept | apply State.raise_kept | apply State.setPoison_kept | apply State.setReg64_kept | split

theorem State.linkTrainTimeout_kept (s : State) (d : Nat) (l : Nat) (h : s.kept wait) :
    (s.linkTrainTimeout d l).kept wait := by
  unfold State.linkTrainTimeout
  with_reducible repeat' first | assumption | apply State.linkDown_kept | split

end Sys2Proof.Machine
end

