-- ==== Sys2Proof/Laws/Kept2.lean ====
section
/-! SUPPORT. Every operation keeps State.kept: those of Aio, Dio, Radio, Loopdata, Carrier, Alarm, Chain. -/

namespace Sys2Proof.Machine

variable {wait : List Instr}

theorem State.send_kept (s : State) (port : Nat) (kind : Nat) (dst : Nat) (body : List Byte) (h : s.kept wait) :
    (s.send port kind dst body).kept wait := by
  unfold State.send
  try dsimp only
  with_reducible repeat' first | assumption | split | exact (rfl : TagSt.mem _ = TagSt.mem _) | apply State.kept_mem | apply State.kept_grains | apply State.kept_tag | apply State.kept_regs | apply State.kept_quarters | apply State.kept_pending | simp only [State.mk_kept] | apply And.intro

theorem State.modIo_kept (s : State) (f : IoSt → IoSt) (h : s.kept wait) :
    (s.modIo f).kept wait := by
  unfold State.modIo
  try dsimp only
  with_reducible repeat' first | assumption | split | exact (rfl : TagSt.mem _ = TagSt.mem _) | apply State.kept_mem | apply State.kept_grains | apply State.kept_tag | apply State.kept_regs | apply State.kept_quarters | apply State.kept_pending | simp only [State.mk_kept] | apply And.intro

theorem State.trimResult_kept (s : State) (v : Nat) (h : s.kept wait) :
    (s.trimResult v).kept wait := by
  unfold State.trimResult
  with_reducible repeat' first | assumption | apply State.setF_kept

theorem State.trimEnd_kept (s : State) (v : Nat) (h : s.kept wait) :
    (s.trimEnd v).kept wait := by
  unfold State.trimEnd
  with_reducible repeat' first | assumption | apply State.modIo_kept | apply State.setRegN_kept | apply State.trimResult_kept

theorem State.modC_kept (s : State) (f : CarSt → CarSt) (h : s.kept wait) :
    (s.modC f).kept wait := by
  unfold State.modC
  try dsimp only
  with_reducible repeat' first | assumption | split | exact (rfl : TagSt.mem _ = TagSt.mem _) | apply State.kept_mem | apply State.kept_grains | apply State.kept_tag | apply State.kept_regs | apply State.kept_quarters | apply State.kept_pending | simp only [State.mk_kept] | apply And.intro

theorem State.aoSet_kept (s : State) (o : Nat) (st : Nat) (h : s.kept wait) :
    (s.aoSet o st).kept wait := by
  unfold State.aoSet
  with_reducible repeat' first | assumption | apply State.modC_kept | apply State.setF_kept

theorem State.aoRestore_kept (s : State) (o : Nat) (h : s.kept wait) :
    (s.aoRestore o).kept wait := by
  unfold State.aoRestore
  with_reducible repeat' first | assumption | apply State.aoSet_kept | split

theorem State.trimRefuse_kept (s : State) (h : s.kept wait) :
    (s.trimRefuse).kept wait := by
  unfold State.trimRefuse
  with_reducible repeat' first | assumption | apply State.raise_kept | apply State.trimResult_kept

theorem State.trimAbort_kept (s : State) (kind : Nat) (h : s.kept wait) :
    (s.trimAbort kind).kept wait := by
  unfold State.trimAbort
  with_reducible repeat' first | assumption | apply State.trimEnd_kept | apply State.trimRefuse_kept | split

theorem State.trimHold_kept (s : State) (span : Bool) (m : F64) (h : s.kept wait) :
    (s.trimHold span m).kept wait := by
  unfold State.trimHold
  with_reducible repeat' first | assumption | apply State.modIo_kept | apply State.raise_kept | apply State.setRegN_kept | split

theorem State.trimCapture_kept (s : State) (kind : Nat) (span : Bool) (h : s.kept wait) :
    (s.trimCapture kind span).kept wait := by
  unfold State.trimCapture
  try dsimp only
  with_reducible repeat' first | assumption | apply State.modIo_kept | apply State.trimHold_kept | apply State.trimRefuse_kept | apply State.trimResult_kept | split

theorem State.trimPut_kept (s : State) (ch : Nat) (zg : Option (F64 × F64)) (h : s.kept wait) :
    (s.trimPut ch zg).kept wait := by
  unfold State.trimPut
  try dsimp only
  with_reducible repeat' first | assumption | apply State.setPair_kept | apply State.trimEnd_kept | split

theorem State.trimCommit_kept (s : State) (kind : Nat) (h : s.kept wait) :
    (s.trimCommit kind).kept wait := by
  unfold State.trimCommit
  try dsimp only
  with_reducible repeat' first | assumption | apply State.trimPut_kept | apply State.trimRefuse_kept | split

theorem State.trimOpen_kept (s : State) (kind : Nat) (ch : Nat) (h : s.kept wait) :
    (s.trimOpen kind ch).kept wait := by
  unfold State.trimOpen
  with_reducible repeat' first | assumption | apply State.modIo_kept | apply State.setRegN_kept | apply State.trimRefuse_kept | split

theorem State.trimCmd_kept (s : State) (kind : Nat) (v : Nat) (h : s.kept wait) :
    (s.trimCmd kind v).kept wait := by
  unfold State.trimCmd
  with_reducible repeat' first | assumption | apply State.trimAbort_kept | apply State.trimCapture_kept | apply State.trimCommit_kept | apply State.trimOpen_kept | split

theorem State.aoWrite_kept (s : State) (o : Nat) (v : Nat) (h : s.kept wait) :
    (s.aoWrite o v).kept wait := by
  unfold State.aoWrite
  with_reducible repeat' first | assumption | apply State.raise_kept | apply State.setF_kept | apply State.setPair_kept

theorem State.miswireClear_kept (s : State) (k : Nat) (h : s.kept wait) :
    (s.miswireClear k).kept wait := by
  unfold State.miswireClear
  with_reducible repeat' first | assumption | apply State.drop_kept | split

theorem State.aiRecord_kept (s : State) (c : Nat) (period : Nat) (range : Nat) (b : Nat) (stop : Option Nat) (h : s.kept wait) :
    (s.aiRecord c period range b stop).2.kept wait := by
  unfold State.aiRecord
  with_reducible repeat' first | assumption | apply State.fresh_kept | apply State.modIo_kept | apply State.setRegN_kept | split

theorem State.aoTake_kept (s : State) (o : Nat) (v : Nat) (h : s.kept wait) :
    (s.aoTake o v).kept wait := by
  unfold State.aoTake
  try dsimp only
  with_reducible repeat' first | assumption | apply State.aoSet_kept | apply State.modC_kept | apply State.setF_kept | split

theorem State.aoFoldback_kept (s : State) (o : Nat) (h : s.kept wait) :
    (s.aoFoldback o).kept wait := by
  unfold State.aoFoldback
  with_reducible repeat' first | assumption | apply State.aoSet_kept | apply State.incSat_kept | apply State.raise_kept | split

theorem State.aiCommit_kept (s : State) (r : AiRec) (h : s.kept wait) :
    (s.aiCommit r).kept wait := by
  unfold State.aiCommit
  try dsimp only
  with_reducible repeat' first | assumption | apply State.setF_kept | apply State.setRegN_kept | split

theorem State.miswire_kept (s : State) (k : Nat) (ext : Bool) (h : s.kept wait) :
    (s.miswire k ext).kept wait := by
  unfold State.miswire
  try dsimp only
  with_reducible repeat' first | assumption | apply State.incSat_kept | apply State.raise_kept | apply State.setF_kept | split

theorem State.lpRetry_kept (s : State) (c : Nat) (below : Bool) (h : s.kept wait) :
    (s.lpRetry c below).kept wait := by
  unfold State.lpRetry
  with_reducible repeat' first | assumption | apply State.drop_kept | split

theorem State.aoIsoFault_kept (s : State) (o : Nat) (h : s.kept wait) :
    (s.aoIsoFault o).kept wait := by
  unfold State.aoIsoFault
  with_reducible repeat' first | assumption | apply State.aoSet_kept | apply State.modC_kept | apply State.raise_kept | apply State.unrecoverable_kept | split

theorem State.aoRelease_kept (s : State) (o : Nat) (h : s.kept wait) :
    (s.aoRelease o).kept wait := by
  unfold State.aoRelease
  with_reducible repeat' first | assumption | apply State.aoSet_kept | split

theorem State.loadHigh_kept (s : State) (o : Nat) (h : s.kept wait) :
    (s.loadHigh o).kept wait := by
  unfold State.loadHigh
  with_reducible repeat' first | assumption | apply State.incSat_kept | apply State.raise_kept | split

theorem State.lpOverload_kept (s : State) (c : Nat) (h : s.kept wait) :
    (s.lpOverload c).kept wait := by
  unfold State.lpOverload
  with_reducible repeat' first | assumption | apply State.raise_kept | split

theorem State.aiDeliver_kept (s : State) (c : Nat) (t : Nat) (raw : Int) (h : s.kept wait) :
    (s.aiDeliver c t raw).kept wait := by
  unfold State.aiDeliver
  with_reducible repeat' first | assumption | apply State.incSat_kept | apply State.modIo_kept | split

theorem State.aiCfgChanged_kept (s : State) (c : Nat) (bk : Nat) (h : s.kept wait) :
    (s.aiCfgChanged c bk).kept wait := by
  unfold State.aiCfgChanged
  with_reducible repeat' first | assumption | apply State.modIo_kept | split

theorem State.aiNewGrid_kept (s : State) (c : Nat) (from0 : Nat) (h : s.kept wait) :
    (s.aiNewGrid c from0).kept wait := by
  unfold State.aiNewGrid
  with_reducible repeat' first | assumption | apply State.modIo_kept

theorem State.trimTimeout_kept (s : State) (t : Nat) (h : s.kept wait) :
    (s.trimTimeout t).kept wait := by
  unfold State.trimTimeout
  with_reducible repeat' first | assumption | apply State.at_kept | apply State.trimEnd_kept | split

theorem State.aiLog_kept (s : State) (c : Nat) (b : Nat) (h : s.kept wait) :
    (s.aiLog c b).2.kept wait := by
  unfold State.aiLog
  try dsimp only
  with_reducible repeat' first | assumption | apply State.aiNewGrid_kept | apply State.aiRecord_kept | split

theorem State.refCheck_kept (s : State) (ref : Int) (own : Int) (chk : Int) (h : s.kept wait) :
    (s.refCheck ref own chk).kept wait := by
  unfold State.refCheck
  try dsimp only
  with_reducible repeat' first | assumption | apply State.inc_kept | apply State.modIo_kept | apply State.raise_kept | apply State.setF_kept | apply State.setRegN_kept | split

theorem State.aiCommitAll_kept (s : State) (h : s.kept wait) :
    (s.aiCommitAll).kept wait := by
  unfold State.aiCommitAll
  try dsimp only
  with_reducible repeat' first | assumption | apply State.aiCommit_kept | apply State.setF_kept | split | dsimp only | apply foldl_kept | intro _

theorem State.doSet_kept (s : State) (i : Nat) (v : Nat) (h : s.kept wait) :
    (s.doSet i v).kept wait := by
  unfold State.doSet
  with_reducible repeat' first | assumption | apply State.modC_kept | apply State.setF_kept

theorem State.doTake_kept (s : State) (i : Nat) (cmd : Bool) (arm : Bool) (h : s.kept wait) :
    (s.doTake i cmd arm).kept wait := by
  unfold State.doTake
  try dsimp only
  with_reducible repeat' first | assumption | apply State.doSet_kept | split

theorem State.relayTake_kept (s : State) (v : Nat) (h : s.kept wait) :
    (s.relayTake v).kept wait := by
  unfold State.relayTake
  with_reducible repeat' first | assumption | apply State.modC_kept | apply State.setRegN_kept

theorem State.diDeliver_kept (s : State) (t : Nat) (lv : Nat) (h : s.kept wait) :
    (s.diDeliver t lv).kept wait := by
  unfold State.diDeliver
  with_reducible repeat' first | assumption | apply State.modIo_kept | split

theorem State.diCommit_kept (s : State) (h : s.kept wait) :
    (s.diCommit).kept wait := by
  unfold State.diCommit
  try dsimp only
  with_reducible repeat' first | assumption | apply State.setRegN_kept | split | dsimp only | apply foldl_kept | intro _

theorem State.diSample_kept (s : State) (j : Nat) (levels : Nat) (h : s.kept wait) :
    (s.diSample j levels).kept wait := by
  unfold State.diSample
  try dsimp only
  with_reducible repeat' first | assumption | split | exact (rfl : TagSt.mem _ = TagSt.mem _) | apply State.kept_mem | apply State.kept_grains | apply State.kept_tag | apply State.kept_regs | apply State.kept_quarters | apply State.kept_pending | simp only [State.mk_kept] | apply And.intro

theorem State.diMiswire_kept (s : State) (i : Nat) (on : Bool) (h : s.kept wait) :
    (s.diMiswire i on).kept wait := by
  unfold State.diMiswire
  with_reducible repeat' first | assumption | apply State.modC_kept | apply State.setRegN_kept

theorem State.doFailedOn_kept (s : State) (i : Nat) (h : s.kept wait) :
    (s.doFailedOn i).kept wait := by
  unfold State.doFailedOn
  try dsimp only
  with_reducible repeat' first | assumption | apply State.modC_kept | apply State.raise_kept | apply State.unrecoverable_kept | split

theorem State.doExt_kept (s : State) (i : Nat) (on : Bool) (h : s.kept wait) :
    (s.doExt i on).kept wait := by
  unfold State.doExt
  with_reducible repeat' first | assumption | apply State.modC_kept | apply State.setF_kept | split

theorem State.doRestart_kept (s : State) (i : Nat) (h : s.kept wait) :
    (s.doRestart i).kept wait := by
  unfold State.doRestart
  with_reducible repeat' first | assumption | apply State.doSet_kept | split

theorem State.aoSafe_kept (s : State) (o : Nat) (h : s.kept wait) :
    (s.aoSafe o).kept wait := by
  unfold State.aoSafe
  with_reducible repeat' first | assumption | apply State.aoSet_kept | apply State.modC_kept | split

theorem State.doSafe_kept (s : State) (i : Nat) (h : s.kept wait) :
    (s.doSafe i).kept wait := by
  unfold State.doSafe
  with_reducible repeat' first | assumption | apply State.doSet_kept | split

theorem State.relaySafe_kept (s : State) (h : s.kept wait) :
    (s.relaySafe).kept wait := by
  unfold State.relaySafe
  with_reducible repeat' first | assumption | apply State.relayTake_kept

theorem State.laneSafe_kept (s : State) (l : Nat) (h : s.kept wait) :
    (s.laneSafe l).kept wait := by
  unfold State.laneSafe
  try dsimp only
  with_reducible repeat' first | assumption | apply State.aoSafe_kept | apply State.doSafe_kept | apply State.modC_kept | apply State.relaySafe_kept | split | dsimp only | apply foldl_kept

theorem State.safeTimeout_kept (s : State) (l : Nat) (t : Nat) (h : s.kept wait) :
    (s.safeTimeout l t).kept wait := by
  unfold State.safeTimeout
  try dsimp only
  with_reducible repeat' first | assumption | apply State.at_kept | apply State.laneSafe_kept | split | exact (rfl : TagSt.mem _ = TagSt.mem _) | apply State.kept_mem | apply State.kept_grains | apply State.kept_tag | apply State.kept_regs | apply State.kept_quarters | apply State.kept_pending | simp only [State.mk_kept] | apply And.intro

theorem State.supplyLow_kept (s : State) (g : Nat) (mv : Nat) (h : s.kept wait) :
    (s.supplyLow g mv).kept wait := by
  unfold State.supplyLow
  with_reducible repeat' first | assumption | apply State.drop_kept | apply State.raise_kept | apply State.setRegN_kept | split

theorem State.supplyRev_kept (s : State) (g : Nat) (on : Bool) (h : s.kept wait) :
    (s.supplyRev g on).kept wait := by
  unfold State.supplyRev
  try dsimp only
  with_reducible repeat' first | assumption | apply State.doSet_kept | apply State.modC_kept | apply State.setF_kept | split | dsimp only | apply foldl_kept | intro _

theorem State.aiSample_kept (s : State) (t : Nat) (vals : List (Nat × Int)) (h : s.kept wait) :
    (s.aiSample t vals).kept wait := by
  unfold State.aiSample
  try dsimp only
  with_reducible repeat' first | assumption | split | exact (rfl : TagSt.mem _ = TagSt.mem _) | apply State.kept_mem | apply State.kept_grains | apply State.kept_tag | apply State.kept_regs | apply State.kept_quarters | apply State.kept_pending | simp only [State.mk_kept] | apply And.intro

theorem State.doRelease_kept (s : State) (i : Nat) (h : s.kept wait) :
    (s.doRelease i).kept wait := by
  unfold State.doRelease
  with_reducible repeat' first | assumption | apply State.doSet_kept | split

theorem State.doTrip_kept (s : State) (i : Nat) (h : s.kept wait) :
    (s.doTrip i).kept wait := by
  unfold State.doTrip
  with_reducible repeat' first | assumption | apply State.doSet_kept | apply State.inc_kept | apply State.raise_kept | apply State.setF_kept | split

theorem State.diLog_kept (s : State) (b : Nat) (h : s.kept wait) :
    (s.diLog b).2.kept wait := by
  unfold State.diLog
  with_reducible repeat' first | assumption | apply State.fresh_kept | apply State.modIo_kept | split

theorem State.doLimit_kept (s : State) (i : Nat) (on : Bool) (h : s.kept wait) :
    (s.doLimit i on).kept wait := by
  unfold State.doLimit
  with_reducible repeat' first | assumption | apply State.doSet_kept | apply State.setF_kept | split

theorem State.modRad_kept (s : State) (f : RadioSt → RadioSt) (h : s.kept wait) :
    (s.modRad f).kept wait := by
  unfold State.modRad
  try dsimp only
  with_reducible repeat' first | assumption | split | exact (rfl : TagSt.mem _ = TagSt.mem _) | apply State.kept_mem | apply State.kept_grains | apply State.kept_tag | apply State.kept_regs | apply State.kept_quarters | apply State.kept_pending | simp only [State.mk_kept] | apply And.intro

theorem State.radioWritten_kept (s : State) (afc : Bool) (mask : Bool) (h : s.kept wait) :
    (s.radioWritten afc mask).kept wait := by
  unfold State.radioWritten
  with_reducible repeat' first | assumption | apply State.drop_kept | apply State.modRad_kept | split

theorem State.radioCmd_kept (s : State) (v : Nat) (h : s.kept wait) :
    (s.radioCmd v).kept wait := by
  unfold State.radioCmd
  with_reducible repeat' first | assumption | apply State.modRad_kept | apply State.raise_kept | apply State.setRegN_kept | split

theorem State.radioFrag_kept (s : State) (b : List Byte) (h : s.kept wait) :
    (s.radioFrag b).kept wait := by
  unfold State.radioFrag
  with_reducible repeat' first | assumption | apply State.modRad_kept

theorem State.radioItem_kept (s : State) (b : List Byte) (h : s.kept wait) :
    (s.radioItem b).kept wait := by
  unfold State.radioItem
  with_reducible repeat' first | assumption | apply State.modRad_kept

theorem State.radioTxItem_kept (s : State) (b : List Byte) (h : s.kept wait) :
    (s.radioTxItem b).kept wait := by
  unfold State.radioTxItem
  with_reducible repeat' first | assumption | apply State.raise_kept | apply State.setRegN_kept | split

theorem State.radioWindowItem_kept (s : State) (b : List Byte) (h : s.kept wait) :
    (s.radioWindowItem b).kept wait := by
  unfold State.radioWindowItem
  with_reducible repeat' first | assumption | apply State.drop_kept | apply State.inc_kept | apply State.raise_kept | split

theorem State.cmdAcked_kept (s : State) (tag : Nat) (seq : Nat) (h : s.kept wait) :
    (s.cmdAcked tag seq).kept wait := by
  unfold State.cmdAcked
  try dsimp only
  with_reducible repeat' first | assumption | apply State.modRad_kept | apply State.setF_kept | split

theorem State.setTagMem_kept (s : State) (m : TagMem) (h : s.kept wait) :
    (s.setTagMem m).kept wait := by
  unfold State.setTagMem
  with_reducible repeat' first | assumption | apply State.modRad_kept

theorem State.radioCommitEntry_kept (s : State) (e : List Byte) (h : s.kept wait) :
    (s.radioCommitEntry e).kept wait := by
  unfold State.radioCommitEntry
  try dsimp only
  with_reducible repeat' first | assumption | apply State.cmdAcked_kept | apply State.inc_kept | apply State.modRad_kept | apply State.setRegN_kept | apply State.setTagMem_kept | split | dsimp only | apply foldl_kept | intro _

theorem State.writeWindow_kept (s : State) (sf : Nat) (h : s.kept wait) :
    (s.writeWindow sf).kept wait := by
  unfold State.writeWindow
  try dsimp only
  with_reducible repeat' first | assumption | apply State.modRad_kept | apply State.setF_kept | apply State.setTagMem_kept | exact (rfl : TagSt.mem _ = TagSt.mem _) | apply State.kept_mem | apply State.kept_grains | apply State.kept_tag | apply State.kept_regs | apply State.kept_quarters | apply State.kept_pending | apply Memory.wf_memClear | simp only [State.mk_kept] | apply And.intro | split | apply foldl_kept | intro _

theorem State.radioCommit_kept (s : State) (n : Nat) (h : s.kept wait) :
    (s.radioCommit n).kept wait := by
  unfold State.radioCommit
  try dsimp only
  with_reducible repeat' first | assumption | apply State.modRad_kept | apply State.radioCommitEntry_kept | apply State.setF_kept | apply State.writeWindow_kept | split | dsimp only | apply foldl_kept

theorem State.radioLog_kept (s : State) (b : Nat) (h : s.kept wait) :
    (s.radioLog b).2.kept wait := by
  unfold State.radioLog
  with_reducible repeat' first | assumption | apply State.modRad_kept | split

theorem State.addItem_kept (s : State) (tag : Nat) (body : List Byte) (h : s.kept wait) :
    (s.addItem tag body).kept wait := by
  unfold State.addItem
  with_reducible repeat' first | assumption | apply State.modC_kept

theorem State.slotOver_kept (s : State) (x : RxSt) (h : s.kept wait) :
    (s.slotOver x).kept wait := by
  unfold State.slotOver
  try dsimp only
  with_reducible repeat' first | assumption | apply State.addItem_kept | apply State.at_kept | apply State.modRad_kept | split | dsimp only | apply foldl_kept | intro _

theorem State.beaconGoes_kept (s : State) (sf : Nat) (masked : Bool) (h : s.kept wait) :
    (s.beaconGoes sf masked).kept wait := by
  unfold State.beaconGoes
  try dsimp only
  with_reducible repeat' first | assumption | apply State.addItem_kept | apply State.modRad_kept | apply State.send_kept | split

theorem State.modRx_kept (s : State) (f : RxSt → RxSt) (h : s.kept wait) :
    (s.modRx f).kept wait := by
  unfold State.modRx
  with_reducible repeat' first | assumption | apply State.modRad_kept

theorem State.decoded_kept (s : State) (x : RxSt) (llrs : List (List Int)) (h : s.kept wait) :
    (s.decoded x llrs).kept wait := by
  unfold State.decoded
  with_reducible repeat' first | assumption | apply State.modRx_kept

theorem State.slotEnd_kept (s : State) (h : s.kept wait) :
    (s.slotEnd).kept wait := by
  unfold State.slotEnd
  with_reducible repeat' first | assumption | apply State.slotOver_kept | split

theorem State.radioCorrelate_kept (s : State) (corr : Nat) (inTime : Bool) (e : Int) (snr : Int) (h : s.kept wait) :
    (s.radioCorrelate corr inTime e snr).kept wait := by
  unfold State.radioCorrelate
  with_reducible repeat' first | assumption | apply State.modRx_kept | split

theorem State.radioCmdFailed_kept (s : State) (h : s.kept wait) :
    (s.radioCmdFailed).kept wait := by
  unfold State.radioCmdFailed
  try dsimp only
  with_reducible repeat' first | assumption | apply State.modRad_kept | apply State.setF_kept | split

theorem State.beacon_kept (s : State) (sf : Nat) (masked : Bool) (h : s.kept wait) :
    (s.beacon sf masked).kept wait := by
  unfold State.beacon
  try dsimp only
  with_reducible repeat' first | assumption | apply State.beaconGoes_kept | split | exact (rfl : TagSt.mem _ = TagSt.mem _) | apply State.kept_mem | apply State.kept_grains | apply State.kept_tag | apply State.kept_regs | apply State.kept_quarters | apply State.kept_pending | simp only [State.mk_kept] | apply And.intro

theorem State.afcReset_kept (s : State) (k : Nat) (h : s.kept wait) :
    (s.afcReset k).kept wait := by
  unfold State.afcReset
  with_reducible repeat' first | assumption | apply State.modRad_kept | split

theorem State.radioTrigger_kept (s : State) (rssi : Int) (dt : Nat) (h : s.kept wait) :
    (s.radioTrigger rssi dt).kept wait := by
  unfold State.radioTrigger
  try dsimp only
  with_reducible repeat' first | assumption | apply State.modRx_kept | split

theorem State.tagOffRange_kept (s : State) (t : Nat) (h : s.kept wait) :
    (s.tagOffRange t).kept wait := by
  unfold State.tagOffRange
  try dsimp only
  with_reducible repeat' first | assumption | apply State.setF_kept | split

theorem State.radioHeader_kept (s : State) (h : Nat) (dt : Nat) (hs : s.kept wait) :
    (s.radioHeader h dt).kept wait := by
  unfold State.radioHeader
  try dsimp only
  with_reducible repeat' first | assumption | apply State.modRx_kept | split

theorem State.slotOpen_kept (s : State) (sf : Nat) (k : Nat) (h : s.kept wait) :
    (s.slotOpen sf k).kept wait := by
  unfold State.slotOpen
  try dsimp only
  with_reducible repeat' first | assumption | apply State.modRad_kept | apply State.raise_kept | split | exact (rfl : TagSt.mem _ = TagSt.mem _) | apply State.kept_mem | apply State.kept_grains | apply State.kept_tag | apply State.kept_regs | apply State.kept_quarters | apply State.kept_pending | simp only [State.mk_kept] | apply And.intro

theorem State.radioDecode_kept (s : State) (llrs : List (List Int)) (h : s.kept wait) :
    (s.radioDecode llrs).kept wait := by
  unfold State.radioDecode
  with_reducible repeat' first | assumption | apply State.decoded_kept | split

theorem State.radioSync_kept (s : State) (errs : Nat) (inTime : Bool) (h : s.kept wait) :
    (s.radioSync errs inTime).kept wait := by
  unfold State.radioSync
  with_reducible repeat' first | assumption | apply State.modRad_kept | apply State.modRx_kept | split

theorem State.modLd_kept (s : State) (f : LdSt → LdSt) (h : s.kept wait) :
    (s.modLd f).kept wait := by
  unfold State.modLd
  try dsimp only
  with_reducible repeat' first | assumption | split | exact (rfl : TagSt.mem _ = TagSt.mem _) | apply State.kept_mem | apply State.kept_grains | apply State.kept_tag | apply State.kept_regs | apply State.kept_quarters | apply State.kept_pending | simp only [State.mk_kept] | apply And.intro

theorem State.ldMsgCmd_kept (s : State) (v : Nat) (h : s.kept wait) :
    (s.ldMsgCmd v).kept wait := by
  unfold State.ldMsgCmd
  with_reducible repeat' first | assumption | apply State.modLd_kept | apply State.raise_kept | apply State.setRegN_kept | split

theorem State.ldChannel_kept (s : State) (b : List Byte) (h : s.kept wait) :
    (s.ldChannel b).kept wait := by
  unfold State.ldChannel
  try dsimp only
  with_reducible repeat' first | assumption | apply State.each_kept | apply State.raise_kept | apply State.setRegN_kept | split | dsimp only | apply foldl_kept | intro _

theorem State.ldFrag_kept (s : State) (b : List Byte) (h : s.kept wait) :
    (s.ldFrag b).kept wait := by
  unfold State.ldFrag
  with_reducible repeat' first | assumption | apply State.modLd_kept

theorem State.ldItem_kept (s : State) (b : List Byte) (h : s.kept wait) :
    (s.ldItem b).kept wait := by
  unfold State.ldItem
  with_reducible repeat' first | assumption | apply State.modLd_kept

theorem State.ldWindowItem_kept (s : State) (b : List Byte) (h : s.kept wait) :
    (s.ldWindowItem b).kept wait := by
  unfold State.ldWindowItem
  try dsimp only
  with_reducible repeat' first | assumption | apply State.modLd_kept | apply State.raise_kept | apply State.setF_kept | split

theorem State.ldCommit_kept (s : State) (h : s.kept wait) :
    (s.ldCommit).kept wait := by
  unfold State.ldCommit
  try dsimp only
  with_reducible repeat' first | assumption | apply State.inc_kept | apply State.modLd_kept | apply State.setF_kept | apply State.setRegN_kept | split | dsimp only | apply foldl_kept | intro _

theorem State.ldLog_kept (s : State) (b : Nat) (h : s.kept wait) :
    (s.ldLog b).2.kept wait := by
  unfold State.ldLog
  with_reducible repeat' first | assumption | apply State.modLd_kept | split

theorem State.ldMsgFailed_kept (s : State) (h : s.kept wait) :
    (s.ldMsgFailed).kept wait := by
  unfold State.ldMsgFailed
  with_reducible repeat' first | assumption | apply State.addItem_kept | apply State.modLd_kept | split

theorem State.channelReport_kept (s : State) (l : Nat) (h : s.kept wait) :
    (s.channelReport l).kept wait := by
  unfold State.channelReport
  with_reducible repeat' first | assumption | apply State.addItem_kept

theorem State.modLoop_kept (s : State) (l : Nat) (f : LdLoop → LdLoop) (h : s.kept wait) :
    (s.modLoop l f).kept wait := by
  unfold State.modLoop
  with_reducible repeat' first | assumption | apply State.modLd_kept

theorem State.dwellOver_kept (s : State) (e : Nat) (w : DwellSt) (snr : List Int) (h : s.kept wait) :
    (s.dwellOver e w snr).kept wait := by
  unfold State.dwellOver
  try dsimp only
  with_reducible repeat' first | assumption | apply State.addItem_kept | apply State.at_kept | apply State.channelReport_kept | apply State.modLd_kept | apply State.modLoop_kept | split | dsimp only | apply foldl_kept | intro _

theorem State.dwellEnd_kept (s : State) (e : Nat) (snr : List Int) (h : s.kept wait) :
    (s.dwellEnd e snr).kept wait := by
  unfold State.dwellEnd
  with_reducible repeat' first | assumption | apply State.dwellOver_kept | split

theorem State.modDwell_kept (s : State) (e : Nat) (f : DwellSt → DwellSt) (h : s.kept wait) :
    (s.modDwell e f).kept wait := by
  unfold State.modDwell
  with_reducible repeat' first | assumption | apply State.modLd_kept

theorem State.ldAcked_kept (s : State) (l : Nat) (seq : Nat) (h : s.kept wait) :
    (s.ldAcked l seq).kept wait := by
  unfold State.ldAcked
  with_reducible repeat' first | assumption | apply State.addItem_kept | apply State.modLd_kept | split

theorem State.uplinkTaken_kept (s : State) (e : Nat) (w : DwellSt) (off : Int) (h : Nat) (llrs : List (List Int)) (hs : s.kept wait) :
    (s.uplinkTaken e w off h llrs).kept wait := by
  unfold State.uplinkTaken
  try dsimp only
  with_reducible repeat' first | assumption | apply State.ldAcked_kept | apply State.modDwell_kept | apply State.modLoop_kept | split

theorem State.uplinkFrame_kept (s : State) (e : Nat) (off : Int) (h : Nat) (llrs : List (List Int)) (hs : s.kept wait) :
    (s.uplinkFrame e off h llrs).kept wait := by
  unfold State.uplinkFrame
  with_reducible repeat' first | assumption | apply State.uplinkTaken_kept | split

theorem State.ldEnables_kept (s : State) (en : Nat) (h : s.kept wait) :
    (s.ldEnables en).kept wait := by
  unfold State.ldEnables
  with_reducible repeat' first | assumption | apply State.modLd_kept

theorem State.dwellBegins_kept (s : State) (e : Nat) (m : Nat) (l : Nat) (h : s.kept wait) :
    (s.dwellBegins e m l).kept wait := by
  unfold State.dwellBegins
  try dsimp only
  with_reducible repeat' first | assumption | apply State.modLd_kept | apply State.modLoop_kept | apply State.send_kept | split

theorem State.dwellStart_kept (s : State) (e : Nat) (m : Nat) (h : s.kept wait) :
    (s.dwellStart e m).kept wait := by
  unfold State.dwellStart
  try dsimp only
  with_reducible repeat' first | assumption | apply State.dwellBegins_kept | apply State.ldEnables_kept | apply State.modLd_kept | split | exact (rfl : TagSt.mem _ = TagSt.mem _) | apply State.kept_mem | apply State.kept_grains | apply State.kept_tag | apply State.kept_regs | apply State.kept_quarters | apply State.kept_pending | simp only [State.mk_kept] | apply And.intro

theorem State.loopLost_kept (s : State) (l : Nat) (h : s.kept wait) :
    (s.loopLost l).kept wait := by
  unfold State.loopLost
  try dsimp only
  with_reducible repeat' first | assumption | apply State.channelReport_kept | apply State.modLoop_kept | split

theorem State.takePayload_kept (s : State) (l : Nat) (slot : Nat) (t : Nat) (p : List Byte) (h : s.kept wait) :
    (s.takePayload l slot t p).kept wait := by
  unfold State.takePayload
  try dsimp only
  with_reducible repeat' first | assumption | apply State.aoTake_kept | apply State.doTake_kept | apply State.modC_kept | apply State.relayTake_kept | split | dsimp only | apply foldl_kept | intro _

theorem State.downTaken_kept (s : State) (l : Nat) (t : Nat) (seq : Nat) (slot : Nat) (p : List Byte) (h : s.kept wait) :
    (s.downTaken l t seq slot p).kept wait := by
  unfold State.downTaken
  with_reducible repeat' first | assumption | apply State.modC_kept | apply State.takePayload_kept

theorem State.dnSeq_kept (s : State) (l : Nat) (h : s.kept wait) :
    (s.dnSeq l).kept wait := by
  unfold State.dnSeq
  with_reducible repeat' first | assumption | apply State.raise_kept | apply State.setF_kept

theorem State.upGoes_kept (s : State) (l : Nat) (j : Nat) (ao : List (Nat × Int × Nat × Nat × Int)) (dio : Option (Nat × Nat)) (h : s.kept wait) :
    (s.upGoes l j ao dio).kept wait := by
  unfold State.upGoes
  with_reducible repeat' first | assumption | apply State.modC_kept | apply State.send_kept

theorem State.upSend_kept (s : State) (l : Nat) (j : Nat) (ao : List (Nat × Int × Nat × Nat × Int)) (dio : Option (Nat × Nat)) (h : s.kept wait) :
    (s.upSend l j ao dio).kept wait := by
  unfold State.upSend
  try dsimp only
  with_reducible repeat' first | assumption | apply State.at_kept | apply State.upGoes_kept | split | exact (rfl : TagSt.mem _ = TagSt.mem _) | apply State.kept_mem | apply State.kept_grains | apply State.kept_tag | apply State.kept_regs | apply State.kept_quarters | apply State.kept_pending | simp only [State.mk_kept] | apply And.intro

theorem State.carrierHold_kept (s : State) (t : Nat) (h : s.kept wait) :
    (s.carrierHold t).kept wait := by
  unfold State.carrierHold
  with_reducible repeat' first | assumption | apply State.at_kept | apply State.modC_kept | split

theorem State.dnCrc_kept (s : State) (l : Nat) (h : s.kept wait) :
    (s.dnCrc l).kept wait := by
  unfold State.dnCrc
  with_reducible repeat' first | assumption | apply State.raise_kept | apply State.setF_kept

theorem State.downFrame_kept (s : State) (l : Nat) (bytes : List Byte) (t : Nat) (h : s.kept wait) :
    (s.downFrame l bytes t).kept wait := by
  unfold State.downFrame
  try dsimp only
  with_reducible repeat' first | assumption | apply State.dnCrc_kept | apply State.dnSeq_kept | apply State.downTaken_kept | apply State.modC_kept | split | exact (rfl : TagSt.mem _ = TagSt.mem _) | apply State.kept_mem | apply State.kept_grains | apply State.kept_tag | apply State.kept_regs | apply State.kept_quarters | apply State.kept_pending | simp only [State.mk_kept] | apply And.intro

theorem State.takeItem_kept (s : State) (tag : Nat) (b : List Byte) (h : s.kept wait) :
    (s.takeItem tag b).kept wait := by
  unfold State.takeItem
  try dsimp only
  with_reducible repeat' first | assumption | apply State.aiDeliver_kept | apply State.diDeliver_kept | apply State.ldChannel_kept | apply State.ldFrag_kept | apply State.ldItem_kept | apply State.ldWindowItem_kept | apply State.radioFrag_kept | apply State.radioItem_kept | apply State.radioTxItem_kept | apply State.radioWindowItem_kept | apply State.raise_kept | apply State.setF_kept | apply State.setRegN_kept | split | dsimp only | apply foldl_kept | intro _

theorem State.takeFlags_kept (s : State) (l : Nat) (flags : Nat) (h : s.kept wait) :
    (s.takeFlags l flags).kept wait := by
  unfold State.takeFlags
  try dsimp only
  with_reducible repeat' first | assumption | apply State.inc_kept | apply State.pwMismatch_kept | apply State.raise_kept | apply State.setF_kept | apply State.setReg_kept | apply State.unrecoverable_kept | split

theorem State.upTaken_kept (s : State) (l : Nat) (t : Nat) (f : List Byte) (h : s.kept wait) :
    (s.upTaken l t f).kept wait := by
  unfold State.upTaken
  try dsimp only
  with_reducible repeat' first | assumption | apply State.modIo_kept | apply State.setF_kept | apply State.takeFlags_kept | apply State.takeItem_kept | split | dsimp only | apply foldl_kept | intro _

theorem State.upFrame_kept (s : State) (l : Nat) (bytes : List Byte) (t : Nat) (h : s.kept wait) :
    (s.upFrame l bytes t).kept wait := by
  unfold State.upFrame
  try dsimp only
  with_reducible repeat' first | assumption | apply State.at_kept | apply State.raise_kept | apply State.setF_kept | apply State.upTaken_kept | split

theorem State.cfgSlot_kept (s : State) (h : s.kept wait) :
    (s.cfgSlot).2.kept wait := by
  unfold State.cfgSlot
  with_reducible repeat' first | assumption | apply State.modIo_kept | split

theorem State.noteChanged_kept (s : State) (h : s.kept wait) :
    (s.noteChanged).kept wait := by
  unfold State.noteChanged
  try dsimp only
  with_reducible repeat' first | assumption | apply State.modIo_kept | split

theorem State.carrierUp_kept (s : State) (h : s.kept wait) :
    (s.carrierUp).kept wait := by
  unfold State.carrierUp
  try dsimp only
  with_reducible repeat' first | assumption | apply State.modLd_kept | apply State.modRad_kept | apply State.setF_kept | apply State.setRegN_kept | exact (rfl : TagSt.mem _ = TagSt.mem _) | apply State.kept_mem | apply State.kept_grains | apply State.kept_tag | apply State.kept_regs | apply State.kept_quarters | apply State.kept_pending | apply Memory.wf_memClear | simp only [State.mk_kept] | apply And.intro | split | apply foldl_kept | intro _

theorem State.downSend_kept (s : State) (l : Nat) (j : Nat) (h : s.kept wait) :
    (s.downSend l j).kept wait := by
  unfold State.downSend
  try dsimp only
  with_reducible repeat' first | assumption | apply State.at_kept | apply State.cfgSlot_kept | apply State.noteChanged_kept | apply State.send_kept | split

theorem State.modAlm_kept (s : State) (f : AlmSt → AlmSt) (h : s.kept wait) :
    (s.modAlm f).kept wait := by
  unfold State.modAlm
  try dsimp only
  with_reducible repeat' first | assumption | split | exact (rfl : TagSt.mem _ = TagSt.mem _) | apply State.kept_mem | apply State.kept_grains | apply State.kept_tag | apply State.kept_regs | apply State.kept_quarters | apply State.kept_pending | simp only [State.mk_kept] | apply And.intro

theorem State.evalGroups_kept (s : State) (h : s.kept wait) :
    (s.evalGroups).kept wait := by
  unfold State.evalGroups
  try dsimp only
  with_reducible repeat' first | assumption | apply State.raise_kept | apply State.setF_kept | split | dsimp only | apply foldl_kept | intro _

theorem State.setPoint_kept (s : State) (p : Nat) (v : PointSt) (h : s.kept wait) :
    (s.setPoint p v).kept wait := by
  unfold State.setPoint
  with_reducible repeat' first | assumption | apply State.modAlm_kept

theorem State.annunciate_kept (s : State) (old : PointSt) (r : PointRec) (h : s.kept wait) :
    (s.annunciate old r).kept wait := by
  unfold State.annunciate
  with_reducible repeat' first | assumption | apply State.drop_kept | apply State.setPoint_kept | split

theorem State.shelveExpiry_kept (s : State) (p : Nat) (h : s.kept wait) :
    (s.shelveExpiry p).kept wait := by
  unfold State.shelveExpiry
  with_reducible repeat' first | assumption | apply State.annunciate_kept | split

theorem State.relayTargets_kept (s : State) (h : s.kept wait) :
    (s.relayTargets).kept wait := by
  unfold State.relayTargets
  try dsimp only
  with_reducible repeat' first | assumption | apply State.setF_kept | split | dsimp only | apply foldl_kept | intro _

theorem State.scoreStale_kept (s : State) (p : Nat) (h : s.kept wait) :
    (s.scoreStale p).kept wait := by
  unfold State.scoreStale
  try dsimp only
  with_reducible repeat' first | assumption | apply State.setPoint_kept | split

theorem State.srcBadSet_kept (s : State) (p : Nat) (h : s.kept wait) :
    (s.srcBadSet p).kept wait := by
  unfold State.srcBadSet
  try dsimp only
  with_reducible repeat' first | assumption | apply State.annunciate_kept | apply State.setPoint_kept | split

theorem State.ackPoint_kept (s : State) (p : Nat) (h : s.kept wait) :
    (s.ackPoint p).kept wait := by
  unfold State.ackPoint
  with_reducible repeat' first | assumption | apply State.setPoint_kept

theorem State.watchReset_kept (s : State) (h : s.kept wait) :
    (s.watchReset).kept wait := by
  unfold State.watchReset
  with_reducible repeat' first | assumption | apply State.modAlm_kept | apply State.setPoint_kept

theorem State.ackSet_kept (s : State) (ps : List Nat) (h : s.kept wait) :
    (s.ackSet ps).kept wait := by
  unfold State.ackSet
  try dsimp only
  with_reducible repeat' first | assumption | apply State.ackPoint_kept | apply State.watchReset_kept | split | dsimp only | apply foldl_kept

theorem State.presenceLost_kept (s : State) (t : Nat) (h : s.kept wait) :
    (s.presenceLost t).kept wait := by
  unfold State.presenceLost
  with_reducible repeat' first | assumption | apply State.raise_kept | apply State.setF_kept

theorem State.targetAge_kept (s : State) (t : Nat) (h : s.kept wait) :
    (s.targetAge t).kept wait := by
  unfold State.targetAge
  try dsimp only
  with_reducible repeat' first | assumption | apply State.modAlm_kept | apply State.presenceLost_kept | split

theorem State.delayExpiry_kept (s : State) (p : Nat) (h : s.kept wait) :
    (s.delayExpiry p).kept wait := by
  unfold State.delayExpiry
  try dsimp only
  with_reducible repeat' first | assumption | apply State.annunciate_kept | apply State.setPoint_kept | split

theorem State.takeSource_kept (s : State) (e : EvalIn) (r : PointRec) (h : s.kept wait) :
    (s.takeSource e r).kept wait := by
  unfold State.takeSource
  with_reducible repeat' first | assumption | apply State.setPoint_kept

theorem State.foDrop_kept (s : State) (g : Nat) (h : s.kept wait) :
    (s.foDrop g).kept wait := by
  unfold State.foDrop
  with_reducible repeat' first | assumption | apply State.setF_kept | apply State.setPoint_kept | split

theorem State.firstOutStep_kept (s : State) (rose : List Nat) (g : Nat) (h : s.kept wait) :
    (s.firstOutStep rose g).kept wait := by
  unfold State.firstOutStep
  try dsimp only
  with_reducible repeat' first | assumption | apply State.foDrop_kept | apply State.raise_kept | apply State.setF_kept | apply State.setPoint_kept | split

theorem State.watchTick_kept (s : State) (h : s.kept wait) :
    (s.watchTick).kept wait := by
  unfold State.watchTick
  with_reducible repeat' first | assumption | apply State.setRegN_kept

theorem State.watchPrewarn_kept (s : State) (h : s.kept wait) :
    (s.watchPrewarn).kept wait := by
  unfold State.watchPrewarn
  try dsimp only
  with_reducible repeat' first | assumption | apply State.watchTick_kept | split

theorem State.watchAnnounce_kept (s : State) (old : PointSt) (h : s.kept wait) :
    (s.watchAnnounce old).kept wait := by
  unfold State.watchAnnounce
  with_reducible repeat' first | assumption | apply State.drop_kept | apply State.setPoint_kept | split

theorem State.watchExpiry_kept (s : State) (h : s.kept wait) :
    (s.watchExpiry).kept wait := by
  unfold State.watchExpiry
  with_reducible repeat' first | assumption | apply State.watchAnnounce_kept | apply State.watchTick_kept | split

theorem State.setCls_kept (s : State) (c : Nat) (st : Nat) (l : Nat) (t : Nat) (h : s.kept wait) :
    (s.setCls c st l t).kept wait := by
  unfold State.setCls
  with_reducible repeat' first | assumption | apply State.setRegN_kept

theorem State.escalation_kept (s : State) (c : Nat) (h : s.kept wait) :
    (s.escalation c).kept wait := by
  unfold State.escalation
  try dsimp only
  with_reducible repeat' first | assumption | apply State.setCls_kept | split

theorem State.entryEffect_kept (s : State) (op : Nat) (index : Nat) (arg : Nat) (h : s.kept wait) :
    (s.entryEffect op index arg).2.kept wait := by
  unfold State.entryEffect
  try dsimp only
  with_reducible repeat' first | assumption | apply State.ackSet_kept | apply State.foDrop_kept | apply State.modAlm_kept | apply State.raise_kept | apply State.setF_kept | apply State.setPair_kept | apply State.setPoint_kept | apply State.trimCmd_kept | apply State.watchReset_kept | split

theorem State.classStep_kept (s : State) (watchNew : Bool) (c : Nat) (h : s.kept wait) :
    (s.classStep watchNew c).kept wait := by
  unfold State.classStep
  try dsimp only
  with_reducible repeat' first | assumption | apply State.setCls_kept | split

theorem State.acceptTimeout_kept (s : State) (c : Nat) (h : s.kept wait) :
    (s.acceptTimeout c).kept wait := by
  unfold State.acceptTimeout
  try dsimp only
  with_reducible repeat' first | assumption | apply State.setCls_kept | split

theorem State.watchMove_kept (s : State) (h : s.kept wait) :
    (s.watchMove).kept wait := by
  unfold State.watchMove
  with_reducible repeat' first | assumption | apply State.setRegN_kept | apply State.watchTick_kept | split

theorem State.radioStale_kept (s : State) (p : Nat) (h : s.kept wait) :
    (s.radioStale p).kept wait := by
  unfold State.radioStale
  try dsimp only
  with_reducible repeat' first | assumption | apply State.setPoint_kept | split

theorem State.evalPoint_kept (s : State) (e : EvalIn) (r : PointRec) (h : s.kept wait) :
    (s.evalPoint e r).kept wait := by
  unfold State.evalPoint
  try dsimp only
  with_reducible repeat' first | assumption | apply State.setPoint_kept | split

theorem State.engineRelays_kept (s : State) (h : s.kept wait) :
    (s.engineRelays).kept wait := by
  unfold State.engineRelays
  try dsimp only
  with_reducible repeat' first | assumption | apply State.modIo_kept | split | dsimp only | apply foldl_kept | intro _

theorem State.alarmSummary_kept (s : State) (n : Nat) (h : s.kept wait) :
    (s.alarmSummary n).kept wait := by
  unfold State.alarmSummary
  try dsimp only
  with_reducible repeat' first | assumption | apply State.setF_kept | apply State.setReg64_kept | apply State.setRegN_kept | split | dsimp only | apply foldl_kept | intro _

theorem State.alarmEval_kept (s : State) (n : Nat) (e : EvalIn) (h : s.kept wait) :
    (s.alarmEval n e).kept wait := by
  unfold State.alarmEval
  try dsimp only
  with_reducible repeat' first | assumption | apply State.alarmSummary_kept | apply State.annunciate_kept | apply State.classStep_kept | apply State.engineRelays_kept | apply State.evalGroups_kept | apply State.evalPoint_kept | apply State.firstOutStep_kept | apply State.modAlm_kept | apply State.relayTargets_kept | apply State.takeSource_kept | apply State.targetAge_kept | apply State.watchAnnounce_kept | apply State.watchMove_kept | split | dsimp only | apply foldl_kept | intro _

theorem State.applyEntry_kept (s : State) (e : CmdEntry) (h : s.kept wait) :
    (s.applyEntry e).2.kept wait := by
  unfold State.applyEntry
  try dsimp only
  with_reducible repeat' first | assumption | apply State.entryEffect_kept | apply State.inc_kept | apply State.raise_kept | apply State.setRegN_kept | split

theorem State.presenceExpiry_kept (s : State) (t : Nat) (h : s.kept wait) :
    (s.presenceExpiry t).kept wait := by
  unfold State.presenceExpiry
  with_reducible repeat' first | assumption | apply State.targetAge_kept | split

theorem State.bmca_kept (s : State) (h : s.kept wait) :
    (s.bmca).kept wait := by
  unfold State.bmca
  with_reducible repeat' first | assumption | apply State.setF_kept

theorem State.harbOutcome_kept (s : State) (o : Nat) (c : Nat) (h : s.kept wait) :
    (s.harbOutcome o c).kept wait := by
  unfold State.harbOutcome
  with_reducible repeat' first | assumption | apply State.setF_kept

theorem State.modCh_kept (s : State) (f : ChainSt → ChainSt) (h : s.kept wait) :
    (s.modCh f).kept wait := by
  unfold State.modCh
  try dsimp only
  with_reducible repeat' first | assumption | split | exact (rfl : TagSt.mem _ = TagSt.mem _) | apply State.kept_mem | apply State.kept_grains | apply State.kept_tag | apply State.kept_regs | apply State.kept_quarters | apply State.kept_pending | simp only [State.mk_kept] | apply And.intro

theorem State.rcpOut_kept (s : State) (typ : Nat) (dst : Nat) (resp : Bool) (p : List Byte) (h : s.kept wait) :
    (s.rcpOut typ dst resp p).kept wait := by
  unfold State.rcpOut
  with_reducible repeat' first | assumption | apply State.modCh_kept | apply State.send_kept

theorem State.setFlood_kept (s : State) (h : s.kept wait) :
    (s.setFlood).kept wait := by
  unfold State.setFlood
  with_reducible repeat' first | assumption | apply State.setF_kept

theorem State.originate_kept (s : State) (typ : Nat) (dst : Nat) (resp : Bool) (p : List Byte) (h : s.kept wait) :
    (s.originate typ dst resp p).kept wait := by
  unfold State.originate
  with_reducible repeat' first | assumption | apply State.inc_kept | apply State.modCh_kept | apply State.raise_kept | apply State.rcpOut_kept | apply State.setFlood_kept | split

theorem State.harbSend_kept (s : State) (sub : Nat) (reason : Nat) (dst : Nat) (h : s.kept wait) :
    (s.harbSend sub reason dst).kept wait := by
  unfold State.harbSend
  with_reducible repeat' first | assumption | apply State.originate_kept

theorem State.modH_kept (s : State) (f : HarbSt → HarbSt) (h : s.kept wait) :
    (s.modH f).kept wait := by
  unfold State.modH
  try dsimp only
  with_reducible repeat' first | assumption | split | exact (rfl : TagSt.mem _ = TagSt.mem _) | apply State.kept_mem | apply State.kept_grains | apply State.kept_tag | apply State.kept_regs | apply State.kept_quarters | apply State.kept_pending | simp only [State.mk_kept] | apply And.intro

theorem State.setPeers_kept (s : State) (h : s.kept wait) :
    (s.setPeers).kept wait := by
  unfold State.setPeers
  with_reducible repeat' first | assumption | apply State.setF_kept

theorem State.setVote_kept (s : State) (v : Nat) (h : s.kept wait) :
    (s.setVote v).kept wait := by
  unfold State.setVote
  with_reducible repeat' first | assumption | apply State.setF_kept | apply State.setPeers_kept

theorem State.harbAbort_kept (s : State) (o : Nat) (c : Nat) (h : s.kept wait) :
    (s.harbAbort o c).kept wait := by
  unfold State.harbAbort
  with_reducible repeat' first | assumption | apply State.harbOutcome_kept | apply State.harbSend_kept | apply State.modH_kept | apply State.setF_kept | apply State.setVote_kept

theorem State.harbBegin_kept (s : State) (t : Nat) (h : s.kept wait) :
    (s.harbBegin t).kept wait := by
  unfold State.harbBegin
  with_reducible repeat' first | assumption | apply State.harbSend_kept | apply State.modH_kept | apply State.raise_kept | apply State.setReg64_kept | apply State.setRegN_kept | apply State.setVote_kept

theorem State.harbTryCommit_kept (s : State) (h : s.kept wait) :
    (s.harbTryCommit).kept wait := by
  unfold State.harbTryCommit
  with_reducible repeat' first | assumption | apply State.harbSend_kept | apply State.modH_kept | apply State.setVote_kept | split

theorem State.harbPropose_kept (s : State) (h : s.kept wait) :
    (s.harbPropose).kept wait := by
  unfold State.harbPropose
  try dsimp only
  with_reducible repeat' first | assumption | apply State.harbAbort_kept | apply State.harbBegin_kept | apply State.harbTryCommit_kept | apply State.raise_kept | split

theorem State.powerRunning_kept (s : State) (h : s.kept wait) :
    (s.powerRunning).kept wait := by
  unfold State.powerRunning
  try dsimp only
  with_reducible repeat' first | assumption | apply State.dieUp_kept | apply State.modP_kept | split | dsimp only | apply foldl_kept

theorem State.exitHarbour_kept (s : State) (h : s.kept wait) :
    (s.exitHarbour).kept wait := by
  unfold State.exitHarbour
  try dsimp only
  with_reducible repeat' first | assumption | apply State.modP_kept | apply State.powerRunning_kept | apply State.raise_kept | apply State.setDuty_kept | apply State.setF_kept | split

theorem State.wakeUp_kept (s : State) (cause : Nat) (origin : Nat) (reqT : Nat) (here : Bool) (h : s.kept wait) :
    (s.wakeUp cause origin reqT here).kept wait := by
  unfold State.wakeUp
  try dsimp only
  with_reducible repeat' first | assumption | apply State.exitHarbour_kept | apply State.harbOutcome_kept | apply State.inc_kept | apply State.modH_kept | apply State.originate_kept | apply State.setF_kept | apply State.setVote_kept | split

theorem State.wakeReq_kept (s : State) (cause : Nat) (h : s.kept wait) :
    (s.wakeReq cause).kept wait := by
  unfold State.wakeReq
  with_reducible repeat' first | assumption | apply State.wakeUp_kept

theorem State.hsrSupervise_kept (s : State) (h : s.kept wait) :
    (s.hsrSupervise).kept wait := by
  unfold State.hsrSupervise
  with_reducible repeat' first | assumption | apply State.modCh_kept | apply State.send_kept | split

theorem State.gmSync_kept (s : State) (ann : Bool) (h : s.kept wait) :
    (s.gmSync ann).kept wait := by
  unfold State.gmSync
  try dsimp only
  with_reducible repeat' first | assumption | apply State.send_kept | split | dsimp only | apply foldl_kept | intro _

theorem State.ptpForward_kept (s : State) (port : Nat) (kind : Nat) (gm : Nat) (corr : Nat) (h : s.kept wait) :
    (s.ptpForward port kind gm corr).kept wait := by
  unfold State.ptpForward
  with_reducible repeat' first | assumption | apply State.send_kept | split

theorem State.ptpMeasure_kept (s : State) (port : Nat) (off : Int) (h : s.kept wait) :
    (s.ptpMeasure port off).kept wait := by
  unfold State.ptpMeasure
  try dsimp only
  with_reducible repeat' first | assumption | apply State.measure_kept | apply State.modCh_kept | split

theorem State.ptpSync_kept (s : State) (port : Nat) (domain : Nat) (gm : Nat) (twoStep : Bool) (corr : Nat) (res : Nat) (off : Int) (h : s.kept wait) :
    (s.ptpSync port domain gm twoStep corr res off).kept wait := by
  unfold State.ptpSync
  with_reducible repeat' first | assumption | apply State.modCh_kept | apply State.ptpForward_kept | apply State.ptpMeasure_kept | split

theorem State.rcpIn_kept (s : State) (typ : Nat) (f : RcpFrame) (h : s.kept wait) :
    (s.rcpIn typ f).2.kept wait := by
  unfold State.rcpIn
  try dsimp only
  with_reducible repeat' first | assumption | apply State.inc_kept | apply State.modCh_kept | apply State.send_kept | split

theorem State.timePortLoss_kept (s : State) (t : Nat) (h : s.kept wait) :
    (s.timePortLoss t).kept wait := by
  unfold State.timePortLoss
  try dsimp only
  with_reducible repeat' first | assumption | apply State.at_kept | apply State.modCh_kept | split

theorem State.diePowerOff_kept (s : State) (d : Nat) (h : s.kept wait) :
    (s.diePowerOff d).kept wait := by
  unfold State.diePowerOff
  try dsimp only
  with_reducible repeat' first | assumption | apply State.dieOff_kept | apply State.modP_kept | apply State.powerRunning_kept | split

theorem State.neighGone_kept (s : State) (w : Nat) (h : s.kept wait) :
    (s.neighGone w).kept wait := by
  unfold State.neighGone
  with_reducible repeat' first | assumption | apply State.drop_kept | apply State.raise_kept | apply State.setPeers_kept | apply State.setReg64_kept | split

theorem State.portLink_kept (s : State) (port : Nat) (up : Bool) (h : s.kept wait) :
    (s.portLink port up).kept wait := by
  unfold State.portLink
  with_reducible repeat' first | assumption | apply State.modP_kept | apply State.neighGone_kept | apply State.setF_kept | split

theorem State.delayResp_kept (s : State) (d : Nat) (off : Int) (h : s.kept wait) :
    (s.delayResp d off).kept wait := by
  unfold State.delayResp
  with_reducible repeat' first | assumption | apply State.modCh_kept | apply State.ptpMeasure_kept | split

theorem State.bypassOf_kept (s : State) (w : Nat) (h : s.kept wait) :
    (s.bypassOf w).kept wait := by
  unfold State.bypassOf
  try dsimp only
  with_reducible repeat' first | assumption | apply State.raise_kept | apply State.setF_kept | split

theorem State.isolatedWake_kept (s : State) (h : s.kept wait) :
    (s.isolatedWake).kept wait := by
  unfold State.isolatedWake
  try dsimp only
  with_reducible repeat' first | assumption | apply State.wakeReq_kept | split

theorem State.respond_kept (s : State) (port : Nat) (typ : Nat) (dst : Nat) (p : List Byte) (h : s.kept wait) :
    (s.respond port typ dst p).kept wait := by
  unfold State.respond
  with_reducible repeat' first | assumption | apply State.modCh_kept | apply State.originate_kept | apply State.send_kept | split

theorem State.harbTake_kept (s : State) (p : List Byte) (h : s.kept wait) :
    (s.harbTake p).kept wait := by
  unfold State.harbTake
  with_reducible repeat' first | assumption | apply State.modH_kept | apply State.setReg64_kept | apply State.setRegN_kept | apply State.setVote_kept

theorem State.sendAlarms_kept (s : State) (ps : List Nat) (refresh : Bool) (h : s.kept wait) :
    (s.sendAlarms ps refresh).kept wait := by
  unfold State.sendAlarms
  try dsimp only
  with_reducible repeat' first | assumption | apply State.inc_kept | apply State.originate_kept | split | dsimp only | apply foldl_kept | intro _

theorem State.hsrFrame_kept (s : State) (port : Nat) (src : Nat) (dst : Nat) (seq : Nat) (body : List Byte) (h : s.kept wait) :
    (s.hsrFrame port src dst seq body).kept wait := by
  unfold State.hsrFrame
  try dsimp only
  with_reducible repeat' first | assumption | apply State.inc_kept | apply State.modCh_kept | apply State.send_kept | split

theorem State.badFrame_kept (s : State) (h : s.kept wait) :
    (s.badFrame).kept wait := by
  unfold State.badFrame
  with_reducible repeat' first | assumption | apply State.inc_kept | apply State.raise_kept

theorem State.harbIn_kept (s : State) (sub : Nat) (f : RcpFrame) (k : State → List Byte → State) (h : s.kept wait) (hk : ∀ (y0 : State) (y1 : List Byte), y0.kept wait → (k y0 y1).kept wait) :
    (s.harbIn sub f k).kept wait := by
  unfold State.harbIn
  try dsimp only
  with_reducible repeat' first | assumption | apply State.badFrame_kept | apply State.rcpIn_kept | apply hk | split

theorem State.pdelayResp_kept (s : State) (port : Nat) (d : Nat) (h : s.kept wait) :
    (s.pdelayResp port d).kept wait := by
  unfold State.pdelayResp
  try dsimp only
  with_reducible repeat' first | assumption | apply State.modCh_kept | apply State.raise_kept | apply State.setRegN_kept | split

theorem State.enterHarbour_kept (s : State) (h : s.kept wait) :
    (s.enterHarbour).kept wait := by
  unfold State.enterHarbour
  try dsimp only
  with_reducible repeat' first | assumption | apply State.abandonQ_kept | apply State.modP_kept | apply State.setDuty_kept | apply State.setF_kept | apply State.setQState_kept | split | dsimp only | apply foldl_kept | intro _

theorem State.hello_kept (s : State) (w : Nat) (p : List Byte) (h : s.kept wait) :
    (s.hello w p).kept wait := by
  unfold State.hello
  with_reducible repeat' first | assumption | apply State.badFrame_kept | apply State.bypassOf_kept | apply State.modCh_kept | apply State.raise_kept | apply State.setPeers_kept | apply State.setReg64_kept | split

theorem State.abortIn_kept (s : State) (f : RcpFrame) (h : s.kept wait) :
    (s.abortIn f).kept wait := by
  unfold State.abortIn
  try dsimp only
  with_reducible repeat' first | assumption | apply State.harbIn_kept | apply State.harbOutcome_kept | apply State.setVote_kept | split | dsimp only | apply foldl_kept | intro _

theorem State.neighbourLost_kept (s : State) (w : Nat) (t : Nat) (h : s.kept wait) :
    (s.neighbourLost w t).kept wait := by
  unfold State.neighbourLost
  with_reducible repeat' first | assumption | apply State.at_kept | apply State.neighGone_kept | split

theorem State.tSleep_kept (s : State) (t : Nat) (h : s.kept wait) :
    (s.tSleep t).kept wait := by
  unfold State.tSleep
  with_reducible repeat' first | assumption | apply State.at_kept | apply State.harbOutcome_kept | apply State.setVote_kept | apply State.wakeReq_kept | split

theorem State.harbRepeat_kept (s : State) (h : s.kept wait) :
    (s.harbRepeat).kept wait := by
  unfold State.harbRepeat
  with_reducible repeat' first | assumption | apply State.harbSend_kept | apply State.modH_kept | split

theorem State.wakeIn_kept (s : State) (f : RcpFrame) (h : s.kept wait) :
    (s.wakeIn f).kept wait := by
  unfold State.wakeIn
  try dsimp only
  with_reducible repeat' first | assumption | apply State.harbIn_kept | apply State.wakeUp_kept | split | dsimp only | apply foldl_kept | intro _

theorem State.abortDeadline_kept (s : State) (t : Nat) (h : s.kept wait) :
    (s.abortDeadline t).kept wait := by
  unfold State.abortDeadline
  with_reducible repeat' first | assumption | apply State.at_kept | apply State.harbAbort_kept | split

theorem State.annTimeout_kept (s : State) (port : Nat) (ival : Nat) (t : Nat) (h : s.kept wait) :
    (s.annTimeout port ival t).kept wait := by
  unfold State.annTimeout
  with_reducible repeat' first | assumption | apply State.at_kept | apply State.bmca_kept | apply State.modCh_kept

theorem State.rcpBad_kept (s : State) (version : Nat) (typ : Nat) (f : RcpFrame) (h : s.kept wait) :
    (s.rcpBad version typ f).kept wait := by
  unfold State.rcpBad
  try dsimp only
  with_reducible repeat' first | assumption | apply State.badFrame_kept | apply State.rcpIn_kept | split

theorem State.harbReply_kept (s : State) (dst : Nat) (sub : Nat) (r : Nat) (p : List Byte) (h : s.kept wait) :
    (s.harbReply dst sub r p).kept wait := by
  unfold State.harbReply
  with_reducible repeat' first | assumption | apply State.originate_kept

theorem State.rcpForward_kept (s : State) (typ : Nat) (f : RcpFrame) (h : s.kept wait) :
    (s.rcpForward typ f).kept wait := by
  unfold State.rcpForward
  with_reducible repeat' first | assumption | apply State.rcpIn_kept

theorem State.proposeIn_kept (s : State) (f : RcpFrame) (h : s.kept wait) :
    (s.proposeIn f).kept wait := by
  unfold State.proposeIn
  try dsimp only
  with_reducible repeat' first | assumption | apply State.harbIn_kept | apply State.harbReply_kept | apply State.harbTake_kept | apply State.setF_kept | exact (rfl : TagSt.mem _ = TagSt.mem _) | apply State.kept_mem | apply State.kept_grains | apply State.kept_tag | apply State.kept_regs | apply State.kept_quarters | apply State.kept_pending | apply Memory.wf_memClear | simp only [State.mk_kept] | apply And.intro | split | apply foldl_kept | intro _

theorem State.wakeRepeat_kept (s : State) (h : s.kept wait) :
    (s.wakeRepeat).kept wait := by
  unfold State.wakeRepeat
  with_reducible repeat' first | assumption | apply State.modH_kept | apply State.originate_kept | split

theorem State.pdelayReq_kept (s : State) (port : Nat) (h : s.kept wait) :
    (s.pdelayReq port).kept wait := by
  unfold State.pdelayReq
  with_reducible repeat' first | assumption | apply State.send_kept | split

theorem State.pwFrame_kept (s : State) (h : s.kept wait) :
    (s.pwFrame).kept wait := by
  unfold State.pwFrame
  with_reducible repeat' first | assumption | apply State.inc_kept | apply State.pwMismatch_kept | apply State.raise_kept

theorem State.alarmFrame_kept (s : State) (f : RcpFrame) (h : s.kept wait) :
    (s.alarmFrame f).kept wait := by
  unfold State.alarmFrame
  try dsimp only
  with_reducible repeat' first | assumption | apply State.badFrame_kept | apply State.pwFrame_kept | apply State.rcpIn_kept | split

theorem State.ringTimeout_kept (s : State) (t : Nat) (h : s.kept wait) :
    (s.ringTimeout t).kept wait := by
  unfold State.ringTimeout
  with_reducible repeat' first | assumption | apply State.at_kept | apply State.drop_kept | apply State.inc_kept | apply State.raise_kept | split

theorem State.announce_kept (s : State) (port : Nat) (a : AnnMsg) (h : s.kept wait) :
    (s.announce port a).kept wait := by
  unfold State.announce
  with_reducible repeat' first | assumption | apply State.bmca_kept | apply State.modCh_kept | split

theorem State.timeInfo_kept (s : State) (f : RcpFrame) (h : s.kept wait) :
    (s.timeInfo f).kept wait := by
  unfold State.timeInfo
  try dsimp only
  with_reducible repeat' first | assumption | apply State.badFrame_kept | apply State.modCh_kept | apply State.raise_kept | apply State.rcpIn_kept | split | exact (rfl : TagSt.mem _ = TagSt.mem _) | apply State.kept_mem | apply State.kept_grains | apply State.kept_tag | apply State.kept_regs | apply State.kept_quarters | apply State.kept_pending | simp only [State.mk_kept] | apply And.intro

theorem State.alarmRefresh_kept (s : State) (h : s.kept wait) :
    (s.alarmRefresh).kept wait := by
  unfold State.alarmRefresh
  with_reducible repeat' first | assumption | apply State.sendAlarms_kept

theorem State.timeInfoSend_kept (s : State) (h : s.kept wait) :
    (s.timeInfoSend).kept wait := by
  unfold State.timeInfoSend
  with_reducible repeat' first | assumption | apply State.modCh_kept | apply State.originate_kept

theorem State.helloSend_kept (s : State) (h : s.kept wait) :
    (s.helloSend).kept wait := by
  unfold State.helloSend
  try dsimp only
  with_reducible repeat' first | assumption | apply State.modCh_kept | apply State.send_kept | split | dsimp only | apply foldl_kept | intro _

theorem State.commitIn_kept (s : State) (f : RcpFrame) (h : s.kept wait) :
    (s.commitIn f).kept wait := by
  unfold State.commitIn
  try dsimp only
  with_reducible repeat' first | assumption | apply State.harbIn_kept | apply State.setVote_kept | split | dsimp only | apply foldl_kept | intro _

theorem State.alarmDequeue_kept (s : State) (t : Nat) (h : s.kept wait) :
    (s.alarmDequeue t).kept wait := by
  unfold State.alarmDequeue
  try dsimp only
  with_reducible repeat' first | assumption | apply State.at_kept | apply State.modCh_kept | apply State.rcpOut_kept | apply State.setFlood_kept | split

theorem State.acceptIn_kept (s : State) (f : RcpFrame) (h : s.kept wait) :
    (s.acceptIn f).kept wait := by
  unfold State.acceptIn
  try dsimp only
  with_reducible repeat' first | assumption | apply State.harbIn_kept | apply State.harbTryCommit_kept | apply State.modH_kept | split | dsimp only | apply foldl_kept | intro _

theorem State.pdelaySend_kept (s : State) (h : s.kept wait) :
    (s.pdelaySend).kept wait := by
  unfold State.pdelaySend
  with_reducible repeat' first | assumption | apply State.send_kept | split

theorem State.callFrame_kept (s : State) (t : Nat) (h : s.kept wait) :
    (s.callFrame t).kept wait := by
  unfold State.callFrame
  with_reducible repeat' first | assumption | apply State.modAlm_kept | apply State.originate_kept | split

theorem State.callChanges_kept (s : State) (h : s.kept wait) :
    (s.callChanges).kept wait := by
  unfold State.callChanges
  try dsimp only
  with_reducible repeat' first | assumption | apply State.callFrame_kept | split | dsimp only | apply foldl_kept | intro _

theorem State.vetoIn_kept (s : State) (f : RcpFrame) (h : s.kept wait) :
    (s.vetoIn f).kept wait := by
  unfold State.vetoIn
  try dsimp only
  with_reducible repeat' first | assumption | apply State.harbAbort_kept | apply State.harbIn_kept | split | dsimp only | apply foldl_kept | intro _

theorem State.delayReqSend_kept (s : State) (h : s.kept wait) :
    (s.delayReqSend).kept wait := by
  unfold State.delayReqSend
  with_reducible repeat' first | assumption | apply State.send_kept | split

theorem State.followUp_kept (s : State) (port : Nat) (domain : Nat) (gm : Nat) (corr : Nat) (res : Nat) (off : Int) (h : s.kept wait) :
    (s.followUp port domain gm corr res off).kept wait := by
  unfold State.followUp
  try dsimp only
  with_reducible repeat' first | assumption | apply State.modCh_kept | apply State.ptpForward_kept | apply State.ptpMeasure_kept | split

end Sys2Proof.Machine
end

