-- ==== Sys2Proof/Laws/Kept3.lean ====
section
/-! SUPPORT. Every operation keeps State.kept: those of HubSets, Enc, ImgCheck, Apply, Pair, Image, Views, Tag. -/

namespace Sys2Proof.Machine

variable {wait : List Instr}

theorem State.putEntry_kept (s : State) (set : Nat) (i : Nat) (v : Nat) (h : s.kept wait) :
    (s.putEntry set i v).kept wait := by
  unfold State.putEntry
  with_reducible repeat' first | assumption | apply State.modAlm_kept | apply State.modIo_kept | apply State.setF_kept | apply State.setPair_kept | apply State.setPoint_kept | apply State.setRegN_kept | split

theorem State.applyHubset_kept (s : State) (p : List Byte) (h : s.kept wait) :
    (s.applyHubset p).kept wait := by
  unfold State.applyHubset
  try dsimp only
  with_reducible repeat' first | assumption | apply State.putEntry_kept | split | dsimp only | apply foldl_kept | intro _

theorem State.badWrite_kept (s : State) (a : Nat) (h : s.kept wait) :
    (s.badWrite a).kept wait := by
  unfold State.badWrite
  with_reducible repeat' first | assumption | apply State.raise_kept | split

theorem State.badClass_kept (s : State) (a : Nat) (h : s.kept wait) :
    (s.badClass a).kept wait := by
  unfold State.badClass
  with_reducible repeat' first | assumption | apply State.raise_kept | split

theorem regWords_kept (s : State) (flagged : Bool) (x2 : Nat) (x3 : List Nat) (h : s.kept wait) :
    ∀ u, regWords s flagged x2 x3 = some u → u.kept wait := by
  fun_induction regWords s flagged x2 x3 with
  | case1 => intro u hu; cases hu; exact h
  | _ => first
    | (intro u hu; cases hu; done)
    | (intro u hu; rename_i ih; refine ih ?_ u hu; with_reducible repeat' first | assumption | apply State.setRegN_kept)
   

theorem regsetOk_kept (s : State) (x : Sec) (h : s.kept wait) :
    ∀ u, regsetOk s x = some u → u.kept wait := by
  intro u hu
  unfold regsetOk at hu
  split at hu
  · rename_i base rs _ _
    have key : ∀ (rs : List (Nat × Nat × List Nat)) (o : Option State), (∀ t, o = some t → t.kept wait) →
        ∀ u, rs.foldl (fun o r => match o with
          | none => none
          | some s =>
            let fl := bitOf r.2.1 0
            if Nat.blt 1 r.2.1 || r.1 % 4 != 0 || (fl && (r.1 % 8 != 0 || r.2.2.length % 2 != 0)) then none
            else regWords s fl (base + r.1) r.2.2) o = some u → u.kept wait := by
      intro rs
      induction rs with
      | nil => intro o ho u hu; exact ho u hu
      | cons r t ih =>
        intro o ho u hu
        refine ih _ ?_ u hu
        intro t ht
        dsimp only at ht
        split at ht
        · cases ht
        · split at ht
          · cases ht
          · exact regWords_kept _ _ _ _ (ho _ rfl) t ht
    exact key rs (some s) (fun t ht => by cases ht; exact h) u hu
  · cases hu

theorem State.classReject_kept (s : State) (a : Nat) (h : s.kept wait) :
    (s.classReject a).kept wait := by
  unfold State.classReject
  with_reducible repeat' first | assumption | apply State.badClass_kept | apply State.inc_kept | apply State.raise_kept

theorem State.mergeReg_kept (s : State) (a : Nat) (m : Nat) (v : Nat) (h : s.kept wait) :
    (s.mergeReg a m v).kept wait := by
  unfold State.mergeReg
  with_reducible repeat' first | assumption | apply State.setRegN_kept

theorem State.modHost_kept (s : State) (f : HostSt → HostSt) (h : s.kept wait) :
    (s.modHost f).kept wait := by
  unfold State.modHost
  try dsimp only
  with_reducible repeat' first | assumption | split | exact (rfl : TagSt.mem _ = TagSt.mem _) | apply State.kept_mem | apply State.kept_grains | apply State.kept_tag | apply State.kept_regs | apply State.kept_quarters | apply State.kept_pending | simp only [State.mk_kept] | apply And.intro

theorem State.putShadow_kept (s : State) (a : Nat) (m : Nat) (v : Nat) (h : s.kept wait) :
    (s.putShadow a m v).kept wait := by
  unfold State.putShadow
  with_reducible repeat' first | assumption | apply State.modHost_kept

theorem State.fieldsTaken_kept (s : State) (a : Nat) (v : Nat) (h : s.kept wait) :
    (s.fieldsTaken a v).kept wait := by
  unfold State.fieldsTaken
  try dsimp only
  with_reducible repeat' first | assumption | apply State.mergeReg_kept | split

theorem State.noteWritten_kept (s : State) (a : Nat) (h : s.kept wait) :
    (s.noteWritten a).kept wait := by
  unfold State.noteWritten
  with_reducible repeat' first | assumption | apply State.radioWritten_kept | split

theorem State.writeFields_kept (s : State) (a : Nat) (v : Nat) (k : State → Nat → Nat → State) (h : s.kept wait) (hk : ∀ (y0 : State) (y1 : Nat) (y2 : Nat), y0.kept wait → (k y0 y1 y2).kept wait) :
    (s.writeFields a v k).kept wait := by
  unfold State.writeFields
  try dsimp only
  with_reducible repeat' first | assumption | apply State.classReject_kept | apply State.fieldsTaken_kept | apply State.noteWritten_kept | apply hk | split

theorem State.writePairFields_kept (s : State) (a : Nat) (lo : Nat) (hi : Nat) (k : State → Nat → Nat → Nat → State) (h : s.kept wait) (hk : ∀ (y0 : State) (y1 : Nat) (y2 : Nat) (y3 : Nat), y0.kept wait → (k y0 y1 y2 y3).kept wait) :
    (s.writePairFields a lo hi k).kept wait := by
  unfold State.writePairFields
  try dsimp only
  with_reducible repeat' first | assumption | apply State.setPair_kept | apply State.writeFields_kept | apply hk | split | dsimp only | apply foldl_kept | intro _

theorem State.setpointWrite_kept (s : State) (p : Nat) (v : Nat) (h : s.kept wait) :
    (s.setpointWrite p v).kept wait := by
  unfold State.setpointWrite
  with_reducible repeat' first | assumption | apply State.inc_kept | apply State.raise_kept | apply State.setPair_kept | split

theorem State.takeReg_kept (s : State) (n : Nat) (a : Nat) (m : Nat) (v : Nat) (h : s.kept wait) :
    (s.takeReg n a m v).kept wait := by
  unfold State.takeReg
  try dsimp only
  with_reducible repeat' first | assumption | apply State.aiCfgChanged_kept | apply State.aoWrite_kept | apply State.ldMsgCmd_kept | apply State.mergeReg_kept | apply State.modR_kept | apply State.radioCmd_kept | apply State.setPair_kept | apply State.setpointWrite_kept | apply State.trimCmd_kept | split | exact (rfl : TagSt.mem _ = TagSt.mem _) | apply State.kept_mem | apply State.kept_grains | apply State.kept_tag | apply State.kept_regs | apply State.kept_quarters | apply State.kept_pending | simp only [State.mk_kept] | apply And.intro

theorem State.regsetWords_kept (n : Nat) (x1 : Nat) (x2 : List Nat) (x3 : State) (hx3 : x3.kept wait) :
    (State.regsetWords n x1 x2 x3).kept wait := by
  fun_induction State.regsetWords n x1 x2 x3 with
  | case1 => exact hx3
  | case2 => exact State.writeFields_kept _ _ _ _ hx3 (fun _ _ _ h => State.takeReg_kept _ _ _ _ _ h)
  | case3 a v w t s hl ih => exact ih (State.writePairFields_kept _ _ _ _ _ hx3 (fun _ _ _ _ h => State.takeReg_kept _ _ _ _ _ h))
  | case4 a v w t s hl ih => exact ih (State.writeFields_kept _ _ _ _ hx3 (fun _ _ _ h => State.takeReg_kept _ _ _ _ _ h))

theorem State.applyRegset_kept (s : State) (n : Nat) (x : Sec) (h : s.kept wait) :
    (s.applyRegset n x).kept wait := by
  unfold State.applyRegset
  try dsimp only
  with_reducible repeat' first | assumption | apply State.regsetWords_kept | split | dsimp only | apply foldl_kept | intro _

theorem State.modPair_kept (s : State) (f : PairSt → PairSt) (h : s.kept wait) :
    (s.modPair f).kept wait := by
  unfold State.modPair
  try dsimp only
  with_reducible repeat' first | assumption | split | exact (rfl : TagSt.mem _ = TagSt.mem _) | apply State.kept_mem | apply State.kept_grains | apply State.kept_tag | apply State.kept_regs | apply State.kept_quarters | apply State.kept_pending | simp only [State.mk_kept] | apply And.intro

theorem State.cableSend_kept (s : State) (typ : Nat) (epoch : Nat) (p : List Byte) (h : s.kept wait) :
    (s.cableSend typ epoch p).kept wait := by
  unfold State.cableSend
  with_reducible repeat' first | assumption | apply State.modPair_kept | apply State.send_kept | split

theorem State.forwardEntries_kept (s : State) (es : List (Nat × Nat × Nat)) (h : s.kept wait) :
    (s.forwardEntries es).kept wait := by
  unfold State.forwardEntries
  with_reducible repeat' first | assumption | apply State.addReg_kept | apply State.cableSend_kept | split

theorem State.dropReplay_kept (s : State) (h : s.kept wait) :
    (s.dropReplay).kept wait := by
  unfold State.dropReplay
  with_reducible repeat' first | assumption | apply State.modPair_kept | apply State.undoEpoch_kept | split

theorem State.setHealth_kept (s : State) (h : s.kept wait) :
    (s.setHealth).kept wait := by
  unfold State.setHealth
  with_reducible repeat' first | assumption | apply State.setF_kept | apply State.setRegN_kept | split

theorem State.toPair_kept (s : State) (v : Nat) (h : s.kept wait) :
    (s.toPair v).kept wait := by
  unfold State.toPair
  with_reducible repeat' first | assumption | apply State.setF_kept | apply State.setHealth_kept

theorem State.detachNow_kept (s : State) (h : s.kept wait) :
    (s.detachNow).kept wait := by
  unfold State.detachNow
  with_reducible repeat' first | assumption | apply State.dropReplay_kept | apply State.modPair_kept | apply State.toPair_kept

theorem State.forget_kept (s : State) (h : s.kept wait) :
    (s.forget).kept wait := by
  unfold State.forget
  with_reducible repeat' first | assumption | apply State.dropReplay_kept | apply State.modPair_kept

theorem State.startSync_kept (s : State) (h : s.kept wait) :
    (s.startSync).kept wait := by
  unfold State.startSync
  with_reducible repeat' first | assumption | apply State.cableSend_kept | apply State.forget_kept | apply State.setHealth_kept | apply State.toPair_kept

theorem State.pairFollow_kept (s : State) (h : s.kept wait) :
    (s.pairFollow).kept wait := by
  unfold State.pairFollow
  try dsimp only
  with_reducible repeat' first | assumption | apply State.detachNow_kept | apply State.raise_kept | apply State.setHealth_kept | apply State.startSync_kept | apply State.toPair_kept | split

theorem State.pairReject_kept (s : State) (h : s.kept wait) :
    (s.pairReject).kept wait := by
  unfold State.pairReject
  with_reducible repeat' first | assumption | apply State.raise_kept

theorem State.switchActive_kept (s : State) (cause : Nat) (h : s.kept wait) :
    (s.switchActive cause).kept wait := by
  unfold State.switchActive
  with_reducible repeat' first | assumption | apply State.modPair_kept | apply State.pairReject_kept | split

theorem State.pairCmd_kept (s : State) (v : Nat) (h : s.kept wait) :
    (s.pairCmd v).kept wait := by
  unfold State.pairCmd
  try dsimp only
  with_reducible repeat' first | assumption | apply State.drop_kept | apply State.forwardEntries_kept | apply State.modPair_kept | apply State.pairFollow_kept | apply State.pairReject_kept | apply State.raise_kept | apply State.switchActive_kept | split

theorem State.applyBlocks_kept (s : State) (p : List Byte) (h : s.kept wait) :
    (s.applyBlocks p).kept wait := by
  unfold State.applyBlocks
  try dsimp only
  with_reducible repeat' first | assumption | apply State.poke_kept | apply State.setPoison_kept | split | dsimp only | apply foldl_kept | intro _

theorem State.startSuspect_kept (s : State) (h : s.kept wait) :
    (s.startSuspect).kept wait := by
  unfold State.startSuspect
  with_reducible repeat' first | assumption | apply State.modPair_kept | apply State.raise_kept

theorem State.armSafe_kept (s : State) (h : s.kept wait) :
    (s.armSafe).kept wait := by
  unfold State.armSafe
  try dsimp only
  with_reducible repeat' first | assumption | apply State.modIo_kept | apply State.setPair_kept | split | dsimp only | apply foldl_kept | intro _

theorem State.pairSend_kept (s : State) (typ : Nat) (sub : Nat) (reason : Nat) (expires : Nat) (h : s.kept wait) :
    (s.pairSend typ sub reason expires).kept wait := by
  unfold State.pairSend
  with_reducible repeat' first | assumption | apply State.originate_kept | split

theorem State.renew_kept (s : State) (chain : Bool) (h : s.kept wait) :
    (s.renew chain).kept wait := by
  unfold State.renew
  with_reducible repeat' first | assumption | apply State.cableSend_kept | apply State.pairSend_kept | split

theorem State.take_kept (s : State) (token : Nat) (e : Nat) (h : s.kept wait) :
    (s.take token e).kept wait := by
  unfold State.take
  with_reducible repeat' first | assumption | apply State.dropReplay_kept | apply State.modPair_kept | apply State.raise_kept | apply State.setPair_kept | apply State.setReg64_kept | apply State.toPair_kept | split

theorem State.armCommit_kept (s : State) (h : s.kept wait) :
    (s.armCommit).kept wait := by
  unfold State.armCommit
  try dsimp only
  with_reducible repeat' first | assumption | apply State.armSafe_kept | apply State.cableSend_kept | apply State.modPair_kept | apply State.renew_kept | apply State.take_kept | split

theorem State.beginRelease_kept (s : State) (n : Nat) (h : s.kept wait) :
    (s.beginRelease n).kept wait := by
  unfold State.beginRelease
  with_reducible repeat' first | assumption | apply State.cableSend_kept | apply State.modIo_kept | apply State.modPair_kept | apply State.pairSend_kept | apply State.toPair_kept | split

theorem State.becomeActive_kept (s : State) (h : s.kept wait) :
    (s.becomeActive).kept wait := by
  unfold State.becomeActive
  with_reducible repeat' first | assumption | apply State.inc_kept | apply State.modPair_kept | apply State.setRegN_kept | apply State.toPair_kept | split

theorem State.pairOn_kept (s : State) (h : s.kept wait) :
    (s.pairOn).kept wait := by
  unfold State.pairOn
  with_reducible repeat' first | assumption | apply State.becomeActive_kept | split

theorem State.takeback_kept (s : State) (h : s.kept wait) :
    (s.takeback).kept wait := by
  unfold State.takeback
  with_reducible repeat' first | assumption | apply State.cableSend_kept | apply State.modPair_kept | split

theorem State.cableAll_kept (s : State) (epoch : Nat) (fs : List (Nat × List Byte)) (h : s.kept wait) :
    (s.cableAll epoch fs).kept wait := by
  unfold State.cableAll
  try dsimp only
  with_reducible repeat' first | assumption | apply State.cableSend_kept | split | dsimp only | apply foldl_kept | intro _

theorem State.replayOn_kept (s : State) (n : Nat) (k : Nat) (h : s.kept wait) :
    (s.replayOn n k).kept wait := by
  unfold State.replayOn
  with_reducible repeat' first | assumption | apply State.launchOn_kept | apply State.modPair_kept

theorem State.cablePw_kept (s : State) (w : Nat) (k : State → State) (h : s.kept wait) (hk : ∀ (y0 : State), y0.kept wait → (k y0).kept wait) :
    (s.cablePw w k).kept wait := by
  unfold State.cablePw
  with_reducible repeat' first | assumption | apply State.pwMismatch_kept | apply hk | split

theorem State.applyBanks_kept (s : State) (g0 : Nat) (p : List Byte) (h : s.kept wait) :
    (s.applyBanks g0 p).kept wait := by
  unfold State.applyBanks
  try dsimp only
  with_reducible repeat' first | assumption | apply State.setBank_kept | apply State.setF_kept | apply State.setReg64_kept | apply State.setRegN_kept | split | dsimp only | apply foldl_kept | intro _

theorem State.suspectDone_kept (s : State) (march : Bool) (loopF : Bool) (adc : Bool) (h : s.kept wait) :
    (s.suspectDone march loopF adc).kept wait := by
  unfold State.suspectDone
  with_reducible repeat' first | assumption | apply State.modPair_kept | apply State.pairSend_kept | apply State.setHealth_kept | split

theorem State.lateFound_kept (s : State) (h : s.kept wait) :
    (s.lateFound).kept wait := by
  unfold State.lateFound
  with_reducible repeat' first | assumption | apply State.unrecoverable_kept

theorem State.modArb_kept (s : State) (k : Nat) (f : ArbSt → ArbSt) (h : s.kept wait) :
    (s.modArb k f).kept wait := by
  unfold State.modArb
  with_reducible repeat' first | assumption | apply State.modPair_kept

theorem State.pairIn_kept (s : State) (typ : Nat) (sub : Nat) (f : RcpFrame) (k : State → List Byte → State) (h : s.kept wait) (hk : ∀ (y0 : State) (y1 : List Byte), y0.kept wait → (k y0 y1).kept wait) :
    (s.pairIn typ sub f k).kept wait := by
  unfold State.pairIn
  try dsimp only
  with_reducible repeat' first | assumption | apply State.badFrame_kept | apply State.modPair_kept | apply State.pwFrame_kept | apply State.rcpIn_kept | apply hk | split

theorem State.arbIn_kept (s : State) (sub : Nat) (f : RcpFrame) (k : State → Nat → Nat → List Byte → State) (h : s.kept wait) (hk : ∀ (y0 : State) (y1 : Nat) (y2 : Nat) (y3 : List Byte), y0.kept wait → (k y0 y1 y2 y3).kept wait) :
    (s.arbIn sub f k).kept wait := by
  unfold State.arbIn
  try dsimp only
  with_reducible repeat' first | assumption | apply State.modArb_kept | apply State.pairIn_kept | apply hk | split | dsimp only | apply foldl_kept | intro _

theorem State.arbSend_kept (s : State) (k : Nat) (sub : Nat) (reason : Nat) (dst : Nat) (h : s.kept wait) :
    (s.arbSend k sub reason dst).kept wait := by
  unfold State.arbSend
  with_reducible repeat' first | assumption | apply State.originate_kept

theorem State.decide_kept (s : State) (k : Nat) (reason : Nat) (h : s.kept wait) :
    (s.decide k reason).kept wait := by
  unfold State.decide
  try dsimp only
  with_reducible repeat' first | assumption | apply State.arbSend_kept | apply State.modArb_kept | split | dsimp only | apply foldl_kept | intro _

theorem State.arbAuto_kept (s : State) (k : Nat) (h : s.kept wait) : (s.arbAuto k).kept wait := by
  unfold State.arbAuto
  with_reducible repeat' first | assumption | apply State.decide_kept | split | dsimp only

theorem State.renewIn_kept (s : State) (f : RcpFrame) (h : s.kept wait) :
    (s.renewIn f).kept wait := by
  unfold State.renewIn
  try dsimp only
  with_reducible repeat' first | assumption | apply State.arbAuto_kept | apply State.arbIn_kept | apply State.arbSend_kept | apply State.modArb_kept | apply State.setPair_kept | apply State.setReg64_kept | split | dsimp only | apply foldl_kept | intro _

theorem State.arbGrant_kept (s : State) (k : Nat) (u : Nat) (e : Nat) (dst : Nat) (h : s.kept wait) :
    (s.arbGrant k u e dst).kept wait := by
  unfold State.arbGrant
  with_reducible repeat' first | assumption | apply State.arbSend_kept | apply State.modArb_kept | apply State.setPair_kept | apply State.setReg64_kept

theorem State.denyOther_kept (s : State) (p : List Byte) (reason : Nat) (dst : Nat) (h : s.kept wait) :
    (s.denyOther p reason dst).kept wait := by
  unfold State.denyOther
  with_reducible repeat' first | assumption | apply State.originate_kept

theorem State.requestIn_kept (s : State) (f : RcpFrame) (h : s.kept wait) :
    (s.requestIn f).kept wait := by
  unfold State.requestIn
  try dsimp only
  with_reducible repeat' first | assumption | apply State.arbGrant_kept | apply State.arbSend_kept | apply State.denyOther_kept | apply State.modArb_kept | apply State.pairIn_kept | split | dsimp only | apply foldl_kept | intro _

theorem State.decideNow_kept (s : State) (k : Nat) (h : s.kept wait) :
    (s.decideNow k).kept wait := by
  unfold State.decideNow
  with_reducible repeat' first | assumption | apply State.decide_kept

theorem State.snapshotGoes_kept (s : State) (h : s.kept wait) :
    (s.snapshotGoes).kept wait := by
  unfold State.snapshotGoes
  with_reducible repeat' first | assumption | apply State.cableAll_kept

theorem State.reclaimIn_kept (s : State) (f : RcpFrame) (h : s.kept wait) :
    (s.reclaimIn f).kept wait := by
  unfold State.reclaimIn
  try dsimp only
  with_reducible repeat' first | assumption | apply State.arbGrant_kept | apply State.arbIn_kept | apply State.arbSend_kept | split | dsimp only | apply foldl_kept | intro _

theorem State.arbSeen_kept (s : State) (h : s.kept wait) :
    (s.arbSeen).kept wait := by
  unfold State.arbSeen
  with_reducible repeat' first | assumption | apply State.modPair_kept

theorem State.fence_kept (s : State) (h : s.kept wait) :
    (s.fence).kept wait := by
  unfold State.fence
  try dsimp only
  with_reducible repeat' first | assumption | apply State.inc_kept | apply State.modPair_kept | apply State.modR_kept | apply State.raise_kept | apply State.toPair_kept | split

theorem State.denyIn_kept (s : State) (f : RcpFrame) (h : s.kept wait) :
    (s.denyIn f).kept wait := by
  unfold State.denyIn
  try dsimp only
  with_reducible repeat' first | assumption | apply State.arbSeen_kept | apply State.fence_kept | apply State.modIo_kept | apply State.modPair_kept | apply State.pairIn_kept | apply State.raise_kept | apply State.toPair_kept | split | dsimp only | apply foldl_kept | intro _

theorem State.resyncReq_kept (s : State) (h : s.kept wait) :
    (s.resyncReq).kept wait := by
  unfold State.resyncReq
  with_reducible repeat' first | assumption | apply State.snapshotGoes_kept | split

theorem State.takebackIn_kept (s : State) (token : Nat) (h : s.kept wait) :
    (s.takebackIn token).kept wait := by
  unfold State.takebackIn
  try dsimp only
  with_reducible repeat' first | assumption | apply State.cablePw_kept | apply State.switchActive_kept | split | dsimp only | apply foldl_kept | intro _

theorem State.request_kept (s : State) (reason : Nat) (h : s.kept wait) :
    (s.request reason).kept wait := by
  unfold State.request
  with_reducible repeat' first | assumption | apply State.modPair_kept | apply State.pairSend_kept | split

theorem State.decisionIn_kept (s : State) (f : RcpFrame) (h : s.kept wait) :
    (s.decisionIn f).kept wait := by
  unfold State.decisionIn
  try dsimp only
  with_reducible repeat' first | assumption | apply State.drop_kept | apply State.lateFound_kept | apply State.modPair_kept | apply State.pairIn_kept | apply State.request_kept | apply State.setHealth_kept | apply State.startSync_kept | split | dsimp only | apply foldl_kept | intro _

theorem State.learn_kept (s : State) (token : Nat) (e : Nat) (epoch : Nat) (h : s.kept wait) :
    (s.learn token e epoch).kept wait := by
  unfold State.learn
  with_reducible repeat' first | assumption | apply State.modPair_kept | apply State.setPair_kept | apply State.setReg64_kept | split

theorem State.partnerHealth_kept (s : State) (w : Nat) (h : s.kept wait) :
    (s.partnerHealth w).kept wait := by
  unfold State.partnerHealth
  with_reducible repeat' first | assumption | apply State.setF_kept | apply State.setRegN_kept

theorem State.pairRenew_kept (s : State) (f : RcpFrame) (h : s.kept wait) :
    (s.pairRenew f).kept wait := by
  unfold State.pairRenew
  try dsimp only
  with_reducible repeat' first | assumption | apply State.learn_kept | apply State.pairFollow_kept | apply State.pairIn_kept | apply State.partnerHealth_kept | split | dsimp only | apply foldl_kept | intro _

theorem State.snapshotTaken_kept (s : State) (epoch : Nat) (fs : List (Nat × List Byte)) (h : s.kept wait) :
    (s.snapshotTaken epoch fs).kept wait := by
  unfold State.snapshotTaken
  try dsimp only
  with_reducible repeat' first | assumption | apply State.applyBanks_kept | apply State.applyBlocks_kept | apply State.applyHubset_kept | apply State.modPair_kept | apply State.pairFollow_kept | apply State.setReg64_kept | exact (rfl : TagSt.mem _ = TagSt.mem _) | apply State.kept_mem | apply State.kept_grains | apply State.kept_tag | apply State.kept_regs | apply State.kept_quarters | apply State.kept_pending | apply Memory.wf_memClear | simp only [State.mk_kept] | apply And.intro | split | apply foldl_kept | intro _ | apply snd_kept (by assumption) | apply fst_kept (by assumption) | apply thd_kept (by assumption) | apply foldl_kept2 | apply foldl_kept3 | apply foldl_kept1

theorem State.snapEnd_kept (s : State) (epoch : Nat) (fs : List (Nat × List Byte)) (h : s.kept wait) :
    (s.snapEnd epoch fs).kept wait := by
  unfold State.snapEnd
  with_reducible repeat' first | assumption | apply State.pwMismatch_kept | apply State.raise_kept | apply State.snapshotTaken_kept | apply State.startSync_kept | split

theorem State.grantIn_kept (s : State) (f : RcpFrame) (h : s.kept wait) :
    (s.grantIn f).kept wait := by
  unfold State.grantIn
  try dsimp only
  with_reducible repeat' first | assumption | apply State.arbSeen_kept | apply State.modIo_kept | apply State.modPair_kept | apply State.pairIn_kept | apply State.setPair_kept | apply State.setReg64_kept | apply State.take_kept | apply State.toPair_kept | split | dsimp only | apply foldl_kept | intro _

theorem State.notePair_kept (s : State) (tested : Option Nat) (march : Bool) (adc : Bool) (h : s.kept wait) :
    (s.notePair tested march adc).kept wait := by
  unfold State.notePair
  with_reducible repeat' first | assumption | apply State.modPair_kept | apply State.setHealth_kept | split

theorem State.cableDown_kept (s : State) (silent : Nat) (sends : Nat) (h : s.kept wait) :
    (s.cableDown silent sends).kept wait := by
  unfold State.cableDown
  with_reducible repeat' first | assumption | apply State.drop_kept | apply State.modPair_kept | apply State.pairFollow_kept | apply State.raise_kept | split

theorem State.cableResend_kept (s : State) (seq : Nat) (h : s.kept wait) :
    (s.cableResend seq).kept wait := by
  unfold State.cableResend
  with_reducible repeat' first | assumption | apply State.cableDown_kept | apply State.modPair_kept | apply State.send_kept | split

theorem State.confirmTo_kept (s : State) (token : Nat) (e : Nat) (h : s.kept wait) :
    (s.confirmTo token e).kept wait := by
  unfold State.confirmTo
  with_reducible repeat' first | assumption | apply State.setReg64_kept | split

theorem State.cableConfirm_kept (s : State) (token : Nat) (expires : Nat) (h : s.kept wait) :
    (s.cableConfirm token expires).kept wait := by
  unfold State.cableConfirm
  try dsimp only
  with_reducible repeat' first | assumption | apply State.cablePw_kept | apply State.confirmTo_kept | split | dsimp only | apply foldl_kept | intro _

theorem State.leaseExpired_kept (s : State) (t : Nat) (h : s.kept wait) :
    (s.leaseExpired t).kept wait := by
  unfold State.leaseExpired
  with_reducible repeat' first | assumption | apply State.at_kept | apply State.request_kept | split

theorem State.confirmedExpiry_kept (s : State) (t : Nat) (h : s.kept wait) :
    (s.confirmedExpiry t).kept wait := by
  unfold State.confirmedExpiry
  with_reducible repeat' first | assumption | apply State.at_kept | apply State.fence_kept | split

theorem State.requestRepeat_kept (s : State) (h : s.kept wait) :
    (s.requestRepeat).kept wait := by
  unfold State.requestRepeat
  with_reducible repeat' first | assumption | apply State.request_kept

theorem State.cableRenew_kept (s : State) (token : Nat) (expires : Nat) (epoch : Nat) (h : s.kept wait) :
    (s.cableRenew token expires epoch).kept wait := by
  unfold State.cableRenew
  try dsimp only
  with_reducible repeat' first | assumption | apply State.cablePw_kept | apply State.cableSend_kept | apply State.fence_kept | apply State.learn_kept | apply State.pairFollow_kept | split | dsimp only | apply foldl_kept | intro _

theorem State.quarantineEnd_kept (s : State) (t : Nat) (h : s.kept wait) :
    (s.quarantineEnd t).kept wait := by
  unfold State.quarantineEnd
  with_reducible repeat' first | assumption | apply State.at_kept | apply State.modPair_kept | split

theorem State.releaseIn_kept (s : State) (f : RcpFrame) (h : s.kept wait) :
    (s.releaseIn f).kept wait := by
  unfold State.releaseIn
  try dsimp only
  with_reducible repeat' first | assumption | apply State.arbIn_kept | apply State.modArb_kept | apply State.setPair_kept | split | dsimp only | apply foldl_kept | intro _

theorem State.confirmIn_kept (s : State) (f : RcpFrame) (h : s.kept wait) :
    (s.confirmIn f).kept wait := by
  unfold State.confirmIn
  try dsimp only
  with_reducible repeat' first | assumption | apply State.arbSeen_kept | apply State.confirmTo_kept | apply State.pairIn_kept | split | dsimp only | apply foldl_kept | intro _

theorem State.mismatchIn_kept (s : State) (h : s.kept wait) :
    (s.mismatchIn).kept wait := by
  unfold State.mismatchIn
  with_reducible repeat' first | assumption | apply State.startSuspect_kept | split

theorem State.pairHealthIn_kept (s : State) (f : RcpFrame) (h : s.kept wait) :
    (s.pairHealthIn f).kept wait := by
  unfold State.pairHealthIn
  try dsimp only
  with_reducible repeat' first | assumption | apply State.pairFollow_kept | apply State.pairIn_kept | apply State.partnerHealth_kept | split | dsimp only | apply foldl_kept | intro _

theorem State.suspectTimeout_kept (s : State) (k : Nat) (t : Nat) (h : s.kept wait) :
    (s.suspectTimeout k t).kept wait := by
  unfold State.suspectTimeout
  with_reducible repeat' first | assumption | apply State.at_kept | apply State.decideNow_kept | split

theorem State.learnPeer_kept (s : State) (act : Nat) (ovl : Nat) (cfg : Nat) (h : s.kept wait) :
    (s.learnPeer act ovl cfg).kept wait := by
  unfold State.learnPeer
  try dsimp only
  with_reducible repeat' first | assumption | apply State.startSync_kept | apply State.dropReplay_kept | apply State.modPair_kept | apply State.raise_kept | split

theorem State.mirrorRecord_kept (s : State) (fs : List (Nat × List Byte)) (h : s.kept wait) :
    (s.mirrorRecord fs).kept wait := by
  unfold State.mirrorRecord
  with_reducible repeat' first | assumption | apply State.learnPeer_kept | apply State.modPair_kept | apply State.pwMismatch_kept | apply State.raise_kept | apply State.startSync_kept | split

theorem State.cableHealth_kept (s : State) (b : List Byte) (h : s.kept wait) :
    (s.cableHealth b).kept wait := by
  unfold State.cableHealth
  try dsimp only
  with_reducible repeat' first | assumption | apply State.cablePw_kept | apply State.learnPeer_kept | apply State.pairFollow_kept | apply State.partnerHealth_kept | split | dsimp only | apply foldl_kept | intro _

theorem State.leaseRenew_kept (s : State) (h : s.kept wait) :
    (s.leaseRenew).kept wait := by
  unfold State.leaseRenew
  with_reducible repeat' first | assumption | apply State.renew_kept | split

theorem State.bringupRequest_kept (s : State) (t : Nat) (h : s.kept wait) :
    (s.bringupRequest t).kept wait := by
  unfold State.bringupRequest
  with_reducible repeat' first | assumption | apply State.at_kept | apply State.request_kept | split

theorem State.handoverIn_kept (s : State) (token : Nat) (n : Nat) (h : s.kept wait) :
    (s.handoverIn token n).kept wait := by
  unfold State.handoverIn
  try dsimp only
  with_reducible repeat' first | assumption | apply State.cablePw_kept | apply State.modPair_kept | apply State.request_kept | split | dsimp only | apply foldl_kept | intro _

theorem State.armedIn_kept (s : State) (token : Nat) (h : s.kept wait) :
    (s.armedIn token).kept wait := by
  unfold State.armedIn
  try dsimp only
  with_reducible repeat' first | assumption | apply State.cablePw_kept | apply State.modIo_kept | apply State.modPair_kept | apply State.startSync_kept | split | dsimp only | apply foldl_kept | intro _

theorem State.cableLinkUp_kept (s : State) (valid : Nat) (h : s.kept wait) :
    (s.cableLinkUp valid).kept wait := by
  unfold State.cableLinkUp
  with_reducible repeat' first | assumption | apply State.pairFollow_kept | apply State.raise_kept | split

theorem State.refDone_kept (s : State) (ref : Int) (own : Int) (chk : Int) (h : s.kept wait) :
    (s.refDone ref own chk).kept wait := by
  unfold State.refDone
  with_reducible repeat' first | assumption | apply State.notePair_kept | apply State.refCheck_kept

theorem State.holdoffExpiry_kept (s : State) (k : Nat) (t : Nat) (h : s.kept wait) :
    (s.holdoffExpiry k t).kept wait := by
  unfold State.holdoffExpiry
  with_reducible repeat' first | assumption | apply State.at_kept | apply State.modArb_kept | split

theorem State.healthSend_kept (s : State) (h : s.kept wait) :
    (s.healthSend).kept wait := by
  unfold State.healthSend
  with_reducible repeat' first | assumption | apply State.pairSend_kept | apply State.setHealth_kept | split

theorem State.suspectIn_kept (s : State) (f : RcpFrame) (h : s.kept wait) :
    (s.suspectIn f).kept wait := by
  unfold State.suspectIn
  try dsimp only
  with_reducible repeat' first | assumption | apply State.arbIn_kept | apply State.decideNow_kept | apply State.modArb_kept | split | dsimp only | apply foldl_kept | intro _

theorem State.blockReq_kept (s : State) (a : Nat) (h : s.kept wait) :
    (s.blockReq a).kept wait := by
  unfold State.blockReq
  try dsimp only
  with_reducible repeat' first | assumption | apply State.cableSend_kept | split

theorem State.blockData_kept (s : State) (a : Nat) (epoch : Nat) (bs : List Byte) (h : s.kept wait) :
    (s.blockData a epoch bs).kept wait := by
  unfold State.blockData
  with_reducible repeat' first | assumption | apply State.modR_kept | apply State.rebuilt_kept | split

theorem State.marchDone_kept (s : State) (q : Nat) (failed : Bool) (h : s.kept wait) :
    (s.marchDone q failed).kept wait := by
  unfold State.marchDone
  with_reducible repeat' first | assumption | apply State.endTest_kept | apply State.notePair_kept | split

theorem State.healthIn_kept (s : State) (f : RcpFrame) (h : s.kept wait) :
    (s.healthIn f).kept wait := by
  unfold State.healthIn
  try dsimp only
  with_reducible repeat' first | assumption | apply State.arbIn_kept | apply State.arbAuto_kept | split | dsimp only | apply foldl_kept | intro _

theorem State.handoverTimeout_kept (s : State) (t : Nat) (h : s.kept wait) :
    (s.handoverTimeout t).kept wait := by
  unfold State.handoverTimeout
  with_reducible repeat' first | assumption | apply State.at_kept | apply State.pairSend_kept | split

theorem State.fwdIn_kept (s : State) (p : List Byte) (h : s.kept wait) :
    (s.fwdIn p).kept wait := by
  unfold State.fwdIn
  try dsimp only
  with_reducible repeat' first | assumption | apply State.modAlm_kept | apply State.pwMismatch_kept | apply State.switchActive_kept | split | dsimp only | apply foldl_kept | intro _

theorem State.cableIdle_kept (s : State) (t : Nat) (h : s.kept wait) :
    (s.cableIdle t).kept wait := by
  unfold State.cableIdle
  try dsimp only
  with_reducible repeat' first | assumption | apply State.at_kept | apply State.cableSend_kept | apply State.modPair_kept | apply State.send_kept | split

theorem State.armStuck_kept (s : State) (t : Nat) (h : s.kept wait) :
    (s.armStuck t).kept wait := by
  unfold State.armStuck
  with_reducible repeat' first | assumption | apply State.at_kept | apply State.becomeActive_kept | apply State.raise_kept | split

theorem State.standbyReplay_kept (s : State) (h : s.kept wait) :
    (s.standbyReplay).kept wait := by
  unfold State.standbyReplay
  try dsimp only
  with_reducible repeat' first | assumption | apply State.modPair_kept | apply State.modR_kept | apply State.poke_kept | apply State.replayOn_kept | split

theorem State.imgFail_kept (s : State) (code : Nat) (sec : Nat) (place : Nat) (h : s.kept wait) :
    (s.imgFail code sec place).kept wait := by
  unfold State.imgFail
  with_reducible repeat' first | assumption | apply State.setRegN_kept

theorem State.modImg_kept (s : State) (f : ImgSt → ImgSt) (h : s.kept wait) :
    (s.modImg f).kept wait := by
  unfold State.modImg
  try dsimp only
  with_reducible repeat' first | assumption | split | exact (rfl : TagSt.mem _ = TagSt.mem _) | apply State.kept_mem | apply State.kept_grains | apply State.kept_tag | apply State.kept_regs | apply State.kept_quarters | apply State.kept_pending | simp only [State.mk_kept] | apply And.intro

theorem State.setPend_kept (s : State) (v : Nat) (h : s.kept wait) :
    (s.setPend v).kept wait := by
  unfold State.setPend
  with_reducible repeat' first | assumption | apply State.setF_kept

theorem State.actRefused_kept (s : State) (code : Nat) (sec : Nat) (h : s.kept wait) :
    (s.actRefused code sec).kept wait := by
  unfold State.actRefused
  with_reducible repeat' first | assumption | apply State.imgFail_kept | apply State.modImg_kept | apply State.raise_kept | apply State.setPend_kept

theorem State.armRestart_kept (s : State) (sel : Nat) (f : State → State) (h : s.kept wait) (hf : ∀ (y0 : State), y0.kept wait → (f y0).kept wait) :
    (s.armRestart sel f).kept wait := by
  unfold State.armRestart
  with_reducible repeat' first | assumption | apply State.modImg_kept | apply State.raise_kept | apply hf | split

theorem State.dropPend_kept (s : State) (h : s.kept wait) :
    (s.dropPend).kept wait := by
  unfold State.dropPend
  with_reducible repeat' first | assumption | apply State.modImg_kept | apply State.setPend_kept | apply State.setReg64_kept | apply State.setRegN_kept

theorem State.imgReject_kept (s : State) (h : s.kept wait) :
    (s.imgReject).kept wait := by
  unfold State.imgReject
  with_reducible repeat' first | assumption | apply State.raise_kept

theorem State.restartPoints_kept (s : State) (old : RunCfg) (h : s.kept wait) :
    (s.restartPoints old).kept wait := by
  unfold State.restartPoints
  try dsimp only
  with_reducible repeat' first | assumption | apply State.modAlm_kept | apply State.setPair_kept | split | dsimp only | apply foldl_kept | intro _

theorem State.setSlot_kept (s : State) (i : Nat) (v : StoreSlot) (h : s.kept wait) :
    (s.setSlot i v).kept wait := by
  unfold State.setSlot
  with_reducible repeat' first | assumption | apply State.modImg_kept

theorem State.showConfig_kept (s : State) (h : s.kept wait) :
    (s.showConfig).kept wait := by
  unfold State.showConfig
  try dsimp only
  with_reducible repeat' first | assumption | apply State.setF_kept | apply State.setReg64_kept | apply State.setRegN_kept | split | dsimp only | apply foldl_kept | intro _

theorem State.showPolicy_kept (s : State) (h : s.kept wait) :
    (s.showPolicy).kept wait := by
  unfold State.showPolicy
  with_reducible repeat' first | assumption | apply State.setRegN_kept

theorem State.updateSelector_kept (s : State) (sel : Nat) (h : s.kept wait) :
    (s.updateSelector sel).kept wait := by
  unfold State.updateSelector
  with_reducible repeat' first | assumption | apply State.modImg_kept | split

theorem State.mergePartial_kept (s : State) (h : s.kept wait) :
    (s.mergePartial).kept wait := by
  unfold State.mergePartial
  try dsimp only
  with_reducible repeat' first | assumption | apply State.dropPend_kept | apply State.inc_kept | apply State.modImg_kept | apply State.restartPoints_kept | apply State.setSlot_kept | apply State.showConfig_kept | apply State.showPolicy_kept | apply State.updateSelector_kept | split

theorem State.imgArm_kept (s : State) (h : s.kept wait) :
    (s.imgArm).kept wait := by
  unfold State.imgArm
  try dsimp only
  with_reducible repeat' first | assumption | apply State.actRefused_kept | apply State.armRestart_kept | apply State.dropPend_kept | apply State.imgReject_kept | apply State.mergePartial_kept | apply State.modImg_kept | apply State.setPend_kept | apply State.setSlot_kept | split | dsimp only | apply foldl_kept | intro _

theorem State.withdrawRestart_kept (s : State) (h : s.kept wait) :
    (s.withdrawRestart).kept wait := by
  unfold State.withdrawRestart
  with_reducible repeat' first | assumption | apply State.drop_kept | apply State.modImg_kept | apply State.setSlot_kept | split

theorem State.imgCancel_kept (s : State) (h : s.kept wait) :
    (s.imgCancel).kept wait := by
  unfold State.imgCancel
  with_reducible repeat' first | assumption | apply State.dropPend_kept | apply State.imgReject_kept | apply State.withdrawRestart_kept | split

theorem State.imgVerify_kept (s : State) (h : s.kept wait) :
    (s.imgVerify).kept wait := by
  unfold State.imgVerify
  with_reducible repeat' first | assumption | apply State.imgFail_kept | apply State.imgReject_kept | apply State.raise_kept | apply State.setPend_kept | split

theorem State.selectPrevious_kept (s : State) (h : s.kept wait) :
    (s.selectPrevious).kept wait := by
  unfold State.selectPrevious
  try dsimp only
  with_reducible repeat' first | assumption | apply State.armRestart_kept | apply State.imgReject_kept | exact (rfl : TagSt.mem _ = TagSt.mem _) | apply State.kept_mem | apply State.kept_grains | apply State.kept_tag | apply State.kept_regs | apply State.kept_quarters | apply State.kept_pending | apply Memory.wf_memClear | simp only [State.mk_kept] | apply And.intro | split | apply foldl_kept | intro _ | apply snd_kept (by assumption) | apply fst_kept (by assumption) | apply thd_kept (by assumption) | apply foldl_kept2 | apply foldl_kept3 | apply foldl_kept1 | simp only [id_eq]

theorem State.stageBegin_kept (s : State) (h : s.kept wait) :
    (s.stageBegin).kept wait := by
  unfold State.stageBegin
  with_reducible repeat' first | assumption | apply State.dropPend_kept | apply State.imgReject_kept | apply State.setPend_kept | split

theorem State.imgCmd_kept (s : State) (v : Nat) (h : s.kept wait) :
    (s.imgCmd v).kept wait := by
  unfold State.imgCmd
  with_reducible repeat' first | assumption | apply State.imgArm_kept | apply State.imgCancel_kept | apply State.imgVerify_kept | apply State.selectPrevious_kept | apply State.stageBegin_kept | split

theorem State.seqFloor_kept (s : State) (v : Nat) (h : s.kept wait) :
    (s.seqFloor v).kept wait := by
  unfold State.seqFloor
  with_reducible repeat' first | assumption | apply State.imgReject_kept | apply State.setPair_kept | split

theorem State.adjustDies_kept (s : State) (h : s.kept wait) :
    (s.adjustDies).kept wait := by
  unfold State.adjustDies
  try dsimp only
  with_reducible repeat' first | assumption | apply State.dieOff_kept | apply State.dieUp_kept | apply State.setLink_kept | split | dsimp only | apply foldl_kept | intro _

theorem State.stopAll_kept (s : State) (h : s.kept wait) :
    (s.stopAll).kept wait := by
  unfold State.stopAll
  try dsimp only
  with_reducible repeat' first | assumption | apply State.abandonQ_kept | apply State.setQState_kept | split | dsimp only | apply foldl_kept | intro _

theorem State.beginLoad_kept (s : State) (kind : Nat) (h : s.kept wait) :
    (s.beginLoad kind).kept wait := by
  unfold State.beginLoad
  with_reducible repeat' first | assumption | apply State.modImg_kept | apply State.raise_kept | apply State.stopAll_kept

theorem State.endLoading_kept (s : State) (h : s.kept wait) :
    (s.endLoading).kept wait := by
  unfold State.endLoading
  try dsimp only
  with_reducible repeat' first | assumption | apply State.drop_kept | apply State.dropPend_kept | apply State.inc_kept | apply State.modImg_kept | apply State.modT_kept | split

theorem State.fillFrom_kept (s : State) (q : Nat) (g : Nat) (b : Nat) (crc : Option Nat) (h : s.kept wait) :
    (s.fillFrom q g b crc).kept wait := by
  unfold State.fillFrom
  try dsimp only
  with_reducible repeat' first | assumption | apply State.fillBank_kept | apply State.setBank_kept | apply State.setRegN_kept | split

theorem State.fillQuarter_kept (s : State) (q : Nat) (h : s.kept wait) :
    (s.fillQuarter q).kept wait := by
  unfold State.fillQuarter
  try dsimp only
  with_reducible repeat' first | assumption | apply State.fillFrom_kept | split | dsimp only | apply foldl_kept | intro _

theorem State.loadProgram_kept (s : State) (q : Nat) (h : s.kept wait) :
    (s.loadProgram q).kept wait := by
  unfold State.loadProgram
  with_reducible repeat' first | assumption | apply State.modQ_kept

theorem State.marchFails_kept (s : State) (q : Nat) (h : s.kept wait) :
    (s.marchFails q).kept wait := by
  unfold State.marchFails
  try dsimp only
  with_reducible repeat' first | assumption | apply State.failGrain_kept | apply State.grainErr_kept | apply State.modP_kept | apply State.raise_kept | split | dsimp only | apply foldl_kept | intro _

theorem State.placeGrains_kept (s : State) (q : Nat) (h : s.kept wait) :
    (s.placeGrains q).kept wait := by
  unfold State.placeGrains
  try dsimp only
  with_reducible repeat' first | assumption | apply State.modQ_kept | apply State.recount_kept | apply State.setReg64_kept | apply State.setRegN_kept | exact (rfl : TagSt.mem _ = TagSt.mem _) | apply State.kept_mem | apply State.kept_grains | apply State.kept_tag | apply State.kept_regs | apply State.kept_quarters | apply State.kept_pending | apply Memory.wf_memClear | simp only [State.mk_kept] | apply And.intro | split | apply foldl_kept | intro _

theorem State.placeSpares_kept (s : State) (q : Nat) (h : s.kept wait) :
    (s.placeSpares q).kept wait := by
  unfold State.placeSpares
  try dsimp only
  with_reducible repeat' first | assumption | apply State.event_kept | apply State.loseQ_kept | apply State.modR_kept | apply State.recount_kept | apply State.setCapacity_kept | apply State.setReg64_kept | apply State.setRegN_kept | exact (rfl : TagSt.mem _ = TagSt.mem _) | apply State.kept_mem | apply State.kept_grains | apply State.kept_tag | apply State.kept_regs | apply State.kept_quarters | apply State.kept_pending | apply Memory.wf_memClear | simp only [State.mk_kept] | apply And.intro | split | apply foldl_kept | intro _

theorem State.placeAll_kept (s : State) (h : s.kept wait) :
    (s.placeAll).kept wait := by
  unfold State.placeAll
  try dsimp only
  with_reducible repeat' first | assumption | apply State.marchFails_kept | apply State.placeGrains_kept | apply State.placeSpares_kept | split | dsimp only | apply foldl_kept | intro _

theorem State.showDies_kept (s : State) (h : s.kept wait) :
    (s.showDies).kept wait := by
  unfold State.showDies
  try dsimp only
  with_reducible repeat' first | assumption | apply State.setF_kept | apply State.setReg64_kept | apply State.setRegN_kept | split | dsimp only | apply foldl_kept | intro _

theorem State.showWregs_kept (s : State) (h : s.kept wait) :
    (s.showWregs).kept wait := by
  unfold State.showWregs
  try dsimp only
  with_reducible repeat' first | assumption | apply State.setReg64_kept | apply State.setRegN_kept | split | dsimp only | apply foldl_kept | intro _

theorem State.loadCompute_kept (s : State) (h : s.kept wait) :
    (s.loadCompute).kept wait := by
  unfold State.loadCompute
  try dsimp only
  with_reducible repeat' first | assumption | apply State.fillQuarter_kept | apply State.loadProgram_kept | apply State.placeAll_kept | apply State.showDies_kept | apply State.showWregs_kept | split | dsimp only | apply foldl_kept

theorem State.putData_kept (s : State) (a : Nat) (bs : List Byte) (h : s.kept wait) :
    (s.putData a bs).kept wait := by
  unfold State.putData
  try dsimp only
  with_reducible repeat' first | assumption | apply State.poke_kept | apply State.setPoison_kept | split | dsimp only | apply foldl_kept | intro _

theorem State.loadData_kept (s : State) (r : Nat × Nat × Nat × List Byte) (h : s.kept wait) :
    (s.loadData r).kept wait := by
  unfold State.loadData
  with_reducible repeat' first | assumption | apply State.putData_kept

theorem State.refillDie_kept (s : State) (d : Nat) (h : s.kept wait) :
    (s.refillDie d).kept wait := by
  unfold State.refillDie
  try dsimp only
  with_reducible repeat' first | assumption | apply State.fillFrom_kept | exact (rfl : TagSt.mem _ = TagSt.mem _) | apply State.kept_mem | apply State.kept_grains | apply State.kept_tag | apply State.kept_regs | apply State.kept_quarters | apply State.kept_pending | apply Memory.wf_memClear | simp only [State.mk_kept] | apply And.intro | split | apply foldl_kept | intro _

theorem State.loadHarbour_kept (s : State) (h : s.kept wait) :
    (s.loadHarbour).kept wait := by
  unfold State.loadHarbour
  try dsimp only
  with_reducible repeat' first | assumption | apply State.loadProgram_kept | apply State.marchFails_kept | apply State.placeSpares_kept | apply State.refillDie_kept | split | dsimp only | apply foldl_kept | intro _

theorem State.loadAll_kept (s : State) (h : s.kept wait) :
    (s.loadAll).kept wait := by
  unfold State.loadAll
  try dsimp only
  with_reducible repeat' first | assumption | apply State.loadCompute_kept | apply State.loadData_kept | apply State.loadHarbour_kept | apply State.setCapacity_kept | apply State.showDies_kept | split | dsimp only | apply foldl_kept

theorem State.imageRegs_kept (s : State) (n : Nat) (h : s.kept wait) :
    (s.imageRegs n).kept wait := by
  unfold State.imageRegs
  try dsimp only
  with_reducible repeat' first | assumption | apply State.applyRegset_kept | split | dsimp only | apply foldl_kept | intro _

theorem State.beginActivation_kept (s : State) (next : Nat) (h : s.kept wait) :
    (s.beginActivation next).kept wait := by
  unfold State.beginActivation
  with_reducible repeat' first | assumption | apply State.actRefused_kept | apply State.setPend_kept | split

theorem State.takeFull_kept (s : State) (h : s.kept wait) :
    (s.takeFull).kept wait := by
  unfold State.takeFull
  try dsimp only
  with_reducible repeat' first | assumption | apply State.adjustDies_kept | apply State.beginLoad_kept | apply State.drop_kept | apply State.modImg_kept | apply State.restartPoints_kept | apply State.setF_kept | apply State.setSlot_kept | apply State.showConfig_kept | apply State.showPolicy_kept | apply State.showWregs_kept | apply State.stopAll_kept | apply State.updateSelector_kept | split | dsimp only | apply foldl_kept | intro _

theorem State.endActivation_kept (s : State) (h : s.kept wait) :
    (s.endActivation).kept wait := by
  unfold State.endActivation
  with_reducible repeat' first | assumption | apply State.mergePartial_kept | apply State.takeFull_kept | split

theorem State.enterStates_kept (s : State) (h : s.kept wait) :
    (s.enterStates).kept wait := by
  unfold State.enterStates
  try dsimp only
  with_reducible repeat' first | assumption | apply State.modT_kept | apply State.setQState_kept | split | dsimp only | apply foldl_kept | intro _

theorem State.imgTransfer_kept (s : State) (off : Nat) (bs : List Byte) (h : s.kept wait) :
    (s.imgTransfer off bs).2.kept wait := by
  unfold State.imgTransfer
  try dsimp only
  with_reducible repeat' first | assumption | apply State.modImg_kept | apply State.raise_kept | apply State.setReg64_kept | apply State.setRegN_kept | split

theorem State.stoppedLoaded_kept (s : State) (h : s.kept wait) :
    (s.stoppedLoaded).kept wait := by
  unfold State.stoppedLoaded
  try dsimp only
  with_reducible repeat' first | assumption | apply State.adjustDies_kept | apply State.dropPend_kept | apply State.fillQuarter_kept | apply State.inc_kept | apply State.loadData_kept | apply State.loadProgram_kept | apply State.placeGrains_kept | apply State.placeSpares_kept | apply State.showDies_kept | apply State.showWregs_kept | split | dsimp only | apply foldl_kept | intro _

theorem State.activationComplete_kept (s : State) (h : s.kept wait) :
    (s.activationComplete).kept wait := by
  unfold State.activationComplete
  with_reducible repeat' first | assumption | apply State.stoppedLoaded_kept | split

theorem State.verifyComplete_kept (s : State) (h : s.kept wait) :
    (s.verifyComplete).kept wait := by
  unfold State.verifyComplete
  with_reducible repeat' first | assumption | apply State.imgFail_kept | apply State.raise_kept | apply State.setPend_kept | split

theorem State.setPath_kept (s : State) (v : PathSt) (h : s.kept wait) :
    (s.setPath v).kept wait := by
  unfold State.setPath
  with_reducible repeat' first | assumption | apply State.modHost_kept

theorem State.stageResult_kept (s : State) (v : Nat) (h : s.kept wait) :
    (s.stageResult v).kept wait := by
  unfold State.stageResult
  with_reducible repeat' first | assumption | apply State.setF_kept

theorem State.stageBad_kept (s : State) (h : s.kept wait) :
    (s.stageBad).kept wait := by
  unfold State.stageBad
  with_reducible repeat' first | assumption | apply State.raise_kept | apply State.stageResult_kept

theorem State.stageDone_kept (s : State) (r : TagRec) (h : s.kept wait) :
    (s.stageDone r).kept wait := by
  unfold State.stageDone
  try dsimp only
  with_reducible repeat' first | assumption | apply State.modTag_kept | apply State.stageResult_kept | split | dsimp only

theorem State.stageImage_kept (s : State) (r : TagRec) (h : s.kept wait) :
    (s.stageImage r).kept wait := by
  unfold State.stageImage
  try dsimp only
  with_reducible repeat' first | assumption | apply State.armRestart_kept | apply State.imgFail_kept | apply State.raise_kept | apply State.setSlot_kept | apply State.stageBad_kept | apply State.stageDone_kept | split | dsimp only | apply foldl_kept | intro _

theorem State.stageSettings_kept (s : State) (r : TagRec) (moment : Nat) (h : s.kept wait) :
    (s.stageSettings r moment).kept wait := by
  unfold State.stageSettings
  try dsimp only
  with_reducible repeat' first | assumption | apply State.modTag_kept | apply State.stageBad_kept | apply State.stageDone_kept | apply State.stageResult_kept | apply State.writeFields_kept | split | dsimp only | apply foldl_kept | intro _

theorem State.considerStage_kept (s : State) (moment : Nat) (h : s.kept wait) :
    (s.considerStage moment).kept wait := by
  unfold State.considerStage
  try dsimp only
  with_reducible repeat' first | assumption | apply State.raise_kept | apply State.setF_kept | apply State.stageBad_kept | apply State.stageImage_kept | apply State.stageResult_kept | apply State.stageSettings_kept | split

theorem State.putLog_kept (s : State) (kind : Nat) (body : List Byte) (h : s.kept wait) :
    (s.putLog kind body).kept wait := by
  unfold State.putLog
  try dsimp only
  with_reducible repeat' first | assumption | apply State.setRegN_kept | apply State.tagWrite_kept | split | dsimp only | apply foldl_kept | intro _

theorem State.loadFaultLog_kept (s : State) (h : s.kept wait) :
    (s.loadFaultLog).kept wait := by
  unfold State.loadFaultLog
  try dsimp only
  with_reducible repeat' first | assumption | apply State.raise_kept | apply State.setRegN_kept | split | dsimp only | apply foldl_kept | intro _

theorem State.rewriteIdentity_kept (s : State) (h : s.kept wait) :
    (s.rewriteIdentity).kept wait := by
  unfold State.rewriteIdentity
  try dsimp only
  with_reducible repeat' first | assumption | apply State.tagWrite_kept | split

theorem State.modPan_kept (s : State) (f : PanelSt → PanelSt) (h : s.kept wait) :
    (s.modPan f).kept wait := by
  unfold State.modPan
  try dsimp only
  with_reducible repeat' first | assumption | split | exact (rfl : TagSt.mem _ = TagSt.mem _) | apply State.kept_mem | apply State.kept_grains | apply State.kept_tag | apply State.kept_regs | apply State.kept_quarters | apply State.kept_pending | simp only [State.mk_kept] | apply And.intro

theorem State.panelMsg_kept (s : State) (m : Nat) (h : s.kept wait) :
    (s.panelMsg m).kept wait := by
  unfold State.panelMsg
  with_reducible repeat' first | assumption | apply State.modPan_kept

theorem State.applyPanel_kept (s : State) (e : CmdEntry) (h : s.kept wait) :
    (s.applyPanel e).kept wait := by
  unfold State.applyPanel
  try dsimp only
  with_reducible repeat' first | assumption | apply State.applyEntry_kept | apply State.panelMsg_kept | split

theorem State.applyStaging_kept (s : State) (h : s.kept wait) :
    (s.applyStaging).kept wait := by
  unfold State.applyStaging
  with_reducible repeat' first | assumption | apply State.considerStage_kept | apply State.raise_kept | split

theorem State.tagPoint_kept (s : State) (a : TagArea) (c : Nat) (seq : Nat) (h : s.kept wait) :
    (s.tagPoint a c seq).kept wait := by
  unfold State.tagPoint
  with_reducible repeat' first | assumption | apply State.tagWrite_kept

theorem State.tagPutRecord_kept (s : State) (a : TagArea) (kind : Nat) (p : List Byte) (h : s.kept wait) :
    (s.tagPutRecord a kind p).kept wait := by
  unfold State.tagPutRecord
  with_reducible repeat' first | assumption | apply State.tagPoint_kept | apply State.tagWrite_kept | split

theorem State.fieldSeen_kept (s : State) (t : Nat) (h : s.kept wait) :
    (s.fieldSeen t).kept wait := by
  unfold State.fieldSeen
  try dsimp only
  with_reducible repeat' first | assumption | apply State.at_kept | apply State.modTag_kept | apply State.raise_kept | split | dsimp only

theorem State.tagReq_kept (s : State) (uid : Option (BitVec 64)) (sel : Bool) (t : Nat) (k : State → State) (h : s.kept wait) (hk : ∀ (y0 : State), y0.kept wait → (k y0).kept wait) :
    (s.tagReq uid sel t k).kept wait := by
  unfold State.tagReq
  try dsimp only
  with_reducible repeat' first | assumption | apply State.fieldSeen_kept | apply hk | split

theorem State.beginSession_kept (s : State) (h : s.kept wait) :
    (s.beginSession).kept wait := by
  unfold State.beginSession
  try dsimp only
  with_reducible repeat' first | assumption | apply State.inc_kept | apply State.modTag_kept | apply State.raise_kept | apply State.wakeReq_kept | split | dsimp only

theorem State.tagAnswer_kept (s : State) (bs : List Byte) (h : s.kept wait) :
    (s.tagAnswer bs).kept wait := by
  unfold State.tagAnswer
  with_reducible repeat' first | assumption | apply State.send_kept

theorem State.tagError_kept (s : State) (code : Nat) (h : s.kept wait) :
    (s.tagError code).kept wait := by
  unfold State.tagError
  with_reducible repeat' first | assumption | apply State.send_kept

theorem State.writeBlock_kept (s : State) (uid : Option (BitVec 64)) (sel : Bool) (b : BitVec 16) (ext : Bool) (v : Word) (lock : Bool) (t : Nat) (h : s.kept wait) :
    (s.writeBlock uid sel b ext v lock t).kept wait := by
  unfold State.writeBlock
  try dsimp only
  with_reducible repeat' first | assumption | apply State.beginSession_kept | apply State.tagAnswer_kept | apply State.tagError_kept | apply State.tagReq_kept | apply State.tagWrite_kept | split | dsimp only | apply foldl_kept | intro _

theorem State.tagFails_kept (s : State) (h : s.kept wait) :
    (s.tagFails).kept wait := by
  unfold State.tagFails
  try dsimp only
  with_reducible repeat' first | assumption | apply State.addReg_kept | apply State.drop_kept | apply State.modTag_kept | apply State.raise_kept | split | dsimp only

theorem State.faultLogWrite_kept (s : State) (ok : Bool) (h : s.kept wait) :
    (s.faultLogWrite ok).kept wait := by
  unfold State.faultLogWrite
  try dsimp only
  with_reducible repeat' first | assumption | apply State.modTag_kept | apply State.putLog_kept | apply State.raise_kept | apply State.tagFails_kept | split | dsimp only

theorem State.panelQueue_kept (s : State) (op : Nat) (index : Nat) (h : s.kept wait) :
    (s.panelQueue op index).kept wait := by
  unfold State.panelQueue
  with_reducible repeat' first | assumption | apply State.modAlm_kept | apply State.raise_kept | split

theorem State.press_kept (s : State) (t : Nat) (k : State → State) (h : s.kept wait) (hk : ∀ (y0 : State), y0.kept wait → (k y0).kept wait) :
    (s.press t k).kept wait := by
  unfold State.press
  with_reducible repeat' first | assumption | apply State.at_kept | apply State.inc_kept | apply State.modPan_kept | apply State.wakeReq_kept | apply hk | split

theorem State.buttonAck_kept (s : State) (t : Nat) (h : s.kept wait) :
    (s.buttonAck t).kept wait := by
  unfold State.buttonAck
  try dsimp only
  with_reducible repeat' first | assumption | apply State.forwardEntries_kept | apply State.panelQueue_kept | apply State.press_kept | split | dsimp only | apply foldl_kept | intro _

theorem State.readBlocks_kept (s : State) (b : Nat) (n : Nat) (h : s.kept wait) :
    (s.readBlocks b n).kept wait := by
  unfold State.readBlocks
  with_reducible repeat' first | assumption | apply State.tagAnswer_kept | apply State.tagError_kept | split

theorem State.readSingle_kept (s : State) (uid : Option (BitVec 64)) (sel : Bool) (b : BitVec 16) (ext : Bool) (t : Nat) (h : s.kept wait) :
    (s.readSingle uid sel b ext t).kept wait := by
  unfold State.readSingle
  try dsimp only
  with_reducible repeat' first | assumption | apply State.readBlocks_kept | apply State.tagReq_kept | split | dsimp only | apply foldl_kept | intro _

theorem State.sysInfo_kept (s : State) (uid : Option (BitVec 64)) (sel : Bool) (t : Nat) (h : s.kept wait) :
    (s.sysInfo uid sel t).kept wait := by
  unfold State.sysInfo
  try dsimp only
  with_reducible repeat' first | assumption | apply State.tagAnswer_kept | apply State.tagReq_kept | split | dsimp only | apply foldl_kept | intro _

theorem State.showMbx_kept (s : State) (h : s.kept wait) : (s.showMbx).kept wait := by
  unfold State.showMbx
  apply State.setF_kept
  exact h

theorem State.rfSessionOver_kept (s : State) (h : s.kept wait) :
    (s.rfSessionOver).kept wait := by
  unfold State.rfSessionOver
  try dsimp only
  with_reducible repeat' first | assumption | apply State.showMbx_kept | apply State.considerStage_kept | apply State.drop_kept | apply State.modHost_kept | apply State.raise_kept | split

theorem State.panelRefuse_kept (s : State) (h : s.kept wait) :
    (s.panelRefuse).kept wait := by
  unfold State.panelRefuse
  with_reducible repeat' first | assumption | apply State.panelMsg_kept | apply State.raise_kept

theorem State.buttonCapture_kept (s : State) (op : Nat) (t : Nat) (h : s.kept wait) :
    (s.buttonCapture op t).kept wait := by
  unfold State.buttonCapture
  try dsimp only
  with_reducible repeat' first | assumption | apply State.panelQueue_kept | apply State.panelRefuse_kept | apply State.press_kept | split | dsimp only | apply foldl_kept | intro _

theorem State.endSession_kept (s : State) (lost : Bool) (t : Nat) (h : s.kept wait) :
    (s.endSession lost t).kept wait := by
  unfold State.endSession
  try dsimp only
  with_reducible repeat' first | assumption | apply State.at_kept | apply State.drop_kept | apply State.modTag_kept | apply State.rfSessionOver_kept | split | dsimp only

theorem State.selHold_kept (s : State) (t : Nat) (h : s.kept wait) :
    (s.selHold t).kept wait := by
  unfold State.selHold
  with_reducible repeat' first | assumption | apply State.at_kept | apply State.modPan_kept | apply State.panelQueue_kept | apply State.panelRefuse_kept | split

theorem State.inventory_kept (s : State) (n : Nat) (mask : BitVec 64) (t : Nat) (h : s.kept wait) :
    (s.inventory n mask t).kept wait := by
  unfold State.inventory
  try dsimp only
  with_reducible repeat' first | assumption | apply State.fieldSeen_kept | apply State.tagAnswer_kept | split

theorem State.buttonSel_kept (s : State) (t : Nat) (h : s.kept wait) :
    (s.buttonSel t).kept wait := by
  unfold State.buttonSel
  try dsimp only
  with_reducible repeat' first | assumption | apply State.modPan_kept | apply State.panelRefuse_kept | apply State.press_kept | split | dsimp only | apply foldl_kept | intro _

theorem State.stayQuiet_kept (s : State) (uid : BitVec 64) (t : Nat) (h : s.kept wait) :
    (s.stayQuiet uid t).kept wait := by
  unfold State.stayQuiet
  try dsimp only
  with_reducible repeat' first | assumption | apply State.fieldSeen_kept | apply State.modTag_kept | split | dsimp only

theorem State.tagSelect_kept (s : State) (uid : BitVec 64) (t : Nat) (h : s.kept wait) :
    (s.tagSelect uid t).kept wait := by
  unfold State.tagSelect
  try dsimp only
  with_reducible repeat' first | assumption | apply State.fieldSeen_kept | apply State.modTag_kept | apply State.tagAnswer_kept | split | dsimp only

theorem State.selectTimeout_kept (s : State) (t : Nat) (h : s.kept wait) :
    (s.selectTimeout t).kept wait := by
  unfold State.selectTimeout
  with_reducible repeat' first | assumption | apply State.at_kept | apply State.modPan_kept | split

theorem State.buttonEnter_kept (s : State) (t : Nat) (h : s.kept wait) :
    (s.buttonEnter t).kept wait := by
  unfold State.buttonEnter
  try dsimp only
  with_reducible repeat' first | assumption | apply State.modPan_kept | apply State.panelQueue_kept | apply State.panelRefuse_kept | apply State.press_kept | apply State.setF_kept | split | dsimp only | apply foldl_kept | intro _

theorem State.readMultiple_kept (s : State) (uid : Option (BitVec 64)) (sel : Bool) (b : BitVec 16) (n : Nat) (ext : Bool) (t : Nat) (h : s.kept wait) :
    (s.readMultiple uid sel b n ext t).kept wait := by
  unfold State.readMultiple
  try dsimp only
  with_reducible repeat' first | assumption | apply State.readBlocks_kept | apply State.tagError_kept | apply State.tagReq_kept | split | dsimp only | apply foldl_kept | intro _

theorem State.resetToReady_kept (s : State) (uid : Option (BitVec 64)) (sel : Bool) (t : Nat) (h : s.kept wait) :
    (s.resetToReady uid sel t).kept wait := by
  unfold State.resetToReady
  try dsimp only
  with_reducible repeat' first | assumption | apply State.modTag_kept | apply State.tagAnswer_kept | apply State.tagReq_kept | split | dsimp only | apply foldl_kept | intro _

theorem State.blockSecurity_kept (s : State) (uid : Option (BitVec 64)) (sel : Bool) (b : BitVec 16) (n : Nat) (ext : Bool) (t : Nat) (h : s.kept wait) :
    (s.blockSecurity uid sel b n ext t).kept wait := by
  unfold State.blockSecurity
  try dsimp only
  with_reducible repeat' first | assumption | apply State.tagAnswer_kept | apply State.tagError_kept | apply State.tagReq_kept | split | dsimp only | apply foldl_kept | intro _

theorem State.messageTimeout_kept (s : State) (t : Nat) (h : s.kept wait) :
    (s.messageTimeout t).kept wait := by
  unfold State.messageTimeout
  with_reducible repeat' first | assumption | apply State.at_kept | apply State.modPan_kept | split

end Sys2Proof.Machine
end

