-- ==== Sys2Proof/Laws/Kept4.lean ====
section
/-! SUPPORT. Every operation keeps State.kept: those of Security, Access, Frames, Commit, Epoch, Bringup, Safety. -/

namespace Sys2Proof.Machine

variable {wait : List Instr}

theorem State.closeSess_kept (s : State) (id : Nat) (h : s.kept wait) :
    (s.closeSess id).kept wait := by
  unfold State.closeSess
  with_reducible repeat' first | assumption | apply State.modHost_kept | split

theorem State.sessionOpens_kept (s : State) (sec : List Byte) (h : s.kept wait) :
    (s.sessionOpens sec).kept wait := by
  unfold State.sessionOpens
  with_reducible repeat' first | assumption | apply State.closeSess_kept | apply State.fresh_kept | apply State.modHost_kept | apply State.setReg64_kept | apply State.setRegN_kept | split

theorem State.sessOpen_kept (s : State) (src : Option Nat) (h : s.kept wait) :
    (s.sessOpen src).kept wait := by
  unfold State.sessOpen
  try dsimp only
  with_reducible repeat' first | assumption | apply State.raise_kept | apply State.sessionOpens_kept | apply State.setRegN_kept | split

theorem State.hsCmd_kept (s : State) (p : Path) (v : Nat) (h : s.kept wait) :
    (s.hsCmd p v).kept wait := by
  unfold State.hsCmd
  with_reducible repeat' first | assumption | apply State.closeSess_kept | apply State.sessOpen_kept | split

theorem State.clearStages_kept (s : State) (h : s.kept wait) :
    (s.clearStages).kept wait := by
  unfold State.clearStages
  try dsimp only
  with_reducible repeat' first | assumption | apply State.modHost_kept | apply State.setRegN_kept | split | dsimp only | apply foldl_kept | intro _

theorem State.secResult_kept (s : State) (cmd : Nat) (slot : Nat) (res : Nat) (h : s.kept wait) :
    (s.secResult cmd slot res).kept wait := by
  unfold State.secResult
  with_reducible repeat' first | assumption | apply State.setRegN_kept

theorem State.secRefuse_kept (s : State) (cmd : Nat) (slot : Nat) (res : Nat) (h : s.kept wait) :
    (s.secRefuse cmd slot res).kept wait := by
  unfold State.secRefuse
  with_reducible repeat' first | assumption | apply State.raise_kept | apply State.secResult_kept

theorem State.secRefuseFree_kept (s : State) (cmd : Nat) (slot : Nat) (h : s.kept wait) :
    (s.secRefuseFree cmd slot).kept wait := by
  unfold State.secRefuseFree
  with_reducible repeat' first | assumption | apply State.fresh_kept | apply State.raise_kept | apply State.secResult_kept

theorem State.secTake_kept (s : State) (o : SecOp) (h : s.kept wait) :
    (s.secTake o).kept wait := by
  unfold State.secTake
  with_reducible repeat' first | assumption | apply State.modHost_kept | apply State.raise_kept

theorem State.secCmd_kept (s : State) (v : Nat) (h : s.kept wait) :
    (s.secCmd v).kept wait := by
  unfold State.secCmd
  try dsimp only
  with_reducible repeat' first | assumption | apply State.clearStages_kept | apply State.secRefuse_kept | apply State.secRefuseFree_kept | apply State.secTake_kept | split

theorem State.denied_kept (s : State) (h : s.kept wait) :
    (s.denied).kept wait := by
  unfold State.denied
  with_reducible repeat' first | assumption | apply State.inc_kept | apply State.raise_kept

theorem State.authFail_kept (s : State) (src : Nat) (h : s.kept wait) :
    (s.authFail src).kept wait := by
  unfold State.authFail
  try dsimp only
  with_reducible repeat' first | assumption | apply State.inc_kept | apply State.modHost_kept | apply State.raise_kept | split

theorem State.modSess_kept (s : State) (id : Nat) (f : SessSt → SessSt) (h : s.kept wait) :
    (s.modSess id f).kept wait := by
  unfold State.modSess
  with_reducible repeat' first | assumption | apply State.modHost_kept

theorem State.authCheck_kept (s : State) (typ : Nat) (group : Bool) (off : Nat) (src : Nat) (p : List Byte) (h : s.kept wait) :
    (s.authCheck typ group off src p).2.kept wait := by
  unfold State.authCheck
  try dsimp only
  with_reducible repeat' first | assumption | apply State.authFail_kept | apply State.modHost_kept | apply State.modSess_kept | apply State.setRegN_kept | split

theorem State.sessSpent_kept (s : State) (id : Nat) (h : s.kept wait) :
    (s.sessSpent id).kept wait := by
  unfold State.sessSpent
  with_reducible repeat' first | assumption | apply State.closeSess_kept | split

theorem State.closeCred_kept (s : State) (j : Nat) (h : s.kept wait) :
    (s.closeCred j).kept wait := by
  unfold State.closeCred
  try dsimp only
  with_reducible repeat' first | assumption | apply State.closeSess_kept | split | dsimp only | apply foldl_kept | intro _

theorem State.lockoutExpiry_kept (s : State) (src : Nat) (t : Nat) (h : s.kept wait) :
    (s.lockoutExpiry src t).kept wait := by
  unfold State.lockoutExpiry
  with_reducible repeat' first | assumption | apply State.at_kept | apply State.modHost_kept

theorem State.secCounts_kept (s : State) (h : s.kept wait) :
    (s.secCounts).kept wait := by
  unfold State.secCounts
  with_reducible repeat' first | assumption | apply State.setF_kept

theorem State.closeWindow_kept (s : State) (h : s.kept wait) :
    (s.closeWindow).kept wait := by
  unfold State.closeWindow
  with_reducible repeat' first | assumption | apply State.drop_kept | apply State.modHost_kept

theorem State.secDone_kept (s : State) (o : SecOp) (h : s.kept wait) :
    (s.secDone o).kept wait := by
  unfold State.secDone
  try dsimp only
  with_reducible repeat' first | assumption | apply State.closeCred_kept | apply State.closeWindow_kept | apply State.modHost_kept | apply State.setReg64_kept | apply State.setRegN_kept | split

theorem State.sessIdle_kept (s : State) (id : Nat) (t : Nat) (h : s.kept wait) :
    (s.sessIdle id t).kept wait := by
  unfold State.sessIdle
  with_reducible repeat' first | assumption | apply State.at_kept | apply State.closeSess_kept | split

theorem State.secStored_kept (s : State) (ok : Bool) (h : s.kept wait) :
    (s.secStored ok).kept wait := by
  unfold State.secStored
  with_reducible repeat' first | assumption | apply State.drop_kept | apply State.modHost_kept | apply State.raise_kept | apply State.secCounts_kept | apply State.secDone_kept | apply State.secResult_kept | split

theorem State.windowExpiry_kept (s : State) (t : Nat) (h : s.kept wait) :
    (s.windowExpiry t).kept wait := by
  unfold State.windowExpiry
  with_reducible repeat' first | assumption | apply State.at_kept | apply State.closeWindow_kept | split

theorem State.almCmd_kept (s : State) (role : Nat) (v : Nat) (h : s.kept wait) :
    (s.almCmd role v).kept wait := by
  unfold State.almCmd
  with_reducible repeat' first | assumption | apply State.modAlm_kept | apply State.raise_kept | split

theorem State.chainCtrl_kept (s : State) (v : Nat) (h : s.kept wait) :
    (s.chainCtrl v).kept wait := by
  unfold State.chainCtrl
  with_reducible repeat' first | assumption | apply State.mergeReg_kept | apply State.raise_kept | apply State.setF_kept | split

theorem State.qdbg_kept (s : State) (q : Nat) (v : Nat) (h : s.kept wait) :
    (s.qdbg q v).2.kept wait := by
  unfold State.qdbg
  with_reducible repeat' first | assumption | apply State.debugEnter_kept | apply State.debugExit_kept | apply State.debugStep_kept | split

theorem State.effect_kept (s : State) (p : Path) (role : Nat) (a : Nat) (v : Nat) (h : s.kept wait) :
    (s.effect p role a v).2.kept wait := by
  unfold State.effect
  with_reducible repeat' first | assumption | apply State.acceptStep_kept | apply State.almCmd_kept | apply State.bmca_kept | apply State.chainCtrl_kept | apply State.closeSess_kept | apply State.dieResetCmd_kept | apply State.fanCtrl_kept | apply State.harbPropose_kept | apply State.hsCmd_kept | apply State.imgCmd_kept | apply State.modHost_kept | apply State.paceHeld_kept | apply State.pairCmd_kept | apply State.putShadow_kept | apply State.qcmd_kept | apply State.qdbg_kept | apply State.restartCmd_kept | apply State.secCmd_kept | apply State.setPath_kept | apply State.svcCmd_kept | apply State.wakeReq_kept | apply State.writeFields_kept | apply ite_kept2 | intro _ | apply ite_kept | split

theorem State.applyOne_kept (s : State) (p : Path) (role : Nat) (a : Nat) (v : Nat) (h : s.kept wait) :
    (s.applyOne p role a v).2.kept wait := by
  unfold State.applyOne
  with_reducible repeat' first | assumption | apply State.badWrite_kept | apply State.classReject_kept | apply State.effect_kept | split

theorem State.effectPair_kept (s : State) (p : Path) (a : Nat) (lo : Nat) (hi : Nat) (h : s.kept wait) :
    (s.effectPair p a lo hi).kept wait := by
  unfold State.effectPair
  with_reducible repeat' first | assumption | apply State.putShadow_kept | apply State.seqFloor_kept | apply State.setPath_kept | apply State.writePairFields_kept | split

theorem State.applyPair_kept (s : State) (p : Path) (a : Nat) (lo : Nat) (hi : Nat) (h : s.kept wait) :
    (s.applyPair p a lo hi).2.kept wait := by
  unfold State.applyPair
  try dsimp only
  with_reducible repeat' first | assumption | apply State.badWrite_kept | apply State.classReject_kept | apply State.effectPair_kept | split

theorem State.dataWrite_kept (s : State) (p : Path) (a : Nat) (v : Nat) (h : s.kept wait) :
    (s.dataWrite p a v).2.kept wait := by
  unfold State.dataWrite
  try dsimp only
  with_reducible repeat' first | assumption | apply State.inc_kept | apply State.poke_kept | apply State.raise_kept | split

theorem State.dropHold_kept (s : State) (p : Path) (h : s.kept wait) :
    (s.dropHold p).kept wait := by
  unfold State.dropHold
  with_reducible repeat' first | assumption | apply State.setPath_kept

theorem State.noteFail_kept (s : State) (st : Nat) (h : s.kept wait) :
    (s.noteFail st).kept wait := by
  unfold State.noteFail
  with_reducible repeat' first | assumption | apply State.denied_kept | apply State.inc_kept | split

theorem State.pwReject_kept (s : State) (h : s.kept wait) :
    (s.pwReject).kept wait := by
  unfold State.pwReject
  with_reducible repeat' first | assumption | apply State.inc_kept | apply State.raise_kept

theorem State.tornWrite_kept (s : State) (h : s.kept wait) :
    (s.tornWrite).kept wait := by
  unfold State.tornWrite
  with_reducible repeat' first | assumption | apply State.inc_kept | apply State.raise_kept

theorem State.writeOne_kept (s : State) (p : Path) (role : Nat) (a : Nat) (v : Nat) (h : s.kept wait) :
    (s.writeOne p role a v).2.kept wait := by
  unfold State.writeOne
  try dsimp only
  with_reducible repeat' first | assumption | apply State.applyOne_kept | apply State.applyPair_kept | apply State.dataWrite_kept | apply State.dropHold_kept | apply State.noteFail_kept | apply State.pwReject_kept | apply State.setPath_kept | apply State.setRegN_kept | apply State.tornWrite_kept | split

theorem State.hostWrite_kept (s : State) (p : Path) (role : Nat) (a : Nat) (v : Nat) (h : s.kept wait) :
    (s.hostWrite p role a v).kept wait := by
  unfold State.hostWrite
  with_reducible repeat' first | assumption | apply State.inc_kept | apply State.writeOne_kept | split

theorem State.writePair_kept (s : State) (p : Path) (role : Nat) (a : Nat) (lo : Nat) (hi : Nat) (h : s.kept wait) :
    (s.writePair p role a lo hi).2.kept wait := by
  unfold State.writePair
  try dsimp only
  with_reducible repeat' first | assumption | apply State.applyPair_kept | apply State.dropHold_kept | apply State.noteFail_kept | apply State.pwReject_kept | split

theorem State.hostPair_kept (s : State) (p : Path) (role : Nat) (a : Nat) (v : Nat) (h : s.kept wait) :
    (s.hostPair p role a v).kept wait := by
  unfold State.hostPair
  with_reducible repeat' first | assumption | apply State.inc_kept | apply State.writePair_kept | split

theorem State.dataRead_kept (s : State) (p : Path) (a : Nat) (fresh : Bool) (h : s.kept wait) :
    (s.dataRead p a fresh).2.2.kept wait := by
  unfold State.dataRead
  try dsimp only
  with_reducible repeat' first | assumption | apply State.inc_kept | apply State.noteFail_kept | apply State.raise_kept | split

theorem State.readOne_kept (s : State) (p : Path) (role : Nat) (a : Nat) (fresh : Bool) (h : s.kept wait) :
    (s.readOne p role a fresh).2.2.kept wait := by
  unfold State.readOne
  try dsimp only
  with_reducible repeat' first | assumption | apply State.dataRead_kept | apply State.dropHold_kept | apply State.noteFail_kept | apply State.setPath_kept | split

theorem State.readBlock_kept (s : State) (p : Path) (role : Nat) (a : Nat) (n : Nat) (h : s.kept wait) :
    (s.readBlock p role a n).2.2.kept wait := by
  unfold State.readBlock
  try dsimp only
  with_reducible repeat' first | assumption | apply State.readOne_kept | exact (rfl : TagSt.mem _ = TagSt.mem _) | apply State.kept_mem | apply State.kept_grains | apply State.kept_tag | apply State.kept_regs | apply State.kept_quarters | apply State.kept_pending | apply Memory.wf_memClear | simp only [State.mk_kept] | apply And.intro | split | apply foldl_kept | intro _ | apply snd_kept (by assumption) | apply fst_kept (by assumption) | apply thd_kept (by assumption) | apply foldl_kept2 | apply foldl_kept3

theorem State.writeBlockWords_kept (s : State) (p : Path) (role : Nat) (a : Nat) (ws : List Nat) (h : s.kept wait) :
    (s.writeBlockWords p role a ws).2.2.kept wait := by
  unfold State.writeBlockWords
  try dsimp only
  with_reducible repeat' first | assumption | apply State.writeOne_kept | exact (rfl : TagSt.mem _ = TagSt.mem _) | apply State.kept_mem | apply State.kept_grains | apply State.kept_tag | apply State.kept_regs | apply State.kept_quarters | apply State.kept_pending | apply Memory.wf_memClear | simp only [State.mk_kept] | apply And.intro | split | apply foldl_kept | intro _ | apply snd_kept (by assumption) | apply fst_kept (by assumption) | apply thd_kept (by assumption) | apply foldl_kept2 | apply foldl_kept3

theorem State.hostWide_kept (s : State) (p : Path) (role : Nat) (a : Nat) (v : Nat) (h : s.kept wait) :
    (s.hostWide p role a v).kept wait := by
  unfold State.hostWide
  with_reducible repeat' first | assumption | apply State.inc_kept | apply State.writePair_kept | split

theorem State.hostAny_kept (s : State) (p : Path) (role : Nat) (a : Nat) (v : Nat) (hi : Option Nat) (h : s.kept wait) :
    (s.hostAny p role a v hi).kept wait := by
  unfold State.hostAny
  with_reducible repeat' first | assumption | apply State.hostWide_kept | apply State.hostWrite_kept | split

theorem State.readPair_kept (s : State) (p : Path) (role : Nat) (a : Nat) (h : s.kept wait) :
    (s.readPair p role a).2.2.kept wait := by
  unfold State.readPair
  try dsimp only
  with_reducible repeat' first | assumption | apply State.dropHold_kept | apply State.noteFail_kept | split

theorem State.hostBlock_kept (s : State) (p : Path) (role : Nat) (a : Nat) (ws : List Nat) (h : s.kept wait) :
    (s.hostBlock p role a ws).kept wait := by
  unfold State.hostBlock
  with_reducible repeat' first | assumption | apply State.inc_kept | apply State.writeBlockWords_kept | split

theorem State.rmw_kept (s : State) (p : Path) (role : Nat) (a : Nat) (mask : Nat) (v : Nat) (h : s.kept wait) :
    (s.rmw p role a mask v).2.2.kept wait := by
  unfold State.rmw
  with_reducible repeat' first | assumption | apply State.dataRead_kept | apply State.writeOne_kept

theorem State.keep_kept (s : State) (k : KeptResp) (h : s.kept wait) :
    (s.keep k).kept wait := by
  unfold State.keep
  with_reducible repeat' first | assumption | apply State.modCh_kept

theorem State.answer_kept (s : State) (p : Path) (req : Nat) (typ : Nat) (body : List Byte) (h : s.kept wait) :
    (s.answer p req typ body).kept wait := by
  unfold State.answer
  with_reducible repeat' first | assumption | apply State.keep_kept | apply State.respond_kept | split

theorem State.cmdAnswer_kept (s : State) (p : Path) (req : Nat) (rs : List (CmdEntry × Nat)) (h : s.kept wait) :
    (s.cmdAnswer p req rs).kept wait := by
  unfold State.cmdAnswer
  with_reducible repeat' first | assumption | apply State.answer_kept

theorem State.debugRead_kept (s : State) (p : Path) (role : Nat) (req : Nat) (a : Nat) (h : s.kept wait) :
    (s.debugRead p role req a).kept wait := by
  unfold State.debugRead
  with_reducible repeat' first | assumption | apply State.answer_kept | apply State.inc_kept | apply State.readOne_kept | split

theorem State.modbusOut_kept (s : State) (conn : Nat) (unit : Nat) (fc : Nat) (d : List Byte) (h : s.kept wait) :
    (s.modbusOut conn unit fc d).kept wait := by
  unfold State.modbusOut
  with_reducible repeat' first | assumption | apply State.send_kept

theorem State.modbusFail_kept (s : State) (conn : Nat) (unit : Nat) (fc : Nat) (code : Nat) (h : s.kept wait) :
    (s.modbusFail conn unit fc code).kept wait := by
  unfold State.modbusFail
  with_reducible repeat' first | assumption | apply State.modbusOut_kept

theorem State.modbusReq_kept (s : State) (conn : BitVec 3) (unit : Byte) (fc : Nat) (sys : Bool) (k : State → Nat → Nat → State) (h : s.kept wait) (hk : ∀ (y0 : State) (y1 : Nat) (y2 : Nat), y0.kept wait → (k y0 y1 y2).kept wait) :
    (s.modbusReq conn unit fc sys k).kept wait := by
  unfold State.modbusReq
  try dsimp only
  with_reducible repeat' first | assumption | apply State.modbusFail_kept | apply hk | split

theorem State.modbusWrite_kept (s : State) (p : Path) (x2 : List (Nat × Nat × Option Nat)) (x3 : State) (h : s.kept wait) (hx3 : x3.kept wait) :
    (s.modbusWrite p x2 x3).2.kept wait := by
  induction x2 generalizing x3 with
  | nil => exact hx3
  | cons a t ih =>
    unfold State.modbusWrite
    with_reducible repeat' first | assumption | apply ih | apply State.writePair_kept | apply State.writeOne_kept | apply snd_kept (by assumption) | split

theorem State.modbusSingle_kept (s : State) (conn : BitVec 3) (unit : Byte) (addr : BitVec 16) (value : BitVec 16) (h : s.kept wait) :
    (s.modbusSingle conn unit addr value).kept wait := by
  unfold State.modbusSingle
  try dsimp only
  with_reducible repeat' first | assumption | apply State.modbusFail_kept | apply State.modbusOut_kept | apply State.modbusReq_kept | apply State.modbusWrite_kept | split | dsimp only | apply foldl_kept | intro _

theorem State.modbusRead_kept (s : State) (p : Path) (x2 : List Nat) (x3 : Option (Nat × Word)) (x4 : List Byte) (x5 : State) (h : s.kept wait) (hx5 : x5.kept wait) :
    (s.modbusRead p x2 x3 x4 x5).2.kept wait := by
  induction x2 generalizing x3 x4 x5 with
  | nil => exact hx5
  | cons a t ih =>
    unfold State.modbusRead
    dsimp only
    with_reducible repeat' first | assumption | apply ih | apply State.readOne_kept | split

theorem State.modbusReads_kept (s : State) (fc : Nat) (ws : List (Nat × Nat × Nat)) (conn : BitVec 3) (unit : Byte) (addr : BitVec 16) (qty : BitVec 16) (h : s.kept wait) :
    (s.modbusReads fc ws conn unit addr qty).kept wait := by
  unfold State.modbusReads
  try dsimp only
  with_reducible repeat' first | assumption | apply State.modbusFail_kept | apply State.modbusOut_kept | apply State.modbusRead_kept | apply State.modbusReq_kept | split | dsimp only | apply foldl_kept | intro _

theorem State.modbusPut_kept (s : State) (c : Nat) (m : Nat) (vs : List Nat) (h : s.kept wait) :
    (s.modbusPut c m vs).2.kept wait := by
  unfold State.modbusPut
  with_reducible repeat' first | assumption | apply State.modbusWrite_kept | split

theorem State.modbusBoth_kept (s : State) (conn : BitVec 3) (unit : Byte) (raddr : BitVec 16) (rqty : BitVec 16) (waddr : BitVec 16) (vs : List (BitVec 16)) (h : s.kept wait) :
    (s.modbusBoth conn unit raddr rqty waddr vs).kept wait := by
  unfold State.modbusBoth
  try dsimp only
  with_reducible repeat' first | assumption | apply State.modbusFail_kept | apply State.modbusOut_kept | apply State.modbusPut_kept | apply State.modbusRead_kept | apply State.modbusReq_kept | split | dsimp only | apply foldl_kept | intro _ | apply snd_kept (by assumption)

theorem State.imageFrame_kept (s0 : State) (f : RcpFrame) (hs0 : s0.kept wait) :
    (State.imageFrame s0 f).kept wait := by
  unfold State.imageFrame
  try dsimp only
  with_reducible repeat' first | assumption | apply State.answer_kept | apply State.authCheck_kept | apply State.badFrame_kept | apply State.denied_kept | apply State.imgTransfer_kept | apply State.inc_kept | apply State.rcpIn_kept | apply State.respond_kept | apply State.sessSpent_kept | split | dsimp only | apply foldl_kept | intro _ | apply snd_kept (by assumption)

theorem State.cmdForward_kept (s : State) (p : Path) (req : Nat) (role : Nat) (group : Bool) (es : List (Nat × Nat × Nat)) (h : s.kept wait) :
    (s.cmdForward p req role group es).kept wait := by
  unfold State.cmdForward
  try dsimp only
  with_reducible repeat' first | assumption | apply State.answer_kept | apply State.denied_kept | apply State.forwardEntries_kept | split | dsimp only | apply foldl_kept | intro _

theorem State.entryIn_kept (s : State) (p : Path) (req : Nat) (role : Nat) (op : Nat) (index : Nat) (arg : Nat) (h : s.kept wait) :
    (s.entryIn p req role op index arg).kept wait := by
  unfold State.entryIn
  with_reducible repeat' first | assumption | apply State.answer_kept | apply State.cmdForward_kept | apply State.inc_kept | apply State.modAlm_kept | split

theorem State.modbusMultiple_kept (s : State) (conn : BitVec 3) (unit : Byte) (addr : BitVec 16) (vs : List (BitVec 16)) (h : s.kept wait) :
    (s.modbusMultiple conn unit addr vs).kept wait := by
  unfold State.modbusMultiple
  try dsimp only
  with_reducible repeat' first | assumption | apply State.modbusFail_kept | apply State.modbusOut_kept | apply State.modbusPut_kept | apply State.modbusReq_kept | split | dsimp only | apply foldl_kept | intro _ | apply snd_kept (by assumption)

theorem State.regDo_kept (s : State) (p : Path) (role : Nat) (op : Nat) (width : Nat) (count : Nat) (addr : Nat) (d : List Byte) (h : s.kept wait) :
    (s.regDo p role op width count addr d).2.2.2.kept wait := by
  unfold State.regDo
  with_reducible repeat' first | assumption | apply State.readBlock_kept | apply State.readOne_kept | apply State.readPair_kept | apply State.rmw_kept | apply State.writeBlockWords_kept | apply State.writeOne_kept | apply State.writePair_kept | split

theorem State.mailboxServe_kept (s : State) (h : s.kept wait) :
    (s.mailboxServe).kept wait := by
  unfold State.mailboxServe
  try dsimp only
  with_reducible repeat' first | assumption | apply State.showMbx_kept | apply State.inc_kept | apply State.modTag_kept | apply State.raise_kept | apply State.readBlock_kept | apply State.setRegN_kept | apply State.tagPutRecord_kept | split | dsimp only

theorem State.commandFrame_kept (s0 : State) (f : RcpFrame) (hs0 : s0.kept wait) :
    (State.commandFrame s0 f).kept wait := by
  unfold State.commandFrame
  try dsimp only
  with_reducible repeat' first | assumption | apply State.answer_kept | apply State.authCheck_kept | apply State.badFrame_kept | apply State.cmdForward_kept | apply State.inc_kept | apply State.modAlm_kept | apply State.pwFrame_kept | apply State.rcpIn_kept | apply State.respond_kept | apply State.sessSpent_kept | split | dsimp only | apply foldl_kept | intro _ | apply snd_kept (by assumption)

theorem State.register_kept (s0 : State) (k : Nat) (f : RcpFrame) (hs0 : s0.kept wait) :
    (State.register s0 k f).kept wait := by
  unfold State.register
  try dsimp only
  with_reducible repeat' first | assumption | apply State.answer_kept | apply State.authCheck_kept | apply State.badFrame_kept | apply State.inc_kept | apply State.rcpIn_kept | apply State.regDo_kept | apply State.respond_kept | apply State.sessSpent_kept | split | dsimp only | apply foldl_kept | intro _ | apply snd_kept (by assumption)

theorem State.selectVariant_kept (s : State) (v : Nat) (h : s.kept wait) :
    (s.selectVariant v).kept wait := by
  unfold State.selectVariant
  with_reducible repeat' first | assumption | apply State.adjustDies_kept | apply State.beginLoad_kept | apply State.drop_kept | apply State.modImg_kept | apply State.raise_kept | apply State.showConfig_kept

theorem State.lossSteps_kept (s : State) (pairAllowed : Bool) (h : s.kept wait) :
    (s.lossSteps pairAllowed).2.kept wait := by
  unfold State.lossSteps
  try dsimp only
  with_reducible repeat' first | assumption | apply State.modPair_kept | apply State.raise_kept | apply State.selectVariant_kept | apply State.stopAll_kept | split

theorem State.reconfigure_kept (s : State) (h : s.kept wait) :
    (s.reconfigure).kept wait := by
  unfold State.reconfigure
  try dsimp only
  with_reducible repeat' first | assumption | apply State.event_kept | apply State.lossSteps_kept | apply State.modP_kept | apply State.modR_kept | apply State.raise_kept | apply State.selectVariant_kept | apply State.setCapacity_kept | apply State.setRegN_kept | split | dsimp only | apply foldl_kept | intro _

theorem State.answerFrames_kept (s : State) (rs : List (CmdEntry × Nat)) (h : s.kept wait) :
    (s.answerFrames rs).kept wait := by
  unfold State.answerFrames
  try dsimp only
  with_reducible repeat' first | assumption | apply State.cmdAnswer_kept | split | dsimp only | apply foldl_kept | intro _

theorem State.emptyJournals_kept (s : State) (h : s.kept wait) :
    (s.emptyJournals).kept wait := by
  unfold State.emptyJournals
  try dsimp only
  with_reducible repeat' first | assumption | apply State.keepBanks_kept | split | exact (rfl : TagSt.mem _ = TagSt.mem _) | apply State.kept_mem | apply State.kept_grains | apply State.kept_tag | apply State.kept_regs | apply State.kept_quarters | apply State.kept_pending | simp only [State.mk_kept] | apply And.intro

theorem State.endBringup_kept (s : State) (h : s.kept wait) :
    (s.endBringup).kept wait := by
  unfold State.endBringup
  with_reducible repeat' first | assumption | apply State.fresh_kept | apply State.modHost_kept | apply State.setF_kept | apply State.setRegN_kept | split

theorem State.endEpoch_kept (s : State) (skip : Bool) (h : s.kept wait) :
    (s.endEpoch skip).kept wait := by
  unfold State.endEpoch
  try dsimp only
  with_reducible repeat' first | assumption | apply State.drop_kept | apply State.modQ_kept | apply State.modR_kept | apply State.modT_kept | apply State.setF_kept | split | dsimp only | apply foldl_kept | intro _

theorem State.haltQuarter_kept (s : State) (q : Nat) (h : s.kept wait) :
    (s.haltQuarter q).kept wait := by
  unfold State.haltQuarter
  try dsimp only
  with_reducible repeat' first | assumption | apply State.abandonQ_kept | apply State.loseQ_kept | apply State.modR_kept | apply State.raise_kept | apply State.setQState_kept | split

theorem State.faultRuns_kept (s : State) (first : Option Nat) (h : s.kept wait) :
    (s.faultRuns first).kept wait := by
  unfold State.faultRuns
  try dsimp only
  with_reducible repeat' first | assumption | apply State.haltQuarter_kept | apply State.inc_kept | apply State.modQ_kept | split | dsimp only | apply foldl_kept | intro _

theorem State.copySets_kept (s : State) (t : State) (h : s.kept wait) (ht : t.kept wait) :
    (s.copySets t).kept wait := by
  unfold State.copySets
  try dsimp only
  with_reducible repeat' first | assumption | apply State.putEntry_kept | split | dsimp only | apply foldl_kept | intro _

theorem State.digestDiffers_kept (s : State) (n : Nat) (own : List Byte) (theirs : List Byte) (nondet : Bool) (h : s.kept wait) :
    (s.digestDiffers n own theirs nondet).kept wait := by
  unfold State.digestDiffers
  with_reducible repeat' first | assumption | apply State.cableSend_kept | apply State.inc_kept | apply State.raise_kept | apply State.startSuspect_kept | split

theorem State.applyEntries_kept (x : State × List (CmdEntry × Nat)) (es : List CmdEntry) (hx : x.1.kept wait) :
    (State.applyEntries x es).1.kept wait := by
  unfold State.applyEntries
  refine foldl_kept1 ?_ _ _ hx
  intro p e hp
  with_reducible repeat' first | assumption | apply State.applyPanel_kept | apply State.denied_kept | apply State.applyEntry_kept | split | dsimp only

theorem State.applyResults_kept (s : State) (es : List (Nat × Nat × Nat)) (h : s.kept wait) :
    (s.applyResults es).kept wait := by
  unfold State.applyResults
  try dsimp only
  with_reducible repeat' first | assumption | apply State.aoWrite_kept | apply State.modIo_kept | apply State.setPair_kept | split | dsimp only | apply foldl_kept | intro _

theorem State.followState_kept (s : State) (n : Nat) (fs : List (Nat × List Byte)) (ran : Bool) (h : s.kept wait) :
    (s.followState n fs ran).kept wait := by
  unfold State.followState
  try dsimp only
  with_reducible repeat' first | assumption | apply State.aiCommit_kept | apply State.alarmEval_kept | apply State.applyEntries_kept | apply State.applyResults_kept | apply State.radioCommitEntry_kept | apply State.setEpoch_kept | split | dsimp only | apply foldl_kept | intro _

theorem State.followOne_kept (s : State) (n : Nat) (fs : List (Nat × List Byte)) (rest : List (Nat × List (Nat × List Byte))) (h : s.kept wait) :
    (s.followOne n fs rest).kept wait := by
  unfold State.followOne
  try dsimp only
  with_reducible repeat' first | assumption | apply State.applyBlocks_kept | apply State.applyHubset_kept | apply State.copySets_kept | apply State.digestDiffers_kept | apply State.emptyJournals_kept | apply State.followState_kept | apply State.modPair_kept | apply State.setReg64_kept | split | dsimp only | apply foldl_kept | intro _

theorem State.followAll_kept (x0 : Nat) (x1 : State) (hx1 : x1.kept wait) :
    (State.followAll x0 x1).kept wait := by
  induction x0 generalizing x1 with
  | zero => exact hx1
  | succ k ih =>
    unfold State.followAll
    with_reducible repeat' first | assumption | apply ih | apply State.followOne_kept | split | dsimp only

theorem State.followCommit_kept (s : State) (h : s.kept wait) :
    (s.followCommit).kept wait := by
  unfold State.followCommit
  try dsimp only
  with_reducible repeat' first | assumption | apply State.followAll_kept | apply State.modPair_kept | apply State.pairFollow_kept | apply State.undoEpoch_kept | split

theorem State.pairEnd_kept (s : State) (n : Nat) (activation : Bool) (h : s.kept wait) :
    (s.pairEnd n activation).kept wait := by
  unfold State.pairEnd
  try dsimp only
  with_reducible repeat' first | assumption | apply State.raise_kept | apply State.armCommit_kept | apply State.beginRelease_kept | apply State.cableSend_kept | apply State.dropReplay_kept | apply State.modPair_kept | apply State.pairOn_kept | apply State.renew_kept | apply State.selectVariant_kept | apply State.setHealth_kept | apply State.takeback_kept | split

theorem State.sleepQuarters_kept (s : State) (n : Nat) (h : s.kept wait) :
    (s.sleepQuarters n).kept wait := by
  unfold State.sleepQuarters
  try dsimp only
  with_reducible repeat' first | assumption | apply State.modH_kept | apply State.setQState_kept | split | dsimp only | apply foldl_kept | intro _

theorem State.writeCopies_kept (s : State) (n : Nat) (skip : Bool) (h : s.kept wait) :
    (s.writeCopies n skip).kept wait := by
  unfold State.writeCopies
  with_reducible repeat' first | assumption | apply State.modR_kept | apply State.setReg64_kept | apply State.setRegN_kept

theorem State.commitClose_kept (s : State) (skip : Bool) (own : Bool) (act : Bool) (rose : Bool) (first : Option Nat) (n : Nat) (changed : List Nat) (rs : List (CmdEntry × Nat)) (h : s.kept wait) :
    (s.commitClose skip own act rose first n changed rs).kept wait := by
  unfold State.commitClose
  dsimp only
  with_reducible repeat' first | assumption | apply State.alarmRefresh_kept | apply State.answerFrames_kept | apply State.applyQcmd_kept | apply State.applySvc_kept | apply State.beginDieResets_kept | apply State.callChanges_kept | apply State.debugExit_kept | apply State.emptyJournals_kept | apply State.endBringup_kept | apply State.endEpoch_kept | apply State.faultRuns_kept | apply State.followCommit_kept | apply State.inc_kept | apply State.modAlm_kept | apply State.modP_kept | apply State.modPair_kept | apply State.pace_kept | apply State.pairEnd_kept | apply State.rails_kept | apply State.raise_kept | apply State.retireAsked_kept | apply State.sendAlarms_kept | apply State.sleepQuarters_kept | apply State.wakeReq_kept | apply State.writeCopies_kept | apply ite_kept | apply foldl_kept

theorem State.applyShadows_kept (s : State) (n : Nat) (h : s.kept wait) :
    (s.applyShadows n).kept wait := by
  unfold State.applyShadows
  try dsimp only
  with_reducible repeat' first | assumption | apply State.applyStaging_kept | apply State.modHost_kept | apply State.takeReg_kept | split | dsimp only | apply foldl_kept | intro _

theorem State.applyCommands_kept (s : State) (n : Nat) (h : s.kept wait) :
    (s.applyCommands n).1.kept wait := by
  unfold State.applyCommands
  with_reducible repeat' first | assumption | apply State.applyEntries_kept | apply State.applyShadows_kept | apply State.modAlm_kept

theorem State.freshCalls_kept (s : State) (h : s.kept wait) :
    (s.freshCalls).kept wait := by
  unfold State.freshCalls
  try dsimp only
  with_reducible repeat' first | assumption | apply State.modAlm_kept | apply State.raise_kept | apply State.setRegN_kept | split | dsimp only | apply foldl_kept | intro _

theorem State.applyEpoch_kept (s : State) (n : Nat) (res : List (Nat × Nat × Nat)) (act : Bool) (h : s.kept wait) :
    (s.applyEpoch n res act).1.kept wait := by
  unfold State.applyEpoch
  try dsimp only
  with_reducible repeat' first | assumption | apply State.aiCommitAll_kept | apply State.alarmEval_kept | apply State.applyCommands_kept | apply State.applyResults_kept | apply State.diCommit_kept | apply State.freshCalls_kept | apply State.imageRegs_kept | apply State.ldCommit_kept | apply State.radioCommit_kept | split

theorem State.freePeaks_kept (s : State) (h : s.kept wait) :
    (s.freePeaks).kept wait := by
  unfold State.freePeaks
  try dsimp only
  with_reducible repeat' first | assumption | apply State.fresh_kept | apply State.setRegN_kept | split | dsimp only | apply foldl_kept | intro _

theorem State.keepQuarter_kept (s : State) (q : Nat) (h : s.kept wait) :
    (s.keepQuarter q).kept wait := by
  unfold State.keepQuarter
  with_reducible repeat' first | assumption | apply State.addReg_kept | apply State.setQState_kept | apply State.setRegN_kept

theorem State.resolveLoss_kept (s : State) (pairAllowed : Bool) (h : s.kept wait) :
    (s.resolveLoss pairAllowed).kept wait := by
  unfold State.resolveLoss
  try dsimp only
  with_reducible repeat' first | assumption | apply State.event_kept | apply State.lossSteps_kept | apply State.modR_kept | apply State.raise_kept | apply State.setCapacity_kept | apply State.setRegN_kept | split | dsimp only | apply foldl_kept | intro _

theorem State.commitBody_kept (s : State) (skip : Bool) (first : Option Nat) (h : s.kept wait) :
    (s.commitBody skip first).kept wait := by
  unfold State.commitBody
  dsimp only
  with_reducible repeat' first | assumption | apply State.applyEpoch_kept | apply State.beginActivation_kept | apply State.commitClose_kept | apply State.endActivation_kept | apply State.freePeaks_kept | apply State.keepQuarter_kept | apply State.modPair_kept | apply State.raise_kept | apply State.reconfigure_kept | apply State.resolveLoss_kept | apply State.retireDead_kept | apply ite_kept | apply foldl_kept

theorem State.discardRun_kept (s : State) (h : s.kept wait) :
    (s.discardRun).kept wait := by
  unfold State.discardRun
  try dsimp only
  with_reducible repeat' first | assumption | apply State.modQ_kept | apply State.undoEpoch_kept | split | dsimp only | apply foldl_kept | intro _

theorem State.askBlocks_kept (s : State) (h : s.kept wait) :
    (s.askBlocks).kept wait := by
  unfold State.askBlocks
  try dsimp only
  with_reducible repeat' first | assumption | apply State.cableSend_kept | split | dsimp only | apply foldl_kept | intro _

theorem State.writeLog_kept (s : State) (n : Nat) (log : List Byte) (h : s.kept wait) :
    (s.writeLog n log).kept wait := by
  unfold State.writeLog
  try dsimp only
  with_reducible repeat' first | assumption | apply State.poke_kept | apply State.setPoison_kept | split | dsimp only | apply foldl_kept | intro _

theorem logAll_kept (f : State → Nat → List Byte × State) (cs : List Nat) (s : State) (hf : ∀ (y0 : State) (y1 : Nat), y0.kept wait → (f y0 y1).2.kept wait) (h : s.kept wait) :
    (logAll f cs s).2.kept wait := by
  unfold logAll
  try dsimp only
  with_reducible repeat' first | assumption | apply hf | exact (rfl : TagSt.mem _ = TagSt.mem _) | apply State.kept_mem | apply State.kept_grains | apply State.kept_tag | apply State.kept_regs | apply State.kept_quarters | apply State.kept_pending | apply Memory.wf_memClear | simp only [State.mk_kept] | apply And.intro | split | apply foldl_kept | intro _ | apply snd_kept (by assumption) | apply fst_kept (by assumption) | apply thd_kept (by assumption) | apply foldl_kept2

theorem State.closeLog_kept (s : State) (n : Nat) (t : Nat) (h : s.kept wait) :
    (s.closeLog n t).kept wait := by
  unfold State.closeLog
  try dsimp only
  with_reducible repeat' first | assumption | apply State.aiLog_kept | apply State.at_kept | apply State.diLog_kept | apply State.ldLog_kept | apply State.modIo_kept | apply State.modR_kept | apply State.modT_kept | apply State.radioLog_kept | apply State.setEpoch_kept | apply State.writeLog_kept | apply logAll_kept | split | dsimp only | apply foldl_kept | intro _

theorem State.openEpoch_kept (s : State) (h : s.kept wait) :
    (s.openEpoch).kept wait := by
  unfold State.openEpoch
  try dsimp only
  with_reducible repeat' first | assumption | apply State.cableAll_kept | apply State.drop_kept | apply State.enterStates_kept | apply State.modH_kept | apply State.modPair_kept | apply State.rails_kept | apply State.setQState_kept | split | dsimp only | apply foldl_kept | intro _

theorem State.beginEpoch_kept (s : State) (n : Nat) (h : s.kept wait) :
    (s.beginEpoch n).kept wait := by
  unfold State.beginEpoch
  with_reducible repeat' first | assumption | apply State.at_kept | apply State.closeLog_kept | apply State.enterHarbour_kept | apply State.modH_kept | apply State.modT_kept | apply State.openEpoch_kept | split

theorem State.firstBegins_kept (s : State) (h : s.kept wait) :
    (s.firstBegins).kept wait := by
  unfold State.firstBegins
  try dsimp only
  with_reducible repeat' first | assumption | apply State.beginEpoch_kept | apply State.event_kept | apply State.modR_kept | split | dsimp only | apply foldl_kept | intro _

theorem State.extendEpoch_kept (s : State) (h : s.kept wait) :
    (s.extendEpoch).kept wait := by
  unfold State.extendEpoch
  with_reducible repeat' first | assumption | apply State.inc_kept | apply State.modT_kept | apply State.raise_kept

theorem State.commitAbandon_kept (s : State) (h : s.kept wait) :
    (s.commitAbandon).kept wait := by
  unfold State.commitAbandon
  with_reducible repeat' first | assumption | apply State.at_kept | apply State.detect_kept | apply State.raise_kept | split

theorem State.afterCommit_kept (s : State) (n : Nat) (e : Nat) (passed : Bool) (ovr : Bool) (h : s.kept wait) :
    (s.afterCommit n e passed ovr).kept wait := by
  unfold State.afterCommit
  try dsimp only
  with_reducible repeat' first | assumption | apply State.at_kept | apply State.closeLog_kept | apply State.inc_kept | apply State.modT_kept | apply State.openEpoch_kept | apply State.raise_kept | split

theorem State.commitAt_kept (s : State) (skip : Bool) (first : Option Nat) (t : Nat) (dur : Nat) (h : s.kept wait) :
    (s.commitAt skip first t dur).kept wait := by
  unfold State.commitAt
  with_reducible repeat' first | assumption | apply State.afterCommit_kept | apply State.at_kept | apply State.commitBody_kept | apply State.modT_kept | split

theorem State.replayEnded_kept (s : State) (ok : Bool) (h : s.kept wait) :
    (s.replayEnded ok).kept wait := by
  unfold State.replayEnded
  try dsimp only
  with_reducible repeat' first | assumption | apply State.modPair_kept | apply State.setF_kept | apply State.setQState_kept | split | dsimp only | apply foldl_kept | intro _

theorem State.rollbackComplete_kept (s : State) (t : Nat) (dur : Nat) (h : s.kept wait) :
    (s.rollbackComplete t dur).kept wait := by
  unfold State.rollbackComplete
  try dsimp only
  with_reducible repeat' first | assumption | apply State.at_kept | apply State.commitAt_kept | apply State.drop_kept | apply State.loseQ_kept | apply State.modR_kept | apply State.replayEnded_kept | apply State.startSync_kept | split | dsimp only | apply foldl_kept | intro _

theorem State.gapped_kept (s : State) (h : s.kept wait) :
    (s.gapped).kept wait := by
  unfold State.gapped
  try dsimp only
  with_reducible repeat' first | assumption | apply State.modQ_kept | split | dsimp only | apply foldl_kept | intro _

theorem State.rollBack_kept (s : State) (h : s.kept wait) :
    (s.rollBack).kept wait := by
  unfold State.rollBack
  try dsimp only
  with_reducible repeat' first | assumption | apply State.askBlocks_kept | apply State.modT_kept | apply State.startRollback_kept | split

theorem State.epochBoundary_kept (s : State) (h : s.kept wait) :
    (s.epochBoundary).kept wait := by
  unfold State.epochBoundary
  try dsimp only
  with_reducible repeat' first | assumption | apply State.at_kept | apply State.beginEpoch_kept | apply State.modT_kept | apply State.raise_kept | split

theorem State.chargeLatent_kept (s : State) (h : s.kept wait) :
    (s.chargeLatent).kept wait := by
  unfold State.chargeLatent
  try dsimp only
  with_reducible repeat' first | assumption | apply State.chargeQ_kept | apply State.modR_kept | split | dsimp only | apply foldl_kept

theorem State.skipAt_kept (s : State) (first : Option Nat) (t : Nat) (dur : Nat) (h : s.kept wait) :
    (s.skipAt first t dur).kept wait := by
  unfold State.skipAt
  with_reducible repeat' first | assumption | apply State.commitAt_kept | apply State.discardRun_kept

theorem State.commitResults_kept (s : State) (t : Nat) (dur : Nat) (h : s.kept wait) :
    (s.commitResults t dur).kept wait := by
  unfold State.commitResults
  try dsimp only
  with_reducible repeat' first | assumption | apply State.at_kept | apply State.commitAt_kept | apply State.detect_kept | apply State.pwMismatch_kept | apply State.skipAt_kept | split | dsimp only | apply foldl_kept | intro _

theorem State.runLaunch_kept (s : State) (dur : Nat) (h : s.kept wait) :
    (s.runLaunch dur).kept wait := by
  unfold State.runLaunch
  try dsimp only
  with_reducible repeat' first | assumption | apply State.commitAt_kept | apply State.gapped_kept | apply State.launchAll_kept | apply State.modT_kept | apply State.skipAt_kept | split

theorem State.deadlineHit_kept (s : State) (dur : Nat) (h : s.kept wait) :
    (s.deadlineHit dur).kept wait := by
  unfold State.deadlineHit
  try dsimp only
  with_reducible repeat' first | assumption | apply State.at_kept | apply State.extendEpoch_kept | apply State.skipAt_kept | split

theorem State.firstEpoch_kept (s : State) (h : s.kept wait) :
    (s.firstEpoch).kept wait := by
  unfold State.firstEpoch
  with_reducible repeat' first | assumption | apply State.firstBegins_kept | split

theorem State.noProgress_kept (s : State) (q : Nat) (idle : Nat) (h : s.kept wait) :
    (s.noProgress q idle).kept wait := by
  unfold State.noProgress
  with_reducible repeat' first | assumption | apply State.hwFault_kept | split

theorem State.skipNow_kept (s : State) (first : Option Nat) (h : s.kept wait) :
    (s.skipNow first).kept wait := by
  unfold State.skipNow
  with_reducible repeat' first | assumption | apply State.afterCommit_kept | apply State.commitBody_kept | apply State.discardRun_kept | apply State.fresh_kept

theorem State.endStopped_kept (s : State) (why : Stop) (h : s.kept wait) :
    (s.endStopped why).kept wait := by
  unfold State.endStopped
  with_reducible repeat' first | assumption | apply State.event_kept | apply State.modR_kept | apply State.raise_kept | apply State.replayEnded_kept | apply State.skipNow_kept | apply State.undoEpoch_kept | split

theorem State.settle_kept (s : State) (h : s.kept wait) :
    (s.settle).kept wait := by
  unfold State.settle
  try dsimp only
  with_reducible repeat' first | assumption | apply State.chargeLatent_kept | apply State.endStopped_kept | apply State.rollBack_kept | split

theorem State.doneReport_kept (s : State) (q : Nat) (t : Nat) (dur : Nat) (h : s.kept wait) :
    (s.doneReport q t dur).kept wait := by
  unfold State.doneReport
  try dsimp only
  with_reducible repeat' first | assumption | apply State.at_kept | apply State.commitResults_kept | apply State.modQ_kept | apply State.progFault_kept | apply State.replayEnded_kept | apply State.setQState_kept | split

theorem State.replayStart_kept (s : State) (dur : Nat) (h : s.kept wait) :
    (s.replayStart dur).kept wait := by
  unfold State.replayStart
  with_reducible repeat' first | assumption | apply State.at_kept | apply State.commitAt_kept | apply State.inc_kept | apply State.modR_kept | apply State.replayLaunch_kept | apply State.replayOn_kept | apply State.setF_kept | split

theorem State.startBringup_kept (s : State) (cause : Nat) (h : s.kept wait) :
    (s.startBringup cause).kept wait := by
  unfold State.startBringup
  with_reducible repeat' first | assumption | apply State.fresh_kept | apply State.incSat_kept | apply State.modP_kept | apply State.setF_kept | apply State.setRegN_kept

theorem State.halt_kept (s : State) (code : Nat) (h : s.kept wait) :
    (s.halt code).kept wait := by
  unfold State.halt
  with_reducible repeat' first | assumption | apply State.setF_kept

theorem State.noImage_kept (s : State) (h : s.kept wait) :
    (s.noImage).kept wait := by
  unfold State.noImage
  try dsimp only
  with_reducible repeat' first | assumption | apply State.considerStage_kept | apply State.halt_kept | apply State.raise_kept | split

theorem State.bootLosses_kept (s : State) (h : s.kept wait) :
    (s.bootLosses).kept wait := by
  unfold State.bootLosses
  try dsimp only
  with_reducible repeat' first | assumption | apply State.lossSteps_kept | apply State.modR_kept | apply State.raise_kept | apply State.setCapacity_kept | apply State.setRegN_kept | split | dsimp only | apply foldl_kept | intro _

theorem State.loadHub_kept (s : State) (h : s.kept wait) :
    (s.loadHub).kept wait := by
  unfold State.loadHub
  try dsimp only
  with_reducible repeat' first | assumption | apply State.applyRegset_kept | apply State.restartPoints_kept | apply State.showPolicy_kept | split | dsimp only | apply foldl_kept | intro _

theorem State.sectionLost_kept (s : State) (item : Nat) (h : s.kept wait) :
    (s.sectionLost item).kept wait := by
  unfold State.sectionLost
  try dsimp only
  with_reducible repeat' first | assumption | apply State.dieOff_kept | apply State.drop_kept | apply State.imgFail_kept | apply State.modImg_kept | apply State.modP_kept | apply State.raise_kept | apply State.setF_kept | split | dsimp only | apply foldl_kept | intro _

theorem State.stepEnds_kept (s : State) (k : Nat) (ms : Nat) (next : Nat) (h : s.kept wait) :
    (s.stepEnds k ms next).kept wait := by
  unfold State.stepEnds
  with_reducible repeat' first | assumption | apply State.modP_kept | apply State.setF_kept | apply State.setRegN_kept

theorem State.loadComplete_kept (s : State) (ms : Nat) (copy : Nat) (h : s.kept wait) :
    (s.loadComplete ms copy).kept wait := by
  unfold State.loadComplete
  try dsimp only
  with_reducible repeat' first | assumption | apply State.bootLosses_kept | apply State.drop_kept | apply State.endLoading_kept | apply State.loadAll_kept | apply State.loadHub_kept | apply State.raise_kept | apply State.sectionLost_kept | apply State.stepEnds_kept | split

theorem State.hubReset_kept (s : State) (cause : Nat) (h : s.kept wait) :
    (s.hubReset cause).kept wait := by
  unfold State.hubReset
  with_reducible repeat' first | assumption | apply State.rebooted_kept | apply State.startBringup_kept

theorem State.logNow_kept (s : State) (kind : Nat) (body : List Byte) (h : s.kept wait) :
    (s.logNow kind body).kept wait := by
  unfold State.logNow
  with_reducible repeat' first | assumption | apply State.inc_kept | apply State.putLog_kept | split

theorem State.lockstep_kept (s : State) (logged : Bool) (h : s.kept wait) :
    (s.lockstep logged).kept wait := by
  unfold State.lockstep
  with_reducible repeat' first | assumption | apply State.hubReset_kept | apply State.logNow_kept | split

theorem State.powerLoss_kept (s : State) (thermal : Bool) (h : s.kept wait) :
    (s.powerLoss thermal).kept wait := by
  unfold State.powerLoss
  try dsimp only
  with_reducible repeat' first | assumption | apply State.fresh_kept | apply State.logNow_kept | apply State.modP_kept | apply State.rebooted_kept | apply State.setF_kept | split | dsimp only | apply foldl_kept | intro _

theorem State.temperature_kept (s : State) (k : Nat) (t : Int) (h : s.kept wait) :
    (s.temperature k t).kept wait := by
  unfold State.temperature
  with_reducible repeat' first | assumption | apply State.dieTrip_kept | apply State.inc_kept | apply State.powerLoss_kept | apply State.takeTemp_kept | split

theorem State.marchFound_kept (s : State) (d : Nat) (bad : List Nat) (h : s.kept wait) :
    (s.marchFound d bad).kept wait := by
  unfold State.marchFound
  with_reducible repeat' first | assumption | apply State.modP_kept

theorem State.bringupOn_kept (s : State) (h : s.kept wait) :
    (s.bringupOn).kept wait := by
  unfold State.bringupOn
  with_reducible repeat' first | assumption | apply State.beginLoad_kept | apply State.fresh_kept | apply State.stepEnds_kept | split

theorem State.remarch_kept (s : State) (q : Nat) (h : s.kept wait) :
    (s.remarch q).kept wait := by
  unfold State.remarch
  try dsimp only
  with_reducible repeat' first | assumption | apply State.setGState_kept | apply State.setRegN_kept | exact (rfl : TagSt.mem _ = TagSt.mem _) | apply State.kept_mem | apply State.kept_grains | apply State.kept_tag | apply State.kept_regs | apply State.kept_quarters | apply State.kept_pending | apply Memory.wf_memClear | simp only [State.mk_kept] | apply And.intro | split | apply foldl_kept | intro _

theorem State.dieFinish_kept (s : State) (d : Nat) (h : s.kept wait) :
    (s.dieFinish d).kept wait := by
  unfold State.dieFinish
  try dsimp only
  with_reducible repeat' first | assumption | apply State.marchFails_kept | apply State.modP_kept | apply State.placeSpares_kept | apply State.refillDie_kept | apply State.remarch_kept | split | dsimp only | apply foldl_kept | intro _

theorem State.trainOn_kept (s : State) (h : s.kept wait) :
    (s.trainOn).kept wait := by
  unfold State.trainOn
  try dsimp only
  with_reducible repeat' first | assumption | apply State.bringupOn_kept | apply State.dieFinish_kept | split | dsimp only | apply foldl_kept

theorem State.zeroFilled_kept (s : State) (d : Nat) (bad : List Nat) (h : s.kept wait) :
    (s.zeroFilled d bad).kept wait := by
  unfold State.zeroFilled
  with_reducible repeat' first | assumption | apply State.marchFound_kept | apply State.setF_kept | apply State.trainOn_kept | apply State.clearDie_kept | split

theorem State.noLinkTimeout_kept (s : State) (t : Nat) (h : s.kept wait) :
    (s.noLinkTimeout t).kept wait := by
  unfold State.noLinkTimeout
  with_reducible repeat' first | assumption | apply State.at_kept | apply State.enterFree_kept | split

theorem State.bootImage_kept (s : State) (a : Nat) (c : RunCfg) (fell : Bool) (h : s.kept wait) :
    (s.bootImage a c fell).kept wait := by
  unfold State.bootImage
  try dsimp only
  with_reducible repeat' first | assumption | apply State.modImg_kept | apply State.modTag_kept | apply State.raise_kept | apply State.setF_kept | apply State.showConfig_kept | split | dsimp only

theorem State.watchdog_kept (s : State) (h : s.kept wait) :
    (s.watchdog).kept wait := by
  unfold State.watchdog
  with_reducible repeat' first | assumption | apply State.hubReset_kept | split

theorem State.chainRestart_kept (s : State) (h : s.kept wait) :
    (s.chainRestart).kept wait := by
  unfold State.chainRestart
  try dsimp only
  with_reducible repeat' first | assumption | apply State.hubReset_kept | apply State.logNow_kept | apply State.modP_kept | apply State.stopAll_kept | split | dsimp only | apply foldl_kept | intro _

theorem State.powerOn_kept (s : State) (cause : Nat) (h : s.kept wait) :
    (s.powerOn cause).kept wait := by
  unfold State.powerOn
  with_reducible repeat' first | assumption | apply State.rebooted_kept | apply State.startBringup_kept

theorem State.thermalRestart_kept (s : State) (t : Int) (h : s.kept wait) :
    (s.thermalRestart t).kept wait := by
  unfold State.thermalRestart
  with_reducible repeat' first | assumption | apply State.powerOn_kept | split

theorem State.memTrained_kept (s : State) (d : Nat) (bad : List Nat) (h : s.kept wait) :
    (s.memTrained d bad).kept wait := by
  unfold State.memTrained
  with_reducible repeat' first | assumption | apply State.marchFound_kept | apply State.modP_kept | apply State.setF_kept | apply State.trainOn_kept | split

theorem State.powerDies_kept (s : State) (h : s.kept wait) :
    (s.powerDies).kept wait := by
  unfold State.powerDies
  try dsimp only
  with_reducible repeat' first | assumption | apply State.dieUp_kept | split | dsimp only | apply foldl_kept

theorem State.readImage_kept (s : State) (i : Nat) (b : List Byte) (base : Option (List Byte)) (one : Nat) (both : Nat) (h : s.kept wait) :
    (s.readImage i b base one both).2.kept wait := by
  unfold State.readImage
  try dsimp only
  with_reducible repeat' first | assumption | apply State.imgFail_kept | apply State.raise_kept | split

theorem State.trySlot_kept (s : State) (a : Nat) (one : Nat) (both : Nat) (h : s.kept wait) :
    (s.trySlot a one both).2.kept wait := by
  unfold State.trySlot
  try dsimp only
  with_reducible repeat' first | assumption | apply State.readImage_kept | split

theorem State.imageStep_kept (s : State) (ms : Nat) (one : Nat) (both : Nat) (h : s.kept wait) :
    (s.imageStep ms one both).kept wait := by
  unfold State.imageStep
  try dsimp only
  with_reducible repeat' first | assumption | apply State.bootImage_kept | apply State.bringupOn_kept | apply State.noImage_kept | apply State.powerDies_kept | apply State.stepEnds_kept | apply State.trySlot_kept | split | dsimp only | apply foldl_kept | intro _ | apply snd_kept (by assumption)

theorem State.tick_kept (s : State) (h : s.kept wait) :
    (s.tick).kept wait := by
  unfold State.tick
  with_reducible repeat' first | assumption | apply State.at_kept | split

theorem State.powerGood_kept (s : State) (h : s.kept wait) :
    (s.powerGood).kept wait := by
  unfold State.powerGood
  with_reducible repeat' first | assumption | apply State.powerOn_kept | split

theorem State.portsOpen_kept (s : State) (ms : Nat) (h : s.kept wait) :
    (s.portsOpen ms).kept wait := by
  unfold State.portsOpen
  try dsimp only
  with_reducible repeat' first | assumption | apply State.at_kept | apply State.modCh_kept | apply State.modP_kept | apply State.modPair_kept | apply State.raise_kept | apply State.setF_kept | apply State.setRegN_kept | split

theorem State.portsReady_kept (s : State) (ms : Nat) (h : s.kept wait) :
    (s.portsReady ms).kept wait := by
  unfold State.portsReady
  with_reducible repeat' first | assumption | apply State.portsOpen_kept | split

theorem State.pfail_kept (s : State) (h : s.kept wait) :
    (s.pfail).kept wait := by
  unfold State.pfail
  with_reducible repeat' first | assumption | apply State.incSat_kept | apply State.powerLoss_kept | apply State.raise_kept | split

theorem State.pfailRecovery_kept (s : State) (h : s.kept wait) :
    (s.pfailRecovery).kept wait := by
  unfold State.pfailRecovery
  with_reducible repeat' first | assumption | apply State.powerOn_kept | split

theorem State.loaderRuns_kept (s : State) (ms : Nat) (h : s.kept wait) :
    (s.loaderRuns ms).kept wait := by
  unfold State.loaderRuns
  with_reducible repeat' first | assumption | apply State.showMbx_kept | apply State.considerStage_kept | apply State.fresh_kept | apply State.loadFaultLog_kept | apply State.putLog_kept | apply State.raise_kept | apply State.rewriteIdentity_kept | apply State.setRegN_kept | apply State.stepEnds_kept | split

theorem State.bringupStep_kept (s : State) (step : Nat) (ok : Bool) (ms : Nat) (one : Nat) (both : Nat) (h : s.kept wait) :
    (s.bringupStep step ok ms one both).kept wait := by
  unfold State.bringupStep
  with_reducible repeat' first | assumption | apply State.halt_kept | apply State.imageStep_kept | apply State.loaderRuns_kept | apply State.stepEnds_kept | split

theorem State.issued_kept (t : State) (q : BitVec 4) (ht : t.kept wait) :
    (State.issued t q).kept wait := by
  unfold State.issued
  with_reducible repeat' first | assumption | apply State.takeSeq_kept

theorem State.vqueued_kept (t : State) (q : BitVec 4) (w : Nat) (ht : t.kept wait) :
    (State.vqueued t q w).kept wait := by
  unfold State.vqueued
  with_reducible repeat' first | assumption | apply State.endSlot_kept | apply State.issued_kept | apply State.modQ_kept | apply State.setF_kept | apply State.settle_kept

theorem State.beginLoop_kept (t : State) (q : BitVec 4) (w : Nat) (trip : Nat) (ht : t.kept wait) :
    (State.beginLoop t q w trip).kept wait := by
  unfold State.beginLoop
  with_reducible repeat' first | assumption | apply State.modQ_kept | apply State.putReg_kept | split

theorem State.lands_kept (t : State) (q : BitVec 4) (s1 : Bool) (op : Nat) (w : BitVec 120) (v : Nat) (ht : t.kept wait) :
    (State.lands t q s1 op w v).kept wait := by
  unfold State.lands
  with_reducible repeat' first | assumption | apply State.endSlot_kept | apply State.putReg_kept | apply State.settle_kept

theorem State.queued_kept (t : State) (q : BitVec 4) (g1 : Bool) (w : Nat) (ht : t.kept wait) :
    (State.queued t q g1 w).kept wait := by
  unfold State.queued
  with_reducible repeat' first | assumption | apply State.endSlot_kept | apply State.issued_kept | apply State.setSpan_kept | apply State.settle_kept

theorem State.sends_kept (t : State) (q : BitVec 4) (s1 : Bool) (op : Nat) (w : BitVec 120) (v : Nat) (ht : t.kept wait) :
    (State.sends t q s1 op w v).kept wait := by
  unfold State.sends
  with_reducible repeat' first | assumption | apply State.endSlot_kept | apply State.pendReg_kept | apply State.settle_kept

theorem State.regAnswer_kept (s : State) (f : RcpFrame) (st : Nat) (n : Nat) (d : List Byte) (h : s.kept wait) :
    (s.regAnswer f st n d).kept wait := by
  unfold State.regAnswer
  with_reducible repeat' first | assumption | apply State.answer_kept | apply State.sessSpent_kept

end Sys2Proof.Machine
end

