-- ==== Sys2Proof/Laws/Rows.lean ====
section
/-! SUPPORT. Which row of the register map an address of a large array falls in, without walking the map. -/

namespace Sys2Proof.Machine

/-- How many bytes past its first address an array of registers reaches. -/
def rowSpan : List (Nat × Nat) → Nat
  | [] => 0
  | (n, st) :: ds => (n - 1) * st + rowSpan ds

/-- An array's addresses lie between its first and its last. -/
theorem inArr_le : ∀ (ds : List (Nat × Nat)) (a b : Nat), inArr a b ds = true → b ≤ a ∧ a ≤ b + rowSpan ds
  | [], a, b, h => by simp [inArr] at h; simp [rowSpan, h]
  | (n, st) :: ds, a, b, h => by
    simp only [inArr, Bool.and_eq_true, Nat.ble_eq, Nat.blt_eq] at h
    obtain ⟨⟨h1, h2⟩, h3⟩ := h
    have := inArr_le ds _ _ h3
    have h4 : (a - b) / st * st ≤ (n - 1) * st := Nat.mul_le_mul_right _ (by omega)
    simp only [rowSpan]
    omega

/-- Only the rows that reach into a range hold an address of it. -/
theorem rowFrom_near (lo hi : Nat) : ∀ (rs : List RegRow) (a : Nat), lo ≤ a → a ≤ hi →
    rowFrom a rs = rowFrom a (rs.filter (fun r => Nat.ble r.base hi && Nat.ble lo (r.base + rowSpan r.dims)))
  | [], _, _, _ => rfl
  | r :: rs, a, h1, h2 => by
    by_cases hr : (Nat.ble r.base hi && Nat.ble lo (r.base + rowSpan r.dims)) = true
    · rw [List.filter_cons_of_pos (by simpa using hr)]
      simp only [rowFrom]
      rw [rowFrom_near lo hi rs a h1 h2]
    · have hn : inArr a r.base r.dims = false := by
        rw [Bool.eq_false_iff]
        intro h
        have := inArr_le _ _ _ h
        apply hr
        simp only [Bool.and_eq_true, Nat.ble_eq]
        omega
      rw [List.filter_cons_of_neg (by simpa using hr)]
      simp only [rowFrom, hn]
      exact rowFrom_near lo hi rs a h1 h2

/-- The rows that reach into the setpoints. -/
theorem setpoint_rows : writableRows.filter (fun r => Nat.ble r.base 507896 && Nat.ble 475136 (r.base + rowSpan r.dims)) =
    [⟨475136, [(4096, 8)], .pw, .epoch, 4294967295⟩, ⟨475140, [(4096, 8)], .pw, .epoch, 4294967295⟩] := by decide

/-- The row of a setpoint. -/
theorem rowOf_setpoint (i : Nat) (h : i < 4096) :
    rowOf (R.SETPOINT_LO i) = some ⟨475136, [(4096, 8)], .pw, .epoch, 4294967295⟩ := by
  unfold rowOf
  rw [rowFrom_near 475136 507896 _ _ (by unfold R.SETPOINT_LO; omega) (by unfold R.SETPOINT_LO; omega), setpoint_rows]
  have : inArr (R.SETPOINT_LO i) 475136 [(4096, 8)] = true := by
    simp only [inArr, R.SETPOINT_LO, Bool.and_eq_true, Nat.ble_eq, Nat.blt_eq, beq_iff_eq]; omega
  simp only [rowFrom, this, if_true]


/-- The first rows that reach into the grain registers. -/
theorem grain_rows : (writableRows.filter (fun r => Nat.ble r.base 30461848 && Nat.ble 17829912 (r.base + rowSpan r.dims))).take 4 =
    [⟨17825800, [(4, 4194304)], .w1c, .none, 7⟩, ⟨17825804, [(4, 4194304)], .rw, .live, 65283⟩,
     ⟨17829896, [(4, 4194304), (384, 128)], .w1c, .none, 63⟩, ⟨17829912, [(4, 4194304), (384, 128)], .wo, .epoch, 1⟩] := by decide

/-- A row found among the first rows is the row found. -/
theorem rowFrom_take (a n : Nat) (rs : List RegRow) (r : RegRow) (h : rowFrom a (rs.take n) = some r) : rowFrom a rs = some r := by
  induction rs generalizing n with
  | nil => simp at h; exact h
  | cons x rs ih =>
    cases n with
    | zero => simp [rowFrom] at h
    | succ n =>
      simp only [List.take_succ_cons, rowFrom] at h ⊢
      split <;> simp_all
      exact ih n h

/-- The row of a grain's control register. -/
theorem rowOf_gctrl (q g : Nat) (hq : q < 16) (hg : g < 96) :
    rowOf (R.GCTRL q g) = some ⟨17829912, [(4, 4194304), (384, 128)], .wo, .epoch, 1⟩ := by
  obtain ⟨d, k, hd, hk, ha⟩ : ∃ d k, d < 4 ∧ k < 384 ∧ R.GCTRL q g = 17829912 + 4194304 * d + 128 * k :=
    ⟨q / 4, 96 * (q % 4) + g, by omega, by omega, by unfold R.GCTRL; omega⟩
  unfold rowOf
  rw [rowFrom_near 17829912 30461848 _ _ (by omega) (by omega)]
  apply rowFrom_take _ 4
  rw [grain_rows, ha]
  have h1 : inArr (17829912 + 4194304 * d + 128 * k) 17825800 [(4, 4194304)] = false := by
    rw [Bool.eq_false_iff]; simp only [inArr, ne_eq, Bool.and_eq_true, Nat.ble_eq, Nat.blt_eq, beq_iff_eq]; omega
  have h2 : inArr (17829912 + 4194304 * d + 128 * k) 17825804 [(4, 4194304)] = false := by
    rw [Bool.eq_false_iff]; simp only [inArr, ne_eq, Bool.and_eq_true, Nat.ble_eq, Nat.blt_eq, beq_iff_eq]; omega
  have h3 : inArr (17829912 + 4194304 * d + 128 * k) 17829896 [(4, 4194304), (384, 128)] = false := by
    rw [Bool.eq_false_iff]; simp only [inArr, ne_eq, Bool.and_eq_true, Nat.ble_eq, Nat.blt_eq, beq_iff_eq]; omega
  have h4 : inArr (17829912 + 4194304 * d + 128 * k) 17829912 [(4, 4194304), (384, 128)] = true := by
    simp only [inArr, Bool.and_eq_true, Nat.ble_eq, Nat.blt_eq, beq_iff_eq]; omega
  simp only [rowFrom, h1, h2, h3, h4, if_true]
  rfl

end Sys2Proof.Machine
end

