-- ==== Sys2Proof/Laws/State.lean ====
section
/-! SUPPORT. Each update of the state, field by field: what it sets and what it leaves. -/

namespace Sys2Proof.Machine

variable (s : State)

/-! ### modIo -/

@[simp] theorem State.modIo_io (f : IoSt → IoSt) : (s.modIo f).io = f s.io := rfl
@[simp] theorem State.modIo_pending (f : IoSt → IoSt) : (s.modIo f).pending = s.pending := rfl
@[simp] theorem State.modIo_now (f : IoSt → IoSt) : (s.modIo f).now = s.now := rfl
@[simp] theorem State.modIo_freeCtr (f : IoSt → IoSt) : (s.modIo f).freeCtr = s.freeCtr := rfl
@[simp] theorem State.modIo_regs (f : IoSt → IoSt) : (s.modIo f).regs = s.regs := rfl
@[simp] theorem State.modIo_mem (f : IoSt → IoSt) : (s.modIo f).mem = s.mem := rfl
@[simp] theorem State.modIo_grains (f : IoSt → IoSt) : (s.modIo f).grains = s.grains := rfl
@[simp] theorem State.modIo_rcv (f : IoSt → IoSt) : (s.modIo f).rcv = s.rcv := rfl
@[simp] theorem State.modIo_quarters (f : IoSt → IoSt) : (s.modIo f).quarters = s.quarters := rfl
@[simp] theorem State.modIo_img (f : IoSt → IoSt) : (s.modIo f).img = s.img := rfl
@[simp] theorem State.modIo_time (f : IoSt → IoSt) : (s.modIo f).time = s.time := rfl
@[simp] theorem State.modIo_tag (f : IoSt → IoSt) : (s.modIo f).tag = s.tag := rfl
@[simp] theorem State.modIo_pwr (f : IoSt → IoSt) : (s.modIo f).pwr = s.pwr := rfl
@[simp] theorem State.modIo_car (f : IoSt → IoSt) : (s.modIo f).car = s.car := rfl
@[simp] theorem State.modIo_radio (f : IoSt → IoSt) : (s.modIo f).radio = s.radio := rfl
@[simp] theorem State.modIo_ld (f : IoSt → IoSt) : (s.modIo f).ld = s.ld := rfl
@[simp] theorem State.modIo_alm (f : IoSt → IoSt) : (s.modIo f).alm = s.alm := rfl
@[simp] theorem State.modIo_chain (f : IoSt → IoSt) : (s.modIo f).chain = s.chain := rfl
@[simp] theorem State.modIo_harb (f : IoSt → IoSt) : (s.modIo f).harb = s.harb := rfl
@[simp] theorem State.modIo_pair (f : IoSt → IoSt) : (s.modIo f).pair = s.pair := rfl
@[simp] theorem State.modIo_host (f : IoSt → IoSt) : (s.modIo f).host = s.host := rfl
@[simp] theorem State.modIo_panel (f : IoSt → IoSt) : (s.modIo f).panel = s.panel := rfl
@[simp] theorem State.modIo_out (f : IoSt → IoSt) : (s.modIo f).out = s.out := rfl
@[simp] theorem State.modIo_reg (f : IoSt → IoSt) (i : Nat) : (s.modIo f).reg i = s.reg i := rfl
@[simp] theorem State.modIo_regN (f : IoSt → IoSt) (i : Nat) : (s.modIo f).regN i = s.regN i := rfl
@[simp] theorem State.modIo_reg64 (f : IoSt → IoSt) (i : Nat) : (s.modIo f).reg64 i = s.reg64 i := rfl
@[simp] theorem State.modIo_getF (f : IoSt → IoSt) (i : Nat) (x : Fld) : (s.modIo f).getF i x = s.getF i x := rfl
@[simp] theorem State.modIo_flag (f : IoSt → IoSt) (i : Nat) (x : Fld) : (s.modIo f).flag i x = s.flag i x := rfl
@[simp] theorem State.modIo_qState (f : IoSt → IoSt) (i : Nat) : (s.modIo f).qState i = s.qState i := rfl
@[simp] theorem State.modIo_dieOn (f : IoSt → IoSt) (i : Nat) : (s.modIo f).dieOn i = s.dieOn i := rfl
@[simp] theorem State.modIo_memState (f : IoSt → IoSt) (i : Nat) : (s.modIo f).memState i = s.memState i := rfl
@[simp] theorem State.modIo_bank (f : IoSt → IoSt) (i j k : Nat) : (s.modIo f).bank i j k = s.bank i j k := rfl
@[simp] theorem State.modIo_pairState (f : IoSt → IoSt) : (s.modIo f).pairState = s.pairState := rfl
@[simp] theorem State.modIo_power (f : IoSt → IoSt) : (s.modIo f).power = s.power := rfl
@[simp] theorem State.modIo_timeState (f : IoSt → IoSt) : (s.modIo f).timeState = s.timeState := rfl
@[simp] theorem State.modIo_holdsToken (f : IoSt → IoSt) : (s.modIo f).holdsToken = s.holdsToken := rfl
@[simp] theorem State.modIo_vote (f : IoSt → IoSt) : (s.modIo f).vote = s.vote := rfl
@[simp] theorem State.modIo_qtr (f : IoSt → IoSt) (q : Nat) : (s.modIo f).qtr q = s.qtr q := rfl

/-! ### modC -/

@[simp] theorem State.modC_car (f : CarSt → CarSt) : (s.modC f).car = f s.car := rfl
@[simp] theorem State.modC_pending (f : CarSt → CarSt) : (s.modC f).pending = s.pending := rfl
@[simp] theorem State.modC_now (f : CarSt → CarSt) : (s.modC f).now = s.now := rfl
@[simp] theorem State.modC_freeCtr (f : CarSt → CarSt) : (s.modC f).freeCtr = s.freeCtr := rfl
@[simp] theorem State.modC_regs (f : CarSt → CarSt) : (s.modC f).regs = s.regs := rfl
@[simp] theorem State.modC_mem (f : CarSt → CarSt) : (s.modC f).mem = s.mem := rfl
@[simp] theorem State.modC_grains (f : CarSt → CarSt) : (s.modC f).grains = s.grains := rfl
@[simp] theorem State.modC_rcv (f : CarSt → CarSt) : (s.modC f).rcv = s.rcv := rfl
@[simp] theorem State.modC_quarters (f : CarSt → CarSt) : (s.modC f).quarters = s.quarters := rfl
@[simp] theorem State.modC_img (f : CarSt → CarSt) : (s.modC f).img = s.img := rfl
@[simp] theorem State.modC_time (f : CarSt → CarSt) : (s.modC f).time = s.time := rfl
@[simp] theorem State.modC_tag (f : CarSt → CarSt) : (s.modC f).tag = s.tag := rfl
@[simp] theorem State.modC_pwr (f : CarSt → CarSt) : (s.modC f).pwr = s.pwr := rfl
@[simp] theorem State.modC_io (f : CarSt → CarSt) : (s.modC f).io = s.io := rfl
@[simp] theorem State.modC_radio (f : CarSt → CarSt) : (s.modC f).radio = s.radio := rfl
@[simp] theorem State.modC_ld (f : CarSt → CarSt) : (s.modC f).ld = s.ld := rfl
@[simp] theorem State.modC_alm (f : CarSt → CarSt) : (s.modC f).alm = s.alm := rfl
@[simp] theorem State.modC_chain (f : CarSt → CarSt) : (s.modC f).chain = s.chain := rfl
@[simp] theorem State.modC_harb (f : CarSt → CarSt) : (s.modC f).harb = s.harb := rfl
@[simp] theorem State.modC_pair (f : CarSt → CarSt) : (s.modC f).pair = s.pair := rfl
@[simp] theorem State.modC_host (f : CarSt → CarSt) : (s.modC f).host = s.host := rfl
@[simp] theorem State.modC_panel (f : CarSt → CarSt) : (s.modC f).panel = s.panel := rfl
@[simp] theorem State.modC_out (f : CarSt → CarSt) : (s.modC f).out = s.out := rfl
@[simp] theorem State.modC_reg (f : CarSt → CarSt) (i : Nat) : (s.modC f).reg i = s.reg i := rfl
@[simp] theorem State.modC_regN (f : CarSt → CarSt) (i : Nat) : (s.modC f).regN i = s.regN i := rfl
@[simp] theorem State.modC_reg64 (f : CarSt → CarSt) (i : Nat) : (s.modC f).reg64 i = s.reg64 i := rfl
@[simp] theorem State.modC_getF (f : CarSt → CarSt) (i : Nat) (x : Fld) : (s.modC f).getF i x = s.getF i x := rfl
@[simp] theorem State.modC_flag (f : CarSt → CarSt) (i : Nat) (x : Fld) : (s.modC f).flag i x = s.flag i x := rfl
@[simp] theorem State.modC_qState (f : CarSt → CarSt) (i : Nat) : (s.modC f).qState i = s.qState i := rfl
@[simp] theorem State.modC_dieOn (f : CarSt → CarSt) (i : Nat) : (s.modC f).dieOn i = s.dieOn i := rfl
@[simp] theorem State.modC_memState (f : CarSt → CarSt) (i : Nat) : (s.modC f).memState i = s.memState i := rfl
@[simp] theorem State.modC_bank (f : CarSt → CarSt) (i j k : Nat) : (s.modC f).bank i j k = s.bank i j k := rfl
@[simp] theorem State.modC_pairState (f : CarSt → CarSt) : (s.modC f).pairState = s.pairState := rfl
@[simp] theorem State.modC_power (f : CarSt → CarSt) : (s.modC f).power = s.power := rfl
@[simp] theorem State.modC_timeState (f : CarSt → CarSt) : (s.modC f).timeState = s.timeState := rfl
@[simp] theorem State.modC_holdsToken (f : CarSt → CarSt) : (s.modC f).holdsToken = s.holdsToken := rfl
@[simp] theorem State.modC_vote (f : CarSt → CarSt) : (s.modC f).vote = s.vote := rfl
@[simp] theorem State.modC_qtr (f : CarSt → CarSt) (q : Nat) : (s.modC f).qtr q = s.qtr q := rfl

/-! ### modAlm -/

@[simp] theorem State.modAlm_alm (f : AlmSt → AlmSt) : (s.modAlm f).alm = f s.alm := rfl
@[simp] theorem State.modAlm_pending (f : AlmSt → AlmSt) : (s.modAlm f).pending = s.pending := rfl
@[simp] theorem State.modAlm_now (f : AlmSt → AlmSt) : (s.modAlm f).now = s.now := rfl
@[simp] theorem State.modAlm_freeCtr (f : AlmSt → AlmSt) : (s.modAlm f).freeCtr = s.freeCtr := rfl
@[simp] theorem State.modAlm_regs (f : AlmSt → AlmSt) : (s.modAlm f).regs = s.regs := rfl
@[simp] theorem State.modAlm_mem (f : AlmSt → AlmSt) : (s.modAlm f).mem = s.mem := rfl
@[simp] theorem State.modAlm_grains (f : AlmSt → AlmSt) : (s.modAlm f).grains = s.grains := rfl
@[simp] theorem State.modAlm_rcv (f : AlmSt → AlmSt) : (s.modAlm f).rcv = s.rcv := rfl
@[simp] theorem State.modAlm_quarters (f : AlmSt → AlmSt) : (s.modAlm f).quarters = s.quarters := rfl
@[simp] theorem State.modAlm_img (f : AlmSt → AlmSt) : (s.modAlm f).img = s.img := rfl
@[simp] theorem State.modAlm_time (f : AlmSt → AlmSt) : (s.modAlm f).time = s.time := rfl
@[simp] theorem State.modAlm_tag (f : AlmSt → AlmSt) : (s.modAlm f).tag = s.tag := rfl
@[simp] theorem State.modAlm_pwr (f : AlmSt → AlmSt) : (s.modAlm f).pwr = s.pwr := rfl
@[simp] theorem State.modAlm_car (f : AlmSt → AlmSt) : (s.modAlm f).car = s.car := rfl
@[simp] theorem State.modAlm_io (f : AlmSt → AlmSt) : (s.modAlm f).io = s.io := rfl
@[simp] theorem State.modAlm_radio (f : AlmSt → AlmSt) : (s.modAlm f).radio = s.radio := rfl
@[simp] theorem State.modAlm_ld (f : AlmSt → AlmSt) : (s.modAlm f).ld = s.ld := rfl
@[simp] theorem State.modAlm_chain (f : AlmSt → AlmSt) : (s.modAlm f).chain = s.chain := rfl
@[simp] theorem State.modAlm_harb (f : AlmSt → AlmSt) : (s.modAlm f).harb = s.harb := rfl
@[simp] theorem State.modAlm_pair (f : AlmSt → AlmSt) : (s.modAlm f).pair = s.pair := rfl
@[simp] theorem State.modAlm_host (f : AlmSt → AlmSt) : (s.modAlm f).host = s.host := rfl
@[simp] theorem State.modAlm_panel (f : AlmSt → AlmSt) : (s.modAlm f).panel = s.panel := rfl
@[simp] theorem State.modAlm_out (f : AlmSt → AlmSt) : (s.modAlm f).out = s.out := rfl
@[simp] theorem State.modAlm_reg (f : AlmSt → AlmSt) (i : Nat) : (s.modAlm f).reg i = s.reg i := rfl
@[simp] theorem State.modAlm_regN (f : AlmSt → AlmSt) (i : Nat) : (s.modAlm f).regN i = s.regN i := rfl
@[simp] theorem State.modAlm_reg64 (f : AlmSt → AlmSt) (i : Nat) : (s.modAlm f).reg64 i = s.reg64 i := rfl
@[simp] theorem State.modAlm_getF (f : AlmSt → AlmSt) (i : Nat) (x : Fld) : (s.modAlm f).getF i x = s.getF i x := rfl
@[simp] theorem State.modAlm_flag (f : AlmSt → AlmSt) (i : Nat) (x : Fld) : (s.modAlm f).flag i x = s.flag i x := rfl
@[simp] theorem State.modAlm_qState (f : AlmSt → AlmSt) (i : Nat) : (s.modAlm f).qState i = s.qState i := rfl
@[simp] theorem State.modAlm_dieOn (f : AlmSt → AlmSt) (i : Nat) : (s.modAlm f).dieOn i = s.dieOn i := rfl
@[simp] theorem State.modAlm_memState (f : AlmSt → AlmSt) (i : Nat) : (s.modAlm f).memState i = s.memState i := rfl
@[simp] theorem State.modAlm_bank (f : AlmSt → AlmSt) (i j k : Nat) : (s.modAlm f).bank i j k = s.bank i j k := rfl
@[simp] theorem State.modAlm_pairState (f : AlmSt → AlmSt) : (s.modAlm f).pairState = s.pairState := rfl
@[simp] theorem State.modAlm_power (f : AlmSt → AlmSt) : (s.modAlm f).power = s.power := rfl
@[simp] theorem State.modAlm_timeState (f : AlmSt → AlmSt) : (s.modAlm f).timeState = s.timeState := rfl
@[simp] theorem State.modAlm_holdsToken (f : AlmSt → AlmSt) : (s.modAlm f).holdsToken = s.holdsToken := rfl
@[simp] theorem State.modAlm_vote (f : AlmSt → AlmSt) : (s.modAlm f).vote = s.vote := rfl
@[simp] theorem State.modAlm_qtr (f : AlmSt → AlmSt) (q : Nat) : (s.modAlm f).qtr q = s.qtr q := rfl

/-! ### modHost -/

@[simp] theorem State.modHost_host (f : HostSt → HostSt) : (s.modHost f).host = f s.host := rfl
@[simp] theorem State.modHost_pending (f : HostSt → HostSt) : (s.modHost f).pending = s.pending := rfl
@[simp] theorem State.modHost_now (f : HostSt → HostSt) : (s.modHost f).now = s.now := rfl
@[simp] theorem State.modHost_freeCtr (f : HostSt → HostSt) : (s.modHost f).freeCtr = s.freeCtr := rfl
@[simp] theorem State.modHost_regs (f : HostSt → HostSt) : (s.modHost f).regs = s.regs := rfl
@[simp] theorem State.modHost_mem (f : HostSt → HostSt) : (s.modHost f).mem = s.mem := rfl
@[simp] theorem State.modHost_grains (f : HostSt → HostSt) : (s.modHost f).grains = s.grains := rfl
@[simp] theorem State.modHost_rcv (f : HostSt → HostSt) : (s.modHost f).rcv = s.rcv := rfl
@[simp] theorem State.modHost_quarters (f : HostSt → HostSt) : (s.modHost f).quarters = s.quarters := rfl
@[simp] theorem State.modHost_img (f : HostSt → HostSt) : (s.modHost f).img = s.img := rfl
@[simp] theorem State.modHost_time (f : HostSt → HostSt) : (s.modHost f).time = s.time := rfl
@[simp] theorem State.modHost_tag (f : HostSt → HostSt) : (s.modHost f).tag = s.tag := rfl
@[simp] theorem State.modHost_pwr (f : HostSt → HostSt) : (s.modHost f).pwr = s.pwr := rfl
@[simp] theorem State.modHost_car (f : HostSt → HostSt) : (s.modHost f).car = s.car := rfl
@[simp] theorem State.modHost_io (f : HostSt → HostSt) : (s.modHost f).io = s.io := rfl
@[simp] theorem State.modHost_radio (f : HostSt → HostSt) : (s.modHost f).radio = s.radio := rfl
@[simp] theorem State.modHost_ld (f : HostSt → HostSt) : (s.modHost f).ld = s.ld := rfl
@[simp] theorem State.modHost_alm (f : HostSt → HostSt) : (s.modHost f).alm = s.alm := rfl
@[simp] theorem State.modHost_chain (f : HostSt → HostSt) : (s.modHost f).chain = s.chain := rfl
@[simp] theorem State.modHost_harb (f : HostSt → HostSt) : (s.modHost f).harb = s.harb := rfl
@[simp] theorem State.modHost_pair (f : HostSt → HostSt) : (s.modHost f).pair = s.pair := rfl
@[simp] theorem State.modHost_panel (f : HostSt → HostSt) : (s.modHost f).panel = s.panel := rfl
@[simp] theorem State.modHost_out (f : HostSt → HostSt) : (s.modHost f).out = s.out := rfl
@[simp] theorem State.modHost_reg (f : HostSt → HostSt) (i : Nat) : (s.modHost f).reg i = s.reg i := rfl
@[simp] theorem State.modHost_regN (f : HostSt → HostSt) (i : Nat) : (s.modHost f).regN i = s.regN i := rfl
@[simp] theorem State.modHost_reg64 (f : HostSt → HostSt) (i : Nat) : (s.modHost f).reg64 i = s.reg64 i := rfl
@[simp] theorem State.modHost_getF (f : HostSt → HostSt) (i : Nat) (x : Fld) : (s.modHost f).getF i x = s.getF i x := rfl
@[simp] theorem State.modHost_flag (f : HostSt → HostSt) (i : Nat) (x : Fld) : (s.modHost f).flag i x = s.flag i x := rfl
@[simp] theorem State.modHost_qState (f : HostSt → HostSt) (i : Nat) : (s.modHost f).qState i = s.qState i := rfl
@[simp] theorem State.modHost_dieOn (f : HostSt → HostSt) (i : Nat) : (s.modHost f).dieOn i = s.dieOn i := rfl
@[simp] theorem State.modHost_memState (f : HostSt → HostSt) (i : Nat) : (s.modHost f).memState i = s.memState i := rfl
@[simp] theorem State.modHost_bank (f : HostSt → HostSt) (i j k : Nat) : (s.modHost f).bank i j k = s.bank i j k := rfl
@[simp] theorem State.modHost_pairState (f : HostSt → HostSt) : (s.modHost f).pairState = s.pairState := rfl
@[simp] theorem State.modHost_power (f : HostSt → HostSt) : (s.modHost f).power = s.power := rfl
@[simp] theorem State.modHost_timeState (f : HostSt → HostSt) : (s.modHost f).timeState = s.timeState := rfl
@[simp] theorem State.modHost_holdsToken (f : HostSt → HostSt) : (s.modHost f).holdsToken = s.holdsToken := rfl
@[simp] theorem State.modHost_vote (f : HostSt → HostSt) : (s.modHost f).vote = s.vote := rfl
@[simp] theorem State.modHost_qtr (f : HostSt → HostSt) (q : Nat) : (s.modHost f).qtr q = s.qtr q := rfl

/-! ### modCh -/

@[simp] theorem State.modCh_chain (f : ChainSt → ChainSt) : (s.modCh f).chain = f s.chain := rfl
@[simp] theorem State.modCh_pending (f : ChainSt → ChainSt) : (s.modCh f).pending = s.pending := rfl
@[simp] theorem State.modCh_now (f : ChainSt → ChainSt) : (s.modCh f).now = s.now := rfl
@[simp] theorem State.modCh_freeCtr (f : ChainSt → ChainSt) : (s.modCh f).freeCtr = s.freeCtr := rfl
@[simp] theorem State.modCh_regs (f : ChainSt → ChainSt) : (s.modCh f).regs = s.regs := rfl
@[simp] theorem State.modCh_mem (f : ChainSt → ChainSt) : (s.modCh f).mem = s.mem := rfl
@[simp] theorem State.modCh_grains (f : ChainSt → ChainSt) : (s.modCh f).grains = s.grains := rfl
@[simp] theorem State.modCh_rcv (f : ChainSt → ChainSt) : (s.modCh f).rcv = s.rcv := rfl
@[simp] theorem State.modCh_quarters (f : ChainSt → ChainSt) : (s.modCh f).quarters = s.quarters := rfl
@[simp] theorem State.modCh_img (f : ChainSt → ChainSt) : (s.modCh f).img = s.img := rfl
@[simp] theorem State.modCh_time (f : ChainSt → ChainSt) : (s.modCh f).time = s.time := rfl
@[simp] theorem State.modCh_tag (f : ChainSt → ChainSt) : (s.modCh f).tag = s.tag := rfl
@[simp] theorem State.modCh_pwr (f : ChainSt → ChainSt) : (s.modCh f).pwr = s.pwr := rfl
@[simp] theorem State.modCh_car (f : ChainSt → ChainSt) : (s.modCh f).car = s.car := rfl
@[simp] theorem State.modCh_io (f : ChainSt → ChainSt) : (s.modCh f).io = s.io := rfl
@[simp] theorem State.modCh_radio (f : ChainSt → ChainSt) : (s.modCh f).radio = s.radio := rfl
@[simp] theorem State.modCh_ld (f : ChainSt → ChainSt) : (s.modCh f).ld = s.ld := rfl
@[simp] theorem State.modCh_alm (f : ChainSt → ChainSt) : (s.modCh f).alm = s.alm := rfl
@[simp] theorem State.modCh_harb (f : ChainSt → ChainSt) : (s.modCh f).harb = s.harb := rfl
@[simp] theorem State.modCh_pair (f : ChainSt → ChainSt) : (s.modCh f).pair = s.pair := rfl
@[simp] theorem State.modCh_host (f : ChainSt → ChainSt) : (s.modCh f).host = s.host := rfl
@[simp] theorem State.modCh_panel (f : ChainSt → ChainSt) : (s.modCh f).panel = s.panel := rfl
@[simp] theorem State.modCh_out (f : ChainSt → ChainSt) : (s.modCh f).out = s.out := rfl
@[simp] theorem State.modCh_reg (f : ChainSt → ChainSt) (i : Nat) : (s.modCh f).reg i = s.reg i := rfl
@[simp] theorem State.modCh_regN (f : ChainSt → ChainSt) (i : Nat) : (s.modCh f).regN i = s.regN i := rfl
@[simp] theorem State.modCh_reg64 (f : ChainSt → ChainSt) (i : Nat) : (s.modCh f).reg64 i = s.reg64 i := rfl
@[simp] theorem State.modCh_getF (f : ChainSt → ChainSt) (i : Nat) (x : Fld) : (s.modCh f).getF i x = s.getF i x := rfl
@[simp] theorem State.modCh_flag (f : ChainSt → ChainSt) (i : Nat) (x : Fld) : (s.modCh f).flag i x = s.flag i x := rfl
@[simp] theorem State.modCh_qState (f : ChainSt → ChainSt) (i : Nat) : (s.modCh f).qState i = s.qState i := rfl
@[simp] theorem State.modCh_dieOn (f : ChainSt → ChainSt) (i : Nat) : (s.modCh f).dieOn i = s.dieOn i := rfl
@[simp] theorem State.modCh_memState (f : ChainSt → ChainSt) (i : Nat) : (s.modCh f).memState i = s.memState i := rfl
@[simp] theorem State.modCh_bank (f : ChainSt → ChainSt) (i j k : Nat) : (s.modCh f).bank i j k = s.bank i j k := rfl
@[simp] theorem State.modCh_pairState (f : ChainSt → ChainSt) : (s.modCh f).pairState = s.pairState := rfl
@[simp] theorem State.modCh_power (f : ChainSt → ChainSt) : (s.modCh f).power = s.power := rfl
@[simp] theorem State.modCh_timeState (f : ChainSt → ChainSt) : (s.modCh f).timeState = s.timeState := rfl
@[simp] theorem State.modCh_holdsToken (f : ChainSt → ChainSt) : (s.modCh f).holdsToken = s.holdsToken := rfl
@[simp] theorem State.modCh_vote (f : ChainSt → ChainSt) : (s.modCh f).vote = s.vote := rfl
@[simp] theorem State.modCh_qtr (f : ChainSt → ChainSt) (q : Nat) : (s.modCh f).qtr q = s.qtr q := rfl

/-! ### modH -/

@[simp] theorem State.modH_harb (f : HarbSt → HarbSt) : (s.modH f).harb = f s.harb := rfl
@[simp] theorem State.modH_pending (f : HarbSt → HarbSt) : (s.modH f).pending = s.pending := rfl
@[simp] theorem State.modH_now (f : HarbSt → HarbSt) : (s.modH f).now = s.now := rfl
@[simp] theorem State.modH_freeCtr (f : HarbSt → HarbSt) : (s.modH f).freeCtr = s.freeCtr := rfl
@[simp] theorem State.modH_regs (f : HarbSt → HarbSt) : (s.modH f).regs = s.regs := rfl
@[simp] theorem State.modH_mem (f : HarbSt → HarbSt) : (s.modH f).mem = s.mem := rfl
@[simp] theorem State.modH_grains (f : HarbSt → HarbSt) : (s.modH f).grains = s.grains := rfl
@[simp] theorem State.modH_rcv (f : HarbSt → HarbSt) : (s.modH f).rcv = s.rcv := rfl
@[simp] theorem State.modH_quarters (f : HarbSt → HarbSt) : (s.modH f).quarters = s.quarters := rfl
@[simp] theorem State.modH_img (f : HarbSt → HarbSt) : (s.modH f).img = s.img := rfl
@[simp] theorem State.modH_time (f : HarbSt → HarbSt) : (s.modH f).time = s.time := rfl
@[simp] theorem State.modH_tag (f : HarbSt → HarbSt) : (s.modH f).tag = s.tag := rfl
@[simp] theorem State.modH_pwr (f : HarbSt → HarbSt) : (s.modH f).pwr = s.pwr := rfl
@[simp] theorem State.modH_car (f : HarbSt → HarbSt) : (s.modH f).car = s.car := rfl
@[simp] theorem State.modH_io (f : HarbSt → HarbSt) : (s.modH f).io = s.io := rfl
@[simp] theorem State.modH_radio (f : HarbSt → HarbSt) : (s.modH f).radio = s.radio := rfl
@[simp] theorem State.modH_ld (f : HarbSt → HarbSt) : (s.modH f).ld = s.ld := rfl
@[simp] theorem State.modH_alm (f : HarbSt → HarbSt) : (s.modH f).alm = s.alm := rfl
@[simp] theorem State.modH_chain (f : HarbSt → HarbSt) : (s.modH f).chain = s.chain := rfl
@[simp] theorem State.modH_pair (f : HarbSt → HarbSt) : (s.modH f).pair = s.pair := rfl
@[simp] theorem State.modH_host (f : HarbSt → HarbSt) : (s.modH f).host = s.host := rfl
@[simp] theorem State.modH_panel (f : HarbSt → HarbSt) : (s.modH f).panel = s.panel := rfl
@[simp] theorem State.modH_out (f : HarbSt → HarbSt) : (s.modH f).out = s.out := rfl
@[simp] theorem State.modH_reg (f : HarbSt → HarbSt) (i : Nat) : (s.modH f).reg i = s.reg i := rfl
@[simp] theorem State.modH_regN (f : HarbSt → HarbSt) (i : Nat) : (s.modH f).regN i = s.regN i := rfl
@[simp] theorem State.modH_reg64 (f : HarbSt → HarbSt) (i : Nat) : (s.modH f).reg64 i = s.reg64 i := rfl
@[simp] theorem State.modH_getF (f : HarbSt → HarbSt) (i : Nat) (x : Fld) : (s.modH f).getF i x = s.getF i x := rfl
@[simp] theorem State.modH_flag (f : HarbSt → HarbSt) (i : Nat) (x : Fld) : (s.modH f).flag i x = s.flag i x := rfl
@[simp] theorem State.modH_qState (f : HarbSt → HarbSt) (i : Nat) : (s.modH f).qState i = s.qState i := rfl
@[simp] theorem State.modH_dieOn (f : HarbSt → HarbSt) (i : Nat) : (s.modH f).dieOn i = s.dieOn i := rfl
@[simp] theorem State.modH_memState (f : HarbSt → HarbSt) (i : Nat) : (s.modH f).memState i = s.memState i := rfl
@[simp] theorem State.modH_bank (f : HarbSt → HarbSt) (i j k : Nat) : (s.modH f).bank i j k = s.bank i j k := rfl
@[simp] theorem State.modH_pairState (f : HarbSt → HarbSt) : (s.modH f).pairState = s.pairState := rfl
@[simp] theorem State.modH_power (f : HarbSt → HarbSt) : (s.modH f).power = s.power := rfl
@[simp] theorem State.modH_timeState (f : HarbSt → HarbSt) : (s.modH f).timeState = s.timeState := rfl
@[simp] theorem State.modH_holdsToken (f : HarbSt → HarbSt) : (s.modH f).holdsToken = s.holdsToken := rfl
@[simp] theorem State.modH_vote (f : HarbSt → HarbSt) : (s.modH f).vote = s.vote := rfl
@[simp] theorem State.modH_qtr (f : HarbSt → HarbSt) (q : Nat) : (s.modH f).qtr q = s.qtr q := rfl

/-! ### modImg -/

@[simp] theorem State.modImg_img (f : ImgSt → ImgSt) : (s.modImg f).img = f s.img := rfl
@[simp] theorem State.modImg_pending (f : ImgSt → ImgSt) : (s.modImg f).pending = s.pending := rfl
@[simp] theorem State.modImg_now (f : ImgSt → ImgSt) : (s.modImg f).now = s.now := rfl
@[simp] theorem State.modImg_freeCtr (f : ImgSt → ImgSt) : (s.modImg f).freeCtr = s.freeCtr := rfl
@[simp] theorem State.modImg_regs (f : ImgSt → ImgSt) : (s.modImg f).regs = s.regs := rfl
@[simp] theorem State.modImg_mem (f : ImgSt → ImgSt) : (s.modImg f).mem = s.mem := rfl
@[simp] theorem State.modImg_grains (f : ImgSt → ImgSt) : (s.modImg f).grains = s.grains := rfl
@[simp] theorem State.modImg_rcv (f : ImgSt → ImgSt) : (s.modImg f).rcv = s.rcv := rfl
@[simp] theorem State.modImg_quarters (f : ImgSt → ImgSt) : (s.modImg f).quarters = s.quarters := rfl
@[simp] theorem State.modImg_time (f : ImgSt → ImgSt) : (s.modImg f).time = s.time := rfl
@[simp] theorem State.modImg_tag (f : ImgSt → ImgSt) : (s.modImg f).tag = s.tag := rfl
@[simp] theorem State.modImg_pwr (f : ImgSt → ImgSt) : (s.modImg f).pwr = s.pwr := rfl
@[simp] theorem State.modImg_car (f : ImgSt → ImgSt) : (s.modImg f).car = s.car := rfl
@[simp] theorem State.modImg_io (f : ImgSt → ImgSt) : (s.modImg f).io = s.io := rfl
@[simp] theorem State.modImg_radio (f : ImgSt → ImgSt) : (s.modImg f).radio = s.radio := rfl
@[simp] theorem State.modImg_ld (f : ImgSt → ImgSt) : (s.modImg f).ld = s.ld := rfl
@[simp] theorem State.modImg_alm (f : ImgSt → ImgSt) : (s.modImg f).alm = s.alm := rfl
@[simp] theorem State.modImg_chain (f : ImgSt → ImgSt) : (s.modImg f).chain = s.chain := rfl
@[simp] theorem State.modImg_harb (f : ImgSt → ImgSt) : (s.modImg f).harb = s.harb := rfl
@[simp] theorem State.modImg_pair (f : ImgSt → ImgSt) : (s.modImg f).pair = s.pair := rfl
@[simp] theorem State.modImg_host (f : ImgSt → ImgSt) : (s.modImg f).host = s.host := rfl
@[simp] theorem State.modImg_panel (f : ImgSt → ImgSt) : (s.modImg f).panel = s.panel := rfl
@[simp] theorem State.modImg_out (f : ImgSt → ImgSt) : (s.modImg f).out = s.out := rfl
@[simp] theorem State.modImg_reg (f : ImgSt → ImgSt) (i : Nat) : (s.modImg f).reg i = s.reg i := rfl
@[simp] theorem State.modImg_regN (f : ImgSt → ImgSt) (i : Nat) : (s.modImg f).regN i = s.regN i := rfl
@[simp] theorem State.modImg_reg64 (f : ImgSt → ImgSt) (i : Nat) : (s.modImg f).reg64 i = s.reg64 i := rfl
@[simp] theorem State.modImg_getF (f : ImgSt → ImgSt) (i : Nat) (x : Fld) : (s.modImg f).getF i x = s.getF i x := rfl
@[simp] theorem State.modImg_flag (f : ImgSt → ImgSt) (i : Nat) (x : Fld) : (s.modImg f).flag i x = s.flag i x := rfl
@[simp] theorem State.modImg_qState (f : ImgSt → ImgSt) (i : Nat) : (s.modImg f).qState i = s.qState i := rfl
@[simp] theorem State.modImg_dieOn (f : ImgSt → ImgSt) (i : Nat) : (s.modImg f).dieOn i = s.dieOn i := rfl
@[simp] theorem State.modImg_memState (f : ImgSt → ImgSt) (i : Nat) : (s.modImg f).memState i = s.memState i := rfl
@[simp] theorem State.modImg_bank (f : ImgSt → ImgSt) (i j k : Nat) : (s.modImg f).bank i j k = s.bank i j k := rfl
@[simp] theorem State.modImg_pairState (f : ImgSt → ImgSt) : (s.modImg f).pairState = s.pairState := rfl
@[simp] theorem State.modImg_power (f : ImgSt → ImgSt) : (s.modImg f).power = s.power := rfl
@[simp] theorem State.modImg_timeState (f : ImgSt → ImgSt) : (s.modImg f).timeState = s.timeState := rfl
@[simp] theorem State.modImg_holdsToken (f : ImgSt → ImgSt) : (s.modImg f).holdsToken = s.holdsToken := rfl
@[simp] theorem State.modImg_vote (f : ImgSt → ImgSt) : (s.modImg f).vote = s.vote := rfl
@[simp] theorem State.modImg_qtr (f : ImgSt → ImgSt) (q : Nat) : (s.modImg f).qtr q = s.qtr q := rfl

/-! ### modLd -/

@[simp] theorem State.modLd_ld (f : LdSt → LdSt) : (s.modLd f).ld = f s.ld := rfl
@[simp] theorem State.modLd_pending (f : LdSt → LdSt) : (s.modLd f).pending = s.pending := rfl
@[simp] theorem State.modLd_now (f : LdSt → LdSt) : (s.modLd f).now = s.now := rfl
@[simp] theorem State.modLd_freeCtr (f : LdSt → LdSt) : (s.modLd f).freeCtr = s.freeCtr := rfl
@[simp] theorem State.modLd_regs (f : LdSt → LdSt) : (s.modLd f).regs = s.regs := rfl
@[simp] theorem State.modLd_mem (f : LdSt → LdSt) : (s.modLd f).mem = s.mem := rfl
@[simp] theorem State.modLd_grains (f : LdSt → LdSt) : (s.modLd f).grains = s.grains := rfl
@[simp] theorem State.modLd_rcv (f : LdSt → LdSt) : (s.modLd f).rcv = s.rcv := rfl
@[simp] theorem State.modLd_quarters (f : LdSt → LdSt) : (s.modLd f).quarters = s.quarters := rfl
@[simp] theorem State.modLd_img (f : LdSt → LdSt) : (s.modLd f).img = s.img := rfl
@[simp] theorem State.modLd_time (f : LdSt → LdSt) : (s.modLd f).time = s.time := rfl
@[simp] theorem State.modLd_tag (f : LdSt → LdSt) : (s.modLd f).tag = s.tag := rfl
@[simp] theorem State.modLd_pwr (f : LdSt → LdSt) : (s.modLd f).pwr = s.pwr := rfl
@[simp] theorem State.modLd_car (f : LdSt → LdSt) : (s.modLd f).car = s.car := rfl
@[simp] theorem State.modLd_io (f : LdSt → LdSt) : (s.modLd f).io = s.io := rfl
@[simp] theorem State.modLd_radio (f : LdSt → LdSt) : (s.modLd f).radio = s.radio := rfl
@[simp] theorem State.modLd_alm (f : LdSt → LdSt) : (s.modLd f).alm = s.alm := rfl
@[simp] theorem State.modLd_chain (f : LdSt → LdSt) : (s.modLd f).chain = s.chain := rfl
@[simp] theorem State.modLd_harb (f : LdSt → LdSt) : (s.modLd f).harb = s.harb := rfl
@[simp] theorem State.modLd_pair (f : LdSt → LdSt) : (s.modLd f).pair = s.pair := rfl
@[simp] theorem State.modLd_host (f : LdSt → LdSt) : (s.modLd f).host = s.host := rfl
@[simp] theorem State.modLd_panel (f : LdSt → LdSt) : (s.modLd f).panel = s.panel := rfl
@[simp] theorem State.modLd_out (f : LdSt → LdSt) : (s.modLd f).out = s.out := rfl
@[simp] theorem State.modLd_reg (f : LdSt → LdSt) (i : Nat) : (s.modLd f).reg i = s.reg i := rfl
@[simp] theorem State.modLd_regN (f : LdSt → LdSt) (i : Nat) : (s.modLd f).regN i = s.regN i := rfl
@[simp] theorem State.modLd_reg64 (f : LdSt → LdSt) (i : Nat) : (s.modLd f).reg64 i = s.reg64 i := rfl
@[simp] theorem State.modLd_getF (f : LdSt → LdSt) (i : Nat) (x : Fld) : (s.modLd f).getF i x = s.getF i x := rfl
@[simp] theorem State.modLd_flag (f : LdSt → LdSt) (i : Nat) (x : Fld) : (s.modLd f).flag i x = s.flag i x := rfl
@[simp] theorem State.modLd_qState (f : LdSt → LdSt) (i : Nat) : (s.modLd f).qState i = s.qState i := rfl
@[simp] theorem State.modLd_dieOn (f : LdSt → LdSt) (i : Nat) : (s.modLd f).dieOn i = s.dieOn i := rfl
@[simp] theorem State.modLd_memState (f : LdSt → LdSt) (i : Nat) : (s.modLd f).memState i = s.memState i := rfl
@[simp] theorem State.modLd_bank (f : LdSt → LdSt) (i j k : Nat) : (s.modLd f).bank i j k = s.bank i j k := rfl
@[simp] theorem State.modLd_pairState (f : LdSt → LdSt) : (s.modLd f).pairState = s.pairState := rfl
@[simp] theorem State.modLd_power (f : LdSt → LdSt) : (s.modLd f).power = s.power := rfl
@[simp] theorem State.modLd_timeState (f : LdSt → LdSt) : (s.modLd f).timeState = s.timeState := rfl
@[simp] theorem State.modLd_holdsToken (f : LdSt → LdSt) : (s.modLd f).holdsToken = s.holdsToken := rfl
@[simp] theorem State.modLd_vote (f : LdSt → LdSt) : (s.modLd f).vote = s.vote := rfl
@[simp] theorem State.modLd_qtr (f : LdSt → LdSt) (q : Nat) : (s.modLd f).qtr q = s.qtr q := rfl

/-! ### modPair -/

@[simp] theorem State.modPair_pair (f : PairSt → PairSt) : (s.modPair f).pair = f s.pair := rfl
@[simp] theorem State.modPair_pending (f : PairSt → PairSt) : (s.modPair f).pending = s.pending := rfl
@[simp] theorem State.modPair_now (f : PairSt → PairSt) : (s.modPair f).now = s.now := rfl
@[simp] theorem State.modPair_freeCtr (f : PairSt → PairSt) : (s.modPair f).freeCtr = s.freeCtr := rfl
@[simp] theorem State.modPair_regs (f : PairSt → PairSt) : (s.modPair f).regs = s.regs := rfl
@[simp] theorem State.modPair_mem (f : PairSt → PairSt) : (s.modPair f).mem = s.mem := rfl
@[simp] theorem State.modPair_grains (f : PairSt → PairSt) : (s.modPair f).grains = s.grains := rfl
@[simp] theorem State.modPair_rcv (f : PairSt → PairSt) : (s.modPair f).rcv = s.rcv := rfl
@[simp] theorem State.modPair_quarters (f : PairSt → PairSt) : (s.modPair f).quarters = s.quarters := rfl
@[simp] theorem State.modPair_img (f : PairSt → PairSt) : (s.modPair f).img = s.img := rfl
@[simp] theorem State.modPair_time (f : PairSt → PairSt) : (s.modPair f).time = s.time := rfl
@[simp] theorem State.modPair_tag (f : PairSt → PairSt) : (s.modPair f).tag = s.tag := rfl
@[simp] theorem State.modPair_pwr (f : PairSt → PairSt) : (s.modPair f).pwr = s.pwr := rfl
@[simp] theorem State.modPair_car (f : PairSt → PairSt) : (s.modPair f).car = s.car := rfl
@[simp] theorem State.modPair_io (f : PairSt → PairSt) : (s.modPair f).io = s.io := rfl
@[simp] theorem State.modPair_radio (f : PairSt → PairSt) : (s.modPair f).radio = s.radio := rfl
@[simp] theorem State.modPair_ld (f : PairSt → PairSt) : (s.modPair f).ld = s.ld := rfl
@[simp] theorem State.modPair_alm (f : PairSt → PairSt) : (s.modPair f).alm = s.alm := rfl
@[simp] theorem State.modPair_chain (f : PairSt → PairSt) : (s.modPair f).chain = s.chain := rfl
@[simp] theorem State.modPair_harb (f : PairSt → PairSt) : (s.modPair f).harb = s.harb := rfl
@[simp] theorem State.modPair_host (f : PairSt → PairSt) : (s.modPair f).host = s.host := rfl
@[simp] theorem State.modPair_panel (f : PairSt → PairSt) : (s.modPair f).panel = s.panel := rfl
@[simp] theorem State.modPair_out (f : PairSt → PairSt) : (s.modPair f).out = s.out := rfl
@[simp] theorem State.modPair_reg (f : PairSt → PairSt) (i : Nat) : (s.modPair f).reg i = s.reg i := rfl
@[simp] theorem State.modPair_regN (f : PairSt → PairSt) (i : Nat) : (s.modPair f).regN i = s.regN i := rfl
@[simp] theorem State.modPair_reg64 (f : PairSt → PairSt) (i : Nat) : (s.modPair f).reg64 i = s.reg64 i := rfl
@[simp] theorem State.modPair_getF (f : PairSt → PairSt) (i : Nat) (x : Fld) : (s.modPair f).getF i x = s.getF i x := rfl
@[simp] theorem State.modPair_flag (f : PairSt → PairSt) (i : Nat) (x : Fld) : (s.modPair f).flag i x = s.flag i x := rfl
@[simp] theorem State.modPair_qState (f : PairSt → PairSt) (i : Nat) : (s.modPair f).qState i = s.qState i := rfl
@[simp] theorem State.modPair_dieOn (f : PairSt → PairSt) (i : Nat) : (s.modPair f).dieOn i = s.dieOn i := rfl
@[simp] theorem State.modPair_memState (f : PairSt → PairSt) (i : Nat) : (s.modPair f).memState i = s.memState i := rfl
@[simp] theorem State.modPair_bank (f : PairSt → PairSt) (i j k : Nat) : (s.modPair f).bank i j k = s.bank i j k := rfl
@[simp] theorem State.modPair_pairState (f : PairSt → PairSt) : (s.modPair f).pairState = s.pairState := rfl
@[simp] theorem State.modPair_power (f : PairSt → PairSt) : (s.modPair f).power = s.power := rfl
@[simp] theorem State.modPair_timeState (f : PairSt → PairSt) : (s.modPair f).timeState = s.timeState := rfl
@[simp] theorem State.modPair_holdsToken (f : PairSt → PairSt) : (s.modPair f).holdsToken = s.holdsToken := rfl
@[simp] theorem State.modPair_vote (f : PairSt → PairSt) : (s.modPair f).vote = s.vote := rfl
@[simp] theorem State.modPair_qtr (f : PairSt → PairSt) (q : Nat) : (s.modPair f).qtr q = s.qtr q := rfl

/-! ### modP -/

@[simp] theorem State.modP_pwr (f : PwrSt → PwrSt) : (s.modP f).pwr = f s.pwr := rfl
@[simp] theorem State.modP_pending (f : PwrSt → PwrSt) : (s.modP f).pending = s.pending := rfl
@[simp] theorem State.modP_now (f : PwrSt → PwrSt) : (s.modP f).now = s.now := rfl
@[simp] theorem State.modP_freeCtr (f : PwrSt → PwrSt) : (s.modP f).freeCtr = s.freeCtr := rfl
@[simp] theorem State.modP_regs (f : PwrSt → PwrSt) : (s.modP f).regs = s.regs := rfl
@[simp] theorem State.modP_mem (f : PwrSt → PwrSt) : (s.modP f).mem = s.mem := rfl
@[simp] theorem State.modP_grains (f : PwrSt → PwrSt) : (s.modP f).grains = s.grains := rfl
@[simp] theorem State.modP_rcv (f : PwrSt → PwrSt) : (s.modP f).rcv = s.rcv := rfl
@[simp] theorem State.modP_quarters (f : PwrSt → PwrSt) : (s.modP f).quarters = s.quarters := rfl
@[simp] theorem State.modP_img (f : PwrSt → PwrSt) : (s.modP f).img = s.img := rfl
@[simp] theorem State.modP_time (f : PwrSt → PwrSt) : (s.modP f).time = s.time := rfl
@[simp] theorem State.modP_tag (f : PwrSt → PwrSt) : (s.modP f).tag = s.tag := rfl
@[simp] theorem State.modP_car (f : PwrSt → PwrSt) : (s.modP f).car = s.car := rfl
@[simp] theorem State.modP_io (f : PwrSt → PwrSt) : (s.modP f).io = s.io := rfl
@[simp] theorem State.modP_radio (f : PwrSt → PwrSt) : (s.modP f).radio = s.radio := rfl
@[simp] theorem State.modP_ld (f : PwrSt → PwrSt) : (s.modP f).ld = s.ld := rfl
@[simp] theorem State.modP_alm (f : PwrSt → PwrSt) : (s.modP f).alm = s.alm := rfl
@[simp] theorem State.modP_chain (f : PwrSt → PwrSt) : (s.modP f).chain = s.chain := rfl
@[simp] theorem State.modP_harb (f : PwrSt → PwrSt) : (s.modP f).harb = s.harb := rfl
@[simp] theorem State.modP_pair (f : PwrSt → PwrSt) : (s.modP f).pair = s.pair := rfl
@[simp] theorem State.modP_host (f : PwrSt → PwrSt) : (s.modP f).host = s.host := rfl
@[simp] theorem State.modP_panel (f : PwrSt → PwrSt) : (s.modP f).panel = s.panel := rfl
@[simp] theorem State.modP_out (f : PwrSt → PwrSt) : (s.modP f).out = s.out := rfl
@[simp] theorem State.modP_reg (f : PwrSt → PwrSt) (i : Nat) : (s.modP f).reg i = s.reg i := rfl
@[simp] theorem State.modP_regN (f : PwrSt → PwrSt) (i : Nat) : (s.modP f).regN i = s.regN i := rfl
@[simp] theorem State.modP_reg64 (f : PwrSt → PwrSt) (i : Nat) : (s.modP f).reg64 i = s.reg64 i := rfl
@[simp] theorem State.modP_getF (f : PwrSt → PwrSt) (i : Nat) (x : Fld) : (s.modP f).getF i x = s.getF i x := rfl
@[simp] theorem State.modP_flag (f : PwrSt → PwrSt) (i : Nat) (x : Fld) : (s.modP f).flag i x = s.flag i x := rfl
@[simp] theorem State.modP_qState (f : PwrSt → PwrSt) (i : Nat) : (s.modP f).qState i = s.qState i := rfl
@[simp] theorem State.modP_dieOn (f : PwrSt → PwrSt) (i : Nat) : (s.modP f).dieOn i = s.dieOn i := rfl
@[simp] theorem State.modP_memState (f : PwrSt → PwrSt) (i : Nat) : (s.modP f).memState i = s.memState i := rfl
@[simp] theorem State.modP_bank (f : PwrSt → PwrSt) (i j k : Nat) : (s.modP f).bank i j k = s.bank i j k := rfl
@[simp] theorem State.modP_pairState (f : PwrSt → PwrSt) : (s.modP f).pairState = s.pairState := rfl
@[simp] theorem State.modP_power (f : PwrSt → PwrSt) : (s.modP f).power = s.power := rfl
@[simp] theorem State.modP_timeState (f : PwrSt → PwrSt) : (s.modP f).timeState = s.timeState := rfl
@[simp] theorem State.modP_holdsToken (f : PwrSt → PwrSt) : (s.modP f).holdsToken = s.holdsToken := rfl
@[simp] theorem State.modP_vote (f : PwrSt → PwrSt) : (s.modP f).vote = s.vote := rfl
@[simp] theorem State.modP_qtr (f : PwrSt → PwrSt) (q : Nat) : (s.modP f).qtr q = s.qtr q := rfl

/-! ### modRad -/

@[simp] theorem State.modRad_radio (f : RadioSt → RadioSt) : (s.modRad f).radio = f s.radio := rfl
@[simp] theorem State.modRad_pending (f : RadioSt → RadioSt) : (s.modRad f).pending = s.pending := rfl
@[simp] theorem State.modRad_now (f : RadioSt → RadioSt) : (s.modRad f).now = s.now := rfl
@[simp] theorem State.modRad_freeCtr (f : RadioSt → RadioSt) : (s.modRad f).freeCtr = s.freeCtr := rfl
@[simp] theorem State.modRad_regs (f : RadioSt → RadioSt) : (s.modRad f).regs = s.regs := rfl
@[simp] theorem State.modRad_mem (f : RadioSt → RadioSt) : (s.modRad f).mem = s.mem := rfl
@[simp] theorem State.modRad_grains (f : RadioSt → RadioSt) : (s.modRad f).grains = s.grains := rfl
@[simp] theorem State.modRad_rcv (f : RadioSt → RadioSt) : (s.modRad f).rcv = s.rcv := rfl
@[simp] theorem State.modRad_quarters (f : RadioSt → RadioSt) : (s.modRad f).quarters = s.quarters := rfl
@[simp] theorem State.modRad_img (f : RadioSt → RadioSt) : (s.modRad f).img = s.img := rfl
@[simp] theorem State.modRad_time (f : RadioSt → RadioSt) : (s.modRad f).time = s.time := rfl
@[simp] theorem State.modRad_tag (f : RadioSt → RadioSt) : (s.modRad f).tag = s.tag := rfl
@[simp] theorem State.modRad_pwr (f : RadioSt → RadioSt) : (s.modRad f).pwr = s.pwr := rfl
@[simp] theorem State.modRad_car (f : RadioSt → RadioSt) : (s.modRad f).car = s.car := rfl
@[simp] theorem State.modRad_io (f : RadioSt → RadioSt) : (s.modRad f).io = s.io := rfl
@[simp] theorem State.modRad_ld (f : RadioSt → RadioSt) : (s.modRad f).ld = s.ld := rfl
@[simp] theorem State.modRad_alm (f : RadioSt → RadioSt) : (s.modRad f).alm = s.alm := rfl
@[simp] theorem State.modRad_chain (f : RadioSt → RadioSt) : (s.modRad f).chain = s.chain := rfl
@[simp] theorem State.modRad_harb (f : RadioSt → RadioSt) : (s.modRad f).harb = s.harb := rfl
@[simp] theorem State.modRad_pair (f : RadioSt → RadioSt) : (s.modRad f).pair = s.pair := rfl
@[simp] theorem State.modRad_host (f : RadioSt → RadioSt) : (s.modRad f).host = s.host := rfl
@[simp] theorem State.modRad_panel (f : RadioSt → RadioSt) : (s.modRad f).panel = s.panel := rfl
@[simp] theorem State.modRad_out (f : RadioSt → RadioSt) : (s.modRad f).out = s.out := rfl
@[simp] theorem State.modRad_reg (f : RadioSt → RadioSt) (i : Nat) : (s.modRad f).reg i = s.reg i := rfl
@[simp] theorem State.modRad_regN (f : RadioSt → RadioSt) (i : Nat) : (s.modRad f).regN i = s.regN i := rfl
@[simp] theorem State.modRad_reg64 (f : RadioSt → RadioSt) (i : Nat) : (s.modRad f).reg64 i = s.reg64 i := rfl
@[simp] theorem State.modRad_getF (f : RadioSt → RadioSt) (i : Nat) (x : Fld) : (s.modRad f).getF i x = s.getF i x := rfl
@[simp] theorem State.modRad_flag (f : RadioSt → RadioSt) (i : Nat) (x : Fld) : (s.modRad f).flag i x = s.flag i x := rfl
@[simp] theorem State.modRad_qState (f : RadioSt → RadioSt) (i : Nat) : (s.modRad f).qState i = s.qState i := rfl
@[simp] theorem State.modRad_dieOn (f : RadioSt → RadioSt) (i : Nat) : (s.modRad f).dieOn i = s.dieOn i := rfl
@[simp] theorem State.modRad_memState (f : RadioSt → RadioSt) (i : Nat) : (s.modRad f).memState i = s.memState i := rfl
@[simp] theorem State.modRad_bank (f : RadioSt → RadioSt) (i j k : Nat) : (s.modRad f).bank i j k = s.bank i j k := rfl
@[simp] theorem State.modRad_pairState (f : RadioSt → RadioSt) : (s.modRad f).pairState = s.pairState := rfl
@[simp] theorem State.modRad_power (f : RadioSt → RadioSt) : (s.modRad f).power = s.power := rfl
@[simp] theorem State.modRad_timeState (f : RadioSt → RadioSt) : (s.modRad f).timeState = s.timeState := rfl
@[simp] theorem State.modRad_holdsToken (f : RadioSt → RadioSt) : (s.modRad f).holdsToken = s.holdsToken := rfl
@[simp] theorem State.modRad_vote (f : RadioSt → RadioSt) : (s.modRad f).vote = s.vote := rfl
@[simp] theorem State.modRad_qtr (f : RadioSt → RadioSt) (q : Nat) : (s.modRad f).qtr q = s.qtr q := rfl

/-! ### modR -/

@[simp] theorem State.modR_rcv (f : RecSt → RecSt) : (s.modR f).rcv = f s.rcv := rfl
@[simp] theorem State.modR_pending (f : RecSt → RecSt) : (s.modR f).pending = s.pending := rfl
@[simp] theorem State.modR_now (f : RecSt → RecSt) : (s.modR f).now = s.now := rfl
@[simp] theorem State.modR_freeCtr (f : RecSt → RecSt) : (s.modR f).freeCtr = s.freeCtr := rfl
@[simp] theorem State.modR_regs (f : RecSt → RecSt) : (s.modR f).regs = s.regs := rfl
@[simp] theorem State.modR_mem (f : RecSt → RecSt) : (s.modR f).mem = s.mem := rfl
@[simp] theorem State.modR_grains (f : RecSt → RecSt) : (s.modR f).grains = s.grains := rfl
@[simp] theorem State.modR_quarters (f : RecSt → RecSt) : (s.modR f).quarters = s.quarters := rfl
@[simp] theorem State.modR_img (f : RecSt → RecSt) : (s.modR f).img = s.img := rfl
@[simp] theorem State.modR_time (f : RecSt → RecSt) : (s.modR f).time = s.time := rfl
@[simp] theorem State.modR_tag (f : RecSt → RecSt) : (s.modR f).tag = s.tag := rfl
@[simp] theorem State.modR_pwr (f : RecSt → RecSt) : (s.modR f).pwr = s.pwr := rfl
@[simp] theorem State.modR_car (f : RecSt → RecSt) : (s.modR f).car = s.car := rfl
@[simp] theorem State.modR_io (f : RecSt → RecSt) : (s.modR f).io = s.io := rfl
@[simp] theorem State.modR_radio (f : RecSt → RecSt) : (s.modR f).radio = s.radio := rfl
@[simp] theorem State.modR_ld (f : RecSt → RecSt) : (s.modR f).ld = s.ld := rfl
@[simp] theorem State.modR_alm (f : RecSt → RecSt) : (s.modR f).alm = s.alm := rfl
@[simp] theorem State.modR_chain (f : RecSt → RecSt) : (s.modR f).chain = s.chain := rfl
@[simp] theorem State.modR_harb (f : RecSt → RecSt) : (s.modR f).harb = s.harb := rfl
@[simp] theorem State.modR_pair (f : RecSt → RecSt) : (s.modR f).pair = s.pair := rfl
@[simp] theorem State.modR_host (f : RecSt → RecSt) : (s.modR f).host = s.host := rfl
@[simp] theorem State.modR_panel (f : RecSt → RecSt) : (s.modR f).panel = s.panel := rfl
@[simp] theorem State.modR_out (f : RecSt → RecSt) : (s.modR f).out = s.out := rfl
@[simp] theorem State.modR_reg (f : RecSt → RecSt) (i : Nat) : (s.modR f).reg i = s.reg i := rfl
@[simp] theorem State.modR_regN (f : RecSt → RecSt) (i : Nat) : (s.modR f).regN i = s.regN i := rfl
@[simp] theorem State.modR_reg64 (f : RecSt → RecSt) (i : Nat) : (s.modR f).reg64 i = s.reg64 i := rfl
@[simp] theorem State.modR_getF (f : RecSt → RecSt) (i : Nat) (x : Fld) : (s.modR f).getF i x = s.getF i x := rfl
@[simp] theorem State.modR_flag (f : RecSt → RecSt) (i : Nat) (x : Fld) : (s.modR f).flag i x = s.flag i x := rfl
@[simp] theorem State.modR_qState (f : RecSt → RecSt) (i : Nat) : (s.modR f).qState i = s.qState i := rfl
@[simp] theorem State.modR_dieOn (f : RecSt → RecSt) (i : Nat) : (s.modR f).dieOn i = s.dieOn i := rfl
@[simp] theorem State.modR_memState (f : RecSt → RecSt) (i : Nat) : (s.modR f).memState i = s.memState i := rfl
@[simp] theorem State.modR_bank (f : RecSt → RecSt) (i j k : Nat) : (s.modR f).bank i j k = s.bank i j k := rfl
@[simp] theorem State.modR_pairState (f : RecSt → RecSt) : (s.modR f).pairState = s.pairState := rfl
@[simp] theorem State.modR_power (f : RecSt → RecSt) : (s.modR f).power = s.power := rfl
@[simp] theorem State.modR_timeState (f : RecSt → RecSt) : (s.modR f).timeState = s.timeState := rfl
@[simp] theorem State.modR_holdsToken (f : RecSt → RecSt) : (s.modR f).holdsToken = s.holdsToken := rfl
@[simp] theorem State.modR_vote (f : RecSt → RecSt) : (s.modR f).vote = s.vote := rfl
@[simp] theorem State.modR_qtr (f : RecSt → RecSt) (q : Nat) : (s.modR f).qtr q = s.qtr q := rfl

/-! ### modTag -/

@[simp] theorem State.modTag_tag (f : TagSt → TagSt) : (s.modTag f).tag = f s.tag := rfl
@[simp] theorem State.modTag_pending (f : TagSt → TagSt) : (s.modTag f).pending = s.pending := rfl
@[simp] theorem State.modTag_now (f : TagSt → TagSt) : (s.modTag f).now = s.now := rfl
@[simp] theorem State.modTag_freeCtr (f : TagSt → TagSt) : (s.modTag f).freeCtr = s.freeCtr := rfl
@[simp] theorem State.modTag_regs (f : TagSt → TagSt) : (s.modTag f).regs = s.regs := rfl
@[simp] theorem State.modTag_mem (f : TagSt → TagSt) : (s.modTag f).mem = s.mem := rfl
@[simp] theorem State.modTag_grains (f : TagSt → TagSt) : (s.modTag f).grains = s.grains := rfl
@[simp] theorem State.modTag_rcv (f : TagSt → TagSt) : (s.modTag f).rcv = s.rcv := rfl
@[simp] theorem State.modTag_quarters (f : TagSt → TagSt) : (s.modTag f).quarters = s.quarters := rfl
@[simp] theorem State.modTag_img (f : TagSt → TagSt) : (s.modTag f).img = s.img := rfl
@[simp] theorem State.modTag_time (f : TagSt → TagSt) : (s.modTag f).time = s.time := rfl
@[simp] theorem State.modTag_pwr (f : TagSt → TagSt) : (s.modTag f).pwr = s.pwr := rfl
@[simp] theorem State.modTag_car (f : TagSt → TagSt) : (s.modTag f).car = s.car := rfl
@[simp] theorem State.modTag_io (f : TagSt → TagSt) : (s.modTag f).io = s.io := rfl
@[simp] theorem State.modTag_radio (f : TagSt → TagSt) : (s.modTag f).radio = s.radio := rfl
@[simp] theorem State.modTag_ld (f : TagSt → TagSt) : (s.modTag f).ld = s.ld := rfl
@[simp] theorem State.modTag_alm (f : TagSt → TagSt) : (s.modTag f).alm = s.alm := rfl
@[simp] theorem State.modTag_chain (f : TagSt → TagSt) : (s.modTag f).chain = s.chain := rfl
@[simp] theorem State.modTag_harb (f : TagSt → TagSt) : (s.modTag f).harb = s.harb := rfl
@[simp] theorem State.modTag_pair (f : TagSt → TagSt) : (s.modTag f).pair = s.pair := rfl
@[simp] theorem State.modTag_host (f : TagSt → TagSt) : (s.modTag f).host = s.host := rfl
@[simp] theorem State.modTag_panel (f : TagSt → TagSt) : (s.modTag f).panel = s.panel := rfl
@[simp] theorem State.modTag_out (f : TagSt → TagSt) : (s.modTag f).out = s.out := rfl
@[simp] theorem State.modTag_reg (f : TagSt → TagSt) (i : Nat) : (s.modTag f).reg i = s.reg i := rfl
@[simp] theorem State.modTag_regN (f : TagSt → TagSt) (i : Nat) : (s.modTag f).regN i = s.regN i := rfl
@[simp] theorem State.modTag_reg64 (f : TagSt → TagSt) (i : Nat) : (s.modTag f).reg64 i = s.reg64 i := rfl
@[simp] theorem State.modTag_getF (f : TagSt → TagSt) (i : Nat) (x : Fld) : (s.modTag f).getF i x = s.getF i x := rfl
@[simp] theorem State.modTag_flag (f : TagSt → TagSt) (i : Nat) (x : Fld) : (s.modTag f).flag i x = s.flag i x := rfl
@[simp] theorem State.modTag_qState (f : TagSt → TagSt) (i : Nat) : (s.modTag f).qState i = s.qState i := rfl
@[simp] theorem State.modTag_dieOn (f : TagSt → TagSt) (i : Nat) : (s.modTag f).dieOn i = s.dieOn i := rfl
@[simp] theorem State.modTag_memState (f : TagSt → TagSt) (i : Nat) : (s.modTag f).memState i = s.memState i := rfl
@[simp] theorem State.modTag_bank (f : TagSt → TagSt) (i j k : Nat) : (s.modTag f).bank i j k = s.bank i j k := rfl
@[simp] theorem State.modTag_pairState (f : TagSt → TagSt) : (s.modTag f).pairState = s.pairState := rfl
@[simp] theorem State.modTag_power (f : TagSt → TagSt) : (s.modTag f).power = s.power := rfl
@[simp] theorem State.modTag_timeState (f : TagSt → TagSt) : (s.modTag f).timeState = s.timeState := rfl
@[simp] theorem State.modTag_holdsToken (f : TagSt → TagSt) : (s.modTag f).holdsToken = s.holdsToken := rfl
@[simp] theorem State.modTag_vote (f : TagSt → TagSt) : (s.modTag f).vote = s.vote := rfl
@[simp] theorem State.modTag_qtr (f : TagSt → TagSt) (q : Nat) : (s.modTag f).qtr q = s.qtr q := rfl

/-! ### modPan -/

@[simp] theorem State.modPan_panel (f : PanelSt → PanelSt) : (s.modPan f).panel = f s.panel := rfl
@[simp] theorem State.modPan_pending (f : PanelSt → PanelSt) : (s.modPan f).pending = s.pending := rfl
@[simp] theorem State.modPan_now (f : PanelSt → PanelSt) : (s.modPan f).now = s.now := rfl
@[simp] theorem State.modPan_freeCtr (f : PanelSt → PanelSt) : (s.modPan f).freeCtr = s.freeCtr := rfl
@[simp] theorem State.modPan_regs (f : PanelSt → PanelSt) : (s.modPan f).regs = s.regs := rfl
@[simp] theorem State.modPan_mem (f : PanelSt → PanelSt) : (s.modPan f).mem = s.mem := rfl
@[simp] theorem State.modPan_grains (f : PanelSt → PanelSt) : (s.modPan f).grains = s.grains := rfl
@[simp] theorem State.modPan_rcv (f : PanelSt → PanelSt) : (s.modPan f).rcv = s.rcv := rfl
@[simp] theorem State.modPan_quarters (f : PanelSt → PanelSt) : (s.modPan f).quarters = s.quarters := rfl
@[simp] theorem State.modPan_img (f : PanelSt → PanelSt) : (s.modPan f).img = s.img := rfl
@[simp] theorem State.modPan_time (f : PanelSt → PanelSt) : (s.modPan f).time = s.time := rfl
@[simp] theorem State.modPan_tag (f : PanelSt → PanelSt) : (s.modPan f).tag = s.tag := rfl
@[simp] theorem State.modPan_pwr (f : PanelSt → PanelSt) : (s.modPan f).pwr = s.pwr := rfl
@[simp] theorem State.modPan_car (f : PanelSt → PanelSt) : (s.modPan f).car = s.car := rfl
@[simp] theorem State.modPan_io (f : PanelSt → PanelSt) : (s.modPan f).io = s.io := rfl
@[simp] theorem State.modPan_radio (f : PanelSt → PanelSt) : (s.modPan f).radio = s.radio := rfl
@[simp] theorem State.modPan_ld (f : PanelSt → PanelSt) : (s.modPan f).ld = s.ld := rfl
@[simp] theorem State.modPan_alm (f : PanelSt → PanelSt) : (s.modPan f).alm = s.alm := rfl
@[simp] theorem State.modPan_chain (f : PanelSt → PanelSt) : (s.modPan f).chain = s.chain := rfl
@[simp] theorem State.modPan_harb (f : PanelSt → PanelSt) : (s.modPan f).harb = s.harb := rfl
@[simp] theorem State.modPan_pair (f : PanelSt → PanelSt) : (s.modPan f).pair = s.pair := rfl
@[simp] theorem State.modPan_host (f : PanelSt → PanelSt) : (s.modPan f).host = s.host := rfl
@[simp] theorem State.modPan_out (f : PanelSt → PanelSt) : (s.modPan f).out = s.out := rfl
@[simp] theorem State.modPan_reg (f : PanelSt → PanelSt) (i : Nat) : (s.modPan f).reg i = s.reg i := rfl
@[simp] theorem State.modPan_regN (f : PanelSt → PanelSt) (i : Nat) : (s.modPan f).regN i = s.regN i := rfl
@[simp] theorem State.modPan_reg64 (f : PanelSt → PanelSt) (i : Nat) : (s.modPan f).reg64 i = s.reg64 i := rfl
@[simp] theorem State.modPan_getF (f : PanelSt → PanelSt) (i : Nat) (x : Fld) : (s.modPan f).getF i x = s.getF i x := rfl
@[simp] theorem State.modPan_flag (f : PanelSt → PanelSt) (i : Nat) (x : Fld) : (s.modPan f).flag i x = s.flag i x := rfl
@[simp] theorem State.modPan_qState (f : PanelSt → PanelSt) (i : Nat) : (s.modPan f).qState i = s.qState i := rfl
@[simp] theorem State.modPan_dieOn (f : PanelSt → PanelSt) (i : Nat) : (s.modPan f).dieOn i = s.dieOn i := rfl
@[simp] theorem State.modPan_memState (f : PanelSt → PanelSt) (i : Nat) : (s.modPan f).memState i = s.memState i := rfl
@[simp] theorem State.modPan_bank (f : PanelSt → PanelSt) (i j k : Nat) : (s.modPan f).bank i j k = s.bank i j k := rfl
@[simp] theorem State.modPan_pairState (f : PanelSt → PanelSt) : (s.modPan f).pairState = s.pairState := rfl
@[simp] theorem State.modPan_power (f : PanelSt → PanelSt) : (s.modPan f).power = s.power := rfl
@[simp] theorem State.modPan_timeState (f : PanelSt → PanelSt) : (s.modPan f).timeState = s.timeState := rfl
@[simp] theorem State.modPan_holdsToken (f : PanelSt → PanelSt) : (s.modPan f).holdsToken = s.holdsToken := rfl
@[simp] theorem State.modPan_vote (f : PanelSt → PanelSt) : (s.modPan f).vote = s.vote := rfl
@[simp] theorem State.modPan_qtr (f : PanelSt → PanelSt) (q : Nat) : (s.modPan f).qtr q = s.qtr q := rfl

/-! ### modT -/

@[simp] theorem State.modT_time (f : TimeSt → TimeSt) : (s.modT f).time = f s.time := rfl
@[simp] theorem State.modT_pending (f : TimeSt → TimeSt) : (s.modT f).pending = s.pending := rfl
@[simp] theorem State.modT_now (f : TimeSt → TimeSt) : (s.modT f).now = s.now := rfl
@[simp] theorem State.modT_freeCtr (f : TimeSt → TimeSt) : (s.modT f).freeCtr = s.freeCtr := rfl
@[simp] theorem State.modT_regs (f : TimeSt → TimeSt) : (s.modT f).regs = s.regs := rfl
@[simp] theorem State.modT_mem (f : TimeSt → TimeSt) : (s.modT f).mem = s.mem := rfl
@[simp] theorem State.modT_grains (f : TimeSt → TimeSt) : (s.modT f).grains = s.grains := rfl
@[simp] theorem State.modT_rcv (f : TimeSt → TimeSt) : (s.modT f).rcv = s.rcv := rfl
@[simp] theorem State.modT_quarters (f : TimeSt → TimeSt) : (s.modT f).quarters = s.quarters := rfl
@[simp] theorem State.modT_img (f : TimeSt → TimeSt) : (s.modT f).img = s.img := rfl
@[simp] theorem State.modT_tag (f : TimeSt → TimeSt) : (s.modT f).tag = s.tag := rfl
@[simp] theorem State.modT_pwr (f : TimeSt → TimeSt) : (s.modT f).pwr = s.pwr := rfl
@[simp] theorem State.modT_car (f : TimeSt → TimeSt) : (s.modT f).car = s.car := rfl
@[simp] theorem State.modT_io (f : TimeSt → TimeSt) : (s.modT f).io = s.io := rfl
@[simp] theorem State.modT_radio (f : TimeSt → TimeSt) : (s.modT f).radio = s.radio := rfl
@[simp] theorem State.modT_ld (f : TimeSt → TimeSt) : (s.modT f).ld = s.ld := rfl
@[simp] theorem State.modT_alm (f : TimeSt → TimeSt) : (s.modT f).alm = s.alm := rfl
@[simp] theorem State.modT_chain (f : TimeSt → TimeSt) : (s.modT f).chain = s.chain := rfl
@[simp] theorem State.modT_harb (f : TimeSt → TimeSt) : (s.modT f).harb = s.harb := rfl
@[simp] theorem State.modT_pair (f : TimeSt → TimeSt) : (s.modT f).pair = s.pair := rfl
@[simp] theorem State.modT_host (f : TimeSt → TimeSt) : (s.modT f).host = s.host := rfl
@[simp] theorem State.modT_panel (f : TimeSt → TimeSt) : (s.modT f).panel = s.panel := rfl
@[simp] theorem State.modT_out (f : TimeSt → TimeSt) : (s.modT f).out = s.out := rfl
@[simp] theorem State.modT_reg (f : TimeSt → TimeSt) (i : Nat) : (s.modT f).reg i = s.reg i := rfl
@[simp] theorem State.modT_regN (f : TimeSt → TimeSt) (i : Nat) : (s.modT f).regN i = s.regN i := rfl
@[simp] theorem State.modT_reg64 (f : TimeSt → TimeSt) (i : Nat) : (s.modT f).reg64 i = s.reg64 i := rfl
@[simp] theorem State.modT_getF (f : TimeSt → TimeSt) (i : Nat) (x : Fld) : (s.modT f).getF i x = s.getF i x := rfl
@[simp] theorem State.modT_flag (f : TimeSt → TimeSt) (i : Nat) (x : Fld) : (s.modT f).flag i x = s.flag i x := rfl
@[simp] theorem State.modT_qState (f : TimeSt → TimeSt) (i : Nat) : (s.modT f).qState i = s.qState i := rfl
@[simp] theorem State.modT_dieOn (f : TimeSt → TimeSt) (i : Nat) : (s.modT f).dieOn i = s.dieOn i := rfl
@[simp] theorem State.modT_memState (f : TimeSt → TimeSt) (i : Nat) : (s.modT f).memState i = s.memState i := rfl
@[simp] theorem State.modT_bank (f : TimeSt → TimeSt) (i j k : Nat) : (s.modT f).bank i j k = s.bank i j k := rfl
@[simp] theorem State.modT_pairState (f : TimeSt → TimeSt) : (s.modT f).pairState = s.pairState := rfl
@[simp] theorem State.modT_power (f : TimeSt → TimeSt) : (s.modT f).power = s.power := rfl
@[simp] theorem State.modT_timeState (f : TimeSt → TimeSt) : (s.modT f).timeState = s.timeState := rfl
@[simp] theorem State.modT_holdsToken (f : TimeSt → TimeSt) : (s.modT f).holdsToken = s.holdsToken := rfl
@[simp] theorem State.modT_vote (f : TimeSt → TimeSt) : (s.modT f).vote = s.vote := rfl
@[simp] theorem State.modT_qtr (f : TimeSt → TimeSt) (q : Nat) : (s.modT f).qtr q = s.qtr q := rfl

/-! ### at -/

@[simp] theorem State.at_pending (t : Nat) : (s.at t).pending = s.pending := rfl
@[simp] theorem State.at_now (t : Nat) : (s.at t).now = max s.now t := rfl
@[simp] theorem State.at_freeCtr (t : Nat) : (s.at t).freeCtr = s.freeCtr := rfl
@[simp] theorem State.at_regs (t : Nat) : (s.at t).regs = s.regs := rfl
@[simp] theorem State.at_mem (t : Nat) : (s.at t).mem = s.mem := rfl
@[simp] theorem State.at_grains (t : Nat) : (s.at t).grains = s.grains := rfl
@[simp] theorem State.at_rcv (t : Nat) : (s.at t).rcv = s.rcv := rfl
@[simp] theorem State.at_quarters (t : Nat) : (s.at t).quarters = s.quarters := rfl
@[simp] theorem State.at_img (t : Nat) : (s.at t).img = s.img := rfl
@[simp] theorem State.at_time (t : Nat) : (s.at t).time = s.time := rfl
@[simp] theorem State.at_tag (t : Nat) : (s.at t).tag = s.tag := rfl
@[simp] theorem State.at_pwr (t : Nat) : (s.at t).pwr = s.pwr := rfl
@[simp] theorem State.at_car (t : Nat) : (s.at t).car = s.car := rfl
@[simp] theorem State.at_io (t : Nat) : (s.at t).io = s.io := rfl
@[simp] theorem State.at_radio (t : Nat) : (s.at t).radio = s.radio := rfl
@[simp] theorem State.at_ld (t : Nat) : (s.at t).ld = s.ld := rfl
@[simp] theorem State.at_alm (t : Nat) : (s.at t).alm = s.alm := rfl
@[simp] theorem State.at_chain (t : Nat) : (s.at t).chain = s.chain := rfl
@[simp] theorem State.at_harb (t : Nat) : (s.at t).harb = s.harb := rfl
@[simp] theorem State.at_pair (t : Nat) : (s.at t).pair = s.pair := rfl
@[simp] theorem State.at_host (t : Nat) : (s.at t).host = s.host := rfl
@[simp] theorem State.at_panel (t : Nat) : (s.at t).panel = s.panel := rfl
@[simp] theorem State.at_out (t : Nat) : (s.at t).out = s.out := rfl
@[simp] theorem State.at_reg (t : Nat) (i : Nat) : (s.at t).reg i = s.reg i := rfl
@[simp] theorem State.at_regN (t : Nat) (i : Nat) : (s.at t).regN i = s.regN i := rfl
@[simp] theorem State.at_reg64 (t : Nat) (i : Nat) : (s.at t).reg64 i = s.reg64 i := rfl
@[simp] theorem State.at_getF (t : Nat) (i : Nat) (x : Fld) : (s.at t).getF i x = s.getF i x := rfl
@[simp] theorem State.at_flag (t : Nat) (i : Nat) (x : Fld) : (s.at t).flag i x = s.flag i x := rfl
@[simp] theorem State.at_qState (t : Nat) (i : Nat) : (s.at t).qState i = s.qState i := rfl
@[simp] theorem State.at_dieOn (t : Nat) (i : Nat) : (s.at t).dieOn i = s.dieOn i := rfl
@[simp] theorem State.at_memState (t : Nat) (i : Nat) : (s.at t).memState i = s.memState i := rfl
@[simp] theorem State.at_bank (t : Nat) (i j k : Nat) : (s.at t).bank i j k = s.bank i j k := rfl
@[simp] theorem State.at_pairState (t : Nat) : (s.at t).pairState = s.pairState := rfl
@[simp] theorem State.at_power (t : Nat) : (s.at t).power = s.power := rfl
@[simp] theorem State.at_timeState (t : Nat) : (s.at t).timeState = s.timeState := rfl
@[simp] theorem State.at_holdsToken (t : Nat) : (s.at t).holdsToken = s.holdsToken := rfl
@[simp] theorem State.at_vote (t : Nat) : (s.at t).vote = s.vote := rfl
@[simp] theorem State.at_qtr (t : Nat) (q : Nat) : (s.at t).qtr q = s.qtr q := rfl

/-! ### send -/

@[simp] theorem State.send_pending (p c d : Nat) (b : List Byte) : (s.send p c d b).pending = s.pending := rfl
@[simp] theorem State.send_now (p c d : Nat) (b : List Byte) : (s.send p c d b).now = s.now := rfl
@[simp] theorem State.send_freeCtr (p c d : Nat) (b : List Byte) : (s.send p c d b).freeCtr = s.freeCtr := rfl
@[simp] theorem State.send_regs (p c d : Nat) (b : List Byte) : (s.send p c d b).regs = s.regs := rfl
@[simp] theorem State.send_mem (p c d : Nat) (b : List Byte) : (s.send p c d b).mem = s.mem := rfl
@[simp] theorem State.send_grains (p c d : Nat) (b : List Byte) : (s.send p c d b).grains = s.grains := rfl
@[simp] theorem State.send_rcv (p c d : Nat) (b : List Byte) : (s.send p c d b).rcv = s.rcv := rfl
@[simp] theorem State.send_quarters (p c d : Nat) (b : List Byte) : (s.send p c d b).quarters = s.quarters := rfl
@[simp] theorem State.send_img (p c d : Nat) (b : List Byte) : (s.send p c d b).img = s.img := rfl
@[simp] theorem State.send_time (p c d : Nat) (b : List Byte) : (s.send p c d b).time = s.time := rfl
@[simp] theorem State.send_tag (p c d : Nat) (b : List Byte) : (s.send p c d b).tag = s.tag := rfl
@[simp] theorem State.send_pwr (p c d : Nat) (b : List Byte) : (s.send p c d b).pwr = s.pwr := rfl
@[simp] theorem State.send_car (p c d : Nat) (b : List Byte) : (s.send p c d b).car = s.car := rfl
@[simp] theorem State.send_io (p c d : Nat) (b : List Byte) : (s.send p c d b).io = s.io := rfl
@[simp] theorem State.send_radio (p c d : Nat) (b : List Byte) : (s.send p c d b).radio = s.radio := rfl
@[simp] theorem State.send_ld (p c d : Nat) (b : List Byte) : (s.send p c d b).ld = s.ld := rfl
@[simp] theorem State.send_alm (p c d : Nat) (b : List Byte) : (s.send p c d b).alm = s.alm := rfl
@[simp] theorem State.send_chain (p c d : Nat) (b : List Byte) : (s.send p c d b).chain = s.chain := rfl
@[simp] theorem State.send_harb (p c d : Nat) (b : List Byte) : (s.send p c d b).harb = s.harb := rfl
@[simp] theorem State.send_pair (p c d : Nat) (b : List Byte) : (s.send p c d b).pair = s.pair := rfl
@[simp] theorem State.send_host (p c d : Nat) (b : List Byte) : (s.send p c d b).host = s.host := rfl
@[simp] theorem State.send_panel (p c d : Nat) (b : List Byte) : (s.send p c d b).panel = s.panel := rfl
@[simp] theorem State.send_out (p c d : Nat) (b : List Byte) : (s.send p c d b).out = s.out ++ [⟨p, c, d, b⟩] := rfl
@[simp] theorem State.send_reg (p c d : Nat) (b : List Byte) (i : Nat) : (s.send p c d b).reg i = s.reg i := rfl
@[simp] theorem State.send_regN (p c d : Nat) (b : List Byte) (i : Nat) : (s.send p c d b).regN i = s.regN i := rfl
@[simp] theorem State.send_reg64 (p c d : Nat) (b : List Byte) (i : Nat) : (s.send p c d b).reg64 i = s.reg64 i := rfl
@[simp] theorem State.send_getF (p c d : Nat) (b : List Byte) (i : Nat) (x : Fld) : (s.send p c d b).getF i x = s.getF i x := rfl
@[simp] theorem State.send_flag (p c d : Nat) (b : List Byte) (i : Nat) (x : Fld) : (s.send p c d b).flag i x = s.flag i x := rfl
@[simp] theorem State.send_qState (p c d : Nat) (b : List Byte) (i : Nat) : (s.send p c d b).qState i = s.qState i := rfl
@[simp] theorem State.send_dieOn (p c d : Nat) (b : List Byte) (i : Nat) : (s.send p c d b).dieOn i = s.dieOn i := rfl
@[simp] theorem State.send_memState (p c d : Nat) (b : List Byte) (i : Nat) : (s.send p c d b).memState i = s.memState i := rfl
@[simp] theorem State.send_bank (p c d : Nat) (b : List Byte) (i j k : Nat) : (s.send p c d b).bank i j k = s.bank i j k := rfl
@[simp] theorem State.send_pairState (p c d : Nat) (b : List Byte) : (s.send p c d b).pairState = s.pairState := rfl
@[simp] theorem State.send_power (p c d : Nat) (b : List Byte) : (s.send p c d b).power = s.power := rfl
@[simp] theorem State.send_timeState (p c d : Nat) (b : List Byte) : (s.send p c d b).timeState = s.timeState := rfl
@[simp] theorem State.send_holdsToken (p c d : Nat) (b : List Byte) : (s.send p c d b).holdsToken = s.holdsToken := rfl
@[simp] theorem State.send_vote (p c d : Nat) (b : List Byte) : (s.send p c d b).vote = s.vote := rfl
@[simp] theorem State.send_qtr (p c d : Nat) (b : List Byte) (q : Nat) : (s.send p c d b).qtr q = s.qtr q := rfl

/-! ### poke -/

@[simp] theorem State.poke_pending (k : Nat) (b : List Byte) : (s.poke k b).pending = s.pending := rfl
@[simp] theorem State.poke_now (k : Nat) (b : List Byte) : (s.poke k b).now = s.now := rfl
@[simp] theorem State.poke_freeCtr (k : Nat) (b : List Byte) : (s.poke k b).freeCtr = s.freeCtr := rfl
@[simp] theorem State.poke_regs (k : Nat) (b : List Byte) : (s.poke k b).regs = s.regs := rfl
@[simp] theorem State.poke_mem (k : Nat) (b : List Byte) : (s.poke k b).mem = { s.mem with bytes := memWrite s.mem.bytes k b } := rfl
@[simp] theorem State.poke_grains (k : Nat) (b : List Byte) : (s.poke k b).grains = s.grains := rfl
@[simp] theorem State.poke_rcv (k : Nat) (b : List Byte) : (s.poke k b).rcv = s.rcv := rfl
@[simp] theorem State.poke_quarters (k : Nat) (b : List Byte) : (s.poke k b).quarters = s.quarters := rfl
@[simp] theorem State.poke_img (k : Nat) (b : List Byte) : (s.poke k b).img = s.img := rfl
@[simp] theorem State.poke_time (k : Nat) (b : List Byte) : (s.poke k b).time = s.time := rfl
@[simp] theorem State.poke_tag (k : Nat) (b : List Byte) : (s.poke k b).tag = s.tag := rfl
@[simp] theorem State.poke_pwr (k : Nat) (b : List Byte) : (s.poke k b).pwr = s.pwr := rfl
@[simp] theorem State.poke_car (k : Nat) (b : List Byte) : (s.poke k b).car = s.car := rfl
@[simp] theorem State.poke_io (k : Nat) (b : List Byte) : (s.poke k b).io = s.io := rfl
@[simp] theorem State.poke_radio (k : Nat) (b : List Byte) : (s.poke k b).radio = s.radio := rfl
@[simp] theorem State.poke_ld (k : Nat) (b : List Byte) : (s.poke k b).ld = s.ld := rfl
@[simp] theorem State.poke_alm (k : Nat) (b : List Byte) : (s.poke k b).alm = s.alm := rfl
@[simp] theorem State.poke_chain (k : Nat) (b : List Byte) : (s.poke k b).chain = s.chain := rfl
@[simp] theorem State.poke_harb (k : Nat) (b : List Byte) : (s.poke k b).harb = s.harb := rfl
@[simp] theorem State.poke_pair (k : Nat) (b : List Byte) : (s.poke k b).pair = s.pair := rfl
@[simp] theorem State.poke_host (k : Nat) (b : List Byte) : (s.poke k b).host = s.host := rfl
@[simp] theorem State.poke_panel (k : Nat) (b : List Byte) : (s.poke k b).panel = s.panel := rfl
@[simp] theorem State.poke_out (k : Nat) (b : List Byte) : (s.poke k b).out = s.out := rfl
@[simp] theorem State.poke_reg (k : Nat) (b : List Byte) (i : Nat) : (s.poke k b).reg i = s.reg i := rfl
@[simp] theorem State.poke_regN (k : Nat) (b : List Byte) (i : Nat) : (s.poke k b).regN i = s.regN i := rfl
@[simp] theorem State.poke_reg64 (k : Nat) (b : List Byte) (i : Nat) : (s.poke k b).reg64 i = s.reg64 i := rfl
@[simp] theorem State.poke_getF (k : Nat) (b : List Byte) (i : Nat) (x : Fld) : (s.poke k b).getF i x = s.getF i x := rfl
@[simp] theorem State.poke_flag (k : Nat) (b : List Byte) (i : Nat) (x : Fld) : (s.poke k b).flag i x = s.flag i x := rfl
@[simp] theorem State.poke_qState (k : Nat) (b : List Byte) (i : Nat) : (s.poke k b).qState i = s.qState i := rfl
@[simp] theorem State.poke_dieOn (k : Nat) (b : List Byte) (i : Nat) : (s.poke k b).dieOn i = s.dieOn i := rfl
@[simp] theorem State.poke_memState (k : Nat) (b : List Byte) (i : Nat) : (s.poke k b).memState i = s.memState i := rfl
@[simp] theorem State.poke_bank (k : Nat) (b : List Byte) (i j k : Nat) : (s.poke k b).bank i j k = s.bank i j k := rfl
@[simp] theorem State.poke_pairState (k : Nat) (b : List Byte) : (s.poke k b).pairState = s.pairState := rfl
@[simp] theorem State.poke_power (k : Nat) (b : List Byte) : (s.poke k b).power = s.power := rfl
@[simp] theorem State.poke_timeState (k : Nat) (b : List Byte) : (s.poke k b).timeState = s.timeState := rfl
@[simp] theorem State.poke_holdsToken (k : Nat) (b : List Byte) : (s.poke k b).holdsToken = s.holdsToken := rfl
@[simp] theorem State.poke_vote (k : Nat) (b : List Byte) : (s.poke k b).vote = s.vote := rfl
@[simp] theorem State.poke_qtr (k : Nat) (b : List Byte) (q : Nat) : (s.poke k b).qtr q = s.qtr q := rfl

/-! ### setReg -/

@[simp] theorem State.setReg_pending (a : Nat) (v : Word) : (s.setReg a v).pending = s.pending := rfl
@[simp] theorem State.setReg_now (a : Nat) (v : Word) : (s.setReg a v).now = s.now := rfl
@[simp] theorem State.setReg_freeCtr (a : Nat) (v : Word) : (s.setReg a v).freeCtr = s.freeCtr := rfl
@[simp] theorem State.setReg_mem (a : Nat) (v : Word) : (s.setReg a v).mem = s.mem := rfl
@[simp] theorem State.setReg_grains (a : Nat) (v : Word) : (s.setReg a v).grains = s.grains := rfl
@[simp] theorem State.setReg_rcv (a : Nat) (v : Word) : (s.setReg a v).rcv = s.rcv := rfl
@[simp] theorem State.setReg_quarters (a : Nat) (v : Word) : (s.setReg a v).quarters = s.quarters := rfl
@[simp] theorem State.setReg_img (a : Nat) (v : Word) : (s.setReg a v).img = s.img := rfl
@[simp] theorem State.setReg_time (a : Nat) (v : Word) : (s.setReg a v).time = s.time := rfl
@[simp] theorem State.setReg_tag (a : Nat) (v : Word) : (s.setReg a v).tag = s.tag := rfl
@[simp] theorem State.setReg_pwr (a : Nat) (v : Word) : (s.setReg a v).pwr = s.pwr := rfl
@[simp] theorem State.setReg_car (a : Nat) (v : Word) : (s.setReg a v).car = s.car := rfl
@[simp] theorem State.setReg_io (a : Nat) (v : Word) : (s.setReg a v).io = s.io := rfl
@[simp] theorem State.setReg_radio (a : Nat) (v : Word) : (s.setReg a v).radio = s.radio := rfl
@[simp] theorem State.setReg_ld (a : Nat) (v : Word) : (s.setReg a v).ld = s.ld := rfl
@[simp] theorem State.setReg_alm (a : Nat) (v : Word) : (s.setReg a v).alm = s.alm := rfl
@[simp] theorem State.setReg_chain (a : Nat) (v : Word) : (s.setReg a v).chain = s.chain := rfl
@[simp] theorem State.setReg_harb (a : Nat) (v : Word) : (s.setReg a v).harb = s.harb := rfl
@[simp] theorem State.setReg_pair (a : Nat) (v : Word) : (s.setReg a v).pair = s.pair := rfl
@[simp] theorem State.setReg_host (a : Nat) (v : Word) : (s.setReg a v).host = s.host := rfl
@[simp] theorem State.setReg_panel (a : Nat) (v : Word) : (s.setReg a v).panel = s.panel := rfl
@[simp] theorem State.setReg_out (a : Nat) (v : Word) : (s.setReg a v).out = s.out := rfl
@[simp] theorem State.setReg_qtr (a : Nat) (v : Word) (i : Nat) : (s.setReg a v).qtr i = s.qtr i := rfl

/-! ### setRegN -/

@[simp] theorem State.setRegN_pending (a n : Nat) : (s.setRegN a n).pending = s.pending := rfl
@[simp] theorem State.setRegN_now (a n : Nat) : (s.setRegN a n).now = s.now := rfl
@[simp] theorem State.setRegN_freeCtr (a n : Nat) : (s.setRegN a n).freeCtr = s.freeCtr := rfl
@[simp] theorem State.setRegN_mem (a n : Nat) : (s.setRegN a n).mem = s.mem := rfl
@[simp] theorem State.setRegN_grains (a n : Nat) : (s.setRegN a n).grains = s.grains := rfl
@[simp] theorem State.setRegN_rcv (a n : Nat) : (s.setRegN a n).rcv = s.rcv := rfl
@[simp] theorem State.setRegN_quarters (a n : Nat) : (s.setRegN a n).quarters = s.quarters := rfl
@[simp] theorem State.setRegN_img (a n : Nat) : (s.setRegN a n).img = s.img := rfl
@[simp] theorem State.setRegN_time (a n : Nat) : (s.setRegN a n).time = s.time := rfl
@[simp] theorem State.setRegN_tag (a n : Nat) : (s.setRegN a n).tag = s.tag := rfl
@[simp] theorem State.setRegN_pwr (a n : Nat) : (s.setRegN a n).pwr = s.pwr := rfl
@[simp] theorem State.setRegN_car (a n : Nat) : (s.setRegN a n).car = s.car := rfl
@[simp] theorem State.setRegN_io (a n : Nat) : (s.setRegN a n).io = s.io := rfl
@[simp] theorem State.setRegN_radio (a n : Nat) : (s.setRegN a n).radio = s.radio := rfl
@[simp] theorem State.setRegN_ld (a n : Nat) : (s.setRegN a n).ld = s.ld := rfl
@[simp] theorem State.setRegN_alm (a n : Nat) : (s.setRegN a n).alm = s.alm := rfl
@[simp] theorem State.setRegN_chain (a n : Nat) : (s.setRegN a n).chain = s.chain := rfl
@[simp] theorem State.setRegN_harb (a n : Nat) : (s.setRegN a n).harb = s.harb := rfl
@[simp] theorem State.setRegN_pair (a n : Nat) : (s.setRegN a n).pair = s.pair := rfl
@[simp] theorem State.setRegN_host (a n : Nat) : (s.setRegN a n).host = s.host := rfl
@[simp] theorem State.setRegN_panel (a n : Nat) : (s.setRegN a n).panel = s.panel := rfl
@[simp] theorem State.setRegN_out (a n : Nat) : (s.setRegN a n).out = s.out := rfl
@[simp] theorem State.setRegN_qtr (a n : Nat) (i : Nat) : (s.setRegN a n).qtr i = s.qtr i := rfl

/-! ### setF -/

@[simp] theorem State.setF_pending (a : Nat) (f : Fld) (n : Nat) : (s.setF a f n).pending = s.pending := rfl
@[simp] theorem State.setF_now (a : Nat) (f : Fld) (n : Nat) : (s.setF a f n).now = s.now := rfl
@[simp] theorem State.setF_freeCtr (a : Nat) (f : Fld) (n : Nat) : (s.setF a f n).freeCtr = s.freeCtr := rfl
@[simp] theorem State.setF_mem (a : Nat) (f : Fld) (n : Nat) : (s.setF a f n).mem = s.mem := rfl
@[simp] theorem State.setF_grains (a : Nat) (f : Fld) (n : Nat) : (s.setF a f n).grains = s.grains := rfl
@[simp] theorem State.setF_rcv (a : Nat) (f : Fld) (n : Nat) : (s.setF a f n).rcv = s.rcv := rfl
@[simp] theorem State.setF_quarters (a : Nat) (f : Fld) (n : Nat) : (s.setF a f n).quarters = s.quarters := rfl
@[simp] theorem State.setF_img (a : Nat) (f : Fld) (n : Nat) : (s.setF a f n).img = s.img := rfl
@[simp] theorem State.setF_time (a : Nat) (f : Fld) (n : Nat) : (s.setF a f n).time = s.time := rfl
@[simp] theorem State.setF_tag (a : Nat) (f : Fld) (n : Nat) : (s.setF a f n).tag = s.tag := rfl
@[simp] theorem State.setF_pwr (a : Nat) (f : Fld) (n : Nat) : (s.setF a f n).pwr = s.pwr := rfl
@[simp] theorem State.setF_car (a : Nat) (f : Fld) (n : Nat) : (s.setF a f n).car = s.car := rfl
@[simp] theorem State.setF_io (a : Nat) (f : Fld) (n : Nat) : (s.setF a f n).io = s.io := rfl
@[simp] theorem State.setF_radio (a : Nat) (f : Fld) (n : Nat) : (s.setF a f n).radio = s.radio := rfl
@[simp] theorem State.setF_ld (a : Nat) (f : Fld) (n : Nat) : (s.setF a f n).ld = s.ld := rfl
@[simp] theorem State.setF_alm (a : Nat) (f : Fld) (n : Nat) : (s.setF a f n).alm = s.alm := rfl
@[simp] theorem State.setF_chain (a : Nat) (f : Fld) (n : Nat) : (s.setF a f n).chain = s.chain := rfl
@[simp] theorem State.setF_harb (a : Nat) (f : Fld) (n : Nat) : (s.setF a f n).harb = s.harb := rfl
@[simp] theorem State.setF_pair (a : Nat) (f : Fld) (n : Nat) : (s.setF a f n).pair = s.pair := rfl
@[simp] theorem State.setF_host (a : Nat) (f : Fld) (n : Nat) : (s.setF a f n).host = s.host := rfl
@[simp] theorem State.setF_panel (a : Nat) (f : Fld) (n : Nat) : (s.setF a f n).panel = s.panel := rfl
@[simp] theorem State.setF_out (a : Nat) (f : Fld) (n : Nat) : (s.setF a f n).out = s.out := rfl
@[simp] theorem State.setF_qtr (a : Nat) (f : Fld) (n : Nat) (i : Nat) : (s.setF a f n).qtr i = s.qtr i := rfl

/-! ### raise -/

@[simp] theorem State.raise_pending (a : Nat) (f : Fld) : (s.raise a f).pending = s.pending := rfl
@[simp] theorem State.raise_now (a : Nat) (f : Fld) : (s.raise a f).now = s.now := rfl
@[simp] theorem State.raise_freeCtr (a : Nat) (f : Fld) : (s.raise a f).freeCtr = s.freeCtr := rfl
@[simp] theorem State.raise_mem (a : Nat) (f : Fld) : (s.raise a f).mem = s.mem := rfl
@[simp] theorem State.raise_grains (a : Nat) (f : Fld) : (s.raise a f).grains = s.grains := rfl
@[simp] theorem State.raise_rcv (a : Nat) (f : Fld) : (s.raise a f).rcv = s.rcv := rfl
@[simp] theorem State.raise_quarters (a : Nat) (f : Fld) : (s.raise a f).quarters = s.quarters := rfl
@[simp] theorem State.raise_img (a : Nat) (f : Fld) : (s.raise a f).img = s.img := rfl
@[simp] theorem State.raise_time (a : Nat) (f : Fld) : (s.raise a f).time = s.time := rfl
@[simp] theorem State.raise_tag (a : Nat) (f : Fld) : (s.raise a f).tag = s.tag := rfl
@[simp] theorem State.raise_pwr (a : Nat) (f : Fld) : (s.raise a f).pwr = s.pwr := rfl
@[simp] theorem State.raise_car (a : Nat) (f : Fld) : (s.raise a f).car = s.car := rfl
@[simp] theorem State.raise_io (a : Nat) (f : Fld) : (s.raise a f).io = s.io := rfl
@[simp] theorem State.raise_radio (a : Nat) (f : Fld) : (s.raise a f).radio = s.radio := rfl
@[simp] theorem State.raise_ld (a : Nat) (f : Fld) : (s.raise a f).ld = s.ld := rfl
@[simp] theorem State.raise_alm (a : Nat) (f : Fld) : (s.raise a f).alm = s.alm := rfl
@[simp] theorem State.raise_chain (a : Nat) (f : Fld) : (s.raise a f).chain = s.chain := rfl
@[simp] theorem State.raise_harb (a : Nat) (f : Fld) : (s.raise a f).harb = s.harb := rfl
@[simp] theorem State.raise_pair (a : Nat) (f : Fld) : (s.raise a f).pair = s.pair := rfl
@[simp] theorem State.raise_host (a : Nat) (f : Fld) : (s.raise a f).host = s.host := rfl
@[simp] theorem State.raise_panel (a : Nat) (f : Fld) : (s.raise a f).panel = s.panel := rfl
@[simp] theorem State.raise_out (a : Nat) (f : Fld) : (s.raise a f).out = s.out := rfl
@[simp] theorem State.raise_qtr (a : Nat) (f : Fld) (i : Nat) : (s.raise a f).qtr i = s.qtr i := rfl

/-! ### drop -/

@[simp] theorem State.drop_pending (a : Nat) (f : Fld) : (s.drop a f).pending = s.pending := rfl
@[simp] theorem State.drop_now (a : Nat) (f : Fld) : (s.drop a f).now = s.now := rfl
@[simp] theorem State.drop_freeCtr (a : Nat) (f : Fld) : (s.drop a f).freeCtr = s.freeCtr := rfl
@[simp] theorem State.drop_mem (a : Nat) (f : Fld) : (s.drop a f).mem = s.mem := rfl
@[simp] theorem State.drop_grains (a : Nat) (f : Fld) : (s.drop a f).grains = s.grains := rfl
@[simp] theorem State.drop_rcv (a : Nat) (f : Fld) : (s.drop a f).rcv = s.rcv := rfl
@[simp] theorem State.drop_quarters (a : Nat) (f : Fld) : (s.drop a f).quarters = s.quarters := rfl
@[simp] theorem State.drop_img (a : Nat) (f : Fld) : (s.drop a f).img = s.img := rfl
@[simp] theorem State.drop_time (a : Nat) (f : Fld) : (s.drop a f).time = s.time := rfl
@[simp] theorem State.drop_tag (a : Nat) (f : Fld) : (s.drop a f).tag = s.tag := rfl
@[simp] theorem State.drop_pwr (a : Nat) (f : Fld) : (s.drop a f).pwr = s.pwr := rfl
@[simp] theorem State.drop_car (a : Nat) (f : Fld) : (s.drop a f).car = s.car := rfl
@[simp] theorem State.drop_io (a : Nat) (f : Fld) : (s.drop a f).io = s.io := rfl
@[simp] theorem State.drop_radio (a : Nat) (f : Fld) : (s.drop a f).radio = s.radio := rfl
@[simp] theorem State.drop_ld (a : Nat) (f : Fld) : (s.drop a f).ld = s.ld := rfl
@[simp] theorem State.drop_alm (a : Nat) (f : Fld) : (s.drop a f).alm = s.alm := rfl
@[simp] theorem State.drop_chain (a : Nat) (f : Fld) : (s.drop a f).chain = s.chain := rfl
@[simp] theorem State.drop_harb (a : Nat) (f : Fld) : (s.drop a f).harb = s.harb := rfl
@[simp] theorem State.drop_pair (a : Nat) (f : Fld) : (s.drop a f).pair = s.pair := rfl
@[simp] theorem State.drop_host (a : Nat) (f : Fld) : (s.drop a f).host = s.host := rfl
@[simp] theorem State.drop_panel (a : Nat) (f : Fld) : (s.drop a f).panel = s.panel := rfl
@[simp] theorem State.drop_out (a : Nat) (f : Fld) : (s.drop a f).out = s.out := rfl
@[simp] theorem State.drop_qtr (a : Nat) (f : Fld) (i : Nat) : (s.drop a f).qtr i = s.qtr i := rfl

/-! ### inc -/

@[simp] theorem State.inc_pending (a : Nat) : (s.inc a).pending = s.pending := rfl
@[simp] theorem State.inc_now (a : Nat) : (s.inc a).now = s.now := rfl
@[simp] theorem State.inc_freeCtr (a : Nat) : (s.inc a).freeCtr = s.freeCtr := rfl
@[simp] theorem State.inc_mem (a : Nat) : (s.inc a).mem = s.mem := rfl
@[simp] theorem State.inc_grains (a : Nat) : (s.inc a).grains = s.grains := rfl
@[simp] theorem State.inc_rcv (a : Nat) : (s.inc a).rcv = s.rcv := rfl
@[simp] theorem State.inc_quarters (a : Nat) : (s.inc a).quarters = s.quarters := rfl
@[simp] theorem State.inc_img (a : Nat) : (s.inc a).img = s.img := rfl
@[simp] theorem State.inc_time (a : Nat) : (s.inc a).time = s.time := rfl
@[simp] theorem State.inc_tag (a : Nat) : (s.inc a).tag = s.tag := rfl
@[simp] theorem State.inc_pwr (a : Nat) : (s.inc a).pwr = s.pwr := rfl
@[simp] theorem State.inc_car (a : Nat) : (s.inc a).car = s.car := rfl
@[simp] theorem State.inc_io (a : Nat) : (s.inc a).io = s.io := rfl
@[simp] theorem State.inc_radio (a : Nat) : (s.inc a).radio = s.radio := rfl
@[simp] theorem State.inc_ld (a : Nat) : (s.inc a).ld = s.ld := rfl
@[simp] theorem State.inc_alm (a : Nat) : (s.inc a).alm = s.alm := rfl
@[simp] theorem State.inc_chain (a : Nat) : (s.inc a).chain = s.chain := rfl
@[simp] theorem State.inc_harb (a : Nat) : (s.inc a).harb = s.harb := rfl
@[simp] theorem State.inc_pair (a : Nat) : (s.inc a).pair = s.pair := rfl
@[simp] theorem State.inc_host (a : Nat) : (s.inc a).host = s.host := rfl
@[simp] theorem State.inc_panel (a : Nat) : (s.inc a).panel = s.panel := rfl
@[simp] theorem State.inc_out (a : Nat) : (s.inc a).out = s.out := rfl
@[simp] theorem State.inc_qtr (a : Nat) (i : Nat) : (s.inc a).qtr i = s.qtr i := rfl

/-! ### incSat -/

@[simp] theorem State.incSat_pending (a : Nat) : (s.incSat a).pending = s.pending := rfl
@[simp] theorem State.incSat_now (a : Nat) : (s.incSat a).now = s.now := rfl
@[simp] theorem State.incSat_freeCtr (a : Nat) : (s.incSat a).freeCtr = s.freeCtr := rfl
@[simp] theorem State.incSat_mem (a : Nat) : (s.incSat a).mem = s.mem := rfl
@[simp] theorem State.incSat_grains (a : Nat) : (s.incSat a).grains = s.grains := rfl
@[simp] theorem State.incSat_rcv (a : Nat) : (s.incSat a).rcv = s.rcv := rfl
@[simp] theorem State.incSat_quarters (a : Nat) : (s.incSat a).quarters = s.quarters := rfl
@[simp] theorem State.incSat_img (a : Nat) : (s.incSat a).img = s.img := rfl
@[simp] theorem State.incSat_time (a : Nat) : (s.incSat a).time = s.time := rfl
@[simp] theorem State.incSat_tag (a : Nat) : (s.incSat a).tag = s.tag := rfl
@[simp] theorem State.incSat_pwr (a : Nat) : (s.incSat a).pwr = s.pwr := rfl
@[simp] theorem State.incSat_car (a : Nat) : (s.incSat a).car = s.car := rfl
@[simp] theorem State.incSat_io (a : Nat) : (s.incSat a).io = s.io := rfl
@[simp] theorem State.incSat_radio (a : Nat) : (s.incSat a).radio = s.radio := rfl
@[simp] theorem State.incSat_ld (a : Nat) : (s.incSat a).ld = s.ld := rfl
@[simp] theorem State.incSat_alm (a : Nat) : (s.incSat a).alm = s.alm := rfl
@[simp] theorem State.incSat_chain (a : Nat) : (s.incSat a).chain = s.chain := rfl
@[simp] theorem State.incSat_harb (a : Nat) : (s.incSat a).harb = s.harb := rfl
@[simp] theorem State.incSat_pair (a : Nat) : (s.incSat a).pair = s.pair := rfl
@[simp] theorem State.incSat_host (a : Nat) : (s.incSat a).host = s.host := rfl
@[simp] theorem State.incSat_panel (a : Nat) : (s.incSat a).panel = s.panel := rfl
@[simp] theorem State.incSat_out (a : Nat) : (s.incSat a).out = s.out := rfl
@[simp] theorem State.incSat_qtr (a : Nat) (i : Nat) : (s.incSat a).qtr i = s.qtr i := rfl

/-! ### setPair -/

@[simp] theorem State.setPair_pending (a n : Nat) : (s.setPair a n).pending = s.pending := rfl
@[simp] theorem State.setPair_now (a n : Nat) : (s.setPair a n).now = s.now := rfl
@[simp] theorem State.setPair_freeCtr (a n : Nat) : (s.setPair a n).freeCtr = s.freeCtr := rfl
@[simp] theorem State.setPair_mem (a n : Nat) : (s.setPair a n).mem = s.mem := rfl
@[simp] theorem State.setPair_grains (a n : Nat) : (s.setPair a n).grains = s.grains := rfl
@[simp] theorem State.setPair_rcv (a n : Nat) : (s.setPair a n).rcv = s.rcv := rfl
@[simp] theorem State.setPair_quarters (a n : Nat) : (s.setPair a n).quarters = s.quarters := rfl
@[simp] theorem State.setPair_img (a n : Nat) : (s.setPair a n).img = s.img := rfl
@[simp] theorem State.setPair_time (a n : Nat) : (s.setPair a n).time = s.time := rfl
@[simp] theorem State.setPair_tag (a n : Nat) : (s.setPair a n).tag = s.tag := rfl
@[simp] theorem State.setPair_pwr (a n : Nat) : (s.setPair a n).pwr = s.pwr := rfl
@[simp] theorem State.setPair_car (a n : Nat) : (s.setPair a n).car = s.car := rfl
@[simp] theorem State.setPair_io (a n : Nat) : (s.setPair a n).io = s.io := rfl
@[simp] theorem State.setPair_radio (a n : Nat) : (s.setPair a n).radio = s.radio := rfl
@[simp] theorem State.setPair_ld (a n : Nat) : (s.setPair a n).ld = s.ld := rfl
@[simp] theorem State.setPair_alm (a n : Nat) : (s.setPair a n).alm = s.alm := rfl
@[simp] theorem State.setPair_chain (a n : Nat) : (s.setPair a n).chain = s.chain := rfl
@[simp] theorem State.setPair_harb (a n : Nat) : (s.setPair a n).harb = s.harb := rfl
@[simp] theorem State.setPair_pair (a n : Nat) : (s.setPair a n).pair = s.pair := rfl
@[simp] theorem State.setPair_host (a n : Nat) : (s.setPair a n).host = s.host := rfl
@[simp] theorem State.setPair_panel (a n : Nat) : (s.setPair a n).panel = s.panel := rfl
@[simp] theorem State.setPair_out (a n : Nat) : (s.setPair a n).out = s.out := rfl
@[simp] theorem State.setPair_qtr (a n : Nat) (i : Nat) : (s.setPair a n).qtr i = s.qtr i := rfl

/-! ### setReg64 -/

@[simp] theorem State.setReg64_pending (a n : Nat) : (s.setReg64 a n).pending = s.pending := rfl
@[simp] theorem State.setReg64_now (a n : Nat) : (s.setReg64 a n).now = s.now := rfl
@[simp] theorem State.setReg64_freeCtr (a n : Nat) : (s.setReg64 a n).freeCtr = s.freeCtr := rfl
@[simp] theorem State.setReg64_mem (a n : Nat) : (s.setReg64 a n).mem = s.mem := rfl
@[simp] theorem State.setReg64_grains (a n : Nat) : (s.setReg64 a n).grains = s.grains := rfl
@[simp] theorem State.setReg64_rcv (a n : Nat) : (s.setReg64 a n).rcv = s.rcv := rfl
@[simp] theorem State.setReg64_quarters (a n : Nat) : (s.setReg64 a n).quarters = s.quarters := rfl
@[simp] theorem State.setReg64_img (a n : Nat) : (s.setReg64 a n).img = s.img := rfl
@[simp] theorem State.setReg64_time (a n : Nat) : (s.setReg64 a n).time = s.time := rfl
@[simp] theorem State.setReg64_tag (a n : Nat) : (s.setReg64 a n).tag = s.tag := rfl
@[simp] theorem State.setReg64_pwr (a n : Nat) : (s.setReg64 a n).pwr = s.pwr := rfl
@[simp] theorem State.setReg64_car (a n : Nat) : (s.setReg64 a n).car = s.car := rfl
@[simp] theorem State.setReg64_io (a n : Nat) : (s.setReg64 a n).io = s.io := rfl
@[simp] theorem State.setReg64_radio (a n : Nat) : (s.setReg64 a n).radio = s.radio := rfl
@[simp] theorem State.setReg64_ld (a n : Nat) : (s.setReg64 a n).ld = s.ld := rfl
@[simp] theorem State.setReg64_alm (a n : Nat) : (s.setReg64 a n).alm = s.alm := rfl
@[simp] theorem State.setReg64_chain (a n : Nat) : (s.setReg64 a n).chain = s.chain := rfl
@[simp] theorem State.setReg64_harb (a n : Nat) : (s.setReg64 a n).harb = s.harb := rfl
@[simp] theorem State.setReg64_pair (a n : Nat) : (s.setReg64 a n).pair = s.pair := rfl
@[simp] theorem State.setReg64_host (a n : Nat) : (s.setReg64 a n).host = s.host := rfl
@[simp] theorem State.setReg64_panel (a n : Nat) : (s.setReg64 a n).panel = s.panel := rfl
@[simp] theorem State.setReg64_out (a n : Nat) : (s.setReg64 a n).out = s.out := rfl
@[simp] theorem State.setReg64_qtr (a n : Nat) (i : Nat) : (s.setReg64 a n).qtr i = s.qtr i := rfl

/-! ### setQState -/

@[simp] theorem State.setQState_pending (q n : Nat) : (s.setQState q n).pending = s.pending := rfl
@[simp] theorem State.setQState_now (q n : Nat) : (s.setQState q n).now = s.now := rfl
@[simp] theorem State.setQState_freeCtr (q n : Nat) : (s.setQState q n).freeCtr = s.freeCtr := rfl
@[simp] theorem State.setQState_mem (q n : Nat) : (s.setQState q n).mem = s.mem := rfl
@[simp] theorem State.setQState_grains (q n : Nat) : (s.setQState q n).grains = s.grains := rfl
@[simp] theorem State.setQState_rcv (q n : Nat) : (s.setQState q n).rcv = s.rcv := rfl
@[simp] theorem State.setQState_quarters (q n : Nat) : (s.setQState q n).quarters = s.quarters := rfl
@[simp] theorem State.setQState_img (q n : Nat) : (s.setQState q n).img = s.img := rfl
@[simp] theorem State.setQState_time (q n : Nat) : (s.setQState q n).time = s.time := rfl
@[simp] theorem State.setQState_tag (q n : Nat) : (s.setQState q n).tag = s.tag := rfl
@[simp] theorem State.setQState_pwr (q n : Nat) : (s.setQState q n).pwr = s.pwr := rfl
@[simp] theorem State.setQState_car (q n : Nat) : (s.setQState q n).car = s.car := rfl
@[simp] theorem State.setQState_io (q n : Nat) : (s.setQState q n).io = s.io := rfl
@[simp] theorem State.setQState_radio (q n : Nat) : (s.setQState q n).radio = s.radio := rfl
@[simp] theorem State.setQState_ld (q n : Nat) : (s.setQState q n).ld = s.ld := rfl
@[simp] theorem State.setQState_alm (q n : Nat) : (s.setQState q n).alm = s.alm := rfl
@[simp] theorem State.setQState_chain (q n : Nat) : (s.setQState q n).chain = s.chain := rfl
@[simp] theorem State.setQState_harb (q n : Nat) : (s.setQState q n).harb = s.harb := rfl
@[simp] theorem State.setQState_pair (q n : Nat) : (s.setQState q n).pair = s.pair := rfl
@[simp] theorem State.setQState_host (q n : Nat) : (s.setQState q n).host = s.host := rfl
@[simp] theorem State.setQState_panel (q n : Nat) : (s.setQState q n).panel = s.panel := rfl
@[simp] theorem State.setQState_out (q n : Nat) : (s.setQState q n).out = s.out := rfl
@[simp] theorem State.setQState_qtr (q n : Nat) (i : Nat) : (s.setQState q n).qtr i = s.qtr i := rfl

/-! ### incF -/

@[simp] theorem State.incF_pending (a : Nat) (f : Fld) : (s.incF a f).pending = s.pending := by unfold State.incF; split <;> rfl
@[simp] theorem State.incF_now (a : Nat) (f : Fld) : (s.incF a f).now = s.now := by unfold State.incF; split <;> rfl
@[simp] theorem State.incF_freeCtr (a : Nat) (f : Fld) : (s.incF a f).freeCtr = s.freeCtr := by unfold State.incF; split <;> rfl
@[simp] theorem State.incF_mem (a : Nat) (f : Fld) : (s.incF a f).mem = s.mem := by unfold State.incF; split <;> rfl
@[simp] theorem State.incF_grains (a : Nat) (f : Fld) : (s.incF a f).grains = s.grains := by unfold State.incF; split <;> rfl
@[simp] theorem State.incF_rcv (a : Nat) (f : Fld) : (s.incF a f).rcv = s.rcv := by unfold State.incF; split <;> rfl
@[simp] theorem State.incF_quarters (a : Nat) (f : Fld) : (s.incF a f).quarters = s.quarters := by unfold State.incF; split <;> rfl
@[simp] theorem State.incF_img (a : Nat) (f : Fld) : (s.incF a f).img = s.img := by unfold State.incF; split <;> rfl
@[simp] theorem State.incF_time (a : Nat) (f : Fld) : (s.incF a f).time = s.time := by unfold State.incF; split <;> rfl
@[simp] theorem State.incF_tag (a : Nat) (f : Fld) : (s.incF a f).tag = s.tag := by unfold State.incF; split <;> rfl
@[simp] theorem State.incF_pwr (a : Nat) (f : Fld) : (s.incF a f).pwr = s.pwr := by unfold State.incF; split <;> rfl
@[simp] theorem State.incF_car (a : Nat) (f : Fld) : (s.incF a f).car = s.car := by unfold State.incF; split <;> rfl
@[simp] theorem State.incF_io (a : Nat) (f : Fld) : (s.incF a f).io = s.io := by unfold State.incF; split <;> rfl
@[simp] theorem State.incF_radio (a : Nat) (f : Fld) : (s.incF a f).radio = s.radio := by unfold State.incF; split <;> rfl
@[simp] theorem State.incF_ld (a : Nat) (f : Fld) : (s.incF a f).ld = s.ld := by unfold State.incF; split <;> rfl
@[simp] theorem State.incF_alm (a : Nat) (f : Fld) : (s.incF a f).alm = s.alm := by unfold State.incF; split <;> rfl
@[simp] theorem State.incF_chain (a : Nat) (f : Fld) : (s.incF a f).chain = s.chain := by unfold State.incF; split <;> rfl
@[simp] theorem State.incF_harb (a : Nat) (f : Fld) : (s.incF a f).harb = s.harb := by unfold State.incF; split <;> rfl
@[simp] theorem State.incF_pair (a : Nat) (f : Fld) : (s.incF a f).pair = s.pair := by unfold State.incF; split <;> rfl
@[simp] theorem State.incF_host (a : Nat) (f : Fld) : (s.incF a f).host = s.host := by unfold State.incF; split <;> rfl
@[simp] theorem State.incF_panel (a : Nat) (f : Fld) : (s.incF a f).panel = s.panel := by unfold State.incF; split <;> rfl
@[simp] theorem State.incF_out (a : Nat) (f : Fld) : (s.incF a f).out = s.out := by unfold State.incF; split <;> rfl

/-! ### setQtr -/

@[simp] theorem State.setQtr_pending (q : Nat) (v : Quarter) : (s.setQtr q v).pending = s.pending := rfl
@[simp] theorem State.setQtr_now (q : Nat) (v : Quarter) : (s.setQtr q v).now = s.now := rfl
@[simp] theorem State.setQtr_freeCtr (q : Nat) (v : Quarter) : (s.setQtr q v).freeCtr = s.freeCtr := rfl
@[simp] theorem State.setQtr_regs (q : Nat) (v : Quarter) : (s.setQtr q v).regs = s.regs := rfl
@[simp] theorem State.setQtr_mem (q : Nat) (v : Quarter) : (s.setQtr q v).mem = s.mem := rfl
@[simp] theorem State.setQtr_grains (q : Nat) (v : Quarter) : (s.setQtr q v).grains = s.grains := rfl
@[simp] theorem State.setQtr_rcv (q : Nat) (v : Quarter) : (s.setQtr q v).rcv = s.rcv := rfl
@[simp] theorem State.setQtr_img (q : Nat) (v : Quarter) : (s.setQtr q v).img = s.img := rfl
@[simp] theorem State.setQtr_time (q : Nat) (v : Quarter) : (s.setQtr q v).time = s.time := rfl
@[simp] theorem State.setQtr_tag (q : Nat) (v : Quarter) : (s.setQtr q v).tag = s.tag := rfl
@[simp] theorem State.setQtr_pwr (q : Nat) (v : Quarter) : (s.setQtr q v).pwr = s.pwr := rfl
@[simp] theorem State.setQtr_car (q : Nat) (v : Quarter) : (s.setQtr q v).car = s.car := rfl
@[simp] theorem State.setQtr_io (q : Nat) (v : Quarter) : (s.setQtr q v).io = s.io := rfl
@[simp] theorem State.setQtr_radio (q : Nat) (v : Quarter) : (s.setQtr q v).radio = s.radio := rfl
@[simp] theorem State.setQtr_ld (q : Nat) (v : Quarter) : (s.setQtr q v).ld = s.ld := rfl
@[simp] theorem State.setQtr_alm (q : Nat) (v : Quarter) : (s.setQtr q v).alm = s.alm := rfl
@[simp] theorem State.setQtr_chain (q : Nat) (v : Quarter) : (s.setQtr q v).chain = s.chain := rfl
@[simp] theorem State.setQtr_harb (q : Nat) (v : Quarter) : (s.setQtr q v).harb = s.harb := rfl
@[simp] theorem State.setQtr_pair (q : Nat) (v : Quarter) : (s.setQtr q v).pair = s.pair := rfl
@[simp] theorem State.setQtr_host (q : Nat) (v : Quarter) : (s.setQtr q v).host = s.host := rfl
@[simp] theorem State.setQtr_panel (q : Nat) (v : Quarter) : (s.setQtr q v).panel = s.panel := rfl
@[simp] theorem State.setQtr_out (q : Nat) (v : Quarter) : (s.setQtr q v).out = s.out := rfl
@[simp] theorem State.setQtr_reg (q : Nat) (v : Quarter) (i : Nat) : (s.setQtr q v).reg i = s.reg i := rfl
@[simp] theorem State.setQtr_regN (q : Nat) (v : Quarter) (i : Nat) : (s.setQtr q v).regN i = s.regN i := rfl
@[simp] theorem State.setQtr_reg64 (q : Nat) (v : Quarter) (i : Nat) : (s.setQtr q v).reg64 i = s.reg64 i := rfl
@[simp] theorem State.setQtr_getF (q : Nat) (v : Quarter) (i : Nat) (x : Fld) : (s.setQtr q v).getF i x = s.getF i x := rfl
@[simp] theorem State.setQtr_flag (q : Nat) (v : Quarter) (i : Nat) (x : Fld) : (s.setQtr q v).flag i x = s.flag i x := rfl
@[simp] theorem State.setQtr_qState (q : Nat) (v : Quarter) (i : Nat) : (s.setQtr q v).qState i = s.qState i := rfl
@[simp] theorem State.setQtr_dieOn (q : Nat) (v : Quarter) (i : Nat) : (s.setQtr q v).dieOn i = s.dieOn i := rfl
@[simp] theorem State.setQtr_memState (q : Nat) (v : Quarter) (i : Nat) : (s.setQtr q v).memState i = s.memState i := rfl
@[simp] theorem State.setQtr_bank (q : Nat) (v : Quarter) (i j k : Nat) : (s.setQtr q v).bank i j k = s.bank i j k := rfl
@[simp] theorem State.setQtr_pairState (q : Nat) (v : Quarter) : (s.setQtr q v).pairState = s.pairState := rfl
@[simp] theorem State.setQtr_power (q : Nat) (v : Quarter) : (s.setQtr q v).power = s.power := rfl
@[simp] theorem State.setQtr_timeState (q : Nat) (v : Quarter) : (s.setQtr q v).timeState = s.timeState := rfl
@[simp] theorem State.setQtr_holdsToken (q : Nat) (v : Quarter) : (s.setQtr q v).holdsToken = s.holdsToken := rfl
@[simp] theorem State.setQtr_vote (q : Nat) (v : Quarter) : (s.setQtr q v).vote = s.vote := rfl

/-! ### modQ -/

@[simp] theorem State.modQ_pending (q : Nat) (f : Quarter → Quarter) : (s.modQ q f).pending = s.pending := rfl
@[simp] theorem State.modQ_now (q : Nat) (f : Quarter → Quarter) : (s.modQ q f).now = s.now := rfl
@[simp] theorem State.modQ_freeCtr (q : Nat) (f : Quarter → Quarter) : (s.modQ q f).freeCtr = s.freeCtr := rfl
@[simp] theorem State.modQ_regs (q : Nat) (f : Quarter → Quarter) : (s.modQ q f).regs = s.regs := rfl
@[simp] theorem State.modQ_mem (q : Nat) (f : Quarter → Quarter) : (s.modQ q f).mem = s.mem := rfl
@[simp] theorem State.modQ_grains (q : Nat) (f : Quarter → Quarter) : (s.modQ q f).grains = s.grains := rfl
@[simp] theorem State.modQ_rcv (q : Nat) (f : Quarter → Quarter) : (s.modQ q f).rcv = s.rcv := rfl
@[simp] theorem State.modQ_img (q : Nat) (f : Quarter → Quarter) : (s.modQ q f).img = s.img := rfl
@[simp] theorem State.modQ_time (q : Nat) (f : Quarter → Quarter) : (s.modQ q f).time = s.time := rfl
@[simp] theorem State.modQ_tag (q : Nat) (f : Quarter → Quarter) : (s.modQ q f).tag = s.tag := rfl
@[simp] theorem State.modQ_pwr (q : Nat) (f : Quarter → Quarter) : (s.modQ q f).pwr = s.pwr := rfl
@[simp] theorem State.modQ_car (q : Nat) (f : Quarter → Quarter) : (s.modQ q f).car = s.car := rfl
@[simp] theorem State.modQ_io (q : Nat) (f : Quarter → Quarter) : (s.modQ q f).io = s.io := rfl
@[simp] theorem State.modQ_radio (q : Nat) (f : Quarter → Quarter) : (s.modQ q f).radio = s.radio := rfl
@[simp] theorem State.modQ_ld (q : Nat) (f : Quarter → Quarter) : (s.modQ q f).ld = s.ld := rfl
@[simp] theorem State.modQ_alm (q : Nat) (f : Quarter → Quarter) : (s.modQ q f).alm = s.alm := rfl
@[simp] theorem State.modQ_chain (q : Nat) (f : Quarter → Quarter) : (s.modQ q f).chain = s.chain := rfl
@[simp] theorem State.modQ_harb (q : Nat) (f : Quarter → Quarter) : (s.modQ q f).harb = s.harb := rfl
@[simp] theorem State.modQ_pair (q : Nat) (f : Quarter → Quarter) : (s.modQ q f).pair = s.pair := rfl
@[simp] theorem State.modQ_host (q : Nat) (f : Quarter → Quarter) : (s.modQ q f).host = s.host := rfl
@[simp] theorem State.modQ_panel (q : Nat) (f : Quarter → Quarter) : (s.modQ q f).panel = s.panel := rfl
@[simp] theorem State.modQ_out (q : Nat) (f : Quarter → Quarter) : (s.modQ q f).out = s.out := rfl
@[simp] theorem State.modQ_reg (q : Nat) (f : Quarter → Quarter) (i : Nat) : (s.modQ q f).reg i = s.reg i := rfl
@[simp] theorem State.modQ_regN (q : Nat) (f : Quarter → Quarter) (i : Nat) : (s.modQ q f).regN i = s.regN i := rfl
@[simp] theorem State.modQ_reg64 (q : Nat) (f : Quarter → Quarter) (i : Nat) : (s.modQ q f).reg64 i = s.reg64 i := rfl
@[simp] theorem State.modQ_getF (q : Nat) (f : Quarter → Quarter) (i : Nat) (x : Fld) : (s.modQ q f).getF i x = s.getF i x := rfl
@[simp] theorem State.modQ_flag (q : Nat) (f : Quarter → Quarter) (i : Nat) (x : Fld) : (s.modQ q f).flag i x = s.flag i x := rfl
@[simp] theorem State.modQ_qState (q : Nat) (f : Quarter → Quarter) (i : Nat) : (s.modQ q f).qState i = s.qState i := rfl
@[simp] theorem State.modQ_dieOn (q : Nat) (f : Quarter → Quarter) (i : Nat) : (s.modQ q f).dieOn i = s.dieOn i := rfl
@[simp] theorem State.modQ_memState (q : Nat) (f : Quarter → Quarter) (i : Nat) : (s.modQ q f).memState i = s.memState i := rfl
@[simp] theorem State.modQ_bank (q : Nat) (f : Quarter → Quarter) (i j k : Nat) : (s.modQ q f).bank i j k = s.bank i j k := rfl
@[simp] theorem State.modQ_pairState (q : Nat) (f : Quarter → Quarter) : (s.modQ q f).pairState = s.pairState := rfl
@[simp] theorem State.modQ_power (q : Nat) (f : Quarter → Quarter) : (s.modQ q f).power = s.power := rfl
@[simp] theorem State.modQ_timeState (q : Nat) (f : Quarter → Quarter) : (s.modQ q f).timeState = s.timeState := rfl
@[simp] theorem State.modQ_holdsToken (q : Nat) (f : Quarter → Quarter) : (s.modQ q f).holdsToken = s.holdsToken := rfl
@[simp] theorem State.modQ_vote (q : Nat) (f : Quarter → Quarter) : (s.modQ q f).vote = s.vote := rfl

end Sys2Proof.Machine
end

