-- ==== Sys2Proof/Laws/Takes.lean ====
section
/-! SUPPORT. What a shared operation does once its conditions hold: a slot that issues, a frame that is delivered, a request that is
served, a host write that is let in. -/

namespace Sys2Proof.Machine

/-- The opcode of a slot is the one it was built with. -/
@[simp] theorem slotOp_slotOf (op : Nat) (w : BitVec 120) (h : op < 256) : slotOp (slotOf op w) = op := by
  simp [slotOp, slotOf, bitsOf]; omega

/-- A slot that issues acts in the state after its checks. -/
theorem State.issueSlot_of {s t : State} {q : BitVec 4} {j op : Nat} {w : BitVec 120} {f : State → Nat → Option State} {u : State}
    (h : s.issues q j op w t) (hf : f t (slotOf op w) = some u) : s.issueSlot q.toNat j op w f = u.endSlot q.toNat j := by
  simp [State.issueSlot, h.1, h.2, hf]

/-- A slot whose resource is busy waits: the state stays as it was. -/
theorem State.issueSlot_waits {s t : State} {q : BitVec 4} {j op : Nat} {w : BitVec 120} {f : State → Nat → Option State}
    (h : s.issues q j op w t) (hf : f t (slotOf op w) = none) : s.issueSlot q.toNat j op w f = s := by
  simp [State.issueSlot, h.1, h.2, hf]

/-- A harbour frame that is delivered and well-formed acts. -/
theorem State.harbIn_of {s u : State} {sub : Nat} {f : RcpFrame} (k : State → List Byte → State) (h : s.harbTakes sub f u) :
    s.harbIn sub f k = k u f.payload := by
  obtain ⟨h1, h2, h3, h4⟩ := h
  simp [State.harbIn, h1, h2, h3, h4]

/-- A pair frame that is delivered and well-formed acts. -/
theorem State.pairIn_of {s u : State} {typ sub : Nat} {f : RcpFrame} (k : State → List Byte → State)
    (h : s.pairTakes typ sub f u) : s.pairIn typ sub f k = k u f.payload := by
  obtain ⟨h1, h2, h3, h4, h5, v, h6, rfl⟩ := h
  simp [State.pairIn, h1, h2, h3, h4, h5, h6]

/-- An arbiter frame that reaches an arbiter of its pair acts. -/
theorem State.arbIn_of {s w : State} {sub i u : Nat} {f : RcpFrame} (k : State → Nat → Nat → List Byte → State)
    (h : s.arbTakes sub f i u w) : s.arbIn sub f k = k w i u f.payload := by
  obtain ⟨v, h1, h2, h3, rfl⟩ := h
  rw [State.arbIn, State.pairIn_of _ h1]
  simp only [h2, h3]; rfl

/-- A tag request that the tag takes is answered. -/
theorem State.tagReq_of {s : State} {uid : Option (BitVec 64)} {sel : Bool} {t : Nat} (k : State → State)
    (h : (s.fieldSeen t).tagTakes uid sel = true) : s.tagReq uid sel t k = k (s.fieldSeen t) := by
  simp [State.tagReq, h]

/-- A press that is counted acts. -/
theorem State.press_of {s u : State} {t : Nat} (k : State → State) (h : s.pressed t u) : s.press t k = k u := by
  obtain ⟨h1, rfl, h3⟩ := h
  simp only [State.press, h1]
  rw [if_neg h3]; rfl

/-- A Modbus request that is served acts. -/
theorem State.modbusReq_of {s : State} {c : BitVec 3} {unit : Byte} {fc : Nat} {sys : Bool} (k : State → Nat → Nat → State)
    (h : s.modbusServes c.toNat unit.toNat) : s.modbusReq c unit fc sys k = k s c.toNat unit.toNat := by
  obtain ⟨h1, h2, h3, h4⟩ := h
  simp only [State.modbusReq, h1, h2, h4]
  have : ¬(unit.toNat ≠ 0 ∧ unit.toNat ≠ s.getF R.MODBUS_CFG F.MODBUS_CFG_UNIT_ID) := by
    rintro ⟨a, b⟩; exact h3.elim a b
  simp [this]

/-- The register at `a` takes its effect from one 4-byte write: it is neither a pair word, nor write-1-to-clear, nor half of a
64-bit pair, nor a data window. -/
def oneWrite (a : Nat) : Bool :=
  a % 4 == 0 && !isData a && (match rowOf a with
    | some r => r.acc != .pw && r.acc != .w1c && (r.acc != .rw || (!isLow a && !isHigh a))
    | none => false)

/-- A write that is accepted has the register's own effect. -/
theorem State.hostWrite_of {s u : State} {p : Path} {role : BitVec 2} {a v : Nat} (h : s.accepts u p role a v)
    (ha : oneWrite a = true) : s.hostWrite p role.toNat a v = (u.effect p (s.roleOf p role.toNat) a v).2 := by
  obtain ⟨rfl, hb, hg, hc, hm, hs⟩ := h
  rw [State.hostWrite, if_pos hb, State.writeOne]
  simp only [oneWrite, Bool.and_eq_true, beq_iff_eq] at ha
  obtain ⟨⟨h1, h2⟩, h3⟩ := ha
  cases hr : rowOf a with
  | none => simp [hr] at h3
  | some r =>
    simp only [hr] at h3
    by_cases h : r.acc = .rw
    · simp [h] at h3
      simp_all [State.applyOne]
    · simp_all [State.applyOne]

/-- A pair word that is accepted has its register's own effect. -/
theorem State.hostPair_of {s u : State} {p : Path} {role : BitVec 2} {a v : Nat} {r : RegRow} (h : s.acceptsPair u p role a v)
    (ha : a % 4 = 0) (hl : isLow a = true) (hw : isPw a = true) (hr : rowOf a = some r) :
    s.hostPair p role.toNat a v = u.effectPair p a v (compl32 v) := by
  obtain ⟨rfl, hb, hg, hz, hc, hm⟩ := h
  rw [State.hostPair, if_pos hb, State.writePair]
  simp only [hg, hr]
  have h : ¬(r.acc = .pw ∧ (compl32 v ≠ compl32 v ∨ Nat.land v (pwReserved a) ≠ 0)) :=
    fun x => x.2.elim (fun y => y rfl) (fun y => y hz)
  rw [if_neg (by simp), if_neg (by simp [ha, hl]), if_neg h]
  simp [State.applyPair, hw, hc, hm]

/-- Every field of the register at `a` is of the epoch class, and the write itself notes nothing else. -/
def epochOnly (a : Nat) : Bool :=
  stoppedBits a == 0 && liveBits a == 0 && epochBits a != 0 && a != R.RADIO_CFG && a != R.RADIO_MISC &&
    (idxOf a (R.RADIO_FIR 0) 4 4).isNone

/-- A write of such a register goes into its shadow. -/
theorem State.writeFields_of {s : State} {a v : Nat} {k : State → Nat → Nat → State} (h : epochOnly a = true) :
    s.writeFields a v k = k s (epochBits a) v := by
  simp only [epochOnly, Bool.and_eq_true, beq_iff_eq, bne_iff_ne, ne_eq] at h
  obtain ⟨⟨⟨⟨⟨h1, h2⟩, h3⟩, h4⟩, h5⟩, h6⟩ := h
  have hf : (idxOf a (R.RADIO_FIR 0) 4 4).isSome = false := by
    cases hx : idxOf a (R.RADIO_FIR 0) 4 4 <;> simp_all
  simp [State.writeFields, State.stoppedHit, h1, State.noteWritten, h4, h5, hf, State.fieldsTaken, h2, h3]

end Sys2Proof.Machine
end

