-- ==== Sys2Proof/WellFormed.lean ====
section
/-! DEFINITION. Which commands are well formed: their frames, paths and messages have the widths of the spec's tables. An
ill-formed command still has an effect (exec is total), but stands for nothing that can arrive. -/

namespace Sys2Proof

/-- Port, addresses, SEQ, HOPS and payload length of an RCP frame (Tables 11.3 and 11.4). -/
def Machine.RcpFrame.wf (f : Machine.RcpFrame) : Bool :=
  Nat.ble f.port 2 && Nat.blt f.src (2 ^ 48) && Nat.blt f.dst (2 ^ 48) && Nat.blt f.seq (2 ^ 32) && Nat.blt f.hops 256 &&
    Nat.ble f.payload.length 1488

/-- A path: an RCP port with a source and a session, or one of eight Modbus connections (Table 19.1). -/
def Machine.Path.wf (p : Machine.Path) : Bool :=
  match p with
  | .rcp port src sess => Nat.ble port 2 && Nat.blt src (2 ^ 48) && Nat.blt sess (2 ^ 32)
  | .modbus conn => Nat.blt conn 8
  | .mailbox => true
  | .regset => true

/-- The widths of the fields of an Announce message (Table 11.8). -/
def Machine.AnnMsg.wf (a : Machine.AnnMsg) : Bool :=
  Nat.blt a.prio1 256 && Nat.blt a.cls 256 && Nat.blt a.acc 256 && Nat.blt a.var (2 ^ 16) && Nat.blt a.prio2 256 &&
    Nat.blt a.gm (2 ^ 64) && Nat.blt a.steps (2 ^ 16) && Nat.blt a.domain 256

/-- Whether a command is well formed. -/
def Instr.wf (i : Instr) : Bool :=
  match i with
  | .regWrite p _ _ _ _ => p.wf
  | .powerGood => true
  | .feedLost _ _ => true
  | .feedRestored _ _ => true
  | .pfail => true
  | .pfailRecovery => true
  | .lockstepMismatch _ => true
  | .watchdogExpiry => true
  | .portsReady _ => true
  | .acqNoLinkTimeout _ => true
  | .acqTimeout _ => true
  | .firstEpoch => true
  | .timeSlow => true
  | .restart p _ _ => p.wf
  | .chainRestart => true
  | .svcEnter p _ => p.wf
  | .svcExit p _ => p.wf
  | .dieReset p _ _ => p.wf
  | .dieResetRelease _ => true
  | .fanCtrlWrite p _ _ => p.wf
  | .temperatureReading _ _ => true
  | .thermalRestart _ => true
  | .fanFail _ => true
  | .diePowerOffComplete _ => true
  | .ptpSync _ _ _ _ _ _ _ => true
  | .followUp _ _ _ _ _ _ => true
  | .announce _ a => a.wf
  | .announceTimeout _ _ _ => true
  | .gmSyncSend _ => true
  | .pdelayReq _ => true
  | .pdelayResp _ _ => true
  | .timeLocked => true
  | .timeSourceLost _ => true
  | .alignLost _ => true
  | .acceptStep p _ => p.wf
  | .timeStep _ _ => true
  | .epochBoundary => true
  | .runLaunch _ => true
  | .deadline _ => true
  | .commitAbandon => true
  | .shortOfMargin _ => true
  | .activationComplete => true
  | .loadComplete _ _ => true
  | .stageBegin p _ => p.wf
  | .verify p _ => p.wf
  | .verifyComplete => true
  | .arm p _ => p.wf
  | .cancel p _ => p.wf
  | .selectPrevious p _ => p.wf
  | .seqFloorWrite p _ _ => p.wf
  | .image f => f.wf
  | .nop _ _ => true
  | .add _ _ _ => true
  | .sub _ _ _ => true
  | .and _ _ _ => true
  | .or _ _ _ => true
  | .xor _ _ _ => true
  | .shl _ _ _ => true
  | .shr _ _ _ => true
  | .sra _ _ _ => true
  | .mul _ _ _ => true
  | .mulhu _ _ _ => true
  | .mulhs _ _ _ => true
  | .divu _ _ _ => true
  | .divs _ _ _ => true
  | .remu _ _ _ => true
  | .rems _ _ _ => true
  | .cmpeq _ _ _ => true
  | .cmpne _ _ _ => true
  | .cmpltu _ _ _ => true
  | .cmplts _ _ _ => true
  | .cmpleu _ _ _ => true
  | .cmples _ _ _ => true
  | .movi _ _ _ => true
  | .sel _ _ _ => true
  | .pand _ _ _ => true
  | .por _ _ _ => true
  | .pxor _ _ _ => true
  | .pnot _ _ _ => true
  | .fadd _ _ _ => true
  | .fsub _ _ _ => true
  | .fmul _ _ _ => true
  | .fma _ _ _ => true
  | .fdiv _ _ _ => true
  | .fsqrt _ _ _ => true
  | .fmin _ _ _ => true
  | .fmax _ _ _ => true
  | .fcmpeq _ _ _ => true
  | .fcmplt _ _ _ => true
  | .fcmple _ _ _ => true
  | .cvtif _ _ _ => true
  | .cvtfi _ _ _ => true
  | .fabs _ _ _ => true
  | .fneg _ _ _ => true
  | .br _ _ => true
  | .brx _ _ => true
  | .loop _ _ => true
  | .loopi _ _ => true
  | .done _ _ => true
  | .ld1u _ _ => true
  | .ld2u _ _ => true
  | .ld4u _ _ => true
  | .ld8 _ _ => true
  | .ld1s _ _ => true
  | .ld2s _ _ => true
  | .ld4s _ _ => true
  | .st1 _ _ => true
  | .st2 _ _ => true
  | .st4 _ _ => true
  | .st8 _ _ => true
  | .copy _ _ => true
  | .resultWriteback _ _ => true
  | .writeComplete _ _ => true
  | .span _ _ _ => true
  | .bswitch _ _ _ => true
  | .bload _ _ _ => true
  | .brelease _ _ _ => true
  | .gopen _ _ _ => true
  | .gclose _ _ _ => true
  | .passStart _ _ => true
  | .bankSwitchEffect _ _ => true
  | .bankLoadStart _ _ => true
  | .bankLoadComplete _ => true
  | .bankRestoreComplete _ _ => true
  | .bankReleaseEffect _ _ => true
  | .groupOpenEffect _ _ => true
  | .groupCloseEffect _ _ => true
  | .spanRowEgress _ _ _ _ => true
  | .rollbackComplete _ _ => true
  | .replayLaunch _ => true
  | .drainComplete _ _ => true
  | .vadd _ _ => true
  | .vsub _ _ => true
  | .vmul _ _ => true
  | .vfma _ _ => true
  | .vmin _ _ => true
  | .vmax _ _ => true
  | .vscale _ _ => true
  | .vexp _ _ => true
  | .vlog _ _ => true
  | .vrcp _ _ => true
  | .vrsqrt _ _ => true
  | .vsum _ _ => true
  | .vrmax _ _ => true
  | .wadd _ _ => true
  | .wcvt _ _ => true
  | .fft _ _ => true
  | .ifft _ _ => true
  | .vmag2 _ _ => true
  | .quant _ _ => true
  | .dequant _ _ => true
  | .drain _ _ => true
  | .veOpStart _ => true
  | .veOpComplete _ _ => true
  | .veStarved _ => true
  | .mov _ _ => true
  | .signal _ _ => true
  | .signalDelivery _ _ => true
  | .wait _ _ => true
  | .waitComplete _ => true
  | .fence _ _ => true
  | .fenceComplete _ => true
  | .live _ _ _ => true
  | .doneReport _ _ _ => true
  | .noProgress _ _ => true
  | .quarterHalt _ => true
  | .start p _ _ => p.wf
  | .stop p _ _ => p.wf
  | .debugEnter p _ _ => p.wf
  | .debugExit p _ _ => p.wf
  | .step p _ _ _ => p.wf
  | .retire p _ _ _ => p.wf
  | .selftestStart _ => true
  | .marchTestComplete _ _ => true
  | .grainScrub _ _ _ _ => true
  | .copyPatrol _ _ _ _ => true
  | .reconfigure p _ => p.wf
  | .flitError _ _ _ => true
  | .linkTrainingComplete _ _ => true
  | .linkTrainingTimeout _ _ => true
  | .linkRetrain _ _ _ => true
  | .retrainComplete _ _ => true
  | .retrainTimeout _ _ => true
  | .memTrainingComplete _ _ => true
  | .memTrainingTimeout _ => true
  | .zeroFillComplete _ _ => true
  | .memScrub _ _ => true
  | .dramTempReading _ _ => true
  | .carrierPowerUp => true
  | .downstreamFrameSend _ _ => true
  | .downstreamFrame _ bytes _ => bytes.length == 58
  | .upstreamFrameSend _ _ _ _ => true
  | .upstreamFrame _ bytes _ => bytes.length == 58
  | .safeStateTimeout _ _ => true
  | .carrierTimeHoldover _ => true
  | .lpOverload _ => true
  | .lpRetry _ _ => true
  | .aoReleaseSeen _ => true
  | .aoThermalFoldback _ => true
  | .aoThermalRestore _ => true
  | .loadHigh _ => true
  | .aoReadbackFault _ => true
  | .miswire _ _ => true
  | .miswireClear _ => true
  | .referenceCheck _ _ _ => true
  | .aoCmdWrite p _ _ _ => p.wf
  | .aoRangeShadowWrite p _ _ _ => p.wf
  | .trimOpen p _ _ => p.wf
  | .trimCaptureZero p _ => p.wf
  | .trimCaptureSpan p _ => p.wf
  | .trimCommit p _ => p.wf
  | .trimAbort p _ => p.wf
  | .trimTimeout _ => true
  | .doReleaseSeen _ => true
  | .doCurrentLimit _ _ => true
  | .doThermalShutdown _ => true
  | .doThermalRestart _ => true
  | .switchFailedOn _ => true
  | .diMiswire _ _ => true
  | .supplyRev _ _ => true
  | .groupSupplyLow _ _ => true
  | .radioSlotOpen _ _ => true
  | .beacon _ _ => true
  | .radioTriggered _ _ => true
  | .radioCorrelated _ _ _ _ => true
  | .radioSynced _ _ => true
  | .radioHeader _ _ => true
  | .radioDecodeDone _ => true
  | .radioSlotEnd => true
  | .afcReset _ => true
  | .tagOffRange _ => true
  | .radioCmdSend p _ _ _ => p.wf
  | .radioCmdFailed => true
  | .radioCfgWrite p _ _ => p.wf
  | .radioFirWrite p _ _ _ => p.wf
  | .ldDwellStart _ _ => true
  | .ldUplinkFrame _ _ _ _ => true
  | .ldDwellEnd _ _ => true
  | .ldLoopLost _ => true
  | .ldMsgSend p _ _ _ => p.wf
  | .ldMsgFailed => true
  | .alarm f => f.wf
  | .alarmRefresh => true
  | .alarmFrameDequeue _ => true
  | .hello _ p => Nat.ble p.length 1514
  | .helloSend => true
  | .neighbourLost _ _ => true
  | .portLinkChange _ _ => true
  | .timeInfo f => f.wf
  | .timeInfoSend => true
  | .ringCheckTimeout _ => true
  | .rcpBadFrame _ _ f => f.wf
  | .read f => f.wf
  | .write f => f.wf
  | .rmw f => f.wf
  | .blockRead f => f.wf
  | .blockWrite f => f.wf
  | .hsrFrame _ _ _ _ body => Nat.ble body.length 1514
  | .hsrSupervision => true
  | .readHoldingRegisters _ _ _ _ => true
  | .readInputRegisters _ _ _ _ => true
  | .writeSingleRegister _ _ _ _ => true
  | .writeMultipleRegisters _ _ _ vs => Nat.ble vs.length 123
  | .readWriteMultipleRegisters _ _ _ _ _ vs => Nat.ble vs.length 123
  | .bypassForce p _ _ => p.wf
  | .harbPropose p _ => p.wf
  | .harbWake p _ => p.wf
  | .propose f => f.wf
  | .harbAccept f => f.wf
  | .veto f => f.wf
  | .harbCommit f => f.wf
  | .abort f => f.wf
  | .wake f => f.wf
  | .harbAbortDeadline _ => true
  | .harbRepeat => true
  | .tSleepReached _ => true
  | .wakeRepeat => true
  | .isolatedWake => true
  | .leaseRenew _ => true
  | .confirmedExpiry _ => true
  | .leaseExpiredRequest _ => true
  | .bringupRequest _ => true
  | .requestRepeat => true
  | .healthSend => true
  | .renew f => f.wf
  | .pairRenew f => f.wf
  | .confirm f => f.wf
  | .request f => f.wf
  | .grant f => f.wf
  | .deny f => f.wf
  | .release f => f.wf
  | .reclaim f => f.wf
  | .suspect f => f.wf
  | .suspectDecisionTimeout _ _ => true
  | .decision f => f.wf
  | .health _ f => f.wf
  | .arbQuarantineEnd _ => true
  | .arbHoldoffExpiry _ _ => true
  | .cableLinkDown _ _ => true
  | .cableLinkUp _ => true
  | .cableResend _ => true
  | .cableIdleSend _ => true
  | .cableRenew _ _ _ => true
  | .cableConfirm _ _ => true
  | .cableHealth b => Nat.ble b.length 1514
  | .mirrorRecord _ => true
  | .standbyReplay => true
  | .mismatch => true
  | .suspectTestComplete _ _ _ => true
  | .switch p _ => p.wf
  | .detach p _ => p.wf
  | .attach p _ => p.wf
  | .handover _ _ => true
  | .armed _ => true
  | .handoverTimeout _ => true
  | .armStuck _ => true
  | .takeback _ => true
  | .fwdCmd p => Nat.ble p.length 1514
  | .resyncReq => true
  | .snapEnd _ _ => true
  | .blockReq _ => true
  | .blockData _ _ bs => Nat.ble bs.length 1514
  | .ack p _ _ _ => p.wf
  | .ackGroup p _ _ _ => p.wf
  | .ackAll p _ _ => p.wf
  | .silence p _ _ => p.wf
  | .shelve p _ _ _ _ => p.wf
  | .unshelve p _ _ _ => p.wf
  | .foReset p _ _ _ => p.wf
  | .setSetpoint p _ _ _ _ => p.wf
  | .duty p _ _ _ _ => p.wf
  | .watchArm p _ _ _ => p.wf
  | .watchReset p _ _ _ => p.wf
  | .panelAck => true
  | .panelSel _ => true
  | .panelZero => true
  | .panelSpan => true
  | .panelEnter => true
  | .panelCancel => true
  | .call p _ _ _ _ => p.wf
  | .callSeen p _ _ _ => p.wf
  | .accept p _ _ _ _ => p.wf
  | .setpointWrite p _ _ _ => p.wf
  | .pointDelayExpiry _ => true
  | .srcBadSet _ => true
  | .scoreStale _ => true
  | .radioStale _ => true
  | .shelveExpiry _ => true
  | .escalation _ => true
  | .acceptTimeout _ => true
  | .targetPresenceLost _ => true
  | .watchPrewarn => true
  | .watchExpiry => true
  | .callFrameSend _ => true
  | .inventory _ _ _ => true
  | .stayQuiet _ _ => true
  | .select _ _ => true
  | .resetToReady _ _ _ => true
  | .getSystemInformation _ _ _ => true
  | .readSingleBlock _ _ _ _ _ => true
  | .writeSingleBlock _ _ _ _ _ _ _ => true
  | .readMultipleBlocks _ _ _ _ _ _ => true
  | .getMultipleBlockSecurityStatus _ _ _ _ _ _ => true
  | .rfSessionEnd _ _ => true
  | .mailboxServe => true
  | .faultLogWrite _ => true
  | .applyStaging p _ => p.wf
  | .enrolWindowExpiry _ => true
  | .buttonAck _ => true
  | .buttonSel _ => true
  | .buttonEnter _ => true
  | .buttonZero _ => true
  | .buttonSpan _ => true
  | .selHold _ => true
  | .selectTimeout _ => true
  | .messageScreenTimeout _ => true
  | .sessionOpen p _ => p.wf
  | .sessionClose p _ => p.wf
  | .sessKill p _ _ => p.wf
  | .sessionIdleTimeout _ _ => true
  | .lockoutExpiry _ _ => true
  | .enrollKey p _ _ => p.wf
  | .revokeKey p _ _ _ => p.wf
  | .enrollCred p _ _ _ => p.wf
  | .removeCred p _ _ => p.wf
  | .secStoreComplete _ => true
  | .debugDataRead p _ _ _ _ => p.wf
  | .debugDataWrite p _ _ _ _ => p.wf
  | .commandFrame f => f.wf
  | .rcpForward _ f => f.wf
  | .bringupStepEnd _ _ _ _ _ => true
  | .diePowerFault _ => true
  | .diSamplingInstant _ _ => true
  | .aiSamplingInstant _ _ => true
  | .doExtSource _ _ => true
  | .pdelayReqSend => true
  | .delayReqSend => true
  | .delayResp _ _ => true
  | .timePortSyncLoss _ => true

end Sys2Proof
end

