-- ==== Sys2Proof/Tests/Slice0.lean ====
section
/-! SUPPORT. Tests: ill-formed commands are refused by the check, commands act on small states as the spec's tables say, and every
statement has states and operands that meet its hypotheses. -/

namespace Sys2Proof.Tests
open Sys2Proof Sys2Proof.Machine
set_option Elab.async false

/-! ### Small states -/

/-- Some fields of registers set. -/
def withF (l : List (Nat × Fld × Nat)) (s : State) : State := l.foldl (fun s e => s.setF e.1 e.2.1 e.2.2) s
/-- Some registers set. -/
def withR (l : List (Nat × Nat)) (s : State) : State := l.foldl (fun s e => s.setRegN e.1 e.2) s
/-- A maintainer's session on the chain. -/
def adminPath : Path := .rcp 0 0x10 1
/-- A table section with records `rs` of one size. -/
def tableOf (rs : List (List Byte)) : List Byte :=
  leBytes 2 ((rs.head?.map List.length).getD 0) ++ leBytes 2 rs.length ++ leBytes 4 0 ++ rs.flatten
/-- A configuration with a period of 1 ms in which die 0 runs, quarter 0 has span 0, of one grain, whose groups hold four rows, and
span 1, which streams, and alarm points 0 to 2 watch a digital input, a score and a radio quantity. -/
def labCfg : RunCfg :=
  { RunCfg.zero with secs := [⟨1, 1, 0, leBytes 40 1000⟩, ⟨2, 2, dieTarget 0, [1#8, 0#8, 0#8, 0#8]⟩,
      ⟨4, 2, qtrTarget 0, tableOf [
        leBytes 8 (0 + 2 ^ 8 * 1 + 2 ^ 32 * 4) ++ leBytes 8 2 ++ leBytes 8 65536 ++ leBytes 8 0,
        leBytes 8 (1 + 2 ^ 8 * 1 + 2 ^ 16 * 1 + 2 ^ 32 * 4) ++ leBytes 8 0 ++ leBytes 8 0 ++ leBytes 8 0]⟩,
      ⟨10, 1, 0, tableOf [leBytes 48 0, leBytes 48 (1 + 2 ^ 16 * 2), leBytes 48 (2 + 2 ^ 16 * 3)]⟩] }
/-- A node in operation: host access open, memory of die 0 trained, the dies on. -/
def lab : State :=
  withF [(R.MEM_STATUS 0, F.MEM_STATUS_STATE, 3), (R.PWR_STATUS, dieOnFld 0, 1), (R.PWR_STATUS, dieOnFld 1, 1),
      (R.PWR_STATUS, dieOnFld 2, 1), (R.PWR_STATUS, dieOnFld 3, 1), (R.SYS_STATE, F.SYS_STATE_POWER_STATE, 2)]
    { State.reset with
      host := { State.reset.host with begun := true }
      pwr := { State.reset.pwr with up := true, ended := [1, 2, 3, 4, 5, 6, 7, 8, 9] }
      img := { State.reset.img with run := labCfg } }
/-- That node in SERVICE. -/
def service : State := lab.setF R.SYS_STATE F.SYS_STATE_POWER_STATE 4
/-- Quarter 0 running a long word with `v` in slot `j` and the words `vs` in the slots from 0 on otherwise. -/
def ready (j v : Nat) : State :=
  (lab.setQState 0 2).modQ 0 (fun x => { x with imem := copies (16 * j) 0#8 ++ leBytes 16 v, count := 2 })
/-- The state in which a slot acts. -/
def started (s : State) (q : BitVec 4) (j op : Nat) (w : BitVec 120) : State :=
  match s.offer q.toNat j (slotOf op w) with
  | .slot t _ => t
  | _ => s
theorem issues_started {s : State} {q : BitVec 4} {j op : Nat} {w : BitVec 120}
    (h : (match s.offer q.toNat j (slotOf op w) with
      | .slot t v => v == slotOf op w && predOn (t.qtr q.toNat).snap (slotOf op w)
      | _ => false) = true) : s.issues q j op w (started s q j op w) := by
  unfold State.issues started
  split at h
  · rename_i t v e
    simp only [Bool.and_eq_true, beq_iff_eq] at h
    rw [e, h.1]
    exact ⟨rfl, h.2⟩
  · cases h
theorem accepts_of {s : State} {p : Path} {role : BitVec 2} {a v : Nat}
    (h : (s.host.begun && s.gate p (s.roleOf p role.toNat) (s.writeRole a v) a == 0 && (s.dropHold p).lastChecks a v == 0 &&
      !(s.dropHold p).mirrorBusy a && !(s.dropHold p).stoppedHit a v) = true) : s.accepts (s.dropHold p) p role a v := by
  simp only [Bool.and_eq_true, beq_iff_eq, Bool.not_eq_true'] at h
  obtain ⟨⟨⟨⟨h1, h2⟩, h3⟩, h4⟩, h5⟩ := h
  exact ⟨rfl, h1, h2, h3, h4, h5⟩
theorem acceptsPair_of {s : State} {p : Path} {role : BitVec 2} {a v : Nat}
    (h : (s.host.begun && s.gate p (s.roleOf p role.toNat) (s.writeRole a v) a == 0 && Nat.land v (pwReserved a) == 0 &&
      (s.dropHold p).lastChecks a v == 0 && !(s.dropHold p).mirrorBusy a) = true) : s.acceptsPair (s.dropHold p) p role a v := by
  simp only [Bool.and_eq_true, beq_iff_eq, Bool.not_eq_true'] at h
  obtain ⟨⟨⟨⟨h1, h2⟩, h3⟩, h4⟩, h5⟩ := h
  exact ⟨rfl, h1, h2, h3, h4, h5⟩

/-- A register file for addresses: a0 names the scratchpad of quarter 0. -/
def atScratch (s : State) : State :=
  s.modQ 0 (fun x => { x with regs := x.regs.put ⟨.a, 0⟩ 0x2000000000 })
/-- A long word whose slots 0 and 1 write the same register. -/
def conflict : State :=
  (lab.setQState 0 2).modQ 0 (fun x => { x with imem := leBytes 16 0x10001 ++ leBytes 16 0x10001, count := 2 })

/-- A span operation of kind `k` with its other fields zero and its addresses in the scratchpad of quarter 0. -/
def opOf (k : SpanKind) : SpanOp :=
  { kind := k, lw := 0, slot := 4, seq := 0, group := 0, rows := 1, a := 0x2000000000, t := 128, opn := 1, osrc := 0, cls := 0,
    cdst := 0x2000001000, ovr := none, status := none, opoff := 0, bank := 1, src := 0x2000000000, ustr := 0,
    xsrc := 0x2000004000, xstr := 0 }
/-- A node whose grain 0 of quarter 0 works in span 0, bank 0 active and LOADED, with the span as given. -/
def spanned (x : SpanSt) : State :=
  (withF [(R.GSTATE 0 0, F.GSTATE_STATE, 2), (R.GSTATE 0 0, bankFld 0, 2), (R.GSTATE 0 0, bankFld 1, 2)] (lab.setQState 0 2)).modQ 0
    (fun q => { q with spans := [(0, x)] })
/-- A span with a queue, one pass, the state of its group 0 and its drains. -/
def spanOf (o : List SpanOp) (p : Option PassSt) (st : Nat) (d : List DrainSt) : SpanSt :=
  ⟨o, p, [⟨st, 1, 0, 0, 0, false⟩, ⟨0, 0, 0, 0, 0, false⟩], d, 0⟩
/-- A job of the weight-load engine of quarter 0 of a kind. -/
def jobOf (k : Nat) : LoadJob := ⟨0, 0, 1, 0x2000000000, 0x2000004000, none, k, 0, 4, 0, true⟩
/-- A node with that job. -/
def jobbed (k : Nat) : State := { lab with grains := { lab.grains with jobs := [jobOf k] } }
/-- A vector operation: VADD of one F32 element, from memory or from the drain input. -/
def vop (kind : Nat) : VecOp :=
  { op := 1, lw := 0, seq := 0, dst := 0x2000000000, src1 := 0x2000000040, src2 := 0x2000000080, len := 1, param := 0, fin := 0,
    fout := 0, kind := kind, port := 0, status := none }
/-- Quarter 0 running with its vector engine as given, nothing more to fetch when `d`. -/
def engine (cur : Option VecOp) (vq : List VecOp) (d : Bool) : State :=
  (lab.setQState 0 2).modQ 0 (fun x => { x with vcur := cur, vq := vq, done := if d then some 0 else none })
/-- Quarter 0 changed in a node in operation. -/
def quarter0 (f : Quarter → Quarter) : State := (lab.setQState 0 2).modQ 0 f

/-- Span 0 of that node. -/
def labSpan : SpanDesc := (labCfg.span 0 0).getD ⟨0, false, 0, 0, 0, 0, 0, 0, 0, 0⟩
/-- a0 and a1 name two blocks of the scratchpad. -/
def twoAddrs (s : State) : State :=
  s.modQ 0 (fun x => { x with regs := (x.regs.put ⟨.a, 0⟩ 0x2000000000).put ⟨.a, 1⟩ 0x20001FFFC0 })

/-- A node with an image in its pending place, of kind `kind` and state `st`, and full images without sections in its slots. -/
def imaged (kind st act : Nat) : State :=
  let b := copies 14 0#8 ++ [BitVec.ofNat 8 kind] ++ copies 200 0#8
  (withF [(R.IMG_STATUS, F.IMG_STATUS_PEND_STATE, st)] lab |>.setReg64 R.ACT_EPOCH_LO act).modImg
    (fun i => { i with pend := b, slotA := ⟨copies 200 0#8, []⟩, slotB := ⟨copies 200 0#8, []⟩ })
/-- A node in operation with its host part changed. -/
def hosted (f : HostSt → HostSt) : State := lab.modHost f
/-- A member of a pair in state `st`. -/
def paired (st : Nat) : State := withF [(R.PAIR_STATUS, F.PAIR_STATUS_STATE, st)] lab

theorem noKeys {l : List (Option (List Byte))} {f : List Byte → Prop} (h : l = copies 8 none) :
    ∀ (k : Option (List Byte)) (pk : List Byte), k ∈ l → k = some pk → f pk := by
  intro k pk hk he
  subst h he
  simp [copies] at hk

/-- The time unit in state `st`, following source `src`, with its part `t`. -/
def timed (st src : Nat) (t : TimeSt) : State :=
  withF [(R.TIME_STATUS, F.TIME_STATUS_STATE, st), (R.TIME_STATUS, F.TIME_STATUS_SOURCE, src)] { lab with time := t }
/-- A node in bring-up at a step. -/
def starting (step : Nat) : State :=
  withF [(R.SYS_STATE, F.SYS_STATE_POWER_STATE, 1), (R.SYS_STATE, F.SYS_STATE_BU_STEP, step)] lab
/-- A node in the course of an epoch. -/
def running (phase : Nat) : State := { lab with time := { lab.time with begun := true, phase := phase } }
/-- The ports of the chain ready and relaying. -/
def linked : State :=
  withF [(R.CHAIN_STATUS, F.CHAIN_STATUS_PORTS_READY, 1), (R.CHAIN_STATUS, F.CHAIN_STATUS_RELAY_OPEN, 1),
    (R.PAIR_STATUS, F.PAIR_STATUS_CABLE_UP, 1)] lab
/-- A precision-time Announce message. -/
def anAnn : AnnMsg := ⟨128, 6, 33, 0, 128, 77, 0, true, 0⟩

/-- The minimal image of the worked passage of 03_structure_image.md, signed with the open image key. -/
def workedImage : List Byte := leBytes 400
  0xaadcb123c7f3d46beadaaf5f128235a9683a455573348964c18346ccc28c81e81a029d7e4af3e1cfa2eef95c74fdd399c9ac8d3cefa9c87ad339747f8624feff93263c2fac905cb000000004749535a00000000000000000000000000000000fffffc17000003e8fffff82f000007d0ffffffff00000000ffffffff00000000000000000001000000000000000100300000000000000000ffffffff00000000ffffffff00000000ffffffff00000000ffffffff00000000fffffc17000003e855b852781b9995a44c939b64e441ae2724b96f99c8f4fb9a141cfc9842c4b0e30000000000000140000000000000000ff3c7bb45dacd5ba001f609415ff10588583cc1aae0e69bc9abc1ea03ae2042ab0000003800000100000000000001000a4048d90b141db0edb74dd73991f6ec4c5fe278919cd99a43d23e930b47642dfa00000028000000d000000000000100010000000000000000000000000000000000000040000000000000b0b00000000100000000000000000000000000000c0100000003000001900040000149534e5a

/-- A node with its carrier up, changed. -/
def carried (f : CarSt → CarSt) : State := { lab with car := f { CarSt.zero with cfg := setNth CarSt.zero.cfg 5 1000 } }
/-- A carrier frame with a payload, and its CRC. -/
def frameOf (typ seq : Nat) (p : List Byte) : List Byte :=
  let b := padTo 56 ([BitVec.ofNat 8 typ, 0#8] ++ leBytes 2 seq ++ copies 4 0#8 ++ p)
  b ++ leBytes 2 (crc16 b)
/-- The pair words of six zero values. -/
def zeroPairs : List Byte := (copies 6 (leBytes 8 (pairWord 0))).flatten
/-- The radio enabled, with a superframe of ten epochs, slots of 65,535 µs, two slots, the first the beacon. -/
def radioCar : CarSt → CarSt := fun c =>
  { c with cfg := setNth (setNth (setNth c.cfg 48 3) 49 (100 + 2 ^ 16 * 20000)) 50 (2 + 2 ^ 10 + 2 ^ 14 + 2 ^ 24) }
/-- A burst being received in slot `k`. -/
def rxAt (stage k ncw : Nat) : RxSt := ⟨0, k, stage, 0, 0, 0, 0, 0, false, false, 0, ncw, 0, 0, []⟩
/-- A node receiving it. -/
def receiving (x : RxSt) : State := { carried radioCar with radio := { lab.radio with rx := some x } }

theorem rcpIn_of {s : State} {typ : Nat} {f : RcpFrame} (h : (s.rcpIn typ f).1 = true) : s.rcpIn typ f = (true, (s.rcpIn typ f).2) :=
  Prod.ext h rfl
theorem pair_of {α β : Type} {x : α × β} {a : α} (h : x.1 = a) : x = (a, x.2) := Prod.ext h rfl
theorem triple_of {α β γ : Type} {x : α × β × γ} {a : α} (h : x.1 = a) : x = (a, x.2.1, x.2.2) := Prod.ext h rfl
theorem quad_of {α β γ δ : Type} {x : α × β × γ × δ} {a : α} (h : x.1 = a) : x = (a, x.2.1, x.2.2.1, x.2.2.2) := Prod.ext h rfl
theorem harbTakes_of {s : State} {sub : Nat} {f : RcpFrame}
    (h : ((s.rcpIn 0x40 f).1 && f.payload.length == 40 && fieldAt f.payload 0 1 == sub && fieldAt f.payload 2 2 == 0) = true) :
    s.harbTakes sub f (s.rcpIn 0x40 f).2 := by
  simp only [Bool.and_eq_true, beq_iff_eq] at h
  exact ⟨rcpIn_of h.1.1.1, h.1.1.2, h.1.2, h.2⟩
/-- The state in which a pair frame acts. -/
def pairState (s : State) (typ : Nat) (f : RcpFrame) : State :=
  (s.rcpIn typ f).2.modPair (fun x => { x with macs := kvPut (fieldAt f.payload 8 8) f.src x.macs })
theorem pairTakes_of {s : State} {typ sub : Nat} {f : RcpFrame}
    (h : ((s.rcpIn typ f).1 && f.payload.length == 48 && fieldAt f.payload 0 1 == sub && fieldAt f.payload 2 2 == 0 &&
      isPairWord (fieldAt f.payload 16 8) && isPairWord (fieldAt f.payload 40 8)) = true) :
    s.pairTakes typ sub f (pairState s typ f) := by
  simp only [Bool.and_eq_true, beq_iff_eq] at h
  obtain ⟨⟨⟨⟨⟨h1, h2⟩, h3⟩, h4⟩, h5⟩, h6⟩ := h
  exact ⟨h2, h3, h4, h5, h6, _, rcpIn_of h1, rfl⟩
/-- The state in which a frame to the arbiter acts. -/
def arbState (s : State) (sub : Nat) (f : RcpFrame) (i k : Nat) : State :=
  (pairState s 0x31 f).modArb i (fun a => { a with
    health := if sub = 1 ∨ sub = 10 then setNth a.health k (payHealth f.payload) else a.health })
theorem arbTakes_of {s : State} {sub : Nat} {f : RcpFrame} {i k : Nat}
    (h : ((s.rcpIn 0x31 f).1 && f.payload.length == 48 && fieldAt f.payload 0 1 == sub && fieldAt f.payload 2 2 == 0 &&
      isPairWord (fieldAt f.payload 16 8) && isPairWord (fieldAt f.payload 40 8)) = true)
    (h1 : (pairState s 0x31 f).arbEn = true)
    (h2 : (pairState s 0x31 f).arbFind (fieldAt f.payload 4 4) (fieldAt f.payload 8 8) = some (i, k)) :
    s.arbTakes sub f i k (arbState s sub f i k) := ⟨_, pairTakes_of h, h1, h2, rfl⟩
/-- The state after a request's session is checked. -/
def authState (s : State) (typ : Nat) (group : Bool) (off : Nat) (f : RcpFrame) : State :=
  ((s.rcpIn typ f).2.authCheck typ group off f.src f.payload).2
theorem admits_of {s : State} {f : RcpFrame} {op role : Nat}
    (h : (fieldAt f.payload 8 1 == op && !f.resp && Nat.ble 32 f.payload.length && f.dst != groupMac &&
      regShape op (fieldAt f.payload 9 1) (fieldAt f.payload 10 2) f.payload.length && (s.rcpIn 0x20 f).1 && (s.rcpIn 0x20 f).2.host.begun &&
      !(s.rcpIn 0x20 f).2.dieDark (fieldAt f.payload 12 4) &&
      (s.rcpIn 0x20 f).2.keptFor f.src (fieldAt f.payload 4 4) (fieldAt f.payload 0 4) == none) = true)
    (h1 : ((s.rcpIn 0x20 f).2.authCheck 0x20 false 16 f.src f.payload).1 = some role) :
    s.admits f op role (authState s 0x20 false 16 f) := by
  simp only [Bool.and_eq_true, beq_iff_eq, Bool.not_eq_true', bne_iff_ne] at h
  obtain ⟨⟨⟨⟨⟨⟨⟨⟨a1, a2⟩, a3⟩, a4⟩, a5⟩, a6⟩, a7⟩, a8⟩, a9⟩ := h
  exact ⟨a1, a2, Nat.le_of_ble_eq_true a3, a4, a5, _, rcpIn_of a6, a7, a8, a9, pair_of h1⟩
/-- The state in which a button acts. -/
def pressState (s : State) (t : Nat) : State := ((s.at t).inc R.PRESS_CNT).modPan (fun p => { p with pressT := t })
theorem pressed_of {s : State} {t : Nat} (h : (s.buttonsOn && (pressState s t).power != 3) = true) : s.pressed t (pressState s t) := by
  simp only [Bool.and_eq_true, bne_iff_ne] at h
  exact ⟨h.1, rfl, h.2⟩
/-- A frame from a neighbour to the group address, or to this node. -/
def toAll (p : List Byte) : RcpFrame := ⟨0, 0x10, groupMac, false, 1, 63, p⟩
def toNode (p : List Byte) : RcpFrame := ⟨0, 0x10, linked.macChain, false, 1, 63, p⟩
/-- A harbour frame. -/
def harbFrame (sub t : Nat) : RcpFrame := toAll (leBytes 16 sub ++ leBytes 24 t)
/-- A pair frame with its second byte, pair, sender, token and health. -/
def pairFrame (sub b id sender token health : Nat) : RcpFrame :=
  toAll (leBytes 1 sub ++ leBytes 1 b ++ leBytes 2 0 ++ leBytes 4 id ++ leBytes 8 sender ++ leBytes 8 (pairWord token) ++ copies 16 0#8 ++
    leBytes 8 (pairWord health))
/-- A request to the registers without a session. -/
def regFrame (op count addr : Nat) (d : List Byte) : RcpFrame :=
  toNode (leBytes 4 9 ++ leBytes 4 0 ++ leBytes 1 op ++ leBytes 1 4 ++ leBytes 2 count ++ leBytes 4 addr ++ copies 16 0#8 ++ d)
/-- A frame with one alarm entry whose first pair word is `v`. -/
def alarmFrame (v : Nat) : RcpFrame := toAll (leBytes 8 0 ++ leBytes 8 1 ++ leBytes 8 0 ++ leBytes 8 v ++ leBytes 8 (pairWord 0))

/-- An arbiter that serves pair 9, whose units are 4 and 5, in its last entry. -/
def arbiting (a : ArbSt) : State :=
  let s := withF [(R.ARB_CTRL, F.ARB_CTRL_ARB_EN, 1)] (withR [(R.ARB_PAIR_ID 7, 9)] linked)
  { (s.setReg64 (R.ARB_UNIT0_LO 7) 4).setReg64 (R.ARB_UNIT1_LO 7) 5 with
    pair := { s.pair with arbs := setNth s.pair.arbs 7 a } }
/-- A node with a session of a maintainer, and an image frame in it. -/
def sessioned : State :=
  { linked with host := { linked.host with sess := some ⟨9, 0, 3, copies 32 1#8, 0, none⟩ :: copies 7 none } }
def imageBody (tag : List Byte) : List Byte :=
  leBytes 4 9 ++ leBytes 4 9 ++ leBytes 4 1 ++ tag ++ leBytes 4 0 ++ leBytes 4 1 ++ [0#8]
def imageFrame : RcpFrame :=
  toNode (imageBody (authTag (copies 32 1#8) (authMsg 0x50 sessioned.serial 8 (imageBody (copies 12 0#8)))))
/-- A command frame with one ACK entry, without a session. -/
def commandFrame : RcpFrame :=
  toNode (leBytes 24 9 ++ leBytes 8 1 ++ leBytes 8 1 ++ leBytes 8 (pairWord 0))

/-- A member of a pair in state `st` with the ports and the cable up. -/
def member (st : Nat) : State := withF [(R.PAIR_STATUS, F.PAIR_STATUS_STATE, st)] linked
/-- A member at the full level of redundancy, under a configuration. -/
def fullMember (c : RunCfg) (st : Nat) : State :=
  (member st).modImg (fun i => { i with run := { c with secs := c.secs ++ [⟨7, 1, 0, tableOf [leBytes 16 0]⟩] } })
/-- A mirror record with a head and its end. -/
def recHeadOnly : List (Nat × List Byte) :=
  let h := leBytes 8 0 ++ leBytes 8 (pairWord 0) ++ leBytes 24 (pairWord 0) ++ leBytes 24 (pairWord 0)
  [(0x10, h), (0x1F, leBytes 4 0 ++ leBytes 4 (crc32c h))]
/-- A node whose point `p` has that state. -/
def pointed (p : Nat) (x : PointSt) : State := { lab with alm := { lab.alm with points := [(p, x)] } }
/-- A tag whose mailbox holds a request for one register. -/
def mailed : State :=
  let p := leBytes 4 1 ++ [1#8, 1#8, 0#8, 0#8] ++ leBytes 4 R.EPOCH_LO
  let h := leBytes 4 1 ++ [0x10#8, 0#8] ++ leBytes 2 12 ++ copies 20 0#8
  let s := withF [(R.TAG_CTRL, F.TAG_CTRL_MBX_EN, 1), (R.TAG_STATUS, F.TAG_STATUS_TAG_OK, 1)]
    (lab.tagWrite (mailbox.copy 0) (h ++ leBytes 4 (crc32c (h ++ p)) ++ p))
  { s with tag := { s.tag with mbxDue := true } }
def mailRec : TagRec := (mailed.tagRecord mailbox).getD ⟨0, 0, 0, 0, []⟩

/-! ### Ill-formed commands are refused by the check -/

/-- A frame of the widths of Tables 11.3 and 11.4. -/
def okFrame : RcpFrame := ⟨2, 2 ^ 48 - 1, 2 ^ 48 - 1, false, 2 ^ 32 - 1, 255, copies 1488 0#8⟩
theorem test_wf_frame_accepted : (Instr.read okFrame).wf = true := by decide +kernel
theorem test_wf_refuses_port : (Instr.read { okFrame with port := 3 }).wf = false := by decide +kernel
theorem test_wf_refuses_source : (Instr.write { okFrame with src := 2 ^ 48 }).wf = false := by decide +kernel
theorem test_wf_refuses_destination : (Instr.rmw { okFrame with dst := 2 ^ 48 }).wf = false := by decide +kernel
theorem test_wf_refuses_seq : (Instr.alarm { okFrame with seq := 2 ^ 32 }).wf = false := by decide +kernel
theorem test_wf_refuses_hops : (Instr.propose { okFrame with hops := 256 }).wf = false := by decide +kernel
theorem test_wf_refuses_payload : (Instr.image { okFrame with payload := copies 1489 0#8 }).wf = false := by decide +kernel
theorem test_wf_refuses_path_port : (Instr.svcEnter (.rcp 3 1 1) 3#2).wf = false := by decide
theorem test_wf_refuses_path_source : (Instr.svcEnter (.rcp 2 (2 ^ 48) 1) 3#2).wf = false := by decide
theorem test_wf_refuses_path_session : (Instr.svcEnter (.rcp 2 1 (2 ^ 32)) 3#2).wf = false := by decide
theorem test_wf_refuses_connection : (Instr.regWrite (.modbus 8) 0#2 0#32 0#32 none).wf = false := by decide
theorem test_wf_refuses_announce :
    ([⟨256, 0, 0, 0, 0, 0, 0, false, 0⟩, ⟨0, 256, 0, 0, 0, 0, 0, false, 0⟩, ⟨0, 0, 256, 0, 0, 0, 0, false, 0⟩,
      ⟨0, 0, 0, 2 ^ 16, 0, 0, 0, false, 0⟩, ⟨0, 0, 0, 0, 256, 0, 0, false, 0⟩, ⟨0, 0, 0, 0, 0, 2 ^ 64, 0, false, 0⟩,
      ⟨0, 0, 0, 0, 0, 0, 2 ^ 16, false, 0⟩, ⟨0, 0, 0, 0, 0, 0, 0, false, 256⟩] : List AnnMsg).all
      (fun a => !(Instr.announce 0 a).wf) = true := by decide
theorem test_wf_refuses_downstream_length : (Instr.downstreamFrame 0#2 (copies 57 0#8) 0).wf = false := by decide
theorem test_wf_refuses_upstream_length : (Instr.upstreamFrame 0#2 (copies 59 0#8) 0).wf = false := by decide
theorem test_wf_refuses_long_frames :
    ((Instr.hello 0#1 (copies 1515 0#8)).wf || (Instr.hsrFrame 0#1 1 2 3 (copies 1515 0#8)).wf ||
      (Instr.cableHealth (copies 1515 0#8)).wf || (Instr.fwdCmd (copies 1515 0#8)).wf ||
      (Instr.blockData 0#64 0#64 (copies 1515 0#8)).wf) = false := by decide +kernel
theorem test_wf_refuses_register_lists :
    ((Instr.writeMultipleRegisters 0#3 0#8 0#16 (copies 124 0#16)).wf ||
      (Instr.readWriteMultipleRegisters 0#3 0#8 0#16 1#16 0#16 (copies 124 0#16)).wf) = false := by decide +kernel

/-! ### Results the spec's passages and tables give -/

/-- Whether a command answers a next state of which `p` holds. -/
def afterward (c : Instr) (s : State) (p : State → Bool) : Bool := match exec c s with
  | .next t => p t
  | _ => false
/-- Quarter 0 running at a long word whose slot `j` is the 128-bit value `v`, with some registers set. -/
def slotRun (j v : Nat) (rs : List (RegId × Nat)) : State :=
  (ready j v).modQ 0 (fun x => { x with regs := rs.foldl (fun r e => r.put e.1 e.2) x.regs })
/-- Bits [127:8] of a slot. -/
def rest (v : Nat) : BitVec 120 := BitVec.ofNat 120 (v / 256)

/-- 00_scope: the pair word of 500. -/
theorem test_pair_word : pairWord 500 = 0xFFFFFE0B000001F4 := by decide
/-- 03_structure_image: the minimal image passes every check. -/
theorem test_worked_image_verifies : State.reset.verify workedImage none = none := by decide +kernel
/-- Table 7.14, long word 2, S0: a2 + 0x4_0000. -/
theorem test_add_of_the_tile_loop :
    afterward (.add 0#4 false (rest 0x00000000000400000001000042420001))
      (slotRun 0 0x00000000000400000001000042420001 [(⟨.a, 2⟩, 0x2000000000)])
      (fun t => (t.qtr 0).regs.get ⟨.a, 2⟩ == 0x2000040000) = true := by
  decide +kernel
/-- Table 7.14, long word 0, S1: MOVI s3, 0x800. -/
theorem test_movi_of_the_tile_loop :
    afterward (.movi 0#4 true (rest 0x00000000000008000000000000030018)) (slotRun 1 0x00000000000008000000000000030018 [])
      (fun t => (t.qtr 0).regs.get ⟨.s, 3⟩ == 0x800) = true := by decide +kernel
/-- Table 7.14, long word 1, C: LOOPI lc0, 4, end 3. -/
theorem test_loopi_of_the_tile_loop :
    afterward (.loopi 0#4 (rest 0x000000000000000400000000000C0004)) (slotRun 2 0x000000000000000400000000000C0004 [])
      (fun t => (t.qtr 0).regs.get ⟨.lc, 0⟩ == 4) = true := by decide +kernel
/-- Table 7.14, long word 2, G0: the SPAN of span 5 enters its queue with the fields the passage names. -/
theorem test_span_of_the_tile_loop :
    (fun o : SpanOp => (o.rows, o.a, o.t, o.opn, o.cls))
      (spanOpOf ((SeqRegs.zero.put ⟨.a, 2⟩ 0x2000000000).put ⟨.s, 3⟩ 2048) .span 2 4 0 0x00000000000000000010431200050001) =
      (128, 0x2000000000, 2048, 1, 1) := by decide +kernel
/-- R206: an unsigned division by zero gives all ones. -/
theorem test_divu_by_zero :
    afterward (.divu 0#4 false 0x050300#120) (slotRun 0 (slotOf 0x0C 0x050300#120) [(⟨.s, 5⟩, 7)])
      (fun t => (t.qtr 0).regs.get ⟨.s, 3⟩ == 2 ^ 64 - 1 || (t.qtr 0).pend.any (fun r => r.val == 2 ^ 64 - 1)) = true := by decide +kernel
/-- R202: a write to s0 is discarded. -/
theorem test_movi_to_s0 :
    afterward (.movi 0#4 true (rest 0x00000000000008000000000000000018)) (slotRun 1 0x00000000000008000000000000000018 [])
      (fun t => (t.qtr 0).regs.get ⟨.s, 0⟩ == 0) = true := by decide +kernel
/-- 08_vector_engine: QUANT to I8 with p = 4 of 3.3, 9.0, 2.53125, −2.59375, −Inf and NaN. -/
theorem test_quant_to_i8 :
    [0x40533333, 0x41100000, 0x40220000, 0xC0260000, 0xFF800000, 0x7FC00000].map (fun x => quantInt 2 x 4) =
      [(0x35, 0), (0x7F, 8), (0x28, 0), (0xD6, 0), (0x80, 1), (0x00, 2)] := by decide +kernel
/-- 05_accumulation: the partials of −1,234,000 and 1,234,567 sum to 567, with 37 02 in bytes 12 and 13. -/
theorem test_w192_partials :
    (leBytes 24 (w192Add (leNat (copies 12 0#8 ++ [0x87#8, 0xD6#8, 0x12#8] ++ copies 9 0#8))
      (leNat (copies 12 0#8 ++ [0xB0#8, 0x2B#8, 0xED#8] ++ copies 9 0xFF#8)))) =
      copies 12 0#8 ++ [0x37#8, 0x02#8] ++ copies 10 0#8 := by decide +kernel
/-- 05_accumulation: a chunk of sum 1 leaves the total 2^24 in chunked mode, and puts 1 into the error term in compensated mode. -/
theorem test_chunk_sums :
    chunkEnd 1 0 ⟨1, 0x4B800000, 0⟩ = ⟨0, 0x4B800000, 0⟩ ∧ chunkEnd 2 0 ⟨1, 0x4B800000, 0⟩ = ⟨0, 0x4B800000, 0x3F800000⟩ := by
  decide +kernel
/-- 05_accumulation: the close of the compensated chain delivers 16,777,218. -/
theorem test_compensated_close : elemValue 2 10 0 3072 ⟨0, 0x4B800000, 0x40000000⟩ = 0x4B800001 := by decide +kernel
/-- Four dies in one set whose granules are 4 KiB. -/
def windowCfg : RunCfg :=
  { RunCfg.zero with secs := (List.range 4).map (fun d => ⟨2, 2, dieTarget d,
      [1#8, 12#8, 0x0F#8, 0#8] ++ leBytes 4 0 ++ leBytes 8 0x4000000000 ++ leBytes 8 0x40FFFFFFFF⟩) }
/-- 09_memory_and_die_fabric: 0x40_0000_5040 has its home at 0x4_0000_1040, which no access reaches directly. -/
theorem test_interleave_window :
    windowCfg.home 0x4000005040 = some (1, 0x400001040, false) ∧ windowCfg.home 0x400001040 = none := by decide +kernel
/-- R466: the check value of the carrier frame's CRC. -/
theorem test_crc16_check_value : crc16 (ascii "123456789") = 0x29B1 := by decide +kernel
/-- 14_process_loops: under the trims of the panel session a raw 4.0123 mA logs 4.000 mA and a raw 19.9871 mA logs 20.000 mA. -/
theorem test_trimmed_samples :
    trimSample 4012300 (toSigned 32 0xFFFFCFF4) 1075435635 4000000 = 4000000 ∧
      trimSample 19987100 (toSigned 32 0xFFFFCFF4) 1075435635 4000000 = 20000000 := by decide +kernel
/-- R569: the read of a high word after its low word gives the snapshot, although the epoch has moved on. -/
theorem test_epoch_snapshot :
    let s := lab.setReg64 R.EPOCH_LO 0x1FFFFFFFF
    let r := s.readOne adminPath 1 R.EPOCH_LO true
    let t := r.2.2.setReg64 R.EPOCH_LO 0x200000000
    (r.2.1, (t.readOne adminPath 1 R.EPOCH_HI true).2.1) = (0xFFFFFFFF#32, 1#32) := by decide +kernel
/-- R394: a feed at 16,999 mV is lost, and its measure is kept. -/
theorem test_feed_lost :
    afterward (.feedLost true 16999#16) lab
      (fun t => t.regN (feedMv true) == 16999 && t.flag R.PWR_ERR F.PWR_ERR_FEED_LOST) = true := by decide +kernel
/-- R411: an observer does not enter SERVICE. -/
theorem test_observer_enters_no_service :
    afterward (.svcEnter .regset 0#2) lab (fun t => t.getF R.SYS_STATE F.SYS_STATE_POWER_STATE == 2) = true := by decide +kernel

/-! ### States and operands that meet the hypotheses of the statements -/
/-- States and operands that meet the hypotheses of EveryStepKeepsTheState, clause by clause. -/
theorem witness_EveryStepKeepsTheState :
    (∃ (s : State) (t : State), s.sound = true ∧ step s = .next t) :=
  ⟨State.reset, _, by decide +kernel, rfl⟩

/-- States and operands that meet the hypotheses of CommandsLeaveTheQueue, clause by clause. -/
theorem witness_CommandsLeaveTheQueue :
    (∃ (c : Instr) (s : State) (t : State), s.sound = true ∧ exec c s = .next t) :=
  ⟨.helloSend, State.reset, _, by decide +kernel, rfl⟩

/-- States and operands that meet the hypotheses of FrontCommandRuns, clause by clause. -/
theorem witness_FrontCommandRuns :
    (∃ (c : Instr) (rest : List Instr) (s : State), s.pending = c :: rest) ∧
    (∃ (s : State), s.pending = [] ∧ s.pwr.up = true) ∧
    (∃ (s : State), s.pending = [] ∧ s.pwr.up = false) :=
  ⟨⟨.helloSend, [], { State.reset with pending := [.helloSend] }, rfl⟩,
    ⟨lab, by decide +kernel, by decide +kernel⟩,
    ⟨State.reset, by decide +kernel, by decide +kernel⟩⟩

/-- States and operands that meet the hypotheses of RegistersReadBack, clause by clause. -/
theorem witness_RegistersReadBack :
    (∃ (n : Nat), n < 2 ^ 64) ∧
    (∃ (f : Fld), f.lo + f.width ≤ 32) ∧
    (∃ (f : Fld) (g : Fld), f.lo + f.width ≤ 32 ∧ ((g.lo + g.width ≤ f.lo ∨ f.lo + f.width ≤ g.lo))) :=
  ⟨⟨2 ^ 64 - 1, by decide +kernel⟩,
    ⟨⟨28, 4⟩, by decide +kernel⟩,
    ⟨⟨28, 4⟩, ⟨20, 8⟩, by decide +kernel, by decide +kernel⟩⟩

/-- States and operands that meet the hypotheses of MemoryReadsBack, clause by clause. -/
theorem witness_MemoryReadsBack :
    (∃ (bs : List Byte) (i : Nat), i < bs.length) ∧
    (∃ (k : Nat) (bs : List Byte) (x : Nat), ((x < k ∨ k + bs.length ≤ x))) ∧
    (∃ (bs : List Byte) (i : Nat), i < bs.length) ∧
    (∃ (k : Nat) (bs : List Byte) (x : Nat), ((x < k ∨ k + bs.length ≤ x))) ∧
    (∃ (n : Nat) (bs : List Byte) (xs : List Byte), n < 4 ∧ bs.length = 8192 ∧ xs.length ≤ 256) ∧
    (∃ (q : Nat) (g : Nat) (n : Nat) (q' : Nat) (g' : Nat) (n' : Nat) (bs : List Byte) (xs : List Byte), n < 4 ∧ n' < 4 ∧ g < 96 ∧ g' < 96 ∧ ((q ≠ q' ∨ g ≠ g' ∨ n ≠ n')) ∧ bs.length = 8192 ∧ xs.length ≤ 256) :=
  ⟨⟨[1#8, 2#8], 1, by decide +kernel⟩,
    ⟨4, [1#8, 2#8], 6, by decide +kernel⟩,
    ⟨[1#8, 2#8], 1, by decide +kernel⟩,
    ⟨4, [1#8], 3, by decide +kernel⟩,
    ⟨3, copies 8192 0#8, copies 256 0#8, by decide +kernel, by decide +kernel, by decide +kernel⟩,
    ⟨1, 95, 3, 0, 95, 3, copies 8192 0#8, copies 256 0#8, by decide +kernel, by decide +kernel, by decide +kernel, by decide +kernel, by decide +kernel, by decide +kernel, by decide +kernel⟩⟩

/-- States and operands that meet the hypotheses of SequencerFilesReadBack, clause by clause. -/
theorem witness_SequencerFilesReadBack :
    (∃ (i : RegId) (k : _), k ≠ i) ∧
    (∃ (r : SeqRegs) (i : Nat), 0 < i ∧ i < r.s.length) ∧
    (∃ (r : SeqRegs) (i : Nat), i < r.a.length) ∧
    (∃ (r : SeqRegs) (i : Nat), 0 < i ∧ i < r.p.length) ∧
    (∃ (r : SeqRegs) (i : Nat), i < r.lc.length) :=
  ⟨⟨⟨.s, 1⟩, ⟨.s, 2⟩, by decide +kernel⟩,
    ⟨SeqRegs.zero, 63, by decide +kernel, by decide +kernel⟩,
    ⟨SeqRegs.zero, 15, by decide +kernel⟩,
    ⟨SeqRegs.zero, 7, by decide +kernel, by decide +kernel⟩,
    ⟨SeqRegs.zero, 3, by decide +kernel⟩⟩

/-- States and operands that meet the hypotheses of SlotOffers, clause by clause. -/
theorem witness_SlotOffers :
    (∃ (c : Instr) (q : BitVec 4) (j : Nat) (op : Nat) (w : BitVec 120) (s : State), slotRow c = some (q, j, op, w) ∧ s.offer q.toNat j (slotOf op w) = .blocked) ∧
    (∃ (c : Instr) (q : BitVec 4) (j : Nat) (op : Nat) (w : BitVec 120) (s : State) (k : Nat), slotRow c = some (q, j, op, w) ∧ s.mayIssue q.toNat = true ∧ (s.qtr q.toNat).slot = 0 ∧ firstIllegal (s.qtr q.toNat).pc 0 ((s.qtr q.toNat).lw (s.qtr q.toNat).pc) = some k) ∧
    (∃ (c : Instr) (q : BitVec 4) (j : Nat) (op : Nat) (w : BitVec 120) (s : State) (k : Nat), slotRow c = some (q, j, op, w) ∧ s.mayIssue q.toNat = true ∧ (s.qtr q.toNat).slot = 0 ∧ firstIllegal (s.qtr q.toNat).pc 0 ((s.qtr q.toNat).lw (s.qtr q.toNat).pc) = none ∧ destConflict 0 [] ((s.qtr q.toNat).lw (s.qtr q.toNat).pc) = some k) ∧
    (∃ (c : Instr) (q : BitVec 4) (j : Nat) (op : Nat) (w : BitVec 120) (s : State) (t : State), slotRow c = some (q, j, op, w) ∧ s.offer q.toNat j (slotOf op w) = .slot t (slotOf op w) ∧ predOn (t.qtr q.toNat).snap (slotOf op w) = false) :=
  ⟨⟨.add 0#4 false 0#120, 0#4, 0, 1, 0#120, State.reset, by decide +kernel, by decide +kernel⟩,
    ⟨.add 0#4 false 0x8#120, 0#4, 0, 1, 0x8#120, ready 0 0x801, 0, by decide +kernel, by decide +kernel, by decide +kernel, by decide +kernel⟩,
    ⟨.add 0#4 false 0x100#120, 0#4, 0, 1, 0x100#120, conflict, 1, by decide +kernel, by decide +kernel, by decide +kernel, by decide +kernel, by decide +kernel⟩,
    ⟨.add 0#4 false 0x1#120, 0#4, 0, 1, 0x1#120, ready 0 0x101, started (ready 0 0x101) 0#4 0 1 0x1#120, by decide +kernel, by decide +kernel, by decide +kernel⟩⟩

/-- States and operands that meet the hypotheses of ScalarSlotFrame, clause by clause. -/
theorem witness_ScalarSlotFrame :
    (∃ (c : Instr) (q : BitVec 4) (j : Nat) (op : Nat) (w : BitVec 120) (s : State) (t : State), slotRow c = some (q, j, op, w) ∧ j ≤ 1 ∧ 0 < op ∧ s.issues q j op w t ∧ (t.acted q j op w State.scalarSlot).calm = true) :=
  ⟨.add 0#4 true 0#120, 0#4, 1, 1, 0#120, ready 1 1, started (ready 1 1) 0#4 1 1 0#120, by decide +kernel, by decide +kernel, by decide +kernel, issues_started (by decide +kernel), by decide +kernel⟩

/-- States and operands that meet the hypotheses of LoadStoreFrame, clause by clause. -/
theorem witness_LoadStoreFrame :
    (∃ (c : Instr) (q : BitVec 4) (op : Nat) (w : BitVec 120) (s : State) (t : State), slotRow c = some (q, 3, op, w) ∧ 0 < op ∧ op ≤ 0x0B ∧ s.issues q 3 op w t ∧ t.mayAccess q (memSize op) (slotOf op w) (isStoreOp op) ∧ (t.acted q 3 op w State.loadStore).calm = true) :=
  ⟨.st8 0#4 0x200100#120, 0#4, 0x0B, 0x200100#120, atScratch (ready 3 (slotOf 0x0B 0x200100#120)), started (atScratch (ready 3 (slotOf 0x0B 0x200100#120))) 0#4 3 0x0B 0x200100#120, by decide +kernel, by decide +kernel, by decide +kernel, issues_started (by decide +kernel), ⟨by decide +kernel, by decide +kernel, by decide +kernel⟩, by decide +kernel⟩

/-- States and operands that meet the hypotheses of RolesAreOrdered, clause by clause. -/
theorem witness_RolesAreOrdered :
    (∃ (s : State) (p : Path) (need : Nat) (a : Nat) (r : BitVec 2) (r' : BitVec 2), r ≤ r' ∧ s.gate p r.toNat need a = 0) :=
  ⟨State.reset, adminPath, 1, R.TIME_CMD, 1, 3, by decide +kernel, by decide +kernel⟩

/-- States and operands that meet the hypotheses of PoweredOffDieAnswersNotReady, clause by clause. -/
theorem witness_PoweredOffDieAnswersNotReady :
    (∃ (s : State) (a : Nat) (d : Nat) (o : Nat), dieAddr a = some (d, o) ∧ s.dieOn d = false) ∧
    (∃ (s : State) (a : Nat) (d : Nat) (o : Nat), dieAddr a = some (d, o) ∧ s.dieOn d = false) ∧
    (∃ (s : State) (a : Nat) (d : Nat) (o : Nat), dieAddr a = some (d, o) ∧ s.dieOn d = false) ∧
    (∃ (s : State) (a : Nat) (d : Nat) (o : Nat), dieAddr a = some (d, o) ∧ s.dieOn d = false) ∧
    (∃ (s : State) (a : Nat) (d : Nat) (o : Nat), dieAddr a = some (d, o) ∧ s.dieOn d = false) ∧
    (∃ (s : State) (a : Nat) (d : Nat) (o : Nat), dieAddr a = some (d, o) ∧ s.dieOn d = false) ∧
    (∃ (s : State) (a : Nat) (d : Nat) (o : Nat), dieAddr a = some (d, o) ∧ s.dieOn d = false) :=
  ⟨⟨State.reset, 0x1000000, 0, 0, by decide +kernel, by decide +kernel⟩,
    ⟨State.reset, 0x1000000, 0, 0, by decide +kernel, by decide +kernel⟩,
    ⟨State.reset, 0x1000000, 0, 0, by decide +kernel, by decide +kernel⟩,
    ⟨State.reset, 0x1000000, 0, 0, by decide +kernel, by decide +kernel⟩,
    ⟨State.reset, 0x1000000, 0, 0, by decide +kernel, by decide +kernel⟩,
    ⟨State.reset, 0x1000000, 0, 0, by decide +kernel, by decide +kernel⟩,
    ⟨State.reset, 0x1FFFFFC, 3, 0x3FFFFC, by decide +kernel, by decide +kernel⟩⟩

/-- States and operands that meet the hypotheses of AcceptStepRefusals, clause by clause. -/
theorem witness_AcceptStepRefusals :
    (∃ (s : State) (u : State) (p : Path) (role : BitVec 2), s.accepts u p role R.TIME_CMD 1 ∧ ((u.flag R.TIME_STATUS F.TIME_STATUS_DIVERGED = false ∨ u.time.offset < 0))) ∧
    (∃ (s : State) (p : Path) (role : BitVec 2), s.host.begun = true ∧ s.roleOf p role.toNat < 3) :=
  ⟨⟨lab, _, adminPath, 3#2, accepts_of (by decide +kernel), by decide +kernel⟩,
    ⟨lab, adminPath, 2#2, by decide +kernel, by decide +kernel⟩⟩

/-- States and operands that meet the hypotheses of PredicateField, clause by clause. -/
theorem witness_PredicateField :
    (∃ (w : Nat), bitsOf w 11 8 = 0) ∧
    (∃ (w : Nat), bitsOf w 11 8 = 8) :=
  ⟨⟨0, by decide +kernel⟩,
    ⟨0x800, by decide +kernel⟩⟩

/-- States and operands that meet the hypotheses of FeedsComeAndGo, clause by clause. -/
theorem witness_FeedsComeAndGo :
    (∃ (s : State) (mv : BitVec 16), s.calm = true ∧ mv.toNat < 17000) ∧
    (∃ (s : State) (mv : BitVec 16), s.calm = true ∧ 18000 ≤ mv.toNat) :=
  ⟨⟨State.reset, 16999#16, by decide +kernel, by decide +kernel⟩,
    ⟨State.reset, 18000#16, by decide +kernel, by decide +kernel⟩⟩

/-- States and operands that meet the hypotheses of RaisedFollowsItsFormula, clause by clause. -/
theorem witness_RaisedFollowsItsFormula :
    (∃ (r : PointRec) (k : _), k ≠ r.point) :=
  ⟨pointRecOf [], 1, by decide +kernel⟩

/-- States and operands that meet the hypotheses of IntegerSlotsWriteTheirResult, clause by clause. -/
theorem witness_IntegerSlotsWriteTheirResult :
    (∃ (q : BitVec 4) (s1 : Bool) (w : BitVec 120) (s : State) (t : State), s.issues q (b2n s1) 0x01 w t) ∧
    (∃ (q : BitVec 4) (s1 : Bool) (w : BitVec 120) (s : State) (t : State), s.issues q (b2n s1) 0x02 w t) ∧
    (∃ (q : BitVec 4) (s1 : Bool) (w : BitVec 120) (s : State) (t : State), s.issues q (b2n s1) 0x03 w t) ∧
    (∃ (q : BitVec 4) (s1 : Bool) (w : BitVec 120) (s : State) (t : State), s.issues q (b2n s1) 0x04 w t) ∧
    (∃ (q : BitVec 4) (s1 : Bool) (w : BitVec 120) (s : State) (t : State), s.issues q (b2n s1) 0x05 w t) ∧
    (∃ (q : BitVec 4) (s1 : Bool) (w : BitVec 120) (s : State) (t : State), s.issues q (b2n s1) 0x06 w t) ∧
    (∃ (q : BitVec 4) (s1 : Bool) (w : BitVec 120) (s : State) (t : State), s.issues q (b2n s1) 0x07 w t) ∧
    (∃ (q : BitVec 4) (s1 : Bool) (w : BitVec 120) (s : State) (t : State), s.issues q (b2n s1) 0x08 w t) ∧
    (∃ (q : BitVec 4) (s1 : Bool) (w : BitVec 120) (s : State) (t : State), s.issues q (b2n s1) 0x09 w t) ∧
    (∃ (q : BitVec 4) (s1 : Bool) (w : BitVec 120) (s : State) (t : State), s.issues q (b2n s1) 0x0A w t) ∧
    (∃ (q : BitVec 4) (s1 : Bool) (w : BitVec 120) (s : State) (t : State), s.issues q (b2n s1) 0x0B w t) ∧
    (∃ (q : BitVec 4) (s1 : Bool) (w : BitVec 120) (s : State) (t : State), s.issues q (b2n s1) 0x0C w t) ∧
    (∃ (q : BitVec 4) (s1 : Bool) (w : BitVec 120) (s : State) (t : State), s.issues q (b2n s1) 0x0D w t) ∧
    (∃ (q : BitVec 4) (s1 : Bool) (w : BitVec 120) (s : State) (t : State), s.issues q (b2n s1) 0x0E w t) ∧
    (∃ (q : BitVec 4) (s1 : Bool) (w : BitVec 120) (s : State) (t : State), s.issues q (b2n s1) 0x0F w t) :=
  ⟨⟨0#4, false, 0x100#120, ready 0 (slotOf 0x01 0x100#120), started (ready 0 (slotOf 0x01 0x100#120)) 0#4 0 0x01 0x100#120, issues_started (by decide +kernel)⟩,
    ⟨0#4, false, 0x100#120, ready 0 (slotOf 0x02 0x100#120), started (ready 0 (slotOf 0x02 0x100#120)) 0#4 0 0x02 0x100#120, issues_started (by decide +kernel)⟩,
    ⟨0#4, false, 0x100#120, ready 0 (slotOf 0x03 0x100#120), started (ready 0 (slotOf 0x03 0x100#120)) 0#4 0 0x03 0x100#120, issues_started (by decide +kernel)⟩,
    ⟨0#4, false, 0x100#120, ready 0 (slotOf 0x04 0x100#120), started (ready 0 (slotOf 0x04 0x100#120)) 0#4 0 0x04 0x100#120, issues_started (by decide +kernel)⟩,
    ⟨0#4, false, 0x100#120, ready 0 (slotOf 0x05 0x100#120), started (ready 0 (slotOf 0x05 0x100#120)) 0#4 0 0x05 0x100#120, issues_started (by decide +kernel)⟩,
    ⟨0#4, false, 0x100#120, ready 0 (slotOf 0x06 0x100#120), started (ready 0 (slotOf 0x06 0x100#120)) 0#4 0 0x06 0x100#120, issues_started (by decide +kernel)⟩,
    ⟨0#4, false, 0x100#120, ready 0 (slotOf 0x07 0x100#120), started (ready 0 (slotOf 0x07 0x100#120)) 0#4 0 0x07 0x100#120, issues_started (by decide +kernel)⟩,
    ⟨0#4, false, 0x100#120, ready 0 (slotOf 0x08 0x100#120), started (ready 0 (slotOf 0x08 0x100#120)) 0#4 0 0x08 0x100#120, issues_started (by decide +kernel)⟩,
    ⟨0#4, false, 0x100#120, ready 0 (slotOf 0x09 0x100#120), started (ready 0 (slotOf 0x09 0x100#120)) 0#4 0 0x09 0x100#120, issues_started (by decide +kernel)⟩,
    ⟨0#4, false, 0x100#120, ready 0 (slotOf 0x0A 0x100#120), started (ready 0 (slotOf 0x0A 0x100#120)) 0#4 0 0x0A 0x100#120, issues_started (by decide +kernel)⟩,
    ⟨0#4, false, 0x100#120, ready 0 (slotOf 0x0B 0x100#120), started (ready 0 (slotOf 0x0B 0x100#120)) 0#4 0 0x0B 0x100#120, issues_started (by decide +kernel)⟩,
    ⟨0#4, false, 0x100#120, ready 0 (slotOf 0x0C 0x100#120), started (ready 0 (slotOf 0x0C 0x100#120)) 0#4 0 0x0C 0x100#120, issues_started (by decide +kernel)⟩,
    ⟨0#4, false, 0x100#120, ready 0 (slotOf 0x0D 0x100#120), started (ready 0 (slotOf 0x0D 0x100#120)) 0#4 0 0x0D 0x100#120, issues_started (by decide +kernel)⟩,
    ⟨0#4, false, 0x100#120, ready 0 (slotOf 0x0E 0x100#120), started (ready 0 (slotOf 0x0E 0x100#120)) 0#4 0 0x0E 0x100#120, issues_started (by decide +kernel)⟩,
    ⟨0#4, false, 0x100#120, ready 0 (slotOf 0x0F 0x100#120), started (ready 0 (slotOf 0x0F 0x100#120)) 0#4 0 0x0F 0x100#120, issues_started (by decide +kernel)⟩⟩

/-- States and operands that meet the hypotheses of CompareAndPredicateSlots, clause by clause. -/
theorem witness_CompareAndPredicateSlots :
    (∃ (q : BitVec 4) (s1 : Bool) (w : BitVec 120) (s : State) (t : State), s.issues q (b2n s1) 0x10 w t) ∧
    (∃ (q : BitVec 4) (s1 : Bool) (w : BitVec 120) (s : State) (t : State), s.issues q (b2n s1) 0x11 w t) ∧
    (∃ (q : BitVec 4) (s1 : Bool) (w : BitVec 120) (s : State) (t : State), s.issues q (b2n s1) 0x12 w t) ∧
    (∃ (q : BitVec 4) (s1 : Bool) (w : BitVec 120) (s : State) (t : State), s.issues q (b2n s1) 0x13 w t) ∧
    (∃ (q : BitVec 4) (s1 : Bool) (w : BitVec 120) (s : State) (t : State), s.issues q (b2n s1) 0x14 w t) ∧
    (∃ (q : BitVec 4) (s1 : Bool) (w : BitVec 120) (s : State) (t : State), s.issues q (b2n s1) 0x15 w t) ∧
    (∃ (q : BitVec 4) (s1 : Bool) (w : BitVec 120) (s : State) (t : State), s.issues q (b2n s1) 0x18 w t) ∧
    (∃ (q : BitVec 4) (s1 : Bool) (w : BitVec 120) (s : State) (t : State), s.issues q (b2n s1) 0x19 w t) ∧
    (∃ (q : BitVec 4) (s1 : Bool) (w : BitVec 120) (s : State) (t : State), s.issues q (b2n s1) 0x1A w t) ∧
    (∃ (q : BitVec 4) (s1 : Bool) (w : BitVec 120) (s : State) (t : State), s.issues q (b2n s1) 0x1B w t) ∧
    (∃ (q : BitVec 4) (s1 : Bool) (w : BitVec 120) (s : State) (t : State), s.issues q (b2n s1) 0x1C w t) ∧
    (∃ (q : BitVec 4) (s1 : Bool) (w : BitVec 120) (s : State) (t : State), s.issues q (b2n s1) 0x1D w t) :=
  ⟨⟨0#4, false, 0x8100#120, ready 0 (slotOf 0x10 0x8100#120), started (ready 0 (slotOf 0x10 0x8100#120)) 0#4 0 0x10 0x8100#120, issues_started (by decide +kernel)⟩,
    ⟨0#4, false, 0x8100#120, ready 0 (slotOf 0x11 0x8100#120), started (ready 0 (slotOf 0x11 0x8100#120)) 0#4 0 0x11 0x8100#120, issues_started (by decide +kernel)⟩,
    ⟨0#4, false, 0x8100#120, ready 0 (slotOf 0x12 0x8100#120), started (ready 0 (slotOf 0x12 0x8100#120)) 0#4 0 0x12 0x8100#120, issues_started (by decide +kernel)⟩,
    ⟨0#4, false, 0x8100#120, ready 0 (slotOf 0x13 0x8100#120), started (ready 0 (slotOf 0x13 0x8100#120)) 0#4 0 0x13 0x8100#120, issues_started (by decide +kernel)⟩,
    ⟨0#4, false, 0x8100#120, ready 0 (slotOf 0x14 0x8100#120), started (ready 0 (slotOf 0x14 0x8100#120)) 0#4 0 0x14 0x8100#120, issues_started (by decide +kernel)⟩,
    ⟨0#4, false, 0x8100#120, ready 0 (slotOf 0x15 0x8100#120), started (ready 0 (slotOf 0x15 0x8100#120)) 0#4 0 0x15 0x8100#120, issues_started (by decide +kernel)⟩,
    ⟨0#4, false, 0xFFFFFFFFFFFFFFFF00000000000100#120, ready 0 (slotOf 0x18 0xFFFFFFFFFFFFFFFF00000000000100#120), started (ready 0 (slotOf 0x18 0xFFFFFFFFFFFFFFFF00000000000100#120)) 0#4 0 0x18 0xFFFFFFFFFFFFFFFF00000000000100#120, issues_started (by decide +kernel)⟩,
    ⟨0#4, false, 0x8000000100#120, ready 0 (slotOf 0x19 0x8000000100#120), started (ready 0 (slotOf 0x19 0x8000000100#120)) 0#4 0 0x19 0x8000000100#120, issues_started (by decide +kernel)⟩,
    ⟨0#4, false, 0x80808100#120, ready 0 (slotOf 0x1A 0x80808100#120), started (ready 0 (slotOf 0x1A 0x80808100#120)) 0#4 0 0x1A 0x80808100#120, issues_started (by decide +kernel)⟩,
    ⟨0#4, false, 0x80808100#120, ready 0 (slotOf 0x1B 0x80808100#120), started (ready 0 (slotOf 0x1B 0x80808100#120)) 0#4 0 0x1B 0x80808100#120, issues_started (by decide +kernel)⟩,
    ⟨0#4, false, 0x80808100#120, ready 0 (slotOf 0x1C 0x80808100#120), started (ready 0 (slotOf 0x1C 0x80808100#120)) 0#4 0 0x1C 0x80808100#120, issues_started (by decide +kernel)⟩,
    ⟨0#4, false, 0x808100#120, ready 0 (slotOf 0x1D 0x808100#120), started (ready 0 (slotOf 0x1D 0x808100#120)) 0#4 0 0x1D 0x808100#120, issues_started (by decide +kernel)⟩⟩

/-- States and operands that meet the hypotheses of FloatSlotsSendTheirResult, clause by clause. -/
theorem witness_FloatSlotsSendTheirResult :
    (∃ (q : BitVec 4) (s1 : Bool) (w : BitVec 120) (s : State) (t : State), s.issues q (b2n s1) 0x20 w t) ∧
    (∃ (q : BitVec 4) (s1 : Bool) (w : BitVec 120) (s : State) (t : State), s.issues q (b2n s1) 0x21 w t) ∧
    (∃ (q : BitVec 4) (s1 : Bool) (w : BitVec 120) (s : State) (t : State), s.issues q (b2n s1) 0x22 w t) ∧
    (∃ (q : BitVec 4) (s1 : Bool) (w : BitVec 120) (s : State) (t : State), s.issues q (b2n s1) 0x23 w t) ∧
    (∃ (q : BitVec 4) (s1 : Bool) (w : BitVec 120) (s : State) (t : State), s.issues q (b2n s1) 0x24 w t) ∧
    (∃ (q : BitVec 4) (s1 : Bool) (w : BitVec 120) (s : State) (t : State), s.issues q (b2n s1) 0x25 w t) ∧
    (∃ (q : BitVec 4) (s1 : Bool) (w : BitVec 120) (s : State) (t : State), s.issues q (b2n s1) 0x26 w t) ∧
    (∃ (q : BitVec 4) (s1 : Bool) (w : BitVec 120) (s : State) (t : State), s.issues q (b2n s1) 0x27 w t) ∧
    (∃ (q : BitVec 4) (s1 : Bool) (w : BitVec 120) (s : State) (t : State), s.issues q (b2n s1) 0x28 w t) ∧
    (∃ (q : BitVec 4) (s1 : Bool) (w : BitVec 120) (s : State) (t : State), s.issues q (b2n s1) 0x29 w t) ∧
    (∃ (q : BitVec 4) (s1 : Bool) (w : BitVec 120) (s : State) (t : State), s.issues q (b2n s1) 0x2A w t) ∧
    (∃ (q : BitVec 4) (s1 : Bool) (w : BitVec 120) (s : State) (t : State), s.issues q (b2n s1) 0x2B w t) ∧
    (∃ (q : BitVec 4) (s1 : Bool) (w : BitVec 120) (s : State) (t : State), s.issues q (b2n s1) 0x2C w t) ∧
    (∃ (q : BitVec 4) (s1 : Bool) (w : BitVec 120) (s : State) (t : State), s.issues q (b2n s1) 0x2D w t) ∧
    (∃ (q : BitVec 4) (s1 : Bool) (w : BitVec 120) (s : State) (t : State), s.issues q (b2n s1) 0x2E w t) :=
  ⟨⟨0#4, false, 0x100#120, ready 0 (slotOf 0x20 0x100#120), started (ready 0 (slotOf 0x20 0x100#120)) 0#4 0 0x20 0x100#120, issues_started (by decide +kernel)⟩,
    ⟨0#4, false, 0x100#120, ready 0 (slotOf 0x21 0x100#120), started (ready 0 (slotOf 0x21 0x100#120)) 0#4 0 0x21 0x100#120, issues_started (by decide +kernel)⟩,
    ⟨0#4, false, 0x100#120, ready 0 (slotOf 0x22 0x100#120), started (ready 0 (slotOf 0x22 0x100#120)) 0#4 0 0x22 0x100#120, issues_started (by decide +kernel)⟩,
    ⟨0#4, false, 0x100#120, ready 0 (slotOf 0x23 0x100#120), started (ready 0 (slotOf 0x23 0x100#120)) 0#4 0 0x23 0x100#120, issues_started (by decide +kernel)⟩,
    ⟨0#4, false, 0x100#120, ready 0 (slotOf 0x24 0x100#120), started (ready 0 (slotOf 0x24 0x100#120)) 0#4 0 0x24 0x100#120, issues_started (by decide +kernel)⟩,
    ⟨0#4, false, 0x100#120, ready 0 (slotOf 0x25 0x100#120), started (ready 0 (slotOf 0x25 0x100#120)) 0#4 0 0x25 0x100#120, issues_started (by decide +kernel)⟩,
    ⟨0#4, false, 0x100#120, ready 0 (slotOf 0x26 0x100#120), started (ready 0 (slotOf 0x26 0x100#120)) 0#4 0 0x26 0x100#120, issues_started (by decide +kernel)⟩,
    ⟨0#4, false, 0x100#120, ready 0 (slotOf 0x27 0x100#120), started (ready 0 (slotOf 0x27 0x100#120)) 0#4 0 0x27 0x100#120, issues_started (by decide +kernel)⟩,
    ⟨0#4, false, 0x8100#120, ready 0 (slotOf 0x28 0x8100#120), started (ready 0 (slotOf 0x28 0x8100#120)) 0#4 0 0x28 0x8100#120, issues_started (by decide +kernel)⟩,
    ⟨0#4, false, 0x8100#120, ready 0 (slotOf 0x29 0x8100#120), started (ready 0 (slotOf 0x29 0x8100#120)) 0#4 0 0x29 0x8100#120, issues_started (by decide +kernel)⟩,
    ⟨0#4, false, 0x8100#120, ready 0 (slotOf 0x2A 0x8100#120), started (ready 0 (slotOf 0x2A 0x8100#120)) 0#4 0 0x2A 0x8100#120, issues_started (by decide +kernel)⟩,
    ⟨0#4, false, 0x100#120, ready 0 (slotOf 0x2B 0x100#120), started (ready 0 (slotOf 0x2B 0x100#120)) 0#4 0 0x2B 0x100#120, issues_started (by decide +kernel)⟩,
    ⟨0#4, false, 0x100#120, ready 0 (slotOf 0x2C 0x100#120), started (ready 0 (slotOf 0x2C 0x100#120)) 0#4 0 0x2C 0x100#120, issues_started (by decide +kernel)⟩,
    ⟨0#4, false, 0x100#120, ready 0 (slotOf 0x2D 0x100#120), started (ready 0 (slotOf 0x2D 0x100#120)) 0#4 0 0x2D 0x100#120, issues_started (by decide +kernel)⟩,
    ⟨0#4, false, 0x100#120, ready 0 (slotOf 0x2E 0x100#120), started (ready 0 (slotOf 0x2E 0x100#120)) 0#4 0 0x2E 0x100#120, issues_started (by decide +kernel)⟩⟩

/-- States and operands that meet the hypotheses of ControlSlotsSteerTheFetch, clause by clause. -/
theorem witness_ControlSlotsSteerTheFetch :
    (∃ (q : BitVec 4) (w : BitVec 120) (s : State) (t : State), s.issues q 2 0x01 w t) ∧
    (∃ (q : BitVec 4) (w : BitVec 120) (s : State) (t : State), s.issues q 2 0x02 w t) ∧
    (∃ (q : BitVec 4) (w : BitVec 120) (s : State) (t : State), s.issues q 2 0x03 w t ∧ (t.qtr q.toNat).loops.all (fun l => l.ctr != cLC (slotOf 0x03 w)) = true) ∧
    (∃ (q : BitVec 4) (w : BitVec 120) (s : State) (t : State), s.issues q 2 0x04 w t ∧ (t.qtr q.toNat).loops.all (fun l => l.ctr != cLC (slotOf 0x04 w)) = true) ∧
    (∃ (q : BitVec 4) (w : BitVec 120) (s : State) (t : State), s.issues q 2 0x0F w t) :=
  ⟨⟨0#4, 0x7FF00#120, ready 2 (slotOf 0x01 0x7FF00#120), started (ready 2 (slotOf 0x01 0x7FF00#120)) 0#4 2 0x01 0x7FF00#120, issues_started (by decide +kernel)⟩,
    ⟨0#4, 0#120, ready 2 (slotOf 0x02 0#120), started (ready 2 (slotOf 0x02 0#120)) 0#4 2 0x02 0#120, issues_started (by decide +kernel)⟩,
    ⟨0#4, 0x400#120, ready 2 (slotOf 0x03 0x400#120), started (ready 2 (slotOf 0x03 0x400#120)) 0#4 2 0x03 0x400#120, issues_started (by decide +kernel), by decide +kernel⟩,
    ⟨0#4, 0xFFFFFFFF000000001FFC00#120, ready 2 (slotOf 0x04 0xFFFFFFFF000000001FFC00#120), started (ready 2 (slotOf 0x04 0xFFFFFFFF000000001FFC00#120)) 0#4 2 0x04 0xFFFFFFFF000000001FFC00#120, issues_started (by decide +kernel), by decide +kernel⟩,
    ⟨0#4, 0#120, ready 2 (slotOf 0x0F 0#120), started (ready 2 (slotOf 0x0F 0#120)) 0#4 2 0x0F 0#120, issues_started (by decide +kernel)⟩⟩

/-- States and operands that meet the hypotheses of LoadsSendWhatMemoryHolds, clause by clause. -/
theorem witness_LoadsSendWhatMemoryHolds :
    (∃ (q : BitVec 4) (w : BitVec 120) (s : State) (t : State), s.issues q 3 0x01 w t ∧ t.mayAccess q 1 (slotOf 0x01 w) false) ∧
    (∃ (q : BitVec 4) (w : BitVec 120) (s : State) (t : State), s.issues q 3 0x02 w t ∧ t.mayAccess q 2 (slotOf 0x02 w) false) ∧
    (∃ (q : BitVec 4) (w : BitVec 120) (s : State) (t : State), s.issues q 3 0x03 w t ∧ t.mayAccess q 4 (slotOf 0x03 w) false) ∧
    (∃ (q : BitVec 4) (w : BitVec 120) (s : State) (t : State), s.issues q 3 0x04 w t ∧ t.mayAccess q 8 (slotOf 0x04 w) false) ∧
    (∃ (q : BitVec 4) (w : BitVec 120) (s : State) (t : State), s.issues q 3 0x05 w t ∧ t.mayAccess q 1 (slotOf 0x05 w) false) ∧
    (∃ (q : BitVec 4) (w : BitVec 120) (s : State) (t : State), s.issues q 3 0x06 w t ∧ t.mayAccess q 2 (slotOf 0x06 w) false) ∧
    (∃ (q : BitVec 4) (w : BitVec 120) (s : State) (t : State), s.issues q 3 0x07 w t ∧ t.mayAccess q 4 (slotOf 0x07 w) false) :=
  ⟨⟨0#4, 0x100#120, atScratch (ready 3 (slotOf 0x01 0x100#120)), started (atScratch (ready 3 (slotOf 0x01 0x100#120))) 0#4 3 0x01 0x100#120, issues_started (by decide +kernel), ⟨by decide +kernel, by decide +kernel, by decide +kernel⟩⟩,
    ⟨0#4, 0x100#120, atScratch (ready 3 (slotOf 0x02 0x100#120)), started (atScratch (ready 3 (slotOf 0x02 0x100#120))) 0#4 3 0x02 0x100#120, issues_started (by decide +kernel), ⟨by decide +kernel, by decide +kernel, by decide +kernel⟩⟩,
    ⟨0#4, 0x100#120, atScratch (ready 3 (slotOf 0x03 0x100#120)), started (atScratch (ready 3 (slotOf 0x03 0x100#120))) 0#4 3 0x03 0x100#120, issues_started (by decide +kernel), ⟨by decide +kernel, by decide +kernel, by decide +kernel⟩⟩,
    ⟨0#4, 0x100#120, atScratch (ready 3 (slotOf 0x04 0x100#120)), started (atScratch (ready 3 (slotOf 0x04 0x100#120))) 0#4 3 0x04 0x100#120, issues_started (by decide +kernel), ⟨by decide +kernel, by decide +kernel, by decide +kernel⟩⟩,
    ⟨0#4, 0x100#120, atScratch (ready 3 (slotOf 0x05 0x100#120)), started (atScratch (ready 3 (slotOf 0x05 0x100#120))) 0#4 3 0x05 0x100#120, issues_started (by decide +kernel), ⟨by decide +kernel, by decide +kernel, by decide +kernel⟩⟩,
    ⟨0#4, 0x100#120, atScratch (ready 3 (slotOf 0x06 0x100#120)), started (atScratch (ready 3 (slotOf 0x06 0x100#120))) 0#4 3 0x06 0x100#120, issues_started (by decide +kernel), ⟨by decide +kernel, by decide +kernel, by decide +kernel⟩⟩,
    ⟨0#4, 0x100#120, atScratch (ready 3 (slotOf 0x07 0x100#120)), started (atScratch (ready 3 (slotOf 0x07 0x100#120))) 0#4 3 0x07 0x100#120, issues_started (by decide +kernel), ⟨by decide +kernel, by decide +kernel, by decide +kernel⟩⟩⟩

/-- States and operands that meet the hypotheses of StoresWriteTheirBytes, clause by clause. -/
theorem witness_StoresWriteTheirBytes :
    (∃ (q : BitVec 4) (w : BitVec 120) (s : State) (t : State), s.issues q 3 0x08 w t ∧ t.mayAccess q 1 (slotOf 0x08 w) true) ∧
    (∃ (q : BitVec 4) (w : BitVec 120) (s : State) (t : State), s.issues q 3 0x09 w t ∧ t.mayAccess q 2 (slotOf 0x09 w) true) ∧
    (∃ (q : BitVec 4) (w : BitVec 120) (s : State) (t : State), s.issues q 3 0x0A w t ∧ t.mayAccess q 4 (slotOf 0x0A w) true) ∧
    (∃ (q : BitVec 4) (w : BitVec 120) (s : State) (t : State), s.issues q 3 0x0B w t ∧ t.mayAccess q 8 (slotOf 0x0B w) true) :=
  ⟨⟨0#4, 0x200100#120, atScratch (ready 3 (slotOf 0x08 0x200100#120)), started (atScratch (ready 3 (slotOf 0x08 0x200100#120))) 0#4 3 0x08 0x200100#120, issues_started (by decide +kernel), ⟨by decide +kernel, by decide +kernel, by decide +kernel⟩⟩,
    ⟨0#4, 0x200100#120, atScratch (ready 3 (slotOf 0x09 0x200100#120)), started (atScratch (ready 3 (slotOf 0x09 0x200100#120))) 0#4 3 0x09 0x200100#120, issues_started (by decide +kernel), ⟨by decide +kernel, by decide +kernel, by decide +kernel⟩⟩,
    ⟨0#4, 0x200100#120, atScratch (ready 3 (slotOf 0x0A 0x200100#120)), started (atScratch (ready 3 (slotOf 0x0A 0x200100#120))) 0#4 3 0x0A 0x200100#120, issues_started (by decide +kernel), ⟨by decide +kernel, by decide +kernel, by decide +kernel⟩⟩,
    ⟨0#4, 0x200100#120, atScratch (ready 3 (slotOf 0x0B 0x200100#120)), started (atScratch (ready 3 (slotOf 0x0B 0x200100#120))) 0#4 3 0x0B 0x200100#120, issues_started (by decide +kernel), ⟨by decide +kernel, by decide +kernel, by decide +kernel⟩⟩⟩

/-- States and operands that meet the hypotheses of SpanSlotsEnterTheirQueue, clause by clause. -/
theorem witness_SpanSlotsEnterTheirQueue :
    (∃ (q : BitVec 4) (g1 : Bool) (w : BitVec 120) (s : State) (t : State), s.issues q (4 + b2n g1) 0x01 w t ∧ t.spanFree q g1 (slotOf 0x01 w)) ∧
    (∃ (q : BitVec 4) (g1 : Bool) (w : BitVec 120) (s : State) (t : State), s.issues q (4 + b2n g1) 0x02 w t ∧ t.spanFree q g1 (slotOf 0x02 w)) ∧
    (∃ (q : BitVec 4) (g1 : Bool) (w : BitVec 120) (s : State) (t : State), s.issues q (4 + b2n g1) 0x03 w t ∧ t.spanFree q g1 (slotOf 0x03 w)) ∧
    (∃ (q : BitVec 4) (g1 : Bool) (w : BitVec 120) (s : State) (t : State), s.issues q (4 + b2n g1) 0x04 w t ∧ t.spanFree q g1 (slotOf 0x04 w)) ∧
    (∃ (q : BitVec 4) (g1 : Bool) (w : BitVec 120) (s : State) (t : State), s.issues q (4 + b2n g1) 0x05 w t ∧ t.spanFree q g1 (slotOf 0x05 w)) ∧
    (∃ (q : BitVec 4) (g1 : Bool) (w : BitVec 120) (s : State) (t : State), s.issues q (4 + b2n g1) 0x06 w t ∧ t.spanFree q g1 (slotOf 0x06 w)) :=
  ⟨⟨0#4, false, 0x40000#120, ready 4 (slotOf 0x01 0x40000#120), started (ready 4 (slotOf 0x01 0x40000#120)) 0#4 4 0x01 0x40000#120, issues_started (by decide +kernel), ⟨by decide +kernel, fun h => nomatch h⟩⟩,
    ⟨0#4, false, 0#120, ready 4 (slotOf 0x02 0#120), started (ready 4 (slotOf 0x02 0#120)) 0#4 4 0x02 0#120, issues_started (by decide +kernel), ⟨by decide +kernel, fun h => nomatch h⟩⟩,
    ⟨0#4, false, 0#120, ready 4 (slotOf 0x03 0#120), started (ready 4 (slotOf 0x03 0#120)) 0#4 4 0x03 0#120, issues_started (by decide +kernel), ⟨by decide +kernel, fun h => nomatch h⟩⟩,
    ⟨0#4, false, 0#120, ready 4 (slotOf 0x04 0#120), started (ready 4 (slotOf 0x04 0#120)) 0#4 4 0x04 0#120, issues_started (by decide +kernel), ⟨by decide +kernel, fun h => nomatch h⟩⟩,
    ⟨0#4, false, 0x4000040000#120, ready 4 (slotOf 0x05 0x4000040000#120), started (ready 4 (slotOf 0x05 0x4000040000#120)) 0#4 4 0x05 0x4000040000#120, issues_started (by decide +kernel), ⟨by decide +kernel, fun h => nomatch h⟩⟩,
    ⟨0#4, false, 0x100000000000#120, ready 4 (slotOf 0x06 0x100000000000#120), started (ready 4 (slotOf 0x06 0x100000000000#120)) 0#4 4 0x06 0x100000000000#120, issues_started (by decide +kernel), ⟨by decide +kernel, fun h => nomatch h⟩⟩⟩

/-- States and operands that meet the hypotheses of VectorSlotsEnterTheQueue, clause by clause. -/
theorem witness_VectorSlotsEnterTheQueue :
    (∃ (q : BitVec 4) (w : BitVec 120) (s : State) (t : State), s.issues q 6 0x01 w t) ∧
    (∃ (q : BitVec 4) (w : BitVec 120) (s : State) (t : State), s.issues q 6 0x02 w t) ∧
    (∃ (q : BitVec 4) (w : BitVec 120) (s : State) (t : State), s.issues q 6 0x03 w t) ∧
    (∃ (q : BitVec 4) (w : BitVec 120) (s : State) (t : State), s.issues q 6 0x04 w t) ∧
    (∃ (q : BitVec 4) (w : BitVec 120) (s : State) (t : State), s.issues q 6 0x05 w t) ∧
    (∃ (q : BitVec 4) (w : BitVec 120) (s : State) (t : State), s.issues q 6 0x06 w t) ∧
    (∃ (q : BitVec 4) (w : BitVec 120) (s : State) (t : State), s.issues q 6 0x07 w t) ∧
    (∃ (q : BitVec 4) (w : BitVec 120) (s : State) (t : State), s.issues q 6 0x10 w t) ∧
    (∃ (q : BitVec 4) (w : BitVec 120) (s : State) (t : State), s.issues q 6 0x11 w t) ∧
    (∃ (q : BitVec 4) (w : BitVec 120) (s : State) (t : State), s.issues q 6 0x12 w t) ∧
    (∃ (q : BitVec 4) (w : BitVec 120) (s : State) (t : State), s.issues q 6 0x13 w t) ∧
    (∃ (q : BitVec 4) (w : BitVec 120) (s : State) (t : State), s.issues q 6 0x18 w t) ∧
    (∃ (q : BitVec 4) (w : BitVec 120) (s : State) (t : State), s.issues q 6 0x19 w t) ∧
    (∃ (q : BitVec 4) (w : BitVec 120) (s : State) (t : State), s.issues q 6 0x20 w t) ∧
    (∃ (q : BitVec 4) (w : BitVec 120) (s : State) (t : State), s.issues q 6 0x21 w t) ∧
    (∃ (q : BitVec 4) (w : BitVec 120) (s : State) (t : State), s.issues q 6 0x28 w t) ∧
    (∃ (q : BitVec 4) (w : BitVec 120) (s : State) (t : State), s.issues q 6 0x29 w t) ∧
    (∃ (q : BitVec 4) (w : BitVec 120) (s : State) (t : State), s.issues q 6 0x2A w t) ∧
    (∃ (q : BitVec 4) (w : BitVec 120) (s : State) (t : State), s.issues q 6 0x30 w t) ∧
    (∃ (q : BitVec 4) (w : BitVec 120) (s : State) (t : State), s.issues q 6 0x31 w t) ∧
    (∃ (q : BitVec 4) (w : BitVec 120) (s : State) (t : State), s.issues q 6 0x40 w t) :=
  ⟨⟨0#4, 0#120, ready 6 (slotOf 0x01 0#120), started (ready 6 (slotOf 0x01 0#120)) 0#4 6 0x01 0#120, issues_started (by decide +kernel)⟩,
    ⟨0#4, 0#120, ready 6 (slotOf 0x02 0#120), started (ready 6 (slotOf 0x02 0#120)) 0#4 6 0x02 0#120, issues_started (by decide +kernel)⟩,
    ⟨0#4, 0#120, ready 6 (slotOf 0x03 0#120), started (ready 6 (slotOf 0x03 0#120)) 0#4 6 0x03 0#120, issues_started (by decide +kernel)⟩,
    ⟨0#4, 0#120, ready 6 (slotOf 0x04 0#120), started (ready 6 (slotOf 0x04 0#120)) 0#4 6 0x04 0#120, issues_started (by decide +kernel)⟩,
    ⟨0#4, 0#120, ready 6 (slotOf 0x05 0#120), started (ready 6 (slotOf 0x05 0#120)) 0#4 6 0x05 0#120, issues_started (by decide +kernel)⟩,
    ⟨0#4, 0#120, ready 6 (slotOf 0x06 0#120), started (ready 6 (slotOf 0x06 0#120)) 0#4 6 0x06 0#120, issues_started (by decide +kernel)⟩,
    ⟨0#4, 0#120, ready 6 (slotOf 0x07 0#120), started (ready 6 (slotOf 0x07 0#120)) 0#4 6 0x07 0#120, issues_started (by decide +kernel)⟩,
    ⟨0#4, 0#120, ready 6 (slotOf 0x10 0#120), started (ready 6 (slotOf 0x10 0#120)) 0#4 6 0x10 0#120, issues_started (by decide +kernel)⟩,
    ⟨0#4, 0#120, ready 6 (slotOf 0x11 0#120), started (ready 6 (slotOf 0x11 0#120)) 0#4 6 0x11 0#120, issues_started (by decide +kernel)⟩,
    ⟨0#4, 0#120, ready 6 (slotOf 0x12 0#120), started (ready 6 (slotOf 0x12 0#120)) 0#4 6 0x12 0#120, issues_started (by decide +kernel)⟩,
    ⟨0#4, 0#120, ready 6 (slotOf 0x13 0#120), started (ready 6 (slotOf 0x13 0#120)) 0#4 6 0x13 0#120, issues_started (by decide +kernel)⟩,
    ⟨0#4, 0#120, ready 6 (slotOf 0x18 0#120), started (ready 6 (slotOf 0x18 0#120)) 0#4 6 0x18 0#120, issues_started (by decide +kernel)⟩,
    ⟨0#4, 0#120, ready 6 (slotOf 0x19 0#120), started (ready 6 (slotOf 0x19 0#120)) 0#4 6 0x19 0#120, issues_started (by decide +kernel)⟩,
    ⟨0#4, 0#120, ready 6 (slotOf 0x20 0#120), started (ready 6 (slotOf 0x20 0#120)) 0#4 6 0x20 0#120, issues_started (by decide +kernel)⟩,
    ⟨0#4, 0#120, ready 6 (slotOf 0x21 0#120), started (ready 6 (slotOf 0x21 0#120)) 0#4 6 0x21 0#120, issues_started (by decide +kernel)⟩,
    ⟨0#4, 0#120, ready 6 (slotOf 0x28 0#120), started (ready 6 (slotOf 0x28 0#120)) 0#4 6 0x28 0#120, issues_started (by decide +kernel)⟩,
    ⟨0#4, 0#120, ready 6 (slotOf 0x29 0#120), started (ready 6 (slotOf 0x29 0#120)) 0#4 6 0x29 0#120, issues_started (by decide +kernel)⟩,
    ⟨0#4, 0#120, ready 6 (slotOf 0x2A 0#120), started (ready 6 (slotOf 0x2A 0#120)) 0#4 6 0x2A 0#120, issues_started (by decide +kernel)⟩,
    ⟨0#4, 0#120, ready 6 (slotOf 0x30 0#120), started (ready 6 (slotOf 0x30 0#120)) 0#4 6 0x30 0#120, issues_started (by decide +kernel)⟩,
    ⟨0#4, 0#120, ready 6 (slotOf 0x31 0#120), started (ready 6 (slotOf 0x31 0#120)) 0#4 6 0x31 0#120, issues_started (by decide +kernel)⟩,
    ⟨0#4, 0#120, ready 6 (slotOf 0x40 0#120), started (ready 6 (slotOf 0x40 0#120)) 0#4 6 0x40 0#120, issues_started (by decide +kernel)⟩⟩

/-- States and operands that meet the hypotheses of ExchangeCopyAndNopSlots, clause by clause. -/
theorem witness_ExchangeCopyAndNopSlots :
    (∃ (q : BitVec 4) (w : BitVec 120) (s : State) (t : State), s.issues q 7 0x01 w t) ∧
    (∃ (q : BitVec 4) (w : BitVec 120) (s : State) (t : State), s.issues q 7 0x02 w t) ∧
    (∃ (q : BitVec 4) (w : BitVec 120) (s : State) (t : State), s.issues q 7 0x03 w t) ∧
    (∃ (q : BitVec 4) (w : BitVec 120) (s : State) (t : State), s.issues q 7 0x04 w t) ∧
    (∃ (q : BitVec 4) (w : BitVec 120) (s : State) (t : State), s.issues q 7 0x05 w t) ∧
    (∃ (q : BitVec 4) (w : BitVec 120) (s : State) (t : State), (t.qtr q.toNat).snap.aN (mcSrc (slotOf 0x10 w)) % 64 = 0 ∧ (t.qtr q.toNat).snap.aN (mcDst (slotOf 0x10 w)) % 64 = 0 ∧ t.copyLen q (slotOf 0x10 w) % 64 = 0 ∧ t.check q.toNat ((t.qtr q.toNat).snap.aN (mcSrc (slotOf 0x10 w))) (t.copyLen q (slotOf 0x10 w)) false = .ok ∧ t.check q.toNat ((t.qtr q.toNat).snap.aN (mcDst (slotOf 0x10 w))) (t.copyLen q (slotOf 0x10 w)) true = .ok ∧ t.inOrder q.toNat (t.qtr q.toNat).nextSeq ((t.qtr q.toNat).snap.aN (mcSrc (slotOf 0x10 w))) (t.copyLen q (slotOf 0x10 w)) false = true ∧ t.inOrder q.toNat (t.qtr q.toNat).nextSeq ((t.qtr q.toNat).snap.aN (mcDst (slotOf 0x10 w))) (t.copyLen q (slotOf 0x10 w)) true = true ∧ s.issues q 3 0x10 w t) ∧
    (∃ (q : BitVec 4) (j : BitVec 3) (s : State) (t : State), s.issues q j.toNat 0 0#120 t) :=
  ⟨⟨0#4, 0x100#120, ready 7 (slotOf 0x01 0x100#120), started (ready 7 (slotOf 0x01 0x100#120)) 0#4 7 0x01 0x100#120, issues_started (by decide +kernel)⟩,
    ⟨0#4, 0#120, ready 7 (slotOf 0x02 0#120), started (ready 7 (slotOf 0x02 0#120)) 0#4 7 0x02 0#120, issues_started (by decide +kernel)⟩,
    ⟨0#4, 0x3FF00#120, ready 7 (slotOf 0x03 0x3FF00#120), started (ready 7 (slotOf 0x03 0x3FF00#120)) 0#4 7 0x03 0x3FF00#120, issues_started (by decide +kernel)⟩,
    ⟨0#4, 0#120, ready 7 (slotOf 0x04 0#120), started (ready 7 (slotOf 0x04 0#120)) 0#4 7 0x04 0#120, issues_started (by decide +kernel)⟩,
    ⟨0#4, 0x20100#120, ready 7 (slotOf 0x05 0x20100#120), started (ready 7 (slotOf 0x05 0x20100#120)) 0#4 7 0x05 0x20100#120, issues_started (by decide +kernel)⟩,
    ⟨0#4, 0x4000000000401000#120, twoAddrs (ready 3 (slotOf 0x10 0x4000000000401000#120)), started (twoAddrs (ready 3 (slotOf 0x10 0x4000000000401000#120))) 0#4 3 0x10 0x4000000000401000#120, by decide +kernel, by decide +kernel, by decide +kernel, by decide +kernel, by decide +kernel, by decide +kernel, by decide +kernel, issues_started (by decide +kernel)⟩,
    ⟨0#4, 2#3, ready 3 (slotOf 1 0#120), started (ready 3 (slotOf 1 0#120)) 0#4 2 0 0#120, issues_started (by decide +kernel)⟩⟩

/-- States and operands that meet the hypotheses of CompletionsOfASequencer, clause by clause. -/
theorem witness_CompletionsOfASequencer :
    (∃ (s : State) (q : BitVec 4) (i : Nat) (p : PendingWrite), (s.qtr q.toNat).pend[i]? = some p) ∧
    (∃ (s : State) (q : BitVec 4) (i : Nat) (n : Nat), ((s.qtr q.toNat).outst.filter (fun n => !(s.qtr q.toNat).pend.any (fun p => p.memSeq == some n)))[i]? = some n) ∧
    (∃ (s : State) (q : BitVec 4) (i : Nat) (g : PendingSignal), (s.qtr q.toNat).signals[i]? = some g ∧ s.memDone q.toNat g.seq = true ∧ ((s.qState g.target = 2 ∨ s.qState g.target = 3))) ∧
    (∃ (s : State) (q : BitVec 4) (c : Nat) (v : Nat), (s.qtr q.toNat).waiting = some (c, v) ∧ v ≤ (nth (s.qtr q.toNat).sc c 0#32).toNat) ∧
    (∃ (s : State) (q : BitVec 4) (n : Nat), (s.qtr q.toNat).fence = some n ∧ s.memDone q.toNat n = true) ∧
    (∃ (s : State) (q : BitVec 4) (t : Nat), s.qState q.toNat = 2 ∧ (s.qtr q.toNat).faulted = false ∧ (s.qtr q.toNat).drained = true ∧ (s.qtr q.toNat).groupOpen = false ∧ allQ.any (fun k => (((s.at t).setQState q.toNat 3).modQ q.toNat (fun x => { x with doneAt := some t })).qState k == 2) = true) ∧
    (∃ (s : State) (q : BitVec 4) (idle : Nat), s.qState q.toNat = 2 ∧ (s.qtr q.toNat).waiting = none ∧ 100000 ≤ idle) ∧
    (∃ (s : State) (q : BitVec 4), s.getF (R.FAULT_LIMIT q.toNat) F.FAULT_LIMIT_LIMIT ≠ 0 ∧ s.getF (R.FAULT_LIMIT q.toNat) F.FAULT_LIMIT_LIMIT ≤ (s.qtr q.toNat).faultRun ∧ ((s.qState q.toNat = 0 ∨ s.qState q.toNat = 1))) :=
  ⟨⟨quarter0 (fun x => { x with pend := [⟨⟨.s, 1⟩, 5, none⟩] }), 0#4, 0, ⟨⟨.s, 1⟩, 5, none⟩, by decide +kernel⟩,
    ⟨quarter0 (fun x => { x with outst := [3] }), 0#4, 0, 3, by decide +kernel⟩,
    ⟨(quarter0 (fun x => { x with signals := [⟨0, 1, 2, 0⟩] })).setQState 1 3, 0#4, 0, ⟨0, 1, 2, 0⟩, by decide +kernel, by decide +kernel, by decide +kernel⟩,
    ⟨quarter0 (fun x => { x with waiting := some (15, 0) }), 0#4, 15, 0, by decide +kernel, by decide +kernel⟩,
    ⟨quarter0 (fun x => { x with fence := some 0 }), 0#4, 0, by decide +kernel, by decide +kernel⟩,
    ⟨(quarter0 (fun x => { x with done := some 0 })).setQState 1 2, 0#4, 0, by decide +kernel, by decide +kernel, by decide +kernel, by decide +kernel, by decide +kernel⟩,
    ⟨quarter0 (fun x => { x with pc := 0 }), 0#4, 100000, by decide +kernel, by decide +kernel, by decide +kernel⟩,
    ⟨withF [(R.FAULT_LIMIT 0, F.FAULT_LIMIT_LIMIT, 1)] (lab.modQ 0 (fun x => { x with faultRun := 1 })), 0#4, by decide +kernel, by decide +kernel, by decide +kernel⟩⟩

/-- States and operands that meet the hypotheses of VectorEngineRuns, clause by clause. -/
theorem witness_VectorEngineRuns :
    (∃ (s : State) (q : BitVec 4) (o : VecOp) (rest : List VecOp), (s.qtr q.toNat).vcur = none ∧ (s.qtr q.toNat).vq = o :: rest ∧ s.vecFault q.toNat o = none ∧ (s.vecCheck q.toNat o).1 = .ok) ∧
    (∃ (s : State) (q : BitVec 4) (o : VecOp), (s.qtr q.toNat).vcur = some o ∧ ((o.kind = 0 ∨ o.len ≤ (s.vecWords q.toNat o).length)) ∧ o.srcs.all (fun p => s.inOrder q.toNat o.seq p.1 p.2 false) = true ∧ s.inOrder q.toNat o.seq o.dst o.dstLen true = true ∧ (s.vecCheck q.toNat o).1 = .ok) ∧
    (∃ (s : State) (q : BitVec 4) (o : VecOp), (s.qtr q.toNat).vcur = some o) ∧
    (∃ (s : State) (q : BitVec 4) (o : VecOp), s.checkUndrained q.toNat = s ∧ (s.qtr q.toNat).faulted = false ∧ (s.qtr q.toNat).vcur = some o ∧ o.kind ≠ 0 ∧ (nth (s.qtr q.toNat).feeds (if o.kind = 1 then 0 else 1 + o.port) []).length < o.len ∧ s.willFeed q.toNat (if o.kind = 1 then 0 else 1 + o.port) = false ∧ s.cannotIssue q.toNat = true) :=
  ⟨⟨engine none [vop 0] false, 0#4, vop 0, [], by decide +kernel, by decide +kernel, by decide +kernel, by decide +kernel⟩,
    ⟨engine (some (vop 0)) [] false, 0#4, vop 0, by decide +kernel, by decide +kernel, by decide +kernel, by decide +kernel, by decide +kernel⟩,
    ⟨engine (some (vop 0)) [] false, 0#4, vop 0, by decide +kernel⟩,
    ⟨engine (some (vop 1)) [] true, 0#4, vop 1, by rfl, by decide +kernel, by decide +kernel, by decide +kernel, by decide +kernel, by decide +kernel, by decide +kernel⟩⟩

/-- States and operands that meet the hypotheses of BanksOfASpan, clause by clause. -/
theorem witness_BanksOfASpan :
    (∃ (s : State) (q : BitVec 4) (sp : BitVec 7) (o : SpanOp) (d : SpanDesc), s.headOp q.toNat sp.toNat .bload = some o ∧ s.img.run.span q.toNat sp.toNat = some d ∧ o.src % 64 = 0 ∧ o.ustr % 64 = 0 ∧ (((s.spanFmt q.toNat sp.toNat).1 = 2 → o.xsrc % 64 = 0 ∧ o.xstr % 64 = 0)) ∧ (∀ p ∈ s.kGrains q.toNat sp.toNat d, s.check q.toNat (o.loadSrc p.1) 8192 false = .ok) ∧ ((s.spanFmt q.toNat sp.toNat).1 = 2 → ∀ p ∈ s.kGrains q.toNat sp.toNat d, s.check q.toNat (o.loadXsrc (s.spanFmt q.toNat sp.toNat).1 p.1) 256 false = .ok) ∧ (∀ p ∈ s.kGrains q.toNat sp.toNat d, s.gActive q.toNat p.2 ≠ o.bank)) ∧
    (∃ (s : State) (q : BitVec 4) (j : LoadJob), s.headJob q.toNat = some j ∧ j.kind = 0 ∧ s.inOrder q.toNat j.seq j.src 8192 false = true ∧ s.inOrder q.toNat j.seq j.xsrc (s.jobExp j) false = true ∧ s.jobCheck j = .ok) ∧
    (∃ (s : State) (q : BitVec 4) (j : LoadJob), s.headJob q.toNat = some j ∧ j.kind ≠ 0 ∧ s.check q.toNat j.src 8192 false = .ok ∧ s.check q.toNat j.xsrc (s.jobExp j) false = .ok ∧ ((j.crc = none ∨ j.crc = some (crc32 (s.load j.src 8192 ++ s.load j.xsrc (s.jobExp j)))))) ∧
    (∃ (s : State) (q : BitVec 4) (sp : BitVec 7) (o : SpanOp) (d : SpanDesc), s.headOp q.toNat sp.toNat .bswitch = some o ∧ s.img.run.span q.toNat sp.toNat = some d ∧ (∀ g ∈ ((s.kGrains q.toNat sp.toNat d).map Prod.snd), s.bank q.toNat g o.bank = 2)) ∧
    (∃ (s : State) (q : BitVec 4) (sp : BitVec 7) (o : SpanOp) (d : SpanDesc), s.headOp q.toNat sp.toNat .brelease = some o ∧ s.img.run.span q.toNat sp.toNat = some d ∧ ((∀ g ∈ ((s.kGrains q.toNat sp.toNat d).map Prod.snd), s.gActive q.toNat g ≠ o.bank ∧ s.bank q.toNat g o.bank ≠ 1))) :=
  ⟨⟨spanned (spanOf [opOf .bload] none 0 []), 0#4, 0#7, opOf .bload, labSpan, by decide +kernel, by decide +kernel, by decide +kernel, by decide +kernel, by decide +kernel, by decide +kernel, by decide +kernel, by decide +kernel⟩,
    ⟨jobbed 0, 0#4, jobOf 0, by decide +kernel, by decide +kernel, by decide +kernel, by decide +kernel, by decide +kernel⟩,
    ⟨jobbed 1, 0#4, jobOf 1, by decide +kernel, by decide +kernel, by decide +kernel, by decide +kernel, by decide +kernel⟩,
    ⟨spanned (spanOf [opOf .bswitch] none 0 []), 0#4, 0#7, opOf .bswitch, labSpan, by decide +kernel, by decide +kernel, by decide +kernel⟩,
    ⟨spanned (spanOf [opOf .brelease] none 0 []), 0#4, 0#7, opOf .brelease, labSpan, by decide +kernel, by decide +kernel, by decide +kernel⟩⟩

/-- States and operands that meet the hypotheses of GroupsAndPassesOfASpan, clause by clause. -/
theorem witness_GroupsAndPassesOfASpan :
    (∃ (s : State) (q : BitVec 4) (sp : BitVec 7) (o : SpanOp) (d : SpanDesc), s.headOp q.toNat sp.toNat .span = some o ∧ s.img.run.span q.toNat sp.toNat = some d ∧ o.rows ≠ 0 ∧ o.rows ≤ d.tileRows ∧ o.a % 64 = 0 ∧ o.t % 64 = 0 ∧ rowBytes (s.spanFmt q.toNat sp.toNat).2 d.grains ≤ o.t ∧ scratchBase q.toNat ≤ o.a ∧ o.a + (o.rows - 1) * o.t + rowBytes (s.spanFmt q.toNat sp.toNat).2 d.grains ≤ scratchBase q.toNat + 0x200000 ∧ opMisaligned d o = false ∧ (o.opn = 2 → s.inOrder q.toNat o.seq o.osrc 64 false = true) ∧ (d.streaming = false → (s.opMemory q.toNat d (s.spanFmt q.toNat sp.toNat).1 o.rows o).1 = .ok) ∧ s.passGroupCheck q.toNat sp.toNat d (s.spanFmt q.toNat sp.toNat).1 o = .ok ∧ (∀ g ∈ ((s.kGrains q.toNat sp.toNat d).map Prod.snd), s.bank q.toNat g (s.gActive q.toNat g) = 2)) ∧
    (∃ (s : State) (q : BitVec 4) (sp : BitVec 7) (o : SpanOp) (d : SpanDesc) (p : PassSt), (s.span q.toNat sp.toNat).pass = some p ∧ p.op = o ∧ s.img.run.span q.toNat sp.toNat = some d ∧ s.inOrder q.toNat o.seq (o.a + p.done * o.t) (rowBytes (s.spanFmt q.toNat sp.toNat).2 d.grains) false = true ∧ s.check q.toNat (o.a + p.done * o.t) (rowBytes (s.spanFmt q.toNat sp.toNat).2 d.grains) false = .ok ∧ (d.streaming = true → o.cls ≠ 2 → s.fusedCheck q.toNat sp.toNat d o.opoff (colsOf (s.spanFmt q.toNat sp.toNat).1) p.done 1 = .ok)) ∧
    (∃ (s : State) (q : BitVec 4) (sp : BitVec 7) (o : SpanOp) (d : SpanDesc), s.headOp q.toNat sp.toNat .gopen = some o ∧ s.img.run.span q.toNat sp.toNat = some d ∧ d.streaming = false ∧ ((o.opn = 1 → 0 < o.rows ∧ o.rows ≤ d.tileRows)) ∧ opMisaligned d o = false ∧ (o.opn = 2 → s.inOrder q.toNat o.seq o.osrc 64 false = true) ∧ (s.opMemory q.toNat d (s.spanFmt q.toNat sp.toNat).1 o.rows o).1 = .ok ∧ o.group < d.groups ∧ ((s.span q.toNat sp.toNat).group o.group).st ≠ 2 ∧ openFault s d (s.spanFmt q.toNat sp.toNat).1 o ((s.span q.toNat sp.toNat).group o.group) o.rows = .ok) ∧
    (∃ (s : State) (q : BitVec 4) (sp : BitVec 7) (o : SpanOp) (d : SpanDesc), s.headOp q.toNat sp.toNat .gclose = some o ∧ s.img.run.span q.toNat sp.toNat = some d ∧ d.streaming = false ∧ opMisaligned d o = false ∧ o.group < d.groups ∧ ((s.span q.toNat sp.toNat).group o.group).st = 1 ∧ (s.opMemory q.toNat d (s.spanFmt q.toNat sp.toNat).1 ((s.span q.toNat sp.toNat).group o.group).rows o).1 = .ok ∧ (o.cls = 2 → ((s.span q.toNat sp.toNat).group o.group).mode = 0) ∧ s.fusedShort q.toNat sp.toNat d o ((s.span q.toNat sp.toNat).group o.group).rows (colsOf (s.spanFmt q.toNat sp.toNat).1) = false) ∧
    (∃ (s : State) (q : BitVec 4) (sp : BitVec 7) (d : SpanDesc) (dr : DrainSt) (rest : List DrainSt), (s.span q.toNat sp.toNat).drains = dr :: rest ∧ s.img.run.span q.toNat sp.toNat = some d ∧ dr.op.cls = 1 ∧ s.closeAhead q.toNat dr.op.seq = false ∧ s.fusedCheck q.toNat sp.toNat d dr.op.opoff (colsOf (s.spanFmt q.toNat sp.toNat).1) 0 ((s.span q.toNat sp.toNat).group dr.group).rows = .ok) ∧
    (∃ (s : State) (q : BitVec 4) (sp : BitVec 7) (d : SpanDesc) (dr : DrainSt) (rest : List DrainSt), (s.span q.toNat sp.toNat).drains = dr :: rest ∧ s.img.run.span q.toNat sp.toNat = some d ∧ dr.op.cls ≠ 1 ∧ s.inOrder q.toNat dr.op.seq dr.op.cdst (closeBytes dr.op.cls ((s.span q.toNat sp.toNat).group dr.group).rows (colsOf (s.spanFmt q.toNat sp.toNat).1)) true = true ∧ s.check q.toNat dr.op.cdst (closeBytes dr.op.cls ((s.span q.toNat sp.toNat).group dr.group).rows (colsOf (s.spanFmt q.toNat sp.toNat).1)) true = .ok) :=
  ⟨⟨spanned (spanOf [opOf .span] none 0 []), 0#4, 0#7, opOf .span, labSpan, by decide +kernel, by decide +kernel, by decide +kernel, by decide +kernel, by decide +kernel, by decide +kernel, by decide +kernel, by decide +kernel, by decide +kernel, by decide +kernel, by decide +kernel, by decide +kernel, by decide +kernel, by decide +kernel⟩,
    ⟨spanned (spanOf [] (some ⟨opOf .span, 0⟩) 1 []), 0#4, 0#7, opOf .span, labSpan, ⟨opOf .span, 0⟩, by decide +kernel, by decide +kernel, by decide +kernel, by decide +kernel, by decide +kernel, by decide +kernel⟩,
    ⟨spanned (spanOf [opOf .gopen] none 0 []), 0#4, 0#7, opOf .gopen, labSpan, by decide +kernel, by decide +kernel, by decide +kernel, by decide +kernel, by decide +kernel, by decide +kernel, by decide +kernel, by decide +kernel, by decide +kernel, by decide +kernel⟩,
    ⟨spanned (spanOf [{ opOf .gclose with cls := 3, opn := 0 }] none 1 []), 0#4, 0#7, { opOf .gclose with cls := 3, opn := 0 }, labSpan, by decide +kernel, by decide +kernel, by decide +kernel, by decide +kernel, by decide +kernel, by decide +kernel, by decide +kernel, by decide +kernel, by decide +kernel⟩,
    ⟨spanned (spanOf [] none 2 [⟨{ opOf .gclose with cls := 1 }, 0, 0⟩]), 0#4, 0#7, labSpan, ⟨{ opOf .gclose with cls := 1 }, 0, 0⟩, [], by decide +kernel, by decide +kernel, by decide +kernel, by decide +kernel, by decide +kernel⟩,
    ⟨spanned (spanOf [] none 2 [⟨{ opOf .gclose with cls := 3 }, 0, 0⟩]), 0#4, 0#7, labSpan, ⟨{ opOf .gclose with cls := 3 }, 0, 0⟩, [], by decide +kernel, by decide +kernel, by decide +kernel, by decide +kernel, by decide +kernel⟩⟩

/-- States and operands that meet the hypotheses of GrainTestsAndScrubs, clause by clause. -/
theorem witness_GrainTestsAndScrubs :
    (∃ (s : State) (q : BitVec 4) (k : Nat), s.flag (R.SELFTEST_CTRL (q.toNat / 4)) F.SELFTEST_CTRL_ENABLE = true ∧ s.getF (R.SELFTEST_CTRL (q.toNat / 4)) F.SELFTEST_CTRL_GAP ≤ (s.qtr q.toNat).testGap ∧ (s.qtr q.toNat).test = none ∧ ((List.range 384).map (fun i => ((s.qtr q.toNat).testRot + i) % 384)).find? (fun k => s.eligible q.toNat (k / 4) (k % 4)) = some k) ∧
    (∃ (s : State) (q : BitVec 4) (g : Nat) (b : Nat), (s.qtr q.toNat).test = some (g, b)) ∧
    (∃ (s : State) (q : BitVec 4) (g : Nat) (b : Nat), (s.qtr q.toNat).test = some (g, b)) ∧
    (∃ (s : State) (q : BitVec 4) (g : Fin 96) (b : BitVec 2), s.bank q.toNat g.val b.toNat = 2 ∧ s.gActive q.toNat g.val ≠ b.toNat) ∧
    (∃ (s : State) (q : BitVec 4) (g : Fin 96) (b : BitVec 2), s.bank q.toNat g.val b.toNat = 2 ∧ s.gActive q.toNat g.val ≠ b.toNat) :=
  ⟨⟨withF [(R.SELFTEST_CTRL 0, F.SELFTEST_CTRL_ENABLE, 1), (R.GSTATE 0 95, F.GSTATE_STATE, 1)] (lab.modQ 0 (fun x => { x with testGap := 65535 })), 0#4, 380, by decide +kernel, by decide +kernel, by decide +kernel, by decide +kernel⟩,
    ⟨quarter0 (fun x => { x with test := some (95, 3) }), 0#4, 95, 3, by decide +kernel⟩,
    ⟨quarter0 (fun x => { x with test := some (95, 3) }), 0#4, 95, 3, by decide +kernel⟩,
    ⟨spanned (spanOf [] none 0 []), 0#4, 0, 1#2, by decide +kernel, by decide +kernel⟩,
    ⟨spanned (spanOf [] none 0 []), 0#4, 0, 1#2, by decide +kernel, by decide +kernel⟩⟩

/-- States and operands that meet the hypotheses of ImageCommandsOfTheHost, clause by clause. -/
theorem witness_ImageCommandsOfTheHost :
    (∃ (s : State) (p : Machine.Path) (role : BitVec 2) (u : State), s.accepts u p role R.IMG_CMD 1 ∧ u.pendSt ≠ 1 ∧ u.pendSt ≠ 2 ∧ u.pendSt ≠ 5) ∧
    (∃ (s : State) (p : Machine.Path) (role : BitVec 2) (u : State), s.accepts u p role R.IMG_CMD 2 ∧ u.pendSt = 1 ∧ u.regN R.RECV_BYTES = u.regN R.PENDING_LEN) ∧
    (∃ (s : State) (p : Machine.Path) (role : BitVec 2) (u : State), s.accepts u p role R.IMG_CMD 3 ∧ u.pendSt = 3 ∧ ((imgKind u.img.pend ≠ 1 ∨ (imgSecs u.img.pend).all (fun x => x.cls == 0) = false)) ∧ u.reg64 R.ACT_EPOCH_LO ≠ 2 ^ 64 - 1 ∧ u.restartArmed = false ∧ u.epoch + 2 ≤ u.reg64 R.ACT_EPOCH_LO ∧ ((imgKind u.img.pend = 0 → (cfgOf u.img.pend none).period = u.img.run.period ∧ (cfgOf u.img.pend none).phase = u.img.run.phase))) ∧
    (∃ (s : State) (p : Machine.Path) (role : BitVec 2) (u : State), s.accepts u p role R.IMG_CMD 3 ∧ u.pendSt = 3 ∧ imgKind u.img.pend = 1 ∧ (imgSecs u.img.pend).all (fun x => x.cls == 0) = true ∧ u.restartArmed = false ∧ u.partialRefusal u.img.pend = none) ∧
    (∃ (s : State) (p : Machine.Path) (role : BitVec 2) (u : State), s.accepts u p role R.IMG_CMD 3 ∧ u.pendSt = 3 ∧ imgKind u.img.pend = 0 ∧ u.reg64 R.ACT_EPOCH_LO = 2 ^ 64 - 1) ∧
    (∃ (s : State) (p : Machine.Path) (role : BitVec 2) (u : State), s.accepts u p role R.IMG_CMD 3 ∧ u.pendSt = 3 ∧ imgKind u.img.pend ≠ 0 ∧ ((imgKind u.img.pend ≠ 1 ∨ (imgSecs u.img.pend).all (fun x => x.cls == 0) = false)) ∧ u.reg64 R.ACT_EPOCH_LO = 2 ^ 64 - 1 ∧ u.img.sel % 2 = u.activeSlot) ∧
    (∃ (s : State) (p : Machine.Path) (role : BitVec 2) (u : State), s.accepts u p role R.IMG_CMD 4 ∧ u.pendSt ≠ 5) ∧
    (∃ (s : State) (p : Machine.Path) (role : BitVec 2) (u : State), s.accepts u p role R.IMG_CMD 5 ∧ u.restartArmed = false ∧ (u.slot u.otherSlot).full.isEmpty = false ∧ u.regN R.SEQ_FLOOR_LO ≤ imgSeq (u.slot u.otherSlot).full) ∧
    (∃ (s : State) (p : Machine.Path) (role : BitVec 2) (v : BitVec 32) (u : State), s.acceptsPair u p role R.SEQ_FLOOR_LO v.toNat ∧ u.regN R.SEQ_FLOOR_LO ≤ v.toNat) :=
  ⟨⟨lab, adminPath, 3#2, _, accepts_of (by decide +kernel), by decide +kernel, by decide +kernel, by decide +kernel⟩,
    ⟨imaged 0 1 0, adminPath, 3#2, _, accepts_of (by decide +kernel), by decide +kernel, by decide +kernel⟩,
    ⟨imaged 2 3 2, adminPath, 3#2, _, accepts_of (by decide +kernel), by decide +kernel, by decide +kernel, by decide +kernel, by decide +kernel, by decide +kernel, by decide +kernel⟩,
    ⟨(imaged 1 3 2).modImg (fun i => { i with run := { labCfg with imageId := 1 } }), adminPath, 3#2, _, accepts_of (by decide +kernel), by decide +kernel, by decide +kernel, by decide +kernel, by decide +kernel, by decide +kernel⟩,
    ⟨imaged 0 3 (2 ^ 64 - 1), adminPath, 3#2, _, accepts_of (by decide +kernel), by decide +kernel, by decide +kernel, by decide +kernel⟩,
    ⟨imaged 2 3 (2 ^ 64 - 1), adminPath, 3#2, _, accepts_of (by decide +kernel), by decide +kernel, by decide +kernel, by decide +kernel, by decide +kernel, by decide +kernel⟩,
    ⟨imaged 0 3 2, adminPath, 3#2, _, accepts_of (by decide +kernel), by decide +kernel⟩,
    ⟨imaged 0 0 2, adminPath, 3#2, _, accepts_of (by decide +kernel), by decide +kernel, by decide +kernel, by decide +kernel⟩,
    ⟨lab, adminPath, 3#2, 0xFFFFFFFF#32, _, acceptsPair_of (by decide +kernel), by decide +kernel⟩⟩

/-- States and operands that meet the hypotheses of CommandWritesOfTheHost, clause by clause. -/
theorem witness_CommandWritesOfTheHost :
    (∃ (s : State) (p : Machine.Path) (role : BitVec 2) (u : State), s.accepts u p role R.TIME_CMD 1 ∧ u.flag R.TIME_STATUS F.TIME_STATUS_DIVERGED = true ∧ 0 < u.time.offset) ∧
    (∃ (s : State) (p : Machine.Path) (role : BitVec 2) (force : Bool) (u : State), s.accepts u p role R.SYS_CMD (1 + 16 * b2n force) ∧ ((u.power = 2 ∨ u.power = 3 ∨ u.power = 4)) ∧ ((u.holdsToken = false ∨ force = true))) ∧
    (∃ (s : State) (p : Machine.Path) (role : BitVec 2) (u : State), s.accepts u p role R.PWR_CMD 1 ∧ u.power = 2 ∧ u.holdsToken = false) ∧
    (∃ (s : State) (p : Machine.Path) (role : BitVec 2) (u : State), s.accepts u p role R.PWR_CMD 2 ∧ u.power = 4) ∧
    (∃ (s : State) (p : Machine.Path) (role : BitVec 2) (d : BitVec 2) (u : State), s.accepts u p role R.PWR_CMD (3 + 16 * d.toNat) ∧ (((dieQ d.toNat).all (fun q => u.qState q == 0 || u.qState q == 4) = true ∨ (dieQ d.toNat).all u.isLost = true)) ∧ ((u.flag R.PWR_STATUS (dieTripFld d.toNat) = false ∨ u.temp (R.TEMP_DIE d.toNat) < 850))) ∧
    (∃ (s : State) (p : Machine.Path) (role : BitVec 2) (v : BitVec 32) (u : State), s.accepts u p role R.FAN_CTRL v.toNat ∧ 20 ≤ F.FAN_CTRL_DUTY.get v ∧ F.FAN_CTRL_DUTY.get v ≤ 100 ∧ 60 ≤ F.FAN_CTRL_TARGET.get v ∧ F.FAN_CTRL_TARGET.get v ≤ 90 ∧ 10 ≤ F.FAN_CTRL_FAN_MIN.get v ∧ F.FAN_CTRL_FAN_MIN.get v ≤ 50 ∧ ((F.FAN_CTRL_MANUAL.get v = 0 ∨ u.power = 4))) ∧
    (∃ (s : State) (p : Machine.Path) (role : BitVec 2) (u : State), s.accepts u p role R.HARB_CMD 1 ∧ u.vote = 0 ∧ u.now + 200000000 ≤ u.reg64 R.HARB_T_LO ∧ (u.harbBegin (u.reg64 R.HARB_T_LO)).vetoReason (u.reg64 R.HARB_T_LO) false = 0) ∧
    (∃ (s : State) (p : Machine.Path) (role : BitVec 2) (u : State), s.accepts u p role R.HARB_CMD 2 ∧ u.vote ≠ 0) ∧
    (∃ (s : State) (p : Machine.Path) (role : BitVec 2) (u : State), s.accepts u p role R.PAIR_CMD 1 ∧ u.pairState = 5 ∧ u.partnerHealthy = true) ∧
    (∃ (s : State) (p : Machine.Path) (role : BitVec 2) (u : State), s.accepts u p role R.PAIR_CMD 1 ∧ u.pairState = 3) ∧
    (∃ (s : State) (p : Machine.Path) (role : BitVec 2) (u : State), s.accepts u p role R.PAIR_CMD 2 ∧ ((u.pairState = 1 ∨ u.pairState = 2 ∨ u.pairState = 3 ∨ u.pairState = 7))) ∧
    (∃ (s : State) (p : Machine.Path) (role : BitVec 2) (u : State), s.accepts u p role R.PAIR_CMD 3 ∧ u.pairState ≠ 0) ∧
    (∃ (s : State) (p : Machine.Path) (role : BitVec 2) (q : BitVec 4) (u : State), s.accepts u p role (R.QCMD q.toNat) 1) ∧
    (∃ (s : State) (p : Machine.Path) (role : BitVec 2) (q : BitVec 4) (u : State), s.accepts u p role (R.QCMD q.toNat) 2) ∧
    (∃ (s : State) (p : Machine.Path) (role : BitVec 2) (q : BitVec 4) (u : State), s.accepts u p role (R.QDBG q.toNat) 1 ∧ u.power = 4 ∧ u.qState q.toNat = 0) ∧
    (∃ (s : State) (p : Machine.Path) (role : BitVec 2) (q : BitVec 4) (u : State), s.accepts u p role (R.QDBG q.toNat) 2 ∧ u.power = 4 ∧ u.qState q.toNat = 5) ∧
    (∃ (s : State) (p : Machine.Path) (role : BitVec 2) (q : BitVec 4) (n : BitVec 8) (u : State), s.accepts u p role (R.QDBG q.toNat) (3 + 256 * n.toNat) ∧ u.power = 4 ∧ n ≠ 0 ∧ u.qState q.toNat = 5) ∧
    (∃ (s : State) (p : Machine.Path) (role : BitVec 2) (id : BitVec 32) (u : State), s.accepts u p role R.SESS_KILL id.toNat ∧ id ≠ 0) ∧
    (∃ (s : State) (p : Machine.Path) (role : BitVec 2) (sec : List Byte) (u : State), s.accepts u p role R.HS_CMD 1 ∧ nth u.host.creds (u.getF R.HS_CRED F.HS_CRED_SLOT) none = some sec ∧ (∀ a, p.source = some a → u.lockedOut a = false)) ∧
    (∃ (s : State) (p : Machine.Path) (role : BitVec 2) (u : State), s.accepts u p role R.HS_CMD 2 ∧ p.sess ≠ 0) :=
  ⟨⟨withF [(R.TIME_STATUS, F.TIME_STATUS_DIVERGED, 1)] { lab with time := { lab.time with offset := 1 } }, adminPath, 3#2, _, accepts_of (by decide +kernel), by decide +kernel, by decide +kernel⟩,
    ⟨paired 5, adminPath, 3#2, true, _, accepts_of (by decide +kernel), by decide +kernel, by decide +kernel⟩,
    ⟨lab, adminPath, 3#2, _, accepts_of (by decide +kernel), by decide +kernel, by decide +kernel⟩,
    ⟨service, adminPath, 3#2, _, accepts_of (by decide +kernel), by decide +kernel⟩,
    ⟨lab, adminPath, 3#2, 3#2, _, accepts_of (by decide +kernel), by decide +kernel, by decide +kernel⟩,
    ⟨service, adminPath, 3#2, F.FAN_CTRL_MANUAL.set 1 (F.FAN_CTRL_FAN_MIN.set 50 (F.FAN_CTRL_TARGET.set 90 (F.FAN_CTRL_DUTY.set 100 0#32))), _, accepts_of (by decide +kernel), by decide +kernel, by decide +kernel, by decide +kernel, by decide +kernel, by decide +kernel, by decide +kernel, by decide +kernel⟩,
    ⟨withF [(R.TIME_STATUS, F.TIME_STATUS_STATE, 2)] (lab.setReg64 R.HARB_T_LO 200000000), adminPath, 3#2, _, accepts_of (by decide +kernel), by decide +kernel, by decide +kernel, by decide +kernel⟩,
    ⟨withF [(R.HARB_STATUS, F.HARB_STATUS_STATE, 3)] lab, adminPath, 3#2, _, accepts_of (by decide +kernel), by decide +kernel⟩,
    ⟨withF [(R.PAIR_STATUS, F.PAIR_STATUS_HEALTHY_PARTNER, 1)] (paired 5), adminPath, 3#2, _, accepts_of (by decide +kernel), by decide +kernel, by decide +kernel⟩,
    ⟨paired 3, adminPath, 3#2, _, accepts_of (by decide +kernel), by decide +kernel⟩,
    ⟨paired 7, adminPath, 3#2, _, accepts_of (by decide +kernel), by decide +kernel⟩,
    ⟨paired 1, adminPath, 3#2, _, accepts_of (by decide +kernel), by decide +kernel⟩,
    ⟨lab, adminPath, 3#2, 15#4, _, accepts_of (by decide +kernel)⟩,
    ⟨lab, adminPath, 3#2, 15#4, _, accepts_of (by decide +kernel)⟩,
    ⟨service, adminPath, 3#2, 15#4, _, accepts_of (by decide +kernel), by decide +kernel, by decide +kernel⟩,
    ⟨service.setQState 15 5, adminPath, 3#2, 15#4, _, accepts_of (by decide +kernel), by decide +kernel, by decide +kernel⟩,
    ⟨service.setQState 15 5, adminPath, 3#2, 15#4, 255#8, _, accepts_of (by decide +kernel), by decide +kernel, by decide +kernel, by decide +kernel⟩,
    ⟨lab, adminPath, 3#2, 1#32, _, accepts_of (by decide +kernel), by decide +kernel⟩,
    ⟨hosted (fun h => { h with creds := some [1#8] :: copies 15 none }), adminPath, 3#2, [1#8], _, accepts_of (by decide +kernel), by decide +kernel, fun _ _ => rfl⟩,
    ⟨lab, adminPath, 3#2, _, accepts_of (by decide +kernel), by decide +kernel⟩⟩

/-- States and operands that meet the hypotheses of ShadowedAndStoredWrites, clause by clause. -/
theorem witness_ShadowedAndStoredWrites :
    (∃ (s : State) (p : Machine.Path) (role : BitVec 2) (c : BitVec 6) (u : State), s.accepts u p role R.TRIM_CMD (1 + 16 * c.toNat)) ∧
    (∃ (s : State) (p : Machine.Path) (role : BitVec 2) (u : State), s.accepts u p role R.TRIM_CMD 2) ∧
    (∃ (s : State) (p : Machine.Path) (role : BitVec 2) (u : State), s.accepts u p role R.TRIM_CMD 3) ∧
    (∃ (s : State) (p : Machine.Path) (role : BitVec 2) (u : State), s.accepts u p role R.TRIM_CMD 4) ∧
    (∃ (s : State) (p : Machine.Path) (role : BitVec 2) (u : State), s.accepts u p role R.TRIM_CMD 5) ∧
    (∃ (s : State) (p : Machine.Path) (role : BitVec 2) (u : State), s.accepts u p role R.TAG_CMD 1) ∧
    (∃ (s : State) (p : Machine.Path) (role : BitVec 2) (u : State), s.accepts u p role R.REC_CMD 1) ∧
    (∃ (s : State) (p : Machine.Path) (role : BitVec 2) (q : BitVec 4) (g : Fin 96) (u : State), s.accepts u p role (R.GCTRL q.toNat g.val) 1) ∧
    (∃ (s : State) (p : Machine.Path) (role : BitVec 2) (tag : BitVec 8) (len : BitVec 7) (u : State), s.accepts u p role R.RADIO_CMD (tag.toNat + 256 * len.toNat + 2 ^ 15)) ∧
    (∃ (s : State) (p : Machine.Path) (role : BitVec 2) (l : BitVec 6) (len : BitVec 6) (u : State), s.accepts u p role R.LD_MSG_CMD (l.toNat + 64 * len.toNat + 4096)) ∧
    (∃ (s : State) (p : Machine.Path) (role : BitVec 2) (o : BitVec 4) (v : BitVec 2) (u : State), s.accepts u p role (R.AO_CFG o.toNat) (4 * (s.regN (R.AO_CFG o.toNat) / 4) + v.toNat)) ∧
    (∃ (s : State) (p : Machine.Path) (role : BitVec 2) (o : BitVec 4) (v : BitVec 32) (u : State), s.acceptsPair u p role (R.AO_CMD_LO o.toNat) v.toNat) ∧
    (∃ (s : State) (p : Machine.Path) (role : BitVec 2) (i : BitVec 12) (v : BitVec 32) (u : State), s.acceptsPair u p role (R.SETPOINT_LO i.toNat) v.toNat) ∧
    (∃ (s : State) (p : Machine.Path) (role : BitVec 2) (v : BitVec 32) (u : State), s.accepts u p role R.RADIO_CFG v.toNat ∧ u.flag R.RADIO_CFG F.RADIO_CFG_EN = false) ∧
    (∃ (s : State) (p : Machine.Path) (role : BitVec 2) (i : BitVec 2) (v : BitVec 32) (u : State), s.accepts u p role (R.RADIO_FIR i.toNat) v.toNat ∧ u.flag R.RADIO_CFG F.RADIO_CFG_EN = false) ∧
    (∃ (s : State) (p : Machine.Path) (role : BitVec 2) (on : Bool) (u : State), s.accepts u p role R.CHAIN_CTRL (F.CHAIN_CTRL_BYPASS_FORCE.set (b2n on) (s.reg R.CHAIN_CTRL)).toNat ∧ u.power = 4) ∧
    (∃ (s : State) (p : Machine.Path) (role : BitVec 2) (slot : BitVec 4) (u : State), s.accepts u p role R.SEC_CMD (1 + 16 * slot.toNat) ∧ u.flag R.SEC_STATUS F.SEC_STATUS_STORE_BUSY = false ∧ nth u.host.keys slot.toNat none = none ∧ u.revoked.contains (keyId u.stagedKey) = false ∧ (∀ k pk, k ∈ u.host.keys → k = some pk → keyId pk ≠ keyId u.stagedKey) ∧ u.stagedKey.all (fun b => b == 0#8) = false) ∧
    (∃ (s : State) (p : Machine.Path) (role : BitVec 2) (slot : BitVec 4) (force : Bool) (pk : List Byte) (u : State), s.accepts u p role R.SEC_CMD (2 + 16 * slot.toNat + 1024 * b2n force) ∧ u.flag R.SEC_STATUS F.SEC_STATUS_STORE_BUSY = false ∧ nth u.host.keys slot.toNat none = some pk ∧ u.regN R.REVOKED_CNT < 32 ∧ 1 < (u.host.keys.filter Option.isSome).length ∧ ((u.activeKeys.contains (keyId pk) = false ∨ force = true))) ∧
    (∃ (s : State) (p : Machine.Path) (role : BitVec 2) (slot : BitVec 4) (r : BitVec 2) (u : State), s.accepts u p role R.SEC_CMD (3 + 16 * slot.toNat + 256 * r.toNat) ∧ u.flag R.SEC_STATUS F.SEC_STATUS_STORE_BUSY = false ∧ nth u.host.creds slot.toNat none = none) ∧
    (∃ (s : State) (p : Machine.Path) (role : BitVec 2) (slot : BitVec 4) (u : State), s.accepts u p role R.SEC_CMD (4 + 16 * slot.toNat) ∧ u.flag R.SEC_STATUS F.SEC_STATUS_STORE_BUSY = false ∧ (nth u.host.creds slot.toNat none).isSome = true ∧ (List.range 16).any (fun j => j != slot.toNat && u.regN (R.CRED_CFG j) % 8 == 7) = true) ∧
    (∃ (s : State) (p : Machine.Path) (role : BitVec 2) (d : BitVec 2) (o : BitVec 18) (v : BitVec 32) (u : State) (h : Nat) (k : Nat) (x : Bool), u = s.dropHold p ∧ s.host.begun = true ∧ s.gate p (s.roleOf p role.toNat) (s.writeRole (0x10C0000 + 0x400000 * d.toNat + o.toNat) v.toNat) (0x10C0000 + 0x400000 * d.toNat + o.toNat) = 0 ∧ o.toNat % 4 = 0 ∧ F.DBG_PAGE_KIND.get (nth (u.pathSt p).page d.toNat 0#32) = 4 ∧ u.img.run.home ((nth (u.pathSt p).phys d.toNat 0#64).toNat + o.toNat) = some (h, k, x) ∧ u.img.run.runs h = true ∧ allQ.any u.qActive = false ∧ (k < 0x1000000000 → k % 0x400000000 < hubArea) ∧ u.memState h = 3 ∧ u.poisoned k = false) :=
  ⟨⟨lab, adminPath, 3#2, 47#6, _, accepts_of (by decide +kernel)⟩,
    ⟨lab, adminPath, 3#2, _, accepts_of (by decide +kernel)⟩,
    ⟨lab, adminPath, 3#2, _, accepts_of (by decide +kernel)⟩,
    ⟨lab, adminPath, 3#2, _, accepts_of (by decide +kernel)⟩,
    ⟨lab, adminPath, 3#2, _, accepts_of (by decide +kernel)⟩,
    ⟨lab, adminPath, 3#2, _, accepts_of (by decide +kernel)⟩,
    ⟨lab, adminPath, 3#2, _, accepts_of (by decide +kernel)⟩,
    ⟨lab, adminPath, 3#2, 15#4, 95, _, accepts_of (by decide +kernel)⟩,
    ⟨lab, adminPath, 3#2, 249#8, 1#7, _, accepts_of (by decide +kernel)⟩,
    ⟨lab, adminPath, 3#2, 47#6, 1#6, _, accepts_of (by decide +kernel)⟩,
    ⟨lab, adminPath, 3#2, 15#4, 1#2, _, accepts_of (by decide +kernel)⟩,
    ⟨lab, adminPath, 3#2, 15#4, 7#32, _, acceptsPair_of (by decide +kernel)⟩,
    ⟨lab, adminPath, 3#2, 1023#12, 7#32, _, acceptsPair_of (by decide +kernel)⟩,
    ⟨lab, adminPath, 3#2, 32#32, _, accepts_of (by decide +kernel), by decide +kernel⟩,
    ⟨lab, adminPath, 3#2, 3#2, 0#32, _, accepts_of (by decide +kernel), by decide +kernel⟩,
    ⟨service, adminPath, 3#2, true, _, accepts_of (by decide +kernel), by decide +kernel⟩,
    ⟨hosted (fun h => { h with keys := copies 8 none }) |>.setRegN (R.KEY_STAGE 7) 1, adminPath, 3#2, 7#4, _, accepts_of (by decide +kernel), by decide +kernel, by decide +kernel, by decide +kernel, noKeys rfl, by decide +kernel⟩,
    ⟨hosted (fun h => { h with keys := [some [], some [1#8]] }), adminPath, 3#2, 1#4, false, [1#8], _, accepts_of (by decide +kernel), by decide +kernel, by decide +kernel, by decide +kernel, by decide +kernel, by decide +kernel⟩,
    ⟨lab, adminPath, 3#2, 15#4, 3#2, _, accepts_of (by decide +kernel), by decide +kernel, by decide +kernel⟩,
    ⟨withR [(R.CRED_CFG 0, 7)] (hosted (fun h => { h with creds := copies 15 none ++ [some [1#8]] })), adminPath, 3#2, 15#4, _, accepts_of (by decide +kernel), by decide +kernel, by decide +kernel, by decide +kernel⟩,
    ⟨(service.modHost (fun h => { h with paths := [⟨adminPath, none, none, [F.DBG_PAGE_KIND.set 4 0#32], [0x2000000000#64]⟩] })), adminPath, 3#2, 0#2, 4#18, 0#32, _, 0, 0x2000000004, true, rfl, by decide +kernel, by decide +kernel, by decide +kernel, by decide +kernel, by decide +kernel, by decide +kernel, by decide +kernel, by decide +kernel, by decide +kernel, by decide +kernel⟩⟩

/-- States and operands that meet the hypotheses of PowerAndResetEvents, clause by clause. -/
theorem witness_PowerAndResetEvents :
    (∃ (s : State), s.pwr.up = false) ∧
    (∃ (mv : BitVec 16), mv.toNat < 17000) ∧
    (∃ (mv : BitVec 16), 18000 ≤ mv.toNat) ∧
    (∃ (s : State), s.pwr.up = true) ∧
    (∃ (s : State), s.power = 0 ∧ s.flag R.PWR_STATUS F.PWR_STATUS_PFAIL = true) ∧
    (∃ (s : State), s.firmware = true) ∧
    (∃ (s : State), s.firmware = true) ∧
    (∃ (s : State), s.pwr.restartDue = true) ∧
    (∃ (s : State) (t : Int), s.power = 0 ∧ s.pwr.thermalOff = true ∧ t < 900) ∧
    (∃ (s : State), s.power = 1 ∧ s.pwr.up = true ∧ s.buStep = 2 ∧ s.getF R.SYS_STATE F.SYS_STATE_HALT = 0) ∧
    (∃ (s : State), s.power = 1 ∧ s.pwr.up = true ∧ s.buStep = 3 ∧ s.getF R.SYS_STATE F.SYS_STATE_HALT = 0) ∧
    (∃ (s : State), s.power = 1 ∧ s.pwr.up = true ∧ s.buStep = 5 ∧ s.getF R.SYS_STATE F.SYS_STATE_HALT = 0) ∧
    (∃ (s : State) (ms : BitVec 32), s.firmware = true ∧ s.flag R.CHAIN_STATUS F.CHAIN_STATUS_PORTS_READY = false ∧ 400 ≤ ms.toNat) ∧
    (∃ (s : State) (t : Nat), s.flag R.CHAIN_STATUS F.CHAIN_STATUS_PORTS_READY = true ∧ s.pwr.acqStart = none ∧ s.pair.portsT + 5000000000 ≤ t ∧ s.timeState = 1 ∧ s.getF R.TIME_STATUS F.TIME_STATUS_SOURCE = 0 ∧ s.time.begun = false ∧ s.flag R.TIME_STATUS F.TIME_STATUS_EVER_LOCKED = false) ∧
    (∃ (s : State) (t : Nat) (t0 : Nat), s.pwr.acqStart = some t0 ∧ t0 + s.getF R.ACQ_TIMEOUT F.ACQ_TIMEOUT_TIMEOUT * 10000000 ≤ t ∧ s.timeState = 1 ∧ s.getF R.TIME_STATUS F.TIME_STATUS_SOURCE = 0 ∧ s.time.begun = false ∧ s.flag R.TIME_STATUS F.TIME_STATUS_EVER_LOCKED = false) :=
  ⟨⟨State.reset, by decide +kernel⟩,
    ⟨16999#16, by decide +kernel⟩,
    ⟨18000#16, by decide +kernel⟩,
    ⟨lab, by decide +kernel⟩,
    ⟨withF [(R.PWR_STATUS, F.PWR_STATUS_PFAIL, 1), (R.SYS_STATE, F.SYS_STATE_POWER_STATE, 0)] State.reset, by decide +kernel, by decide +kernel⟩,
    ⟨lab, by decide +kernel⟩,
    ⟨lab, by decide +kernel⟩,
    ⟨{ lab with pwr := { lab.pwr with restartDue := true } }, by decide +kernel⟩,
    ⟨withF [(R.SYS_STATE, F.SYS_STATE_POWER_STATE, 0)] { State.reset with pwr := { State.reset.pwr with thermalOff := true } }, 899, by decide +kernel, by decide +kernel, by decide +kernel⟩,
    ⟨starting 2, by decide +kernel, by decide +kernel, by decide +kernel, by decide +kernel⟩,
    ⟨starting 3, by decide +kernel, by decide +kernel, by decide +kernel, by decide +kernel⟩,
    ⟨starting 5, by decide +kernel, by decide +kernel, by decide +kernel, by decide +kernel⟩,
    ⟨lab, 400#32, by decide +kernel, by decide +kernel, by decide +kernel⟩,
    ⟨withF [(R.CHAIN_STATUS, F.CHAIN_STATUS_PORTS_READY, 1)] (timed 1 0 lab.time), 5000000000, by decide +kernel, by decide +kernel, by decide +kernel, by decide +kernel, by decide +kernel, by decide +kernel, by decide +kernel⟩,
    ⟨{ timed 1 0 lab.time with pwr := { lab.pwr with acqStart := some 0 } }, 655350000000, 0, by decide +kernel, by decide +kernel, by decide +kernel, by decide +kernel, by decide +kernel, by decide +kernel⟩⟩

/-- States and operands that meet the hypotheses of DiesTemperaturesAndFans, clause by clause. -/
theorem witness_DiesTemperaturesAndFans :
    (∃ (s : State) (k : Fin 12) (t : Int) (w : Int), s.firmware = true ∧ ((tripAt k.val = none ∨ tripAt k.val = some w ∧ t < w))) ∧
    (∃ (s : State) (k : Fin 12) (t : Int) (w : Int), s.firmware = true ∧ tripAt k.val = some w ∧ w ≤ t ∧ k.val ≠ 8 ∧ (s.takeTemp k.val t).dieOn (k.val % 4) = true) ∧
    (∃ (s : State) (d : BitVec 2), s.dieOn d.toNat = true) ∧
    (∃ (s : State) (d : BitVec 2), s.pwr.dieHeld.contains d.toNat = true) ∧
    (∃ (s : State) (d : BitVec 2), s.pwr.powering.contains d.toNat = true ∧ s.pwr.exitWait = false) ∧
    (∃ (s : State) (k : Fin 3), s.flag (R.FAN k.val) F.FAN_PRESENT = true) ∧
    (∃ (s : State) (d : BitVec 2), s.dieOn d.toNat = true) :=
  ⟨⟨lab, 8, 1149, 1150, by decide +kernel, by decide +kernel⟩,
    ⟨lab, 7, 1050, 1050, by decide +kernel, by decide +kernel, by decide +kernel, by decide +kernel, by decide +kernel⟩,
    ⟨lab, 3#2, by decide +kernel⟩,
    ⟨{ lab with pwr := { lab.pwr with dieHeld := [3] } }, 3#2, by decide +kernel⟩,
    ⟨{ lab with pwr := { lab.pwr with powering := [3] } }, 3#2, by decide +kernel, by decide +kernel⟩,
    ⟨withF [(R.FAN 2, F.FAN_PRESENT, 1)] lab, 2, by decide +kernel⟩,
    ⟨lab, 3#2, by decide +kernel⟩⟩

/-- States and operands that meet the hypotheses of LinksAndMemoryOfTheDies, clause by clause. -/
theorem witness_LinksAndMemoryOfTheDies :
    (∃ (s : State) (d : BitVec 2) (l : BitVec 2), s.link d.toNat l.toNat = 2) ∧
    (∃ (s : State) (d : BitVec 2) (l : BitVec 2), s.link d.toNat l.toNat = 1) ∧
    (∃ (s : State) (d : BitVec 2) (l : BitVec 2), s.link d.toNat l.toNat = 1) ∧
    (∃ (s : State) (d : BitVec 2) (l : BitVec 2) (lockLost : Bool), s.link d.toNat l.toNat = 2 ∧ ((lockLost = true ∨ 4 ≤ kvGet (fun _ => 0) (4 * d.toNat + l.toNat) s.mem.linkReplays))) ∧
    (∃ (s : State) (d : BitVec 2) (l : BitVec 2), s.link d.toNat l.toNat = 3) ∧
    (∃ (s : State) (d : BitVec 2) (l : BitVec 2), s.link d.toNat l.toNat = 3) ∧
    (∃ (s : State) (d : BitVec 2), s.memState d.toNat = 1 ∧ s.pwr.selfRef.contains d.toNat = false) ∧
    (∃ (s : State) (d : BitVec 2), s.memState d.toNat = 1 ∧ s.pwr.selfRef.contains d.toNat = true) ∧
    (∃ (s : State) (d : BitVec 2), s.memState d.toNat = 1) ∧
    (∃ (s : State) (d : BitVec 2), s.memState d.toNat = 2) ∧
    (∃ (s : State) (k : Nat), ((k < 0x1000000000 ∨ 0x2000000000 ≤ k ∧ k < 0x2002000000)) ∧ s.flag (R.MEM_CTRL (dieOf k)) F.MEM_CTRL_SCRUB_EN = true ∧ s.memState (dieOf k) = 3) ∧
    (∃ (s : State) (k : Nat), ((k < 0x1000000000 ∨ 0x2000000000 ≤ k ∧ k < 0x2002000000)) ∧ s.flag (R.MEM_CTRL (dieOf k)) F.MEM_CTRL_SCRUB_EN = true ∧ s.memState (dieOf k) = 3 ∧ s.poisoned k = false) :=
  ⟨⟨withF [(R.LINK_STATUS 3, linkFld 3, 2)] lab, 3#2, 3#2, by decide +kernel⟩,
    ⟨withF [(R.LINK_STATUS 3, linkFld 3, 1)] lab, 3#2, 3#2, by decide +kernel⟩,
    ⟨withF [(R.LINK_STATUS 3, linkFld 3, 1)] lab, 3#2, 3#2, by decide +kernel⟩,
    ⟨withF [(R.LINK_STATUS 3, linkFld 3, 2)] lab, 3#2, 3#2, true, by decide +kernel, by decide +kernel⟩,
    ⟨withF [(R.LINK_STATUS 3, linkFld 3, 3)] lab, 3#2, 3#2, by decide +kernel⟩,
    ⟨withF [(R.LINK_STATUS 3, linkFld 3, 3)] lab, 3#2, 3#2, by decide +kernel⟩,
    ⟨withF [(R.MEM_STATUS 3, F.MEM_STATUS_STATE, 1)] lab, 3#2, by decide +kernel, by decide +kernel⟩,
    ⟨withF [(R.MEM_STATUS 3, F.MEM_STATUS_STATE, 1)] { lab with pwr := { lab.pwr with selfRef := [3] } }, 3#2, by decide +kernel, by decide +kernel⟩,
    ⟨withF [(R.MEM_STATUS 3, F.MEM_STATUS_STATE, 1)] lab, 3#2, by decide +kernel⟩,
    ⟨withF [(R.MEM_STATUS 3, F.MEM_STATUS_STATE, 2)] lab, 3#2, by decide +kernel⟩,
    ⟨withF [(R.MEM_STATUS 3, F.MEM_STATUS_STATE, 3), (R.MEM_CTRL 3, F.MEM_CTRL_SCRUB_EN, 1)] lab, 0x2001FFFFFF, by decide +kernel, by decide +kernel, by decide +kernel⟩,
    ⟨withF [(R.MEM_STATUS 3, F.MEM_STATUS_STATE, 3), (R.MEM_CTRL 3, F.MEM_CTRL_SCRUB_EN, 1)] lab, 0xFFFFFFFFF, by decide +kernel, by decide +kernel, by decide +kernel, by decide +kernel⟩⟩

/-- States and operands that meet the hypotheses of RecoveryEvents, clause by clause. -/
theorem witness_RecoveryEvents :
    (∃ (s : State) (k : Nat) (a : Dword) (b : Dword) (badA : Bool) (badB : Bool), kvFind k s.rcv.copyA = some a ∧ kvFind k s.rcv.copyB = some b ∧ badA ≠ badB) ∧
    (∃ (s : State) (k : Nat) (a : Dword) (b : Dword), kvFind k s.rcv.copyA = some a ∧ kvFind k s.rcv.copyB = some b) ∧
    (∃ (s : State), s.flag R.REC_STATUS F.REC_STATUS_ROLLING_BACK = true ∧ s.rcv.awaiting = [] ∧ s.rcv.after ≠ 2) ∧
    (∃ (s : State), s.flag R.REC_STATUS F.REC_STATUS_ROLLING_BACK = true ∧ s.rcv.awaiting = [] ∧ s.rcv.after = 2 ∧ s.pair.replay = none ∧ s.time.phase = 3) ∧
    (∃ (s : State), s.rcv.after = 1 ∧ s.flag R.REC_STATUS F.REC_STATUS_ROLLING_BACK = false ∧ s.pair.replay = none ∧ s.ownPrograms = true ∧ allQ.any (fun q => s.qState q == 1) = true) ∧
    (∃ (s : State) (n : Nat) (k : Nat), s.rcv.after = 1 ∧ s.flag R.REC_STATUS F.REC_STATUS_ROLLING_BACK = false ∧ s.pair.replay = some (n, k)) ∧
    (∃ (s : State) (a : BitVec 64) (epoch : BitVec 64), s.rcv.awaiting.contains a.toNat = true ∧ epoch.toNat = s.reg64 R.COMMIT_EPOCH_LO ∧ s.cableUp = true) :=
  ⟨⟨{ lab with rcv := { lab.rcv with copyA := [(8, 1#64)], copyB := [(8, 2#64)] } }, 8, 1#64, 2#64, true, false, by decide +kernel, by decide +kernel, by decide +kernel⟩,
    ⟨{ lab with rcv := { lab.rcv with copyA := [(8, 1#64)], copyB := [(8, 2#64)] } }, 8, 1#64, 2#64, by decide +kernel, by decide +kernel⟩,
    ⟨withF [(R.REC_STATUS, F.REC_STATUS_ROLLING_BACK, 1)] { lab with rcv := { lab.rcv with after := 1 } }, by decide +kernel, by decide +kernel, by decide +kernel⟩,
    ⟨withF [(R.REC_STATUS, F.REC_STATUS_ROLLING_BACK, 1)] { running 3 with rcv := { lab.rcv with after := 2 } }, by decide +kernel, by decide +kernel, by decide +kernel, by decide +kernel, by decide +kernel⟩,
    ⟨withF [(R.QSTATUS 15, F.QSTATUS_STATE, 1)] { lab with rcv := { lab.rcv with after := 1 } }, by decide +kernel, by decide +kernel, by decide +kernel, by decide +kernel, by decide +kernel⟩,
    ⟨{ lab with rcv := { lab.rcv with after := 1 }, pair := { lab.pair with replay := some (7, 0) } }, 7, 0, by decide +kernel, by decide +kernel, by decide +kernel⟩,
    ⟨{ linked with rcv := { lab.rcv with awaiting := [64] } }, 64#64, 0#64, by decide +kernel, by decide +kernel, by decide +kernel⟩⟩

/-- States and operands that meet the hypotheses of TimeUnitEvents, clause by clause. -/
theorem witness_TimeUnitEvents :
    (∃ (s : State), s.timeState = 1 ∧ 16 ≤ s.time.inBand) ∧
    (∃ (s : State) (t : Nat), ((s.timeState = 1 ∨ s.timeState = 2)) ∧ s.time.lastSync + 3000000000 ≤ t ∧ s.getF R.TIME_STATUS F.TIME_STATUS_SOURCE ≠ 0) ∧
    (∃ (s : State) (t : Nat), s.timeState = 3 ∧ s.time.heldAt + 20000000000 ≤ t) ∧
    (∃ (s : State), s.timeState = 1 ∧ s.getF R.TIME_STATUS F.TIME_STATUS_SOURCE ≠ 0) ∧
    (∃ (s : State) (off : Int), s.time.stepArmed = true ∧ 0 < off) ∧
    (∃ (s : State) (present : Bool) (off : Int), s.time.stepArmed = true ∧ s.time.stepAsked = true ∧ ((present = false ∨ off ≤ 0))) ∧
    (∃ (s : State), s.time.begun = false ∧ s.gridRuns = true ∧ s.power = 1 ∧ s.getF R.SYS_STATE F.SYS_STATE_BU_STEP = 9 ∧ s.flag R.IMG_STATUS F.IMG_STATUS_LOADING = false ∧ ((s.timeState = 2 ∨ s.timeState = 0))) :=
  ⟨⟨timed 1 1 { lab.time with inBand := 16 }, by decide +kernel, by decide +kernel⟩,
    ⟨timed 2 3 lab.time, 3000000000, by decide +kernel, by decide +kernel, by decide +kernel⟩,
    ⟨timed 3 0 lab.time, 20000000000, by decide +kernel, by decide +kernel⟩,
    ⟨timed 1 1 lab.time, by decide +kernel, by decide +kernel⟩,
    ⟨{ lab with time := { lab.time with stepArmed := true } }, 1, by decide +kernel, by decide +kernel⟩,
    ⟨{ lab with time := { lab.time with stepArmed := true, stepAsked := true } }, true, 0, by decide +kernel, by decide +kernel, by decide +kernel⟩,
    ⟨withF [(R.TIME_STATUS, F.TIME_STATUS_STATE, 2)] (starting 9), by decide +kernel, by decide +kernel, by decide +kernel, by decide +kernel, by decide +kernel, by decide +kernel⟩⟩

/-- States and operands that meet the hypotheses of CourseOfAnEpoch, clause by clause. -/
theorem witness_CourseOfAnEpoch :
    (∃ (s : State), s.time.begun = true ∧ s.gridRuns = true ∧ s.time.phase = 0) ∧
    (∃ (s : State), s.time.begun = true ∧ s.gridRuns = true ∧ s.time.phase ≠ 0 ∧ s.time.extended = false) ∧
    (∃ (s : State), s.time.phase = 1 ∧ s.gridRuns = true ∧ s.gapped.rcv.wantLost = [] ∧ s.gapped.time.captureT < s.gapped.deadlineOf s.epoch ∧ s.gapped.ownPrograms = true ∧ allQ.any (fun q => s.gapped.qState q == 1) = true) ∧
    (∃ (s : State), s.time.phase = 1 ∧ s.gridRuns = true ∧ s.gapped.rcv.wantLost = [] ∧ s.gapped.time.captureT < s.gapped.deadlineOf s.epoch ∧ ((s.gapped.ownPrograms = false ∨ allQ.any (fun q => s.gapped.qState q == 1) = false))) ∧
    (∃ (s : State), s.time.phase = 1 ∧ s.gridRuns = true ∧ ((s.gapped.rcv.wantLost ≠ [] ∨ s.gapped.deadlineOf s.epoch ≤ s.gapped.time.captureT))) ∧
    (∃ (s : State), s.time.phase = 2 ∧ (s.at s.time.deadline).mayExtend = true) ∧
    (∃ (s : State), s.time.phase = 2 ∧ (s.at s.time.deadline).mayExtend = false) ∧
    (∃ (s : State), s.time.phase = 4) ∧
    (∃ (s : State) (d : BitVec 2), 1000 ≤ nth s.time.ceilRun d.toNat 0 ∧ s.time.short.contains d.toNat = false) ∧
    (∃ (s : State) (q : BitVec 4) (t : Nat), s.qState q.toNat = 2 ∧ (s.qtr q.toNat).faulted = false ∧ (s.qtr q.toNat).drained = true ∧ (s.qtr q.toNat).groupOpen = false ∧ allQ.any (fun k => (((s.at t).setQState q.toNat 3).modQ q.toNat (fun x => { x with doneAt := some t })).qState k == 2) = false ∧ s.pair.replay = none ∧ s.time.phase = 2) :=
  ⟨⟨running 0, by decide +kernel, by decide +kernel, by decide +kernel⟩,
    ⟨running 2, by decide +kernel, by decide +kernel, by decide +kernel, by decide +kernel⟩,
    ⟨withF [(R.QSTATUS 15, F.QSTATUS_STATE, 1)] (running 1), by decide +kernel, by decide +kernel, by decide +kernel, by decide +kernel, by decide +kernel, by decide +kernel⟩,
    ⟨running 1, by decide +kernel, by decide +kernel, by decide +kernel, by decide +kernel, by decide +kernel⟩,
    ⟨{ running 1 with time := { (running 1).time with captureT := 10000000 } }, by decide +kernel, by decide +kernel, by decide +kernel⟩,
    ⟨withF [(R.LATE_POLICY, F.LATE_POLICY_POLICY, 1)] (running 2), by decide +kernel, by decide +kernel⟩,
    ⟨running 2, by decide +kernel, by decide +kernel⟩,
    ⟨running 4, by decide +kernel⟩,
    ⟨{ lab with time := { lab.time with ceilRun := [0, 0, 0, 1000] } }, 3#2, by decide +kernel, by decide +kernel⟩,
    ⟨(running 2).setQState 15 2 |>.modQ 15 (fun x => { x with done := some 0 }), 15#4, 0, by decide +kernel, by decide +kernel, by decide +kernel, by decide +kernel, by decide +kernel, by decide +kernel, by decide +kernel⟩⟩

/-- States and operands that meet the hypotheses of ImageEvents, clause by clause. -/
theorem witness_ImageEvents :
    (∃ (s : State), s.pendSt = 2 ∧ s.verify s.img.pend s.activeFull = none) ∧
    (∃ (s : State) (c : Nat) (i : Nat), s.pendSt = 2 ∧ s.verify s.img.pend s.activeFull = some (c, i)) ∧
    (∃ (s : State), s.flag R.IMG_STATUS F.IMG_STATUS_LOADING = true ∧ s.diesReady = true ∧ s.time.begun = true) ∧
    (∃ (s : State), s.pendSt = 5 ∧ s.img.armEpoch = none ∧ imgKind s.img.pend = 1) :=
  ⟨⟨withF [(R.IMG_STATUS, F.IMG_STATUS_PEND_STATE, 2)] { lab with img := { State.reset.img with pend := workedImage } }, by decide +kernel, by decide +kernel⟩,
    ⟨imaged 0 2 0, 1, 0xFFFF, by decide +kernel, by decide +kernel⟩,
    ⟨withF [(R.IMG_STATUS, F.IMG_STATUS_LOADING, 1)] (running 0), by decide +kernel, by decide +kernel, by decide +kernel⟩,
    ⟨imaged 1 5 0, by decide +kernel, by decide +kernel, by decide +kernel⟩⟩

/-- States and operands that meet the hypotheses of PrecisionTimeMessages, clause by clause. -/
theorem witness_PrecisionTimeMessages :
    (∃ (s : State) (port : Fin 3) (domain : Nat) (gm : Nat), s.ptpOk port.val domain = true ∧ gm ≠ s.clockId) ∧
    (∃ (s : State) (port : Fin 3) (domain : Nat) (gm : Nat), s.ptpOk port.val domain = true ∧ gm ≠ s.clockId) ∧
    (∃ (s : State) (port : Fin 3) (domain : Nat) (gm : Nat) (corr : Nat) (res : Nat), s.ptpOk port.val domain = true ∧ gm ≠ s.clockId ∧ (s.ptpForward port.val 0x08 gm (corr + res + s.getF (delayReg port.val) F.LINK_DELAY_NS)).chain.twoStep.contains port.val = true) ∧
    (∃ (s : State) (port : Fin 3) (a : AnnMsg), s.ptpOk port.val a.domain = true ∧ a.ptp = true ∧ a.gm ≠ s.clockId) ∧
    (∃ (port : Fin 3), port.val ≠ 2) ∧
    (∃ (s : State), s.isGm = true ∧ s.portsUp = true) ∧
    (∃ (s : State), s.isGm = true ∧ s.portsUp = true) ∧
    (∃ (s : State) (port : Fin 3), port.val ≠ 2 ∧ s.portsUp = true) ∧
    (∃ (s : State), s.flag R.PTP_CFG F.PTP_CFG_X5_P2P = true) ∧
    (∃ (s : State) (port : Fin 3) (d : Nat), port.val ≠ 2 ∧ d ≤ (s.setRegN (delayReg port.val) (min d 65535 + 2 ^ 31)).getF R.SEG_LIMIT F.SEG_LIMIT_NS) ∧
    (∃ (s : State) (port : Fin 3) (d : Nat), port.val ≠ 2 ∧ (s.setRegN (delayReg port.val) (min d 65535 + 2 ^ 31)).getF R.SEG_LIMIT F.SEG_LIMIT_NS < d) ∧
    (∃ (s : State), s.portsUp = true) ∧
    (∃ (s : State), s.flag R.PTP_CFG F.PTP_CFG_X5_EN = true ∧ s.flag R.PTP_CFG F.PTP_CFG_X5_P2P = false ∧ s.x5Ann.isSome = true) ∧
    (∃ (s : State), s.flag R.PTP_CFG F.PTP_CFG_X5_EN = true ∧ s.flag R.PTP_CFG F.PTP_CFG_X5_P2P = false) ∧
    (∃ (s : State) (t : Nat), s.timeSource ≠ 0 ∧ s.timeSource ≠ 1 ∧ nth s.chain.syncT s.chain.timePort 0 + 3 * (1000000000 / 2 ^ ((16 - s.getF R.PTP_RATE F.PTP_RATE_LOG_SYNC) % 16)) ≤ t) :=
  ⟨⟨linked, 0, 0, 77, by decide +kernel, by decide +kernel⟩,
    ⟨linked, 0, 0, 77, by decide +kernel, by decide +kernel⟩,
    ⟨{ linked with chain := { linked.chain with twoStep := [0] } }, 0, 0, 77, 0, 0, by decide +kernel, by decide +kernel, by decide +kernel⟩,
    ⟨linked, 0, anAnn, by decide +kernel, by decide +kernel, by decide +kernel⟩,
    ⟨1, by decide +kernel⟩,
    ⟨withF [(R.CHAIN_STATUS, F.CHAIN_STATUS_PTP_ROLE, 2)] linked, by decide +kernel, by decide +kernel⟩,
    ⟨withF [(R.CHAIN_STATUS, F.CHAIN_STATUS_PTP_ROLE, 2)] linked, by decide +kernel, by decide +kernel⟩,
    ⟨linked, 1, by decide +kernel, by decide +kernel⟩,
    ⟨withF [(R.PTP_CFG, F.PTP_CFG_X5_P2P, 1)] lab, by decide +kernel⟩,
    ⟨lab, 1, 570, by decide +kernel, by decide +kernel⟩,
    ⟨lab, 1, 571, by decide +kernel, by decide +kernel⟩,
    ⟨linked, by decide +kernel⟩,
    ⟨withF [(R.PTP_CFG, F.PTP_CFG_X5_EN, 1)] { lab with chain := { lab.chain with anns := [(2, anAnn, 0)] } }, by decide +kernel, by decide +kernel, by decide +kernel⟩,
    ⟨withF [(R.PTP_CFG, F.PTP_CFG_X5_EN, 1)] lab, by decide +kernel, by decide +kernel⟩,
    ⟨{ lab with chain := { lab.chain with anns := [(1, anAnn, 0)] } }, 2000000000000000, by decide +kernel, by decide +kernel, by decide +kernel⟩⟩

/-- States and operands that meet the hypotheses of AnalogueChannels, clause by clause. -/
theorem witness_AnalogueChannels :
    (∃ (s : State) (o : BitVec 4), nth s.car.aoSt o.toNat 0 = 1) ∧
    (∃ (s : State) (o : BitVec 4), nth s.car.aoSt o.toNat 0 = 2) ∧
    (∃ (s : State) (o : BitVec 4), nth s.car.aoSt o.toNat 0 = 3) ∧
    (∃ (s : State) (o : BitVec 4), nth s.car.aoSt o.toNat 0 = 2 ∧ s.flag (R.AO_STATUS o.toNat) F.AO_STATUS_LOAD_HIGH = false) ∧
    (∃ (s : State) (o : BitVec 4), nth s.car.aoSt o.toNat 0 = 2) ∧
    (∃ (k : Fin 48), k.val < 32) ∧
    (∃ (s : State) (k : Fin 48), 32 ≤ k.val ∧ s.flag (R.AO_STATUS (k.val - 32)) F.AO_STATUS_MISWIRE = false) ∧
    (∃ (k : Fin 48), k.val < 32) ∧
    (∃ (k : Fin 48), 32 ≤ k.val) ∧
    (∃ (s : State) (c : BitVec 5), s.flag (R.AI_CFG c.toNat) F.AI_CFG_LP_EN = true) ∧
    (∃ (s : State) (ref : Int) (own : Int) (chk : Int), (s.refCheck ref own chk).flag R.AIO_STATUS F.AIO_STATUS_REF_OK = true) ∧
    (∃ (s : State) (ref : Int) (own : Int) (chk : Int), s.flag R.AIO_CTRL F.AIO_CTRL_REFCHK_EN = true ∧ (s.refCheck ref own chk).flag R.AIO_STATUS F.AIO_STATUS_REF_OK = false) ∧
    (∃ (s : State) (t : Nat), s.trimKind ≠ 0 ∧ s.io.trimT + 60000000000 ≤ t) ∧
    (∃ (s : State) (t : Nat) (vals : List (Nat × Int)), (s.car.settleCfg t).up = true ∧ nth (s.car.settleCfg t).cfg 5 0 ≠ 0 ∧ s.aiDue t vals ≠ []) :=
  ⟨⟨carried (fun c => { c with aoSt := copies 15 0 ++ [1] }), 15#4, by decide +kernel⟩,
    ⟨carried (fun c => { c with aoSt := copies 15 0 ++ [2] }), 15#4, by decide +kernel⟩,
    ⟨carried (fun c => { c with aoSt := copies 15 0 ++ [3] }), 15#4, by decide +kernel⟩,
    ⟨carried (fun c => { c with aoSt := copies 15 0 ++ [2] }), 15#4, by decide +kernel, by decide +kernel⟩,
    ⟨carried (fun c => { c with aoSt := copies 15 0 ++ [2] }), 15#4, by decide +kernel⟩,
    ⟨31, by decide +kernel⟩,
    ⟨lab, 47, by decide +kernel, by decide +kernel⟩,
    ⟨31, by decide +kernel⟩,
    ⟨32, by decide +kernel⟩,
    ⟨withF [(R.AI_CFG 31, F.AI_CFG_LP_EN, 1)] lab, 31#5, by decide +kernel⟩,
    ⟨withF [(R.AIO_CTRL, F.AIO_CTRL_REFCHK_EN, 1)] lab, 10001000, 0, 0, by decide +kernel⟩,
    ⟨withF [(R.AIO_CTRL, F.AIO_CTRL_REFCHK_EN, 1)] lab, 10001001, 0, 0, by decide +kernel, by decide +kernel⟩,
    ⟨withF [(R.TRIM_STATUS, F.TRIM_STATUS_SESSION, 1)] lab, 60000000000, by decide +kernel, by decide +kernel⟩,
    ⟨carried (fun c => { c with cfg := setNth c.cfg 47 (4 * 1000) }), 0, [(31, -5)], by decide +kernel, by decide +kernel, by decide +kernel⟩⟩

/-- States and operands that meet the hypotheses of DigitalChannels, clause by clause. -/
theorem witness_DigitalChannels :
    (∃ (s : State) (i : BitVec 5), s.doSt i.toNat = 1) ∧
    (∃ (s : State) (i : BitVec 5), s.doSt i.toNat = 2) ∧
    (∃ (s : State) (i : BitVec 5), s.doSt i.toNat = 3) ∧
    (∃ (s : State) (i : BitVec 5), s.doSt i.toNat = 3) ∧
    (∃ (s : State) (i : BitVec 5), s.doSt i.toNat = 4 ∧ bitOf s.car.doCmd i.toNat = true) ∧
    (∃ (s : State) (i : BitVec 5), ((s.doSt i.toNat = 0 ∨ s.doSt i.toNat = 1 ∨ s.doSt i.toNat = 4)) ∧ s.car.ext.contains i.toNat = false) ∧
    (∃ (s : State) (i : BitVec 5), ((s.doSt i.toNat = 0 ∨ s.doSt i.toNat = 1))) ∧
    (∃ (s : State) (i : Fin 48), bitOf s.car.miswire i.val = false) ∧
    (∃ (s : State) (i : Fin 48), bitOf s.car.miswire i.val = true) ∧
    (∃ (s : State) (g : BitVec 1), s.car.revG.filter (fun k => k != g.toNat) = []) ∧
    (∃ (mv : Nat), mv < 17000) ∧
    (∃ (s : State) (j : Nat), (s.car.settleCfg (25000 * j)).up = true ∧ nth (s.car.settleCfg (25000 * j)).cfg 5 0 ≠ 0) :=
  ⟨⟨carried (fun c => { c with doSt := copies 31 0 ++ [1], doCmd := 2 ^ 31 }), 31#5, by decide +kernel⟩,
    ⟨carried (fun c => { c with doSt := copies 31 0 ++ [2], doCmd := 2 ^ 31 }), 31#5, by decide +kernel⟩,
    ⟨carried (fun c => { c with doSt := copies 31 0 ++ [3], doCmd := 2 ^ 31 }), 31#5, by decide +kernel⟩,
    ⟨carried (fun c => { c with doSt := copies 31 0 ++ [3], doCmd := 2 ^ 31 }), 31#5, by decide +kernel⟩,
    ⟨carried (fun c => { c with doSt := copies 31 0 ++ [4], doCmd := 2 ^ 31 }), 31#5, by decide +kernel, by decide +kernel⟩,
    ⟨carried (fun c => { c with doSt := copies 31 0 ++ [0], doCmd := 2 ^ 31 }), 31#5, by decide +kernel, by decide +kernel⟩,
    ⟨carried (fun c => { c with doSt := copies 31 0 ++ [1], doCmd := 2 ^ 31 }), 31#5, by decide +kernel⟩,
    ⟨lab, 47, by decide +kernel⟩,
    ⟨carried (fun c => { c with miswire := 2 ^ 47 }), 47, by decide +kernel⟩,
    ⟨carried (fun c => { c with revG := [1] }), 1#1, by decide +kernel⟩,
    ⟨16999, by decide +kernel⟩,
    ⟨carried id, 3, by decide +kernel, by decide +kernel⟩⟩

/-- States and operands that meet the hypotheses of CarrierFrames, clause by clause. -/
theorem witness_CarrierFrames :
    (∃ (s : State) (l : BitVec 2) (j : Nat), l.toNat ≠ 3 ∧ (s.at (frameStart l.toNat j)).pwr.ended.contains 3 = true ∧ (s.at (frameStart l.toNat j)).pwr.stopTx = false ∧ (s.at (frameStart l.toNat j)).power ≠ 0) ∧
    (∃ (s : State) (j : Nat) (k : Nat) (u : State), (s.at (frameStart 3 j)).pwr.ended.contains 3 = true ∧ (s.at (frameStart 3 j)).pwr.stopTx = false ∧ (s.at (frameStart 3 j)).power ≠ 0 ∧ (s.at (frameStart 3 j)).noteChanged.cfgSlot = (k, u)) ∧
    (∃ (s : State) (bytes : List Byte) (t : Nat), (s.car.settleCfg t).up = true ∧ crc16 ((padTo 58 bytes).take 56) ≠ fieldAt (padTo 58 bytes) 56 2) ∧
    (∃ (s : State) (l : BitVec 2) (bytes : List Byte) (t : Nat), l.toNat ≠ 3 ∧ (s.car.settleCfg t).up = true ∧ (s.car.settleCfg t).timed = true ∧ t < (s.car.settleCfg t).lastL3 + 1000000000 ∧ crc16 ((padTo 58 bytes).take 56) = fieldAt (padTo 58 bytes) 56 2 ∧ fieldAt (padTo 58 bytes) 0 1 = 0x10 + l.toNat ∧ seqNear (fieldAt (padTo 58 bytes) 2 2) ((t - 6250 * l.toNat) / 25000) = true ∧ (payloadPairs l.toNat (slice (padTo 58 bytes) 8 48)).all isPairWord = true) ∧
    (∃ (s : State) (l : BitVec 2) (j : Nat), ((s.at (frameStart l.toNat j)).car.settleCfg (s.at (frameStart l.toNat j)).now).up = true) ∧
    (∃ (bytes : List Byte), crc16 ((padTo 58 bytes).take 56) ≠ fieldAt (padTo 58 bytes) 56 2) ∧
    (∃ (l : BitVec 2) (bytes : List Byte) (t : Nat), crc16 ((padTo 58 bytes).take 56) = fieldAt (padTo 58 bytes) 56 2 ∧ fieldAt (padTo 58 bytes) 0 1 = 0x20 + l.toNat ∧ seqNear (fieldAt (padTo 58 bytes) 2 2) ((t - 6250 * l.toNat) / 25000) = true) ∧
    (∃ (s : State) (l : BitVec 2) (t : Nat), (s.car.settleCfg t).up = true ∧ nth (s.car.settleCfg t).lastOk l.toNat 0 + nth (s.car.settleCfg t).cfg 0 50 * 1000000 ≤ t ∧ nth (s.car.settleCfg t).safeOn l.toNat false = false) ∧
    (∃ (s : State) (t : Nat), s.car.up = true ∧ s.car.timed = true ∧ s.car.lastL3 + 1000000 ≤ t) :=
  ⟨⟨lab, 2#2, 7, by decide +kernel, by decide +kernel, by decide +kernel, by decide +kernel⟩,
    ⟨lab, 7, (((lab.at (frameStart 3 7)).noteChanged).cfgSlot).1, (((lab.at (frameStart 3 7)).noteChanged).cfgSlot).2, by decide +kernel, by decide +kernel, by decide +kernel, rfl⟩,
    ⟨carried id, [], 0, by decide +kernel, by decide +kernel⟩,
    ⟨carried (fun c => { c with timed := true }), 2#2, frameOf 0x12 1 zeroPairs, 12500, by decide +kernel, by decide +kernel, by decide +kernel, by decide +kernel, by decide +kernel, by decide +kernel, by decide +kernel, by decide +kernel⟩,
    ⟨carried id, 3#2, 0, by decide +kernel⟩,
    ⟨[], by decide +kernel⟩,
    ⟨3#2, frameOf 0x23 1 [], 18750, by decide +kernel, by decide +kernel, by decide +kernel⟩,
    ⟨carried id, 3#2, 50000000, by decide +kernel, by decide +kernel, by decide +kernel⟩,
    ⟨carried (fun c => { c with timed := true }), 1000000, by decide +kernel, by decide +kernel, by decide +kernel⟩⟩

/-- States and operands that meet the hypotheses of RadioCommands, clause by clause. -/
theorem witness_RadioCommands :
    (∃ (s : State) (sf : Nat) (k : BitVec 10), (s.car.settleCfg s.now).up = true ∧ bitOf ((s.car.settleCfg s.now).mw 0) 0 = true ∧ nth (s.car.settleCfg s.now).cfg 5 0 ≠ 0 ∧ s.sfRuns sf ((s.car.settleCfg s.now).mf 7 23 16) = true ∧ (planOf ((s.car.settleCfg s.now).mw 1) ((s.car.settleCfg s.now).mw 2)).beacon ≤ k.toNat ∧ k.toNat < (planOf ((s.car.settleCfg s.now).mw 1) ((s.car.settleCfg s.now).mw 2)).n ∧ (planOf ((s.car.settleCfg s.now).mw 1) ((s.car.settleCfg s.now).mw 2)).opens (1000 * nth (s.car.settleCfg s.now).cfg 5 0) k.toNat = true) ∧
    (∃ (s : State) (sf : Nat), (s.car.settleCfg s.now).up = true ∧ bitOf ((s.car.settleCfg s.now).mw 0) 0 = true ∧ bitOf ((s.car.settleCfg s.now).mw 0) 1 = true ∧ nth (s.car.settleCfg s.now).safeOn 3 false = false ∧ s.sfRuns sf ((s.car.settleCfg s.now).mf 7 23 16) = true) ∧
    (∃ (s : State) (x : RxSt) (rssi : Int) (dt : Nat), s.radio.rx = some x ∧ x.stage = 0 ∧ ((s.car.mf 3 7 0 : Nat) : Int) - 280 ≤ rssi ∧ dt ≤ 2 * (4000 * s.car.mf 5 23 16) + symTime (s.car.mw 0) (s.car.mf 3 31 24)) ∧
    (∃ (s : State) (x : RxSt) (corr : Nat), s.radio.rx = some x ∧ x.stage = 1 ∧ s.car.mf 3 15 8 ≤ corr) ∧
    (∃ (s : State) (x : RxSt) (errs : Nat), s.radio.rx = some x ∧ x.stage = 2 ∧ errs ≤ s.car.mf 3 19 16 ∧ (planOf (s.car.mw 1) (s.car.mw 2)).joins x.slot = true) ∧
    (∃ (s : State) (x : RxSt) (errs : Nat), s.radio.rx = some x ∧ x.stage = 2 ∧ errs ≤ s.car.mf 3 19 16 ∧ (planOf (s.car.mw 1) (s.car.mw 2)).joins x.slot = false) ∧
    (∃ (s : State) (x : RxSt) (h : BitVec 32) (dt : Nat), s.radio.rx = some x ∧ x.stage = 3 ∧ x.ncw = 0 ∧ hdrOk h.toNat 2 = true ∧ bitsOf h.toNat 3 0 ≠ 0 ∧ bitsOf h.toNat 5 4 ≠ 3 ∧ dt + symTime (s.car.mw 0) (bitsOf h.toNat 3 0 * 648 / (if bitOf h.toNat 6 then 2 else 1)) + 100000 + 70000 * bitsOf h.toNat 3 0 ≤ 1000 * (planOf (s.car.mw 1) (s.car.mw 2)).slot) ∧
    (∃ (s : State) (x : RxSt) (llrs : List (List Int)), s.radio.rx = some x ∧ x.stage = 3 ∧ x.ncw ≠ 0 ∧ llrs.length = x.ncw) ∧
    (∃ (s : State) (x : RxSt), s.radio.rx = some x) ∧
    (∃ (s : State) (k : BitVec 10), 64 ≤ kvGet (fun _ => 0) k.toNat s.radio.afcMiss) ∧
    (∃ (s : State) (t : Fin 250), (s.tagMem t.val).atLim = true ∧ 8 ≤ (s.tagMem t.val).missed) ∧
    (∃ (s : State) (c : TagCmd), s.radio.cmds.find? (fun c => c.st == 2 && Nat.blt (c.sf + 4) (s.reg64 R.SF_NUM_LO)) = some c ∧ (s.modRad (fun r => { r with cmds := r.cmds.filter (fun x => x != c) })).getF R.RADIO_CMD_STATUS F.RADIO_CMD_STATUS_CMD_SEQ = c.seq) :=
  ⟨⟨carried radioCar, 0, 1#10, by decide +kernel, by decide +kernel, by decide +kernel, by decide +kernel, by decide +kernel, by decide +kernel, by decide +kernel⟩,
    ⟨carried radioCar, 0, by decide +kernel, by decide +kernel, by decide +kernel, by decide +kernel, by decide +kernel⟩,
    ⟨receiving (rxAt 0 1 0), rxAt 0 1 0, -280, 0, by decide +kernel, by decide +kernel, by decide +kernel, by decide +kernel⟩,
    ⟨receiving (rxAt 1 1 0), rxAt 1 1 0, 0, by decide +kernel, by decide +kernel, by decide +kernel⟩,
    ⟨receiving (rxAt 2 1 0), rxAt 2 1 0, 0, by decide +kernel, by decide +kernel, by decide +kernel, by decide +kernel⟩,
    ⟨receiving (rxAt 2 2 0), rxAt 2 2 0, 0, by decide +kernel, by decide +kernel, by decide +kernel, by decide +kernel⟩,
    ⟨{ carried (fun c => { radioCar c with cfg := setNth (radioCar c).cfg 49 (2 ^ 32 - 1) }) with radio := { lab.radio with rx := some (rxAt 3 1 0) } }, rxAt 3 1 0, BitVec.ofNat 32 (1 + 65536 * crc16 [1#8, 0#8]), 0, by decide +kernel, by decide +kernel, by decide +kernel, by decide +kernel, by decide +kernel, by decide +kernel, by decide +kernel⟩,
    ⟨receiving (rxAt 3 1 1), rxAt 3 1 1, [[]], by decide +kernel, by decide +kernel, by decide +kernel, by decide +kernel⟩,
    ⟨receiving (rxAt 3 1 1), rxAt 3 1 1, by decide +kernel⟩,
    ⟨{ lab with radio := { lab.radio with afcMiss := [(1023, 64)] } }, 1023#10, by decide +kernel⟩,
    ⟨{ lab with radio := { lab.radio with tags := [⟨249, 0, true, 8, true, none⟩] } }, 249, by decide +kernel, by decide +kernel⟩,
    ⟨withF [(R.RADIO_CMD_STATUS, F.RADIO_CMD_STATUS_CMD_SEQ, 1)] ({ lab with radio := { lab.radio with cmds := [⟨1, 249, [], 2, 0⟩] } }.setReg64 R.SF_NUM_LO 5), ⟨1, 249, [], 2, 0⟩, by decide +kernel, by decide +kernel⟩⟩

/-- States and operands that meet the hypotheses of LineDataCommands, clause by clause. -/
theorem witness_LineDataCommands :
    (∃ (s : State) (e : BitVec 2) (m : Nat) (l : Nat), (s.car.settleCfg s.now).up = true ∧ nth (((s.car.settleCfg s.now).ldCfg.loops e.toNat).map some) (m % max ((s.car.settleCfg s.now).ldCfg.loops e.toNat).length 1) none = some l ∧ (State.ldEnables { s with car := s.car.settleCfg s.now } (s.car.settleCfg s.now).ldCfg.en).dwellRuns (s.car.settleCfg s.now).ldCfg m = true) ∧
    (∃ (s : State) (e : BitVec 2) (w : DwellSt), nth s.ld.dwells e.toNat none = some w ∧ w.result = 1) ∧
    (∃ (s : State) (e : BitVec 2) (w : DwellSt), nth s.ld.dwells e.toNat none = some w) ∧
    (∃ (s : State) (l : Fin 48), (((s.loop l.val).st = 1 ∨ (s.loop l.val).st = 2)) ∧ max s.car.ldCfg.lost 1 ≤ (s.loop l.val).noHdr) ∧
    (∃ (s : State) (q : Nat) (n : Nat), s.ld.msg = some (q, n, false) ∧ max s.car.ldCfg.retry 1 ≤ n) :=
  ⟨⟨carried (fun c => { c with cfg := setNth c.cfg 62 (2 ^ 15) }), 3#2, 0, 47, by decide +kernel, by decide +kernel, by decide +kernel⟩,
    ⟨{ lab with ld := { lab.ld with dwells := [none, none, none, some ⟨0, 47, false, false, 1, 0, 0, 0, 0, 0, 0, 0, [], false⟩] } }, 3#2, ⟨0, 47, false, false, 1, 0, 0, 0, 0, 0, 0, 0, [], false⟩, by decide +kernel, by decide +kernel⟩,
    ⟨{ lab with ld := { lab.ld with dwells := [none, none, none, some ⟨0, 47, false, false, 1, 0, 0, 0, 0, 0, 0, 0, [], false⟩] } }, 3#2, ⟨0, 47, false, false, 1, 0, 0, 0, 0, 0, 0, 0, [], false⟩, by decide +kernel⟩,
    ⟨{ lab with ld := { lab.ld with loops := copies 47 LdLoop.zero ++ [{ LdLoop.zero with st := 2, noHdr := 1 }] } }, 47, by decide +kernel, by decide +kernel⟩,
    ⟨{ lab with ld := { lab.ld with msg := some (5, 1, false) } }, 5, 1, by decide +kernel, by decide +kernel⟩⟩

/-- States and operands that meet the hypotheses of ChainFrames, clause by clause. -/
theorem witness_ChainFrames :
    (∃ (s : State) (f : RcpFrame) (u : State), s.rcpIn 1 f = (true, u) ∧ 1 ≤ fieldAt f.payload 8 2 ∧ fieldAt f.payload 8 2 ≤ 61 ∧ f.payload.length = 16 + 24 * fieldAt f.payload 8 2 ∧ fieldAt f.payload 10 1 ≤ 1 ∧ fieldAt f.payload 11 5 = 0 ∧ (List.range (fieldAt f.payload 8 2)).any (fun e => fieldAt f.payload (20 + 24 * e) 4 != 0) = false ∧ (List.range (fieldAt f.payload 8 2)).all (fun e => isPairWord (fieldAt f.payload (24 + 24 * e) 8) && isPairWord (fieldAt f.payload (32 + 24 * e) 8)) = true) ∧
    (∃ (s : State) (f : RcpFrame) (u : State), s.rcpIn 1 f = (true, u) ∧ 1 ≤ fieldAt f.payload 8 2 ∧ fieldAt f.payload 8 2 ≤ 61 ∧ f.payload.length = 16 + 24 * fieldAt f.payload 8 2 ∧ fieldAt f.payload 10 1 ≤ 1 ∧ fieldAt f.payload 11 5 = 0 ∧ (List.range (fieldAt f.payload 8 2)).any (fun e => fieldAt f.payload (20 + 24 * e) 4 != 0) = false ∧ (List.range (fieldAt f.payload 8 2)).all (fun e => isPairWord (fieldAt f.payload (24 + 24 * e) 8) && isPairWord (fieldAt f.payload (32 + 24 * e) 8)) = false) ∧
    (∃ (s : State) (t : Nat) (typ : Nat) (dst : Nat) (p : List Byte) (rest : List (Nat × Nat × List Byte)), (s.at t).chain.alarmQ = (typ, dst, p) :: rest ∧ (s.at t).mayShape (wireBytes p) = true) ∧
    (∃ (s : State) (w : BitVec 1) (p : List Byte), s.portsUp = true ∧ p.length = 16 ∧ fieldAt p 8 1 ≤ 1 ∧ fieldAt p 9 1 ≤ 3 ∧ fieldAt p 8 1 ≠ w.toNat) ∧
    (∃ (s : State) (w : BitVec 1) (p : List Byte), s.portsUp = true ∧ p.length = 16 ∧ fieldAt p 8 1 ≤ 1 ∧ fieldAt p 9 1 ≤ 3 ∧ fieldAt p 8 1 = w.toNat) ∧
    (∃ (s : State), s.portsUp = true) ∧
    (∃ (s : State) (w : BitVec 1) (t : Nat), nth s.chain.hello w.toNat 0 + 300000000 ≤ t) ∧
    (∃ (s : State) (port : Fin 3), s.pwr.acqStart.isSome = true ∧ port.val ≠ 2) ∧
    (∃ (s : State), s.pwr.acqStart = none) ∧
    (∃ (port : Fin 3), port.val ≠ 2) ∧
    (∃ (s : State) (f : RcpFrame), f.src = s.macChain ∧ f.port ≠ 2 ∧ s.now ≤ s.chain.ringT + 10000000) ∧
    (∃ (s : State) (f : RcpFrame) (u : State), f.src ≠ s.macChain ∧ s.rcpIn 0x11 f = (true, u) ∧ f.payload.length = 32 ∧ fieldAt f.payload 16 1 ≤ 3 ∧ fieldAt f.payload 17 1 = 0 ∧ fieldAt f.payload 8 4 = u.img.run.period / 1000 ∧ fieldAt f.payload 12 4 = u.img.run.phase) ∧
    (∃ (s : State) (t : Nat), s.chain.ringBack = false ∧ s.chain.ringT + 10000000 ≤ t ∧ s.flag R.CHAIN_STATUS F.CHAIN_STATUS_RING_CLOSED = true) ∧
    (∃ (version : Nat), version ≠ 1) ∧
    (∃ (s : State) (typ : Nat) (f : RcpFrame) (u : State), s.rcpIn typ f = (false, u)) ∧
    (∃ (s : State) (src : Nat) (seq : Nat), s.flag R.CHAIN_CTRL F.CHAIN_CTRL_HSR_EN = true ∧ s.portsUp = true ∧ src ≠ s.macChain ∧ s.chain.hsrDup.any (fun e => e.1 == src && e.2.1 == seq && Nat.ble s.now (e.2.2 + 400000000)) = true) ∧
    (∃ (s : State) (src : Nat) (dst : Nat) (seq : Nat), s.flag R.CHAIN_CTRL F.CHAIN_CTRL_HSR_EN = true ∧ s.portsUp = true ∧ src ≠ s.macChain ∧ s.chain.hsrDup.any (fun e => e.1 == src && e.2.1 == seq && Nat.ble s.now (e.2.2 + 400000000)) = false ∧ dst ≠ s.macChain) ∧
    (∃ (s : State), s.flag R.CHAIN_CTRL F.CHAIN_CTRL_HSR_EN = true ∧ s.portsUp = true) :=
  ⟨⟨linked, alarmFrame (pairWord 7), _, rcpIn_of (by decide +kernel), by decide +kernel, by decide +kernel, by decide +kernel, by decide +kernel, by decide +kernel, by decide +kernel, by decide +kernel⟩,
    ⟨linked, alarmFrame 7, _, rcpIn_of (by decide +kernel), by decide +kernel, by decide +kernel, by decide +kernel, by decide +kernel, by decide +kernel, by decide +kernel, by decide +kernel⟩,
    ⟨{ linked with chain := { linked.chain with alarmQ := [(1, 0, [])] } }, 0, 1, 0, [], [], by decide +kernel, by decide +kernel⟩,
    ⟨linked, 1#1, leBytes 8 0 ++ leBytes 8 768, by decide +kernel, by decide +kernel, by decide +kernel, by decide +kernel, by decide +kernel⟩,
    ⟨linked, 1#1, leBytes 8 0 ++ leBytes 8 769, by decide +kernel, by decide +kernel, by decide +kernel, by decide +kernel, by decide +kernel⟩,
    ⟨linked, by decide +kernel⟩,
    ⟨lab, 1#1, 300000000, by decide +kernel⟩,
    ⟨{ lab with pwr := { lab.pwr with acqStart := some 0 } }, 1, by decide +kernel, by decide +kernel⟩,
    ⟨lab, by decide +kernel⟩,
    ⟨1, by decide +kernel⟩,
    ⟨linked, { toAll [] with src := linked.macChain }, by decide +kernel, by decide +kernel, by decide +kernel⟩,
    ⟨linked, toAll (leBytes 8 0 ++ leBytes 4 1000 ++ leBytes 4 0 ++ leBytes 16 3), _, by decide +kernel, rcpIn_of (by decide +kernel), by decide +kernel, by decide +kernel, by decide +kernel, by decide +kernel, by decide +kernel⟩,
    ⟨withF [(R.CHAIN_STATUS, F.CHAIN_STATUS_RING_CLOSED, 1)] linked, 10000000, by decide +kernel, by decide +kernel, by decide +kernel⟩,
    ⟨2, by decide +kernel⟩,
    ⟨linked, 1, { toAll [] with dst := 99 }, _, pair_of (by decide +kernel)⟩,
    ⟨{ linked with chain := { linked.chain with hsrDup := [(5, 1, 0)] } }, 5, 1, by decide +kernel, by decide +kernel, by decide +kernel, by decide +kernel⟩,
    ⟨linked, 5, 7, 1, by decide +kernel, by decide +kernel, by decide +kernel, by decide +kernel, by decide +kernel⟩,
    ⟨linked, by decide +kernel, by decide +kernel⟩⟩

/-- States and operands that meet the hypotheses of RegisterRequests, clause by clause. -/
theorem witness_RegisterRequests :
    (∃ (s : State) (f : RcpFrame) (role : Nat) (m : Nat) (d : List Byte) (v : State) (w : State), s.admits f 1 role v ∧ v.regDo (pathOf f) role 1 (fieldAt f.payload 9 1) (fieldAt f.payload 10 2) (fieldAt f.payload 12 4) (f.payload.drop 32) = (0, m, d, w)) ∧
    (∃ (s : State) (f : RcpFrame) (role : Nat) (m : Nat) (d : List Byte) (v : State) (w : State), s.admits f 2 role v ∧ v.regDo (pathOf f) role 2 (fieldAt f.payload 9 1) (fieldAt f.payload 10 2) (fieldAt f.payload 12 4) (f.payload.drop 32) = (0, m, d, w)) ∧
    (∃ (s : State) (f : RcpFrame) (role : Nat) (m : Nat) (d : List Byte) (v : State) (w : State), s.admits f 3 role v ∧ v.regDo (pathOf f) role 3 (fieldAt f.payload 9 1) (fieldAt f.payload 10 2) (fieldAt f.payload 12 4) (f.payload.drop 32) = (0, m, d, w)) ∧
    (∃ (s : State) (f : RcpFrame) (role : Nat) (m : Nat) (d : List Byte) (v : State) (w : State), s.admits f 4 role v ∧ v.regDo (pathOf f) role 4 (fieldAt f.payload 9 1) (fieldAt f.payload 10 2) (fieldAt f.payload 12 4) (f.payload.drop 32) = (0, m, d, w)) ∧
    (∃ (s : State) (f : RcpFrame) (role : Nat) (m : Nat) (d : List Byte) (v : State) (w : State), s.admits f 5 role v ∧ v.regDo (pathOf f) role 5 (fieldAt f.payload 9 1) (fieldAt f.payload 10 2) (fieldAt f.payload 12 4) (f.payload.drop 32) = (0, m, d, w)) ∧
    (∃ (s : State) (p : Path) (role : BitVec 2) (a : BitVec 32) (v : BitVec 32) (u : State), s.host.begun = true ∧ s.writeOne p (s.roleOf p role.toNat) a.toNat v.toNat = (0, u)) ∧
    (∃ (s : State) (p : Path) (role : BitVec 2) (a : BitVec 32) (v : BitVec 32) (hi : BitVec 32) (u : State), s.host.begun = true ∧ s.hostWide p role.toNat a.toNat (v.toNat + 2 ^ 32 * hi.toNat) = u) ∧
    (∃ (s : State) (p : Path) (role : BitVec 2) (d : BitVec 2) (o : BitVec 18) (w : Word) (u : State), s.host.begun = true ∧ s.readOne p (s.roleOf p role.toNat) (0x10C0000 + 0x400000 * d.toNat + o.toNat) true = (0, w, u)) ∧
    (∃ (s : State) (f : RcpFrame) (u : State) (v : State) (role : Nat), f.resp = false ∧ s.rcpIn 0x50 f = (true, u) ∧ 33 ≤ f.payload.length ∧ f.payload.length = 32 + fieldAt f.payload 28 2 ∧ fieldAt f.payload 28 2 ≤ 1456 ∧ zeroAt f.payload 30 2 = true ∧ f.dst ≠ groupMac ∧ u.host.begun = true ∧ u.keptFor f.src (fieldAt f.payload 4 4) (fieldAt f.payload 0 4) = none ∧ u.authCheck 0x50 false 8 f.src f.payload = (some role, v) ∧ 2 ≤ role) ∧
    (∃ (s : State) (f : RcpFrame) (u : State) (v : State) (role : Nat), f.resp = false ∧ s.rcpIn 0x02 f = (true, u) ∧ 32 ≤ f.payload.length ∧ cmdShape f.payload = true ∧ (cmdEntries f.payload).all (fun e => isPairWord e.2.2) = true ∧ u.host.begun = true ∧ u.keptFor f.src (fieldAt f.payload 4 4) (fieldAt f.payload 0 4) = none ∧ u.authCheck 0x02 (f.dst == groupMac) 8 f.src f.payload = (some role, v) ∧ ((v.pairState = 0 ∨ v.holdsToken = true))) :=
  ⟨⟨linked, regFrame 1 1 R.EPOCH_LO ([]), 0, _, _, _, _, admits_of (by decide +kernel) (by decide +kernel), quad_of (by decide +kernel)⟩,
    ⟨linked, regFrame 2 1 R.HS_HN_LO (leBytes 4 7), 0, _, _, _, _, admits_of (by decide +kernel) (by decide +kernel), quad_of (by decide +kernel)⟩,
    ⟨linked, regFrame 3 1 R.HS_HN_LO (leBytes 8 (7 * 2 ^ 32 + 255)), 0, _, _, _, _, admits_of (by decide +kernel) (by decide +kernel), quad_of (by decide +kernel)⟩,
    ⟨linked, regFrame 4 2 R.EPOCH_LO ([]), 0, _, _, _, _, admits_of (by decide +kernel) (by decide +kernel), quad_of (by decide +kernel)⟩,
    ⟨linked, regFrame 5 2 R.HS_HN_LO (leBytes 8 7), 0, _, _, _, _, admits_of (by decide +kernel) (by decide +kernel), quad_of (by decide +kernel)⟩,
    ⟨lab, adminPath, 3#2, BitVec.ofNat 32 R.ACT_EPOCH_LO, 1#32, _, by decide +kernel, pair_of (by decide +kernel)⟩,
    ⟨lab, adminPath, 3#2, BitVec.ofNat 32 R.ACT_EPOCH_LO, 0#32, 0#32, _, by decide +kernel, rfl⟩,
    ⟨(service.modHost (fun h => { h with paths := [⟨adminPath, none, none, [F.DBG_PAGE_KIND.set 4 0#32], [0x2000000000#64]⟩] })), adminPath, 3#2, 0#2, 4#18, _, _, by decide +kernel, triple_of (by decide +kernel)⟩,
    ⟨sessioned, imageFrame, _, _, 3, by decide +kernel, rcpIn_of (by decide +kernel), by decide +kernel, by decide +kernel, by decide +kernel, by decide +kernel, by decide +kernel, by decide +kernel, by decide +kernel, pair_of (by decide +kernel), by decide +kernel⟩,
    ⟨linked, commandFrame, _, _, 0, by decide +kernel, rcpIn_of (by decide +kernel), by decide +kernel, by decide +kernel, by decide +kernel, by decide +kernel, by decide +kernel, pair_of (by decide +kernel), by decide +kernel⟩⟩

/-- States and operands that meet the hypotheses of ModbusRequests, clause by clause. -/
theorem witness_ModbusRequests :
    (∃ (s : State) (conn : BitVec 3) (unit : Byte) (addr : BitVec 16) (qty : BitVec 16) (as : List Nat), s.modbusServes conn.toNat unit.toNat ∧ 1 ≤ qty.toNat ∧ qty.toNat ≤ 125 ∧ modbusAddrs holdingWindows addr.toNat qty.toNat = some as) ∧
    (∃ (s : State) (conn : BitVec 3) (unit : Byte) (addr : BitVec 16) (qty : BitVec 16) (as : List Nat), s.modbusServes conn.toNat unit.toNat ∧ 1 ≤ qty.toNat ∧ qty.toNat ≤ 125 ∧ modbusAddrs inputWindows addr.toNat qty.toNat = some as) ∧
    (∃ (s : State) (conn : BitVec 3) (unit : Byte) (addr : BitVec 16) (value : BitVec 16) (a : Nat) (r : RegRow) (u : State), s.modbusServes conn.toNat unit.toNat ∧ modbusAddr holdingWindows addr.toNat = some a ∧ a % 4 = 0 ∧ rowOf a = some r ∧ r.mask < 65536 ∧ r.acc ≠ .pw ∧ s.modbusWrite (.modbus conn.toNat) [(a, value.toNat, none)] s = (none, u)) ∧
    (∃ (s : State) (conn : BitVec 3) (unit : Byte) (addr : BitVec 16) (vs : List (BitVec 16)) (u : State), s.modbusServes conn.toNat unit.toNat ∧ 1 ≤ vs.length ∧ vs.length ≤ 123 ∧ s.modbusPut conn.toNat addr.toNat (vs.map BitVec.toNat) = (none, u)) ∧
    (∃ (s : State) (conn : BitVec 3) (unit : Byte) (raddr : BitVec 16) (rqty : BitVec 16) (waddr : BitVec 16) (vs : List (BitVec 16)) (as : List Nat) (u : State), s.modbusServes conn.toNat unit.toNat ∧ 1 ≤ rqty.toNat ∧ rqty.toNat ≤ 125 ∧ 1 ≤ vs.length ∧ vs.length ≤ 121 ∧ modbusAddrs holdingWindows raddr.toNat rqty.toNat = some as ∧ s.modbusPut conn.toNat waddr.toNat (vs.map BitVec.toNat) = (none, u)) :=
  ⟨⟨withF [(R.MODBUS_CFG, F.MODBUS_CFG_EN_X5, 1), (R.MODBUS_CFG, F.MODBUS_CFG_ROLE, 2)] (withR [(R.IP_X5, 1)] lab), 0#3, 0#8, 0#16, 125#16, (modbusAddrs holdingWindows 0 125).getD [], ⟨by decide +kernel, by decide +kernel, by decide +kernel, by decide +kernel⟩, by decide +kernel, by decide +kernel, by decide +kernel⟩,
    ⟨withF [(R.MODBUS_CFG, F.MODBUS_CFG_EN_X5, 1), (R.MODBUS_CFG, F.MODBUS_CFG_ROLE, 2)] (withR [(R.IP_X5, 1)] lab), 0#3, 0#8, 0#16, 125#16, (modbusAddrs inputWindows 0 125).getD [], ⟨by decide +kernel, by decide +kernel, by decide +kernel, by decide +kernel⟩, by decide +kernel, by decide +kernel, by decide +kernel⟩,
    ⟨withF [(R.MODBUS_CFG, F.MODBUS_CFG_EN_X5, 1), (R.MODBUS_CFG, F.MODBUS_CFG_ROLE, 2)] (withR [(R.IP_X5, 1)] lab), 0#3, 0#8, 0x280#16, 1#16, 0x70500, (rowOf 0x70500).getD ⟨0, [], .rw, .live, 0⟩, _, ⟨by decide +kernel, by decide +kernel, by decide +kernel, by decide +kernel⟩, by decide +kernel, by decide +kernel, by decide +kernel, by decide +kernel, by decide +kernel, pair_of (by decide +kernel)⟩,
    ⟨withF [(R.MODBUS_CFG, F.MODBUS_CFG_EN_X5, 1), (R.MODBUS_CFG, F.MODBUS_CFG_ROLE, 2)] (withR [(R.IP_X5, 1)] lab), 0#3, 0#8, 0x280#16, [1#16, 0#16], _, ⟨by decide +kernel, by decide +kernel, by decide +kernel, by decide +kernel⟩, by decide +kernel, by decide +kernel, pair_of (by decide +kernel)⟩,
    ⟨withF [(R.MODBUS_CFG, F.MODBUS_CFG_EN_X5, 1), (R.MODBUS_CFG, F.MODBUS_CFG_ROLE, 2)] (withR [(R.IP_X5, 1)] lab), 0#3, 0#8, 0#16, 125#16, 0x280#16, [1#16, 0#16], (modbusAddrs holdingWindows 0 125).getD [], _, ⟨by decide +kernel, by decide +kernel, by decide +kernel, by decide +kernel⟩, by decide +kernel, by decide +kernel, by decide +kernel, by decide +kernel, by decide +kernel, pair_of (by decide +kernel)⟩⟩

/-- States and operands that meet the hypotheses of HarbourVote, clause by clause. -/
theorem witness_HarbourVote :
    (∃ (s : State) (f : RcpFrame) (u : State), s.harbTakes 1 f u ∧ u.vetoReason (fieldAt f.payload 16 8) (u.vote != 0 && !(u.vote == 1 && u.sameProp f.payload)) = 0) ∧
    (∃ (s : State) (f : RcpFrame) (u : State) (r : Nat), s.harbTakes 1 f u ∧ u.vetoReason (fieldAt f.payload 16 8) (u.vote != 0 && !(u.vote == 1 && u.sameProp f.payload)) = r ∧ r ≠ 0) ∧
    (∃ (s : State) (f : RcpFrame) (u : State), s.harbTakes 2 f u ∧ u.initiating f.payload = true) ∧
    (∃ (s : State) (f : RcpFrame) (u : State), s.harbTakes 3 f u ∧ u.initiating f.payload = true) ∧
    (∃ (s : State) (f : RcpFrame) (u : State), s.harbTakes 4 f u ∧ u.vote = 1 ∧ u.sameProp f.payload = true ∧ u.now < u.harb.tSleep) ∧
    (∃ (s : State) (f : RcpFrame) (u : State), s.harbTakes 5 f u ∧ u.vote = 1 ∧ u.sameProp f.payload = true) ∧
    (∃ (s : State) (f : RcpFrame) (u : State), s.harbTakes 6 f u) ∧
    (∃ (s : State) (t : Nat), s.vote = 1 ∧ s.flag R.HARB_STATUS F.HARB_STATUS_INITIATOR = true ∧ s.harb.tSleep ≤ t + 100000000 ∧ s.harb.parts.all s.harb.accepts.contains = false) ∧
    (∃ (s : State) (sub : Nat) (n : Nat), s.harb.closing = some (sub, n + 1)) ∧
    (∃ (s : State) (t : Nat), s.harb.tSleep ≤ t ∧ s.vote = 2) ∧
    (∃ (s : State) (t : Nat), s.harb.tSleep ≤ t ∧ s.vote = 1) ∧
    (∃ (s : State), s.harb.wakeLeft ≠ 0) ∧
    (∃ (s : State), s.vote = 3 ∧ ((s.flag R.CHAIN_STATUS (linkUpFld 0) = false ∨ s.flag R.CHAIN_STATUS (neighFld 0) = false)) ∧ ((s.flag R.CHAIN_STATUS (linkUpFld 1) = false ∨ s.flag R.CHAIN_STATUS (neighFld 1) = false))) :=
  ⟨⟨withF [(R.HARB_STATUS, F.HARB_STATUS_STATE, 0), (R.HARB_STATUS, F.HARB_STATUS_INITIATOR, 0), (R.TIME_STATUS, F.TIME_STATUS_STATE, 2)] linked, harbFrame 1 150000000, _, harbTakes_of (by decide +kernel), by decide +kernel⟩,
    ⟨withF [(R.HARB_STATUS, F.HARB_STATUS_STATE, 0), (R.HARB_STATUS, F.HARB_STATUS_INITIATOR, 0), (R.TIME_STATUS, F.TIME_STATUS_STATE, 2)] linked, harbFrame 1 149999999, _, 1, harbTakes_of (by decide +kernel), by decide +kernel, by decide +kernel⟩,
    ⟨withF [(R.HARB_STATUS, F.HARB_STATUS_STATE, 1), (R.HARB_STATUS, F.HARB_STATUS_INITIATOR, 1), (R.TIME_STATUS, F.TIME_STATUS_STATE, 2)] linked, harbFrame 2 0, _, harbTakes_of (by decide +kernel), by decide +kernel⟩,
    ⟨withF [(R.HARB_STATUS, F.HARB_STATUS_STATE, 1), (R.HARB_STATUS, F.HARB_STATUS_INITIATOR, 1), (R.TIME_STATUS, F.TIME_STATUS_STATE, 2)] linked, harbFrame 3 0, _, harbTakes_of (by decide +kernel), by decide +kernel⟩,
    ⟨{ withF [(R.HARB_STATUS, F.HARB_STATUS_STATE, 1), (R.HARB_STATUS, F.HARB_STATUS_INITIATOR, 0), (R.TIME_STATUS, F.TIME_STATUS_STATE, 2)] linked with harb := { linked.harb with tSleep := 10 } }, harbFrame 4 10, _, harbTakes_of (by decide +kernel), by decide +kernel, by decide +kernel, by decide +kernel⟩,
    ⟨withF [(R.HARB_STATUS, F.HARB_STATUS_STATE, 1), (R.HARB_STATUS, F.HARB_STATUS_INITIATOR, 0), (R.TIME_STATUS, F.TIME_STATUS_STATE, 2)] linked, harbFrame 5 0, _, harbTakes_of (by decide +kernel), by decide +kernel, by decide +kernel⟩,
    ⟨withF [(R.HARB_STATUS, F.HARB_STATUS_STATE, 1), (R.HARB_STATUS, F.HARB_STATUS_INITIATOR, 0), (R.TIME_STATUS, F.TIME_STATUS_STATE, 2)] linked, harbFrame 6 0, _, harbTakes_of (by decide +kernel)⟩,
    ⟨{ withF [(R.HARB_STATUS, F.HARB_STATUS_STATE, 1), (R.HARB_STATUS, F.HARB_STATUS_INITIATOR, 1), (R.TIME_STATUS, F.TIME_STATUS_STATE, 2)] linked with harb := { linked.harb with tSleep := 100000000, parts := [5] } }, 0, by decide +kernel, by decide +kernel, by decide +kernel, by decide +kernel⟩,
    ⟨{ linked with harb := { linked.harb with closing := some (4, 1) } }, 4, 0, by decide +kernel⟩,
    ⟨{ withF [(R.HARB_STATUS, F.HARB_STATUS_STATE, 2), (R.HARB_STATUS, F.HARB_STATUS_INITIATOR, 0), (R.TIME_STATUS, F.TIME_STATUS_STATE, 2)] linked with harb := { linked.harb with tSleep := 10 } }, 10, by decide +kernel, by decide +kernel⟩,
    ⟨{ withF [(R.HARB_STATUS, F.HARB_STATUS_STATE, 1), (R.HARB_STATUS, F.HARB_STATUS_INITIATOR, 0), (R.TIME_STATUS, F.TIME_STATUS_STATE, 2)] linked with harb := { linked.harb with tSleep := 10 } }, 10, by decide +kernel, by decide +kernel⟩,
    ⟨{ linked with harb := { linked.harb with wakeLeft := 1 } }, by decide +kernel⟩,
    ⟨withF [(R.HARB_STATUS, F.HARB_STATUS_STATE, 3), (R.HARB_STATUS, F.HARB_STATUS_INITIATOR, 0), (R.TIME_STATUS, F.TIME_STATUS_STATE, 2)] linked, by decide +kernel, by decide +kernel, by decide +kernel⟩⟩

/-- States and operands that meet the hypotheses of LeaseOfTheHolder, clause by clause. -/
theorem witness_LeaseOfTheHolder :
    (∃ (s : State) (t : Nat), (s.at t).holdsToken = true ∧ (s.at t).rcv.dead = false) ∧
    (∃ (s : State) (t : Nat), s.holdsToken = true ∧ s.expires ≤ t) ∧
    (∃ (s : State) (t : Nat), s.mayRequest = true ∧ s.pair.reason = 0 ∧ s.expires ≠ 0 ∧ s.expires + 2000000 ≤ t) ∧
    (∃ (s : State) (t : Nat), s.mayRequest = true ∧ s.pair.reason = 0 ∧ s.portsUp = true ∧ s.pair.gotRenew = false ∧ s.pair.portsT + 102000000 ≤ t) ∧
    (∃ (s : State), s.pairState ≠ 0 ∧ s.holdsToken = false) ∧
    (∃ (s : State) (f : RcpFrame) (u : State), s.pairTakes 0x30 1 f u ∧ u.ofPair f.payload u.partner = true ∧ u.holdsToken = false) ∧
    (∃ (s : State) (f : RcpFrame) (u : State), s.pairTakes 0x31 2 f u ∧ u.ofPair f.payload u.arbiter = true) ∧
    (∃ (s : State) (f : RcpFrame) (u : State), s.pairTakes 0x30 10 f u ∧ u.ofPair f.payload u.partner = true) ∧
    (∃ (s : State) (token : BitVec 64), s.pairState ≠ 0 ∧ s.cableUp = true ∧ isPairWord token.toNat = true ∧ s.holdsToken = true ∧ s.gen < genOf token.toNat) ∧
    (∃ (s : State) (token : BitVec 64), s.pairState ≠ 0 ∧ s.cableUp = true ∧ isPairWord token.toNat = true ∧ s.holdsToken = false ∧ s.pair.highGen ≤ genOf token.toNat) ∧
    (∃ (s : State) (token : BitVec 64), s.pairState ≠ 0 ∧ s.cableUp = true ∧ isPairWord token.toNat = true) ∧
    (∃ (s : State) (b : List Byte), s.pairState ≠ 0 ∧ s.cableUp = true ∧ isPairWord (fieldAt (padTo 64 b) 8 8) = true ∧ isPairWord (fieldAt (padTo 64 b) 40 8) = true) :=
  ⟨⟨withF [(R.PAIR_STATUS, F.PAIR_STATUS_STATE, 4)] linked, 0, by decide +kernel, by decide +kernel⟩,
    ⟨(withF [(R.PAIR_STATUS, F.PAIR_STATUS_STATE, 5)] linked).setReg64 R.EXPIRES_LO 9, 9, by decide +kernel, by decide +kernel⟩,
    ⟨(withF [(R.PAIR_STATUS, F.PAIR_STATUS_STATE, 7)] linked).setReg64 R.EXPIRES_LO 9, 2000009, by decide +kernel, by decide +kernel, by decide +kernel, by decide +kernel⟩,
    ⟨withF [(R.PAIR_STATUS, F.PAIR_STATUS_STATE, 1)] linked, 102000000, by decide +kernel, by decide +kernel, by decide +kernel, by decide +kernel, by decide +kernel⟩,
    ⟨withF [(R.PAIR_STATUS, F.PAIR_STATUS_STATE, 3)] linked, by decide +kernel, by decide +kernel⟩,
    ⟨withF [(R.PAIR_STATUS, F.PAIR_STATUS_STATE, 3)] linked, pairFrame 1 0 0 0 0 0, _, pairTakes_of (by decide +kernel), by decide +kernel, by decide +kernel⟩,
    ⟨withF [(R.PAIR_STATUS, F.PAIR_STATUS_STATE, 3)] linked, pairFrame 2 0 0 0 0 0, _, pairTakes_of (by decide +kernel), by decide +kernel⟩,
    ⟨withF [(R.PAIR_STATUS, F.PAIR_STATUS_STATE, 3)] linked, pairFrame 10 0 0 0 0 0, _, pairTakes_of (by decide +kernel), by decide +kernel⟩,
    ⟨withF [(R.PAIR_STATUS, F.PAIR_STATUS_STATE, 4)] linked, BitVec.ofNat 64 (pairWord 1), by decide +kernel, by decide +kernel, by decide +kernel, by decide +kernel, by decide +kernel⟩,
    ⟨withF [(R.PAIR_STATUS, F.PAIR_STATUS_STATE, 3)] linked, BitVec.ofNat 64 (pairWord 0), by decide +kernel, by decide +kernel, by decide +kernel, by decide +kernel, by decide +kernel⟩,
    ⟨withF [(R.PAIR_STATUS, F.PAIR_STATUS_STATE, 3)] linked, BitVec.ofNat 64 (pairWord 0), by decide +kernel, by decide +kernel, by decide +kernel⟩,
    ⟨withF [(R.PAIR_STATUS, F.PAIR_STATUS_STATE, 3)] linked, leBytes 8 0 ++ leBytes 32 (pairWord 0) ++ leBytes 8 (pairWord 0), by decide +kernel, by decide +kernel, by decide +kernel, by decide +kernel⟩⟩

/-- States and operands that meet the hypotheses of ArbiterMessages, clause by clause. -/
theorem witness_ArbiterMessages :
    (∃ (s : State) (f : RcpFrame) (i : Nat) (k : Nat) (w : State), s.arbTakes 1 f i k w ∧ (w.arb i).quar = true) ∧
    (∃ (s : State) (f : RcpFrame) (i : Nat) (k : Nat) (w : State), s.arbTakes 1 f i k w ∧ (w.arb i).quar = false ∧ genOf (payToken f.payload) = genOf (w.arbToken i)) ∧
    (∃ (s : State) (f : RcpFrame) (i : Nat) (k : Nat) (w : State), s.arbTakes 1 f i k w ∧ (w.arb i).quar = false ∧ genOf (payToken f.payload) < genOf (w.arbToken i)) ∧
    (∃ (s : State) (f : RcpFrame) (u : State) (i : Nat) (k : Nat), s.pairTakes 0x31 3 f u ∧ u.arbEn = true ∧ u.arbFind (fieldAt f.payload 4 4) (fieldAt f.payload 8 8) = some (i, k) ∧ (u.arb i).quar = true) ∧
    (∃ (s : State) (f : RcpFrame) (u : State) (w : State) (i : Nat) (k : Nat), s.pairTakes 0x31 3 f u ∧ u.arbEn = true ∧ u.arbFind (fieldAt f.payload 4 4) (fieldAt f.payload 8 8) = some (i, k) ∧ (u.arb i).quar = false ∧ w = u.modArb i (fun a => { a with firstReq := if a.firstReq.isSome then a.firstReq else some u.now, prefAsked := a.prefAsked || k == u.arbPref i }) ∧ w.arbMay i k (fieldAt f.payload 1 1) = true) ∧
    (∃ (s : State) (f : RcpFrame) (u : State) (w : State) (i : Nat) (k : Nat), s.pairTakes 0x31 3 f u ∧ u.arbEn = true ∧ u.arbFind (fieldAt f.payload 4 4) (fieldAt f.payload 8 8) = some (i, k) ∧ (u.arb i).quar = false ∧ w = u.modArb i (fun a => { a with firstReq := if a.firstReq.isSome then a.firstReq else some u.now, prefAsked := a.prefAsked || k == u.arbPref i }) ∧ w.arbMay i k (fieldAt f.payload 1 1) = false) ∧
    (∃ (s : State) (f : RcpFrame) (i : Nat) (k : Nat) (w : State), s.arbTakes 6 f i k w ∧ genOf (payToken f.payload) = genOf (w.arbToken i) ∧ w.arbHolder i = k ∧ w.arbFree i = false) ∧
    (∃ (s : State) (f : RcpFrame) (i : Nat) (k : Nat) (w : State), s.arbTakes 9 f i k w ∧ (w.arb i).releaser = some k ∧ ((w.arbFree i = true ∨ w.arbExpires i + 2000000 ≤ w.now))) ∧
    (∃ (s : State) (f : RcpFrame) (i : Nat) (k : Nat) (v : State) (w : State), s.arbTakes 7 f i k v ∧ w = v.modArb i (fun a => { a with results := setNth a.results k (some (fieldAt f.payload 1 1 == 1)), resT := if a.resT.isSome then a.resT else some v.now }) ∧ (w.arb i).results.all Option.isSome = false) ∧
    (∃ (s : State) (f : RcpFrame) (i : Nat) (k : Nat) (v : State) (w : State), s.arbTakes 7 f i k v ∧ w = v.modArb i (fun a => { a with results := setNth a.results k (some (fieldAt f.payload 1 1 == 1)), resT := if a.resT.isSome then a.resT else some v.now }) ∧ (w.arb i).results.all Option.isSome = true) ∧
    (∃ (s : State) (k : BitVec 3) (t : Nat) (t0 : Nat), (s.arb k.toNat).resT = some t0 ∧ s.arbEn = true ∧ t0 + 3000000000 ≤ t) ∧
    (∃ (s : State) (f : RcpFrame) (i : Nat) (k : Nat) (w : State), s.arbTakes 10 f i k w ∧ w.flag R.ARB_CTRL F.ARB_CTRL_ARB_AUTO = true ∧ ((bitOf (nth (w.arb i).health (w.arbHolder i) 0) 6 = true ∨ bitOf (nth (w.arb i).health (w.arbHolder i) 0) 7 = true)) ∧ healthyWord (nth (w.arb i).health (1 - w.arbHolder i) 0) = true) ∧
    (∃ (s : State) (t : Nat), s.portsUp = true ∧ s.pair.portsT + 102000000 ≤ t) ∧
    (∃ (s : State) (k : BitVec 3) (t : Nat) (t0 : Nat), (s.arb k.toNat).firstReq = some t0 ∧ t0 + s.getF R.ARB_CTRL F.ARB_CTRL_ARB_HOLDOFF * 10000000 ≤ t ∧ (s.arb k.toNat).prefAsked = false) :=
  ⟨⟨arbiting { ArbSt.zero with quar := true }, pairFrame 1 0 9 5 0 0, 7, 1, _, arbTakes_of (by decide +kernel) (by decide +kernel) (by decide +kernel), by decide +kernel⟩,
    ⟨arbiting { ArbSt.zero with quar := false }, pairFrame 1 0 9 5 0 0, 7, 1, _, arbTakes_of (by decide +kernel) (by decide +kernel) (by decide +kernel), by decide +kernel, by decide +kernel⟩,
    ⟨withR [(R.ARB_TOKEN_LO 7, 1)] (arbiting { ArbSt.zero with quar := false }), pairFrame 1 0 9 5 0 0, 7, 1, _, arbTakes_of (by decide +kernel) (by decide +kernel) (by decide +kernel), by decide +kernel, by decide +kernel⟩,
    ⟨arbiting { ArbSt.zero with quar := true }, pairFrame 3 0 9 5 0 0, _, 7, 1, pairTakes_of (by decide +kernel), by decide +kernel, by decide +kernel, by decide +kernel⟩,
    ⟨withR [(R.ARB_TOKEN_LO 7, 2 ^ 25)] (withF [(R.ARB_FLAGS 7, F.ARB_FLAGS_PREF, 1)] (arbiting { ArbSt.zero with quar := false })), pairFrame 3 0 9 5 0 0, _, _, 7, 1, pairTakes_of (by decide +kernel), by decide +kernel, by decide +kernel, by decide +kernel, rfl, by decide +kernel⟩,
    ⟨withR [(R.ARB_TOKEN_LO 7, 2 ^ 25)] (arbiting { ArbSt.zero with quar := false }), pairFrame 3 0 9 5 0 0, _, _, 7, 1, pairTakes_of (by decide +kernel), by decide +kernel, by decide +kernel, by decide +kernel, rfl, by decide +kernel⟩,
    ⟨withR [(R.ARB_TOKEN_LO 7, 2 ^ 24)] (arbiting { ArbSt.zero with quar := false }), pairFrame 6 0 9 5 0 0, 7, 1, _, arbTakes_of (by decide +kernel) (by decide +kernel) (by decide +kernel), by decide +kernel, by decide +kernel, by decide +kernel⟩,
    ⟨withR [(R.ARB_TOKEN_LO 7, 2 ^ 25)] (arbiting { ArbSt.zero with releaser := some 1 }), pairFrame 9 0 9 5 0 0, 7, 1, _, arbTakes_of (by decide +kernel) (by decide +kernel) (by decide +kernel), by decide +kernel, by decide +kernel⟩,
    ⟨arbiting { ArbSt.zero with quar := false }, pairFrame 7 1 9 5 0 0, 7, 1, _, _, arbTakes_of (by decide +kernel) (by decide +kernel) (by decide +kernel), rfl, by decide +kernel⟩,
    ⟨arbiting { ArbSt.zero with results := [some true, none] }, pairFrame 7 1 9 5 0 0, 7, 1, _, _, arbTakes_of (by decide +kernel) (by decide +kernel) (by decide +kernel), rfl, by decide +kernel⟩,
    ⟨arbiting { ArbSt.zero with resT := some 0 }, 7#3, 3000000000, 0, by decide +kernel, by decide +kernel, by decide +kernel⟩,
    ⟨withF [(R.ARB_CTRL, F.ARB_CTRL_ARB_AUTO, 1)] (withR [(R.ARB_TOKEN_LO 7, 0)] (arbiting { ArbSt.zero with health := [64, 0] })), pairFrame 10 0 9 5 0 3, 7, 1, _, arbTakes_of (by decide +kernel) (by decide +kernel) (by decide +kernel), by decide +kernel, by decide +kernel, by decide +kernel⟩,
    ⟨linked, 102000000, by decide +kernel, by decide +kernel⟩,
    ⟨withF [(R.ARB_CTRL, F.ARB_CTRL_ARB_HOLDOFF, 0)] (arbiting { ArbSt.zero with firstReq := some 0 }), 7#3, 0, 0, by decide +kernel, by decide +kernel, by decide +kernel⟩⟩

/-- States and operands that meet the hypotheses of MessagesOfThePair, clause by clause. -/
theorem witness_MessagesOfThePair :
    (∃ (s : State) (f : RcpFrame) (u : State), s.pairTakes 0x31 4 f u ∧ u.ofPair f.payload u.arbiter = true ∧ u.arbSeen.pairState = 1) ∧
    (∃ (s : State) (f : RcpFrame) (u : State), s.pairTakes 0x31 4 f u ∧ u.ofPair f.payload u.arbiter = true ∧ u.arbSeen.pairState = 6) ∧
    (∃ (s : State) (f : RcpFrame) (u : State), s.pairTakes 0x31 5 f u ∧ u.ofPair f.payload u.arbiter = true ∧ fieldAt f.payload 1 1 = 3 ∧ (u.arbSeen.raise R.PAIR_ERR F.PAIR_ERR_DENIED).holdsToken = true) ∧
    (∃ (s : State) (f : RcpFrame) (u : State), s.pairTakes 0x31 5 f u ∧ u.ofPair f.payload u.arbiter = true ∧ fieldAt f.payload 1 1 ≠ 2 ∧ (u.arbSeen.raise R.PAIR_ERR F.PAIR_ERR_DENIED).holdsToken = false ∧ (u.arbSeen.raise R.PAIR_ERR F.PAIR_ERR_DENIED).pairState ≠ 6) ∧
    (∃ (s : State) (f : RcpFrame) (u : State) (v : State), s.pairTakes 0x31 8 f u ∧ u.ofPair f.payload u.arbiter = true ∧ fieldAt f.payload 1 1 = 2 ∧ u.flag R.PAIR_STATUS F.PAIR_STATUS_SUSPECT = false ∧ v = (u.drop R.PAIR_STATUS F.PAIR_STATUS_SUSPECT).modPair (fun x => { x with suspect := none }) ∧ v.pairState ≠ 5) ∧
    (∃ (s : State) (f : RcpFrame) (u : State) (v : State), s.pairTakes 0x31 8 f u ∧ u.ofPair f.payload u.arbiter = true ∧ fieldAt f.payload 1 1 = 2 ∧ u.flag R.PAIR_STATUS F.PAIR_STATUS_SUSPECT = false ∧ v = (u.drop R.PAIR_STATUS F.PAIR_STATUS_SUSPECT).modPair (fun x => { x with suspect := none }) ∧ v.pairState = 5) ∧
    (∃ (s : State) (silent : Nat) (sends : Nat), s.pairState ≠ 0 ∧ s.cableUp = true ∧ ((2000000 ≤ silent ∨ 8 ≤ sends))) ∧
    (∃ (s : State) (valid : Nat), s.pairState ≠ 0 ∧ s.cableUp = false ∧ 100 ≤ valid) ∧
    (∃ (s : State) (seq : BitVec 32) (q : Nat) (n : Nat) (b : List Byte), s.pair.sentFrames.find? (fun f => f.1 == seq.toNat) = some (q, n, b) ∧ s.cableUp = true ∧ n < 8) ∧
    (∃ (s : State) (t : Nat), s.pairState ≠ 0 ∧ s.pair.lastSend + 10000 ≤ t ∧ (s.at t).cableUp = true) ∧
    (∃ (s : State) (fs : List (Nat × List Byte)), ((s.pairState = 2 ∨ s.pairState = 3)) ∧ s.cableUp = true ∧ recordOk fs = false) ∧
    (∃ (s : State) (fs : List (Nat × List Byte)), ((s.pairState = 2 ∨ s.pairState = 3)) ∧ s.cableUp = true ∧ recordOk fs = true ∧ (s.learnPeer (fieldAt (recHead fs) 24 8) (fieldAt (recHead fs) 32 8) (fieldAt (recHead fs) 40 4)).pair.handover ≠ some (fieldAt (recHead fs) 0 8)) ∧
    (∃ (s : State) (n : Nat) (fs : List (Nat × List Byte)) (rest : List (Nat × List (Nat × List Byte))), s.pair.records = (n, fs) :: rest ∧ s.full = true ∧ s.replayOk = true ∧ s.pair.replay = none ∧ s.pair.replayed = none ∧ s.pairState = 3 ∧ s.img.run.logDie = none ∧ fieldAt (recHead fs) 8 4 % 4 ≠ 1) ∧
    (∃ (s : State), s.pairState = 5 ∧ s.cableUp = true) ∧
    (∃ (s : State), s.flag R.PAIR_STATUS F.PAIR_STATUS_SUSPECT = true ∧ s.pairState ≠ 0) ∧
    (∃ (s : State) (token : BitVec 64), s.pairState = 3 ∧ s.cableUp = true ∧ isPairWord token.toNat = true ∧ s.pair.cause ≠ 0) ∧
    (∃ (s : State) (token : BitVec 64) (n : BitVec 64), s.pairState = 3 ∧ s.cableUp = true ∧ isPairWord token.toNat = true ∧ s.pair.cause = 0 ∧ s.pair.records.find? (fun r => r.1 == n.toNat) = none) ∧
    (∃ (s : State) (token : BitVec 64), s.pairState = 6 ∧ s.cableUp = true ∧ isPairWord token.toNat = true) ∧
    (∃ (s : State) (t : Nat), s.pairState = 6 ∧ s.pair.handT + s.handoverNs ≤ t) ∧
    (∃ (s : State) (t : Nat), s.pairState = 4 ∧ s.pair.armed = true ∧ s.pair.armT + s.handoverNs ≤ t ∧ s.allOn = false) ∧
    (∃ (s : State) (token : BitVec 64), s.pairState = 5 ∧ s.cableUp = true ∧ isPairWord token.toNat = true) ∧
    (∃ (s : State) (op : Nat) (index : Nat) (w : Nat) (p : List Byte), s.holdsToken = true ∧ s.cableUp = true ∧ p.length = 16 ∧ fieldAt p 0 1 = op ∧ fieldAt p 2 2 = index ∧ fieldAt p 8 8 = w ∧ isPairWord w = true ∧ op ≠ 0) ∧
    (∃ (s : State) (p : List Byte), s.holdsToken = true ∧ s.cableUp = true ∧ ((List.range (p.length / 16)).all (fun i => isPairWord (fieldAt p (16 * i + 8) 8))) = false) ∧
    (∃ (s : State), s.pairState = 5 ∧ s.cableUp = true) ∧
    (∃ (s : State) (fs : List (Nat × List Byte)), s.pairState = 2 ∧ s.cableUp = true ∧ fs.all (fun f => pairsHold f.1 f.2) = true) ∧
    (∃ (s : State) (fs : List (Nat × List Byte)), s.pairState = 2 ∧ s.cableUp = true ∧ fs.all (fun f => pairsHold f.1 f.2) = false) ∧
    (∃ (s : State) (a : BitVec 64) (d : Nat) (k : Nat) (n : Bool), s.pairState = 3 ∧ s.full = true ∧ s.cableUp = true ∧ s.img.run.home a.toNat = some (d, k, n) ∧ (s.committedBlock (k / 64 * 64)).isEmpty = false) :=
  ⟨⟨member 1, pairFrame 4 0 0 0 0 0, _, pairTakes_of (by decide +kernel), by decide +kernel, by decide +kernel⟩,
    ⟨member 6, pairFrame 4 0 0 0 0 0, _, pairTakes_of (by decide +kernel), by decide +kernel, by decide +kernel⟩,
    ⟨member 4, pairFrame 5 3 0 0 0 0, _, pairTakes_of (by decide +kernel), by decide +kernel, by decide +kernel, by decide +kernel⟩,
    ⟨member 1, pairFrame 5 1 0 0 0 0, _, pairTakes_of (by decide +kernel), by decide +kernel, by decide +kernel, by decide +kernel, by decide +kernel⟩,
    ⟨member 3, pairFrame 8 2 0 0 0 0, _, _, pairTakes_of (by decide +kernel), by decide +kernel, by decide +kernel, by decide +kernel, rfl, by decide +kernel⟩,
    ⟨member 5, pairFrame 8 2 0 0 0 0, _, _, pairTakes_of (by decide +kernel), by decide +kernel, by decide +kernel, by decide +kernel, rfl, by decide +kernel⟩,
    ⟨member 3, 2000000, 0, by decide +kernel, by decide +kernel, by decide +kernel⟩,
    ⟨paired 3, 100, by decide +kernel, by decide +kernel, by decide +kernel⟩,
    ⟨{ member 3 with pair := { (member 3).pair with sentFrames := [(7, 7, [])] } }, 7#32, 7, 7, [], by decide +kernel, by decide +kernel, by decide +kernel⟩,
    ⟨member 3, 10000, by decide +kernel, by decide +kernel, by decide +kernel⟩,
    ⟨member 2, [], by decide +kernel, by decide +kernel, by decide +kernel⟩,
    ⟨member 3, recHeadOnly, by decide +kernel, by decide +kernel, by decide +kernel, by decide +kernel⟩,
    ⟨{ fullMember RunCfg.zero 3 with pair := { (member 3).pair with records := [(5, [])], peer := some (0, 0, 0) } }, 5, [], [], by decide +kernel, by decide +kernel, by decide +kernel, by decide +kernel, by decide +kernel, by decide +kernel, by decide +kernel, by decide +kernel⟩,
    ⟨member 5, by decide +kernel, by decide +kernel⟩,
    ⟨withF [(R.PAIR_STATUS, F.PAIR_STATUS_SUSPECT, 1)] (member 3), by decide +kernel, by decide +kernel⟩,
    ⟨{ member 3 with pair := { (member 3).pair with cause := 1 } }, BitVec.ofNat 64 (pairWord 1), by decide +kernel, by decide +kernel, by decide +kernel, by decide +kernel⟩,
    ⟨member 3, BitVec.ofNat 64 (pairWord 1), 0#64, by decide +kernel, by decide +kernel, by decide +kernel, by decide +kernel, by decide +kernel⟩,
    ⟨member 6, BitVec.ofNat 64 (pairWord 1), by decide +kernel, by decide +kernel, by decide +kernel⟩,
    ⟨member 6, 65535000000, by decide +kernel, by decide +kernel⟩,
    ⟨({ member 4 with pair := { (member 4).pair with armed := true } }).setReg64 (R.AO_COMMITTED_LO 15) 0, 65535000000, by decide +kernel, by decide +kernel, by decide +kernel, by decide +kernel⟩,
    ⟨member 5, BitVec.ofNat 64 (pairWord 1), by decide +kernel, by decide +kernel, by decide +kernel⟩,
    ⟨member 4, 1, 0, pairWord 0, leBytes 8 1 ++ leBytes 8 (pairWord 0), by decide +kernel, by decide +kernel, by decide +kernel, by decide +kernel, by decide +kernel, by decide +kernel, by decide +kernel, by decide +kernel⟩,
    ⟨member 4, leBytes 16 1, by decide +kernel, by decide +kernel, by decide +kernel⟩,
    ⟨member 5, by decide +kernel, by decide +kernel⟩,
    ⟨member 2, [], by decide +kernel, by decide +kernel, by decide +kernel⟩,
    ⟨member 2, [(0x11, leBytes 16 1)], by decide +kernel, by decide +kernel, by decide +kernel⟩,
    ⟨fullMember labCfg 3, 0x2000000000#64, 0, 0x2000000000, true, by decide +kernel, by decide +kernel, by decide +kernel, by decide +kernel, by decide +kernel⟩⟩

/-- States and operands that meet the hypotheses of CommandEntries, clause by clause. -/
theorem witness_CommandEntries :
    (∃ (s : State), s.host.begun = true ∧ ((s.pairState = 0 ∨ s.holdsToken = true))) ∧
    (∃ (s : State), s.host.begun = true ∧ ((s.pairState = 0 ∨ s.holdsToken = true))) ∧
    (∃ (s : State), s.host.begun = true ∧ ((s.pairState = 0 ∨ s.holdsToken = true))) ∧
    (∃ (s : State), s.host.begun = true ∧ ((s.pairState = 0 ∨ s.holdsToken = true))) ∧
    (∃ (s : State), s.host.begun = true ∧ ((s.pairState = 0 ∨ s.holdsToken = true))) ∧
    (∃ (s : State), s.host.begun = true ∧ ((s.pairState = 0 ∨ s.holdsToken = true))) ∧
    (∃ (s : State), s.host.begun = true ∧ ((s.pairState = 0 ∨ s.holdsToken = true))) ∧
    (∃ (s : State), s.host.begun = true ∧ ((s.pairState = 0 ∨ s.holdsToken = true))) ∧
    (∃ (s : State), s.host.begun = true ∧ ((s.pairState = 0 ∨ s.holdsToken = true))) ∧
    (∃ (s : State), s.host.begun = true ∧ ((s.pairState = 0 ∨ s.holdsToken = true))) ∧
    (∃ (s : State), s.host.begun = true ∧ ((s.pairState = 0 ∨ s.holdsToken = true))) ∧
    (∃ (s : State), s.host.begun = true ∧ ((s.pairState = 0 ∨ s.holdsToken = true))) ∧
    (∃ (s : State), s.host.begun = true ∧ ((s.pairState = 0 ∨ s.holdsToken = true))) ∧
    (∃ (s : State), s.host.begun = true ∧ ((s.pairState = 0 ∨ s.holdsToken = true))) ∧
    (∃ (s : State), (s.alm.queue.filter (fun e => e.src == .panel)).length < 16) ∧
    (∃ (s : State), (s.alm.queue.filter (fun e => e.src == .panel)).length < 16) ∧
    (∃ (s : State), (s.alm.queue.filter (fun e => e.src == .panel)).length < 16) ∧
    (∃ (s : State), (s.alm.queue.filter (fun e => e.src == .panel)).length < 16) ∧
    (∃ (s : State), (s.alm.queue.filter (fun e => e.src == .panel)).length < 16) ∧
    (∃ (s : State), (s.alm.queue.filter (fun e => e.src == .panel)).length < 16) :=
  ⟨⟨lab, by decide +kernel, by decide +kernel⟩,
    ⟨lab, by decide +kernel, by decide +kernel⟩,
    ⟨lab, by decide +kernel, by decide +kernel⟩,
    ⟨lab, by decide +kernel, by decide +kernel⟩,
    ⟨lab, by decide +kernel, by decide +kernel⟩,
    ⟨lab, by decide +kernel, by decide +kernel⟩,
    ⟨lab, by decide +kernel, by decide +kernel⟩,
    ⟨lab, by decide +kernel, by decide +kernel⟩,
    ⟨lab, by decide +kernel, by decide +kernel⟩,
    ⟨lab, by decide +kernel, by decide +kernel⟩,
    ⟨lab, by decide +kernel, by decide +kernel⟩,
    ⟨lab, by decide +kernel, by decide +kernel⟩,
    ⟨lab, by decide +kernel, by decide +kernel⟩,
    ⟨lab, by decide +kernel, by decide +kernel⟩,
    ⟨lab, by decide +kernel⟩,
    ⟨lab, by decide +kernel⟩,
    ⟨lab, by decide +kernel⟩,
    ⟨lab, by decide +kernel⟩,
    ⟨lab, by decide +kernel⟩,
    ⟨lab, by decide +kernel⟩⟩

/-- States and operands that meet the hypotheses of PointsClassesAndWatch, clause by clause. -/
theorem witness_PointsClassesAndWatch :
    (∃ (s : State) (p : BitVec 12) (r : PointRec), s.img.run.pointRec p.toNat = some r ∧ (s.point p.toNat).c ≠ (s.point p.toNat).active ∧ (if (s.point p.toNat).active then r.off else r.on) < (s.point p.toNat).timer + 1) ∧
    (∃ (s : State) (p : BitVec 12) (r : PointRec), s.img.run.pointRec p.toNat = some r ∧ (s.point p.toNat).bad ≠ 0 ∧ (s.point p.toNat).srcBad = false ∧ s.getF R.ALM_CTRL F.ALM_CTRL_BAD_DELAY ≤ (s.point p.toNat).bad + 1) ∧
    (∃ (s : State) (p : BitVec 12) (r : PointRec), s.img.run.pointRec p.toNat = some r ∧ r.source = 2 ∧ s.getF R.ALM_CTRL F.ALM_CTRL_SCORE_STALE ≠ 0 ∧ s.getF R.ALM_CTRL F.ALM_CTRL_SCORE_STALE ≤ (s.point p.toNat).age + 1) ∧
    (∃ (s : State) (p : BitVec 12) (r : PointRec), s.img.run.pointRec p.toNat = some r ∧ r.source = 3 ∧ (s.point p.toNat).bad = 0 ∧ s.getF R.RADIO_STALE F.RADIO_STALE_COMMITS ≤ (s.point p.toNat).age + 1) ∧
    (∃ (s : State) (p : BitVec 12) (r : PointRec), s.img.run.pointRec p.toNat = some r ∧ (s.point p.toNat).shelvd = true ∧ (s.point p.toNat).shelve = 1) ∧
    (∃ (s : State) (c : BitVec 4), s.clsState c.toNat = 1 ∧ s.clsLevel c.toNat < s.lastLevel c.toNat ∧ s.escOf c.toNat (s.clsLevel c.toNat) ≤ s.clsTimer c.toNat + 1) ∧
    (∃ (s : State) (c : BitVec 4), s.clsState c.toNat = 2 ∧ s.getF (R.CLASS_CFG c.toNat) F.CLASS_CFG_ACCEPT_EPOCHS ≠ 0 ∧ s.getF (R.CLASS_CFG c.toNat) F.CLASS_CFG_ACCEPT_EPOCHS ≤ s.clsTimer c.toNat + 1) ∧
    (∃ (s : State) (t : BitVec 6), s.targetKind t.toNat = 1 ∧ s.present t.toNat = true ∧ s.ageLimit ≤ kvGet (fun _ => 0) t.toNat s.alm.ages + 1) ∧
    (∃ (s : State) (t : BitVec 6), s.targetKind t.toNat = 1 ∧ ((s.pairState = 0 ∨ s.holdsToken = true))) ∧
    (∃ (s : State), s.watchState = 1 ∧ 1 < s.regN R.WATCH_REMAIN ∧ s.regN R.WATCH_REMAIN - 1 ≤ s.getF R.WATCH_PRE F.WATCH_PRE_EPOCHS) ∧
    (∃ (s : State), ((s.watchState = 1 ∨ s.watchState = 2)) ∧ s.regN R.WATCH_REMAIN ≤ 1) :=
  ⟨⟨(pointed 0 { PointSt.zero with c := true }), 0#12, (labCfg.pointRec 0).getD (pointRecOf []), by decide +kernel, by decide +kernel, by decide +kernel⟩,
    ⟨(pointed 0 { PointSt.zero with bad := 1000000 }), 0#12, (labCfg.pointRec 0).getD (pointRecOf []), by decide +kernel, by decide +kernel, by decide +kernel, by decide +kernel⟩,
    ⟨withF [(R.ALM_CTRL, F.ALM_CTRL_SCORE_STALE, 1)] (pointed 1 { PointSt.zero with age := 0 }), 1#12, (labCfg.pointRec 1).getD (pointRecOf []), by decide +kernel, by decide +kernel, by decide +kernel, by decide +kernel⟩,
    ⟨(pointed 2 { PointSt.zero with age := 1000000 }), 2#12, (labCfg.pointRec 2).getD (pointRecOf []), by decide +kernel, by decide +kernel, by decide +kernel, by decide +kernel⟩,
    ⟨(pointed 0 { PointSt.zero with st := 32, shelve := 1 }), 0#12, (labCfg.pointRec 0).getD (pointRecOf []), by decide +kernel, by decide +kernel, by decide +kernel⟩,
    ⟨withF [(R.CLASS_STATE 15, F.CLASS_STATE_STATE, 1), (R.LEVEL_CFG 15 0, F.LEVEL_L_CFG_ESC_EPOCHS, 1)] lab, 15#4, by decide +kernel, by decide +kernel, by decide +kernel⟩,
    ⟨withF [(R.CLASS_STATE 15, F.CLASS_STATE_STATE, 2), (R.CLASS_CFG 15, F.CLASS_CFG_ACCEPT_EPOCHS, 1)] lab, 15#4, by decide +kernel, by decide +kernel, by decide +kernel⟩,
    ⟨withF [(R.TARGET_CFG 63, F.TARGET_CFG_KIND, 1), (R.TARGET_STATUS 63, F.TARGET_STATUS_PRESENT, 1)] { lab with alm := { lab.alm with ages := [(63, 3000)] } }, 63#6, by decide +kernel, by decide +kernel, by decide +kernel⟩,
    ⟨withF [(R.TARGET_CFG 63, F.TARGET_CFG_KIND, 1)] lab, 63#6, by decide +kernel, by decide +kernel⟩,
    ⟨withF [(R.WATCH_STATUS, F.WATCH_STATUS_STATE, 1), (R.WATCH_PRE, F.WATCH_PRE_EPOCHS, 1)] (withR [(R.WATCH_REMAIN, 2)] lab), by decide +kernel, by decide +kernel, by decide +kernel⟩,
    ⟨withF [(R.WATCH_STATUS, F.WATCH_STATUS_STATE, 2)] lab, by decide +kernel, by decide +kernel⟩⟩

/-- States and operands that meet the hypotheses of TagCommands, clause by clause. -/
theorem witness_TagCommands :
    (∃ (s : State) (n : BitVec 7) (mask : BitVec 64) (t : Nat), (s.fieldSeen t).tag.quiet = false ∧ mask.toNat % 2 ^ min n.toNat 64 = Config.tagUid.toNat % 2 ^ min n.toNat 64) ∧
    (∃ (uid : BitVec 64), uid ≠ Config.tagUid) ∧
    (∃ (s : State) (uid : Option (BitVec 64)) (sel : Bool) (t : Nat), (s.fieldSeen t).tagTakes uid sel = true) ∧
    (∃ (s : State) (uid : Option (BitVec 64)) (sel : Bool) (t : Nat), (s.fieldSeen t).tagTakes uid sel = true) ∧
    (∃ (s : State) (uid : Option (BitVec 64)) (sel : Bool) (b : BitVec 16) (ext : Bool) (t : Nat), (s.fieldSeen t).tagTakes uid sel = true ∧ blockNo b ext < 2032) ∧
    (∃ (s : State) (uid : Option (BitVec 64)) (sel : Bool) (b : BitVec 16) (ext : Bool) (lock : Bool) (t : Nat), (s.fieldSeen t).tagTakes uid sel = true ∧ 832 ≤ blockNo b ext ∧ blockNo b ext < 2032 ∧ ((lock = false ∨ (s.fieldSeen t).tag.session = true))) ∧
    (∃ (s : State) (uid : Option (BitVec 64)) (sel : Bool) (b : BitVec 16) (n : BitVec 16) (ext : Bool) (t : Nat), (s.fieldSeen t).tagTakes uid sel = true ∧ 1 ≤ n.toNat ∧ n.toNat ≤ 32 ∧ blockNo b ext + n.toNat ≤ 2032) ∧
    (∃ (s : State) (uid : Option (BitVec 64)) (sel : Bool) (b : BitVec 16) (n : BitVec 16) (ext : Bool) (t : Nat), (s.fieldSeen t).tagTakes uid sel = true ∧ 1 ≤ n.toNat ∧ blockNo b ext + n.toNat ≤ 2032) ∧
    (∃ (s : State) (t : Nat), s.tag.session = true ∧ s.tag.lastField + 50000000 ≤ t ∧ s.pwr.up = false) ∧
    (∃ (s : State) (t : Nat), s.tag.session = true ∧ s.tag.lastField + 50000000 ≤ t ∧ s.pwr.up = true) :=
  ⟨⟨lab, 64#7, Config.tagUid, 0, by decide +kernel, rfl⟩,
    ⟨Config.tagUid + 1#64, by simp⟩,
    ⟨lab, none, false, 0, by decide +kernel⟩,
    ⟨lab, none, false, 0, by decide +kernel⟩,
    ⟨lab, none, false, 2031#16, true, 0, by decide +kernel, by decide +kernel⟩,
    ⟨lab, none, false, 832#16, true, false, 0, by decide +kernel, by decide +kernel, by decide +kernel, by decide +kernel⟩,
    ⟨lab, none, false, 2000#16, 32#16, true, 0, by decide +kernel, by decide +kernel, by decide +kernel, by decide +kernel⟩,
    ⟨lab, none, false, 0#16, 2032#16, false, 0, by decide +kernel, by decide +kernel, by decide +kernel⟩,
    ⟨{ State.reset with tag := { lab.tag with session := true } }, 50000000, by decide +kernel, by decide +kernel, by decide +kernel⟩,
    ⟨{ lab with tag := { lab.tag with session := true } }, 50000000, by decide +kernel, by decide +kernel, by decide +kernel⟩⟩

/-- States and operands that meet the hypotheses of PanelButtons, clause by clause. -/
theorem witness_PanelButtons :
    (∃ (s : State) (t : Nat) (u : State), s.pressed t u ∧ u.flag R.PANEL_CTRL F.PANEL_CTRL_ACK_EN = true ∧ ((u.pairState = 0 ∨ u.holdsToken = true))) ∧
    (∃ (s : State) (t : Nat) (u : State), s.pressed t u ∧ u.flag R.PANEL_CTRL F.PANEL_CTRL_ACK_EN = true ∧ u.pairState ≠ 0 ∧ u.holdsToken = false) ∧
    (∃ (s : State) (t : Nat) (u : State), s.pressed t u ∧ u.trimKind ≠ 1 ∧ u.trimBarred = false ∧ u.panel.sel = none) ∧
    (∃ (s : State) (t : Nat) (u : State) (c : Nat), s.pressed t u ∧ u.trimKind ≠ 1 ∧ u.trimBarred = false ∧ u.panel.sel = some c) ∧
    (∃ (s : State) (t : Nat) (u : State), s.pressed t u ∧ u.trimKind = 1 ∧ u.trimBarred = false) ∧
    (∃ (s : State) (t : Nat) (u : State) (c : Nat), s.pressed t u ∧ u.trimKind ≠ 1 ∧ u.trimBarred = false ∧ u.panel.sel = some c) ∧
    (∃ (s : State) (t : Nat) (u : State), s.pressed t u ∧ u.trimKind ≠ 1 ∧ u.panel.sel = none) ∧
    (∃ (s : State) (t : Nat) (u : State), s.pressed t u ∧ u.trimKind = 1 ∧ u.trimBarred = false) ∧
    (∃ (s : State) (t : Nat) (u : State), s.pressed t u ∧ u.trimKind = 1 ∧ u.trimBarred = false) ∧
    (∃ (s : State), s.buttonsOn = true ∧ s.trimKind = 1 ∧ s.trimBarred = false) ∧
    (∃ (s : State), s.buttonsOn = true ∧ s.trimKind ≠ 1) ∧
    (∃ (s : State) (t : Nat), s.panel.sel.isSome = true ∧ s.panel.pressT + 10000000000 ≤ t) ∧
    (∃ (s : State) (t : Nat) (t0 : Nat) (m : Nat), s.panel.msg = some (m, t0) ∧ t0 + 2000000000 ≤ t) :=
  ⟨⟨lab, 0, _, pressed_of (by decide +kernel), by decide +kernel, by decide +kernel⟩,
    ⟨paired 3, 0, _, pressed_of (by decide +kernel), by decide +kernel, by decide +kernel, by decide +kernel⟩,
    ⟨lab, 0, _, pressed_of (by decide +kernel), by decide +kernel, by decide +kernel, by decide +kernel⟩,
    ⟨{ lab with panel := { lab.panel with sel := some 31 } }, 0, _, 31, pressed_of (by decide +kernel), by decide +kernel, by decide +kernel, by decide +kernel⟩,
    ⟨withF [(R.TRIM_STATUS, F.TRIM_STATUS_SESSION, 1)] lab, 0, _, pressed_of (by decide +kernel), by decide +kernel, by decide +kernel⟩,
    ⟨{ lab with panel := { lab.panel with sel := some 31 } }, 0, _, 31, pressed_of (by decide +kernel), by decide +kernel, by decide +kernel, by decide +kernel⟩,
    ⟨lab, 0, _, pressed_of (by decide +kernel), by decide +kernel, by decide +kernel⟩,
    ⟨withF [(R.TRIM_STATUS, F.TRIM_STATUS_SESSION, 1)] lab, 0, _, pressed_of (by decide +kernel), by decide +kernel, by decide +kernel⟩,
    ⟨withF [(R.TRIM_STATUS, F.TRIM_STATUS_SESSION, 1)] lab, 0, _, pressed_of (by decide +kernel), by decide +kernel, by decide +kernel⟩,
    ⟨withF [(R.TRIM_STATUS, F.TRIM_STATUS_SESSION, 1)] lab, by decide +kernel, by decide +kernel, by decide +kernel⟩,
    ⟨lab, by decide +kernel, by decide +kernel⟩,
    ⟨{ lab with panel := { lab.panel with sel := some 31 } }, 10000000000, by decide +kernel, by decide +kernel⟩,
    ⟨{ lab with panel := { lab.panel with msg := some (3, 0) } }, 2000000000, 0, 3, by decide +kernel, by decide +kernel⟩⟩

/-- States and operands that meet the hypotheses of SessionsKeysAndStores, clause by clause. -/
theorem witness_SessionsKeysAndStores :
    (∃ (s : State) (id : BitVec 32) (t : Nat) (y : SessSt), s.openSess id.toNat = some y ∧ y.last + s.getF R.HOSTIF_CTRL F.HOSTIF_CTRL_SESS_IDLE * 1000000000 ≤ t) ∧
    (∃ (s : State) (e : Nat) (t : Nat), s.host.window = some e ∧ e ≤ t) ∧
    (∃ (s : State) (o : SecOp), s.host.secOp = some o) ∧
    (∃ (s : State) (o : SecOp), s.host.secOp = some o) ∧
    (∃ (s : State) (k : Nat) (bs : List Byte) (rest : List (Nat × List Byte)), s.tag.logQ = (k, bs) :: rest ∧ s.pwr.up = true) ∧
    (∃ (s : State) (k : Nat) (bs : List Byte) (rest : List (Nat × List Byte)), s.tag.logQ = (k, bs) :: rest ∧ s.pwr.up = true) ∧
    (∃ (s : State) (r : TagRec) (ws : List Word) (u : State), s.pwr.up = true ∧ s.tag.mbxDue = true ∧ s.flag R.TAG_CTRL F.TAG_CTRL_MBX_EN = true ∧ s.flag R.TAG_STATUS F.TAG_STATUS_TAG_OK = true ∧ s.tagRecord mailbox = some r ∧ r.kind = 0x10 ∧ s.tag.answered ≠ some (fieldAt r.payload 0 4) ∧ s.tag.session = false ∧ s.host.begun = true ∧ r.payload.length = 12 ∧ fieldAt r.payload 4 1 = 1 ∧ fieldAt r.payload 5 1 ≠ 0 ∧ fieldAt r.payload 5 1 ≤ 32 ∧ fieldAt r.payload 6 2 = 0 ∧ s.readBlock .mailbox 0 (fieldAt r.payload 8 4) (fieldAt r.payload 5 1) = (0, ws, u)) :=
  ⟨⟨sessioned, 9#32, 65535000000000, ⟨9, 0, 3, copies 32 1#8, 0, none⟩, by decide +kernel, by decide +kernel⟩,
    ⟨{ lab with host := { lab.host with window := some 5 } }, 5, 5, by decide +kernel, by decide +kernel⟩,
    ⟨{ lab with host := { lab.host with secOp := some ⟨1, 0, 0, []⟩ } }, ⟨1, 0, 0, []⟩, by decide +kernel⟩,
    ⟨{ lab with host := { lab.host with secOp := some ⟨1, 0, 0, []⟩ } }, ⟨1, 0, 0, []⟩, by decide +kernel⟩,
    ⟨{ lab with tag := { lab.tag with logQ := [(4, [1#8])] } }, 4, [1#8], [], by decide +kernel, by decide +kernel⟩,
    ⟨{ lab with tag := { lab.tag with logQ := [(4, [1#8])] } }, 4, [1#8], [], by decide +kernel, by decide +kernel⟩,
    ⟨mailed, mailRec, _, _, by decide +kernel, by decide +kernel, by decide +kernel, by decide +kernel, by decide +kernel, by decide +kernel, by decide +kernel, by decide +kernel, by decide +kernel, by decide +kernel, by decide +kernel, by decide +kernel, by decide +kernel, by decide +kernel, triple_of (by decide +kernel)⟩⟩

end Sys2Proof.Tests
end

section
/-! The refusals of ACCEPT_STEP: a step that is not due is rejected in TIME_ERR, and a role below maintainer stops at the check
of rights (O14). -/

namespace Sys2Proof.Machine

/-! ### What a register reads after a write to another one -/

/-- The paths of the host are no register. -/
@[simp] theorem State.setPath_reg (s : State) (x : PathSt) (a : Nat) : (s.setPath x).reg a = s.reg a := rfl

/-- Nor is a path's snapshot or hold. -/
@[simp] theorem State.dropHold_reg (s : State) (p : Path) (a : Nat) : (s.dropHold p).reg a = s.reg a := rfl

/-- A register write leaves every other register. -/
theorem State.setReg_reg_of_ne (s : State) {a b : Nat} (v : Word) (h : b ≠ a) : (s.setReg a v).reg b = s.reg b := by
  rw [State.reg, State.setReg, kvGet_kvSet, if_neg h, State.reg]

/-- A counter leaves every other register. -/
theorem State.inc_reg_of_ne (s : State) {a b : Nat} (h : b ≠ a) : (s.inc a).reg b = s.reg b :=
  s.setReg_reg_of_ne _ h

/-- A flag that is raised leaves every other register. -/
theorem State.raise_reg_of_ne (s : State) {a b : Nat} (f : Fld) (h : b ≠ a) : (s.raise a f).reg b = s.reg b :=
  s.setReg_reg_of_ne _ h

/-- DENIED is noted in DENIED_CNT and HOSTIF_ERR alone (R561). -/
theorem State.denied_reg_of_ne (s : State) {a : Nat} (hc : a ≠ R.DENIED_CNT) (he : a ≠ R.HOSTIF_ERR) :
    s.denied.reg a = s.reg a := by
  rw [State.denied, State.raise_reg_of_ne _ _ he, State.inc_reg_of_ne _ hc]

/-! ### A write that lacks the rights -/

/-- An address outside the compute dies is in no die without power. -/
theorem State.dieDark_of_dieAddr_none (s : State) {a : Nat} (h : dieAddr a = none) : s.dieDark a = false := by
  simp [State.dieDark, h]

/-- An address outside the compute dies is in no debug window. -/
theorem isDebug_of_dieAddr_none {a : Nat} (h : dieAddr a = none) : isDebug a = false := by
  simp [isDebug, h]

/-- The hub's registers answer DENIED to a role below the one they need. -/
theorem State.gate_of_role_lt (s : State) (p : Path) {role need a : Nat} (ha : dieAddr a = none) (h : role < need) :
    s.gate p role need a = 2 := by
  simp [State.gate, s.dieDark_of_dieAddr_none ha, isDebug_of_dieAddr_none ha, h]

/-- A hub register write from a role below the one it needs only drops the path's hold and counts DENIED (R561). -/
theorem State.hostWrite_of_role_lt {s : State} {p : Path} {role a v : Nat} (hb : s.host.begun = true)
    (ha : dieAddr a = none) (h : s.roleOf p role < s.writeRole a v) :
    s.hostWrite p role a v = (s.dropHold p).denied := by
  simp [State.hostWrite, State.writeOne, State.noteFail, hb, s.gate_of_role_lt p ha h]

/-! ### ACCEPT_STEP -/

/-- TIME_CMD needs the maintainer (Table 19.2). -/
theorem State.writeRole_timeCmd (s : State) (v : Nat) : s.writeRole R.TIME_CMD v = 3 := rfl

/-- TIME_CMD is a command register of the hub, taken from one 4-byte write. -/
theorem oneWrite_timeCmd : oneWrite R.TIME_CMD = true := by decide +kernel

/-- The write of TIME_CMD.ACCEPT_STEP is the command itself. -/
theorem State.effect_timeCmd (s : State) (p : Path) (role : Nat) : s.effect p role R.TIME_CMD 1 = (0, s.acceptStep) := rfl

/-- R65: with DIVERGED clear or the offset negative the command is rejected. -/
theorem State.acceptStep_rejected {s : State}
    (h : s.flag R.TIME_STATUS F.TIME_STATUS_DIVERGED = false ∨ s.time.offset < 0) :
    s.acceptStep = s.raise R.TIME_ERR F.TIME_ERR_CMD_REJECT := by
  have notDue : ¬(s.flag R.TIME_STATUS F.TIME_STATUS_DIVERGED = true ∧ 0 < s.time.offset) := by
    rintro ⟨hd, ho⟩
    rcases h with hclear | hback
    · simp [hd] at hclear
    · omega
  exact if_neg notDue

/-- ACCEPT_STEP is the write of 1 to TIME_CMD. -/
theorem exec_acceptStep (p : Path) (role : BitVec 2) (s : State) :
    exec (.acceptStep p role) s = .next (State.settle (s.hostWrite p role.toNat R.TIME_CMD 1)) := rfl

/-- Settles O14: an accepted write is the command, which rejects a step that is not due; a role below maintainer stops at the check of
rights, whose two registers are not TIME_ERR. -/
theorem acceptStepRefusals : Obligations.AcceptStepRefusals := by
  intro s u p role
  refine ⟨fun hacc hrej => ?rejected, fun hb hrole => ⟨?denied, ?timeErr⟩⟩
  case rejected =>
    rw [exec_acceptStep, State.hostWrite_of hacc oneWrite_timeCmd, State.effect_timeCmd, State.acceptStep_rejected hrej]
  case denied =>
    have hlow : s.roleOf p role.toNat < s.writeRole R.TIME_CMD 1 := by rwa [State.writeRole_timeCmd]
    rw [exec_acceptStep, State.hostWrite_of_role_lt hb (by decide) hlow]
  case timeErr =>
    rw [State.denied_reg_of_ne _ (by decide) (by decide), State.dropHold_reg]

end Sys2Proof.Machine
end

section
/-! The predicate field of a slot word: the register it names, its inversion, and its reserved encoding (O15). -/

namespace Sys2Proof.Machine

/-! ### The parts of the predicate field -/

/-- PRED [2:0] is bits [10:8] of the slot word. -/
theorem bitsOf_slotPred (w : Nat) : bitsOf (slotPred w) 2 0 = bitsOf w 10 8 := by
  simp only [slotPred, bitsOf]
  omega

/-- PRED [3] is bit [11] of the slot word. -/
theorem bitOf_slotPred (w : Nat) : bitOf (slotPred w) 3 = bitOf w 11 := by
  have hbit : bitsOf w 11 8 / 2 ^ 3 % 2 = w / 2 ^ 11 % 2 := by
    simp only [bitsOf]
    omega
  simp only [slotPred, bitOf, hbit]

/-- R201: a slot word with a predicate is not the all-zero word of a NOP. -/
theorem ne_zero_of_slotPred {w : Nat} (h : slotPred w ≠ 0) : w ≠ 0 := by
  rintro rfl
  exact h rfl

/-! ### What the field decides -/

/-- p0 reads true. -/
theorem SeqRegs.get_p0 (r : SeqRegs) : r.get ⟨.p, 0⟩ = 1 := rfl

/-- R200: the predicate register named by PRED [2:0], inverted by PRED [3]. -/
theorem predOn_eq_xor (r : SeqRegs) (w : Nat) :
    predOn r w = Bool.xor (r.get ⟨.p, bitsOf (slotPred w) 2 0⟩ == 1) (bitOf (slotPred w) 3) := by
  cases hinv : bitOf (slotPred w) 3 <;> simp [predOn, hinv]

/-- R200: PRED 0 names p0 and does not invert it. -/
theorem predOn_of_slotPred_zero (r : SeqRegs) {w : Nat} (h : slotPred w = 0) : predOn r w = true := by
  have hname : bitsOf 0 2 0 = 0 := rfl
  have hinv : bitOf 0 3 = false := rfl
  simp [predOn_eq_xor, h, hname, hinv, r.get_p0]

/-- R200, R203: the reserved PRED 8 is illegal in every slot, with the OP of a NOP because a NOP is all zero. -/
theorem slotLegal_of_slotPred_eight (i j : Nat) {w : Nat} (h : slotPred w = 8) : slotLegal i j w = false := by
  by_cases hnop : slotOp w = 0
  · have hw : w ≠ 0 := ne_zero_of_slotPred (by simp [h])
    simp [slotLegal, hnop, hw]
  · simp [slotLegal, hnop, h]

/-- Settles O15: bits [11:8] are PRED, whose low three bits name the register and whose top bit inverts it. -/
theorem predicateField : Obligations.PredicateField := by
  intro r w
  refine ⟨?xor, predOn_of_slotPred_zero r, fun i j => slotLegal_of_slotPred_eight i j⟩
  case xor => rw [predOn_eq_xor, bitsOf_slotPred, bitOf_slotPred]

end Sys2Proof.Machine
end

section
/-! Loss and return of a supply feed (O16, R394), and what a register and its fields read after a write. -/

namespace Sys2Proof.Machine

/-! ### The fields of a word -/

/-- A field write replaces the field's bits, and keeps those below and above it. -/
theorem Fld.set_toNat {f : Fld} (hf : f.lo + f.width ≤ 32) (v : Nat) (w : Word) :
    (f.set v w).toNat =
      w.toNat % 2 ^ f.lo + 2 ^ f.lo * (v % 2 ^ f.width + 2 ^ f.width * (w.toNat / 2 ^ f.lo / 2 ^ f.width)) := by
  obtain ⟨k, hk⟩ := Nat.exists_eq_add_of_le hf
  have hword : 2 ^ 32 = 2 ^ f.lo * (2 ^ f.width * 2 ^ k) := by rw [← pow_add, ← pow_add, ← add_assoc, ← hk]
  have hhigh : w.toNat / 2 ^ f.lo / 2 ^ f.width < 2 ^ k :=
    Nat.div_lt_of_lt_mul (Nat.div_lt_of_lt_mul (hword ▸ w.isLt))
  have hbound : w.toNat % 2 ^ f.lo + 2 ^ f.lo * (v % 2 ^ f.width + 2 ^ f.width * (w.toNat / 2 ^ f.lo / 2 ^ f.width))
      < 2 ^ 32 := by
    rw [hword]
    exact Nat.add_mul_lt_mul_of_lt_of_lt (Nat.mod_lt _ (by positivity))
      (Nat.add_mul_lt_mul_of_lt_of_lt (Nat.mod_lt _ (by positivity)) hhigh)
  have hsplit : w.toNat =
      w.toNat % 2 ^ f.lo + (2 ^ f.lo * f.get w + 2 ^ f.lo * (2 ^ f.width * (w.toNat / 2 ^ f.lo / 2 ^ f.width))) := by
    rw [Fld.get, ← mul_add, Nat.mod_add_div, Nat.mod_add_div]
  rw [Fld.set, BitVec.toNat_ofNat, ← Nat.mod_eq_of_lt hbound, mul_add, mul_comm (f.get w), mul_comm (v % _)]
  congr 1
  omega

/-- A field write keeps the bits below the field. -/
theorem Fld.set_toNat_mod {f : Fld} (hf : f.lo + f.width ≤ 32) (v : Nat) (w : Word) :
    (f.set v w).toNat % 2 ^ f.lo = w.toNat % 2 ^ f.lo := by
  rw [Fld.set_toNat hf, Nat.add_mul_mod_self_left, Nat.mod_mod]

/-- From the field up, a word with the field written holds the new value under the bits above the field. -/
theorem Fld.set_toNat_div {f : Fld} (hf : f.lo + f.width ≤ 32) (v : Nat) (w : Word) :
    (f.set v w).toNat / 2 ^ f.lo = v % 2 ^ f.width + 2 ^ f.width * (w.toNat / 2 ^ f.lo / 2 ^ f.width) := by
  rw [Fld.set_toNat hf, Nat.add_mul_div_left _ _ (by positivity), Nat.mod_div_self, zero_add]

/-- A field reads what was written to it, in its width. -/
theorem Fld.get_set_self {f : Fld} (hf : f.lo + f.width ≤ 32) (v : Nat) (w : Word) :
    f.get (f.set v w) = v % 2 ^ f.width := by
  rw [Fld.get, Fld.set_toNat_div hf, Nat.add_mul_mod_self_left, Nat.mod_mod]

/-- Two fields of a word have no bit in common. -/
def Fld.apart (f g : Fld) : Prop := f.lo + f.width ≤ g.lo ∨ g.lo + g.width ≤ f.lo

/-- A field write leaves the fields apart from it. -/
theorem Fld.get_set_of_apart {f g : Fld} (hf : f.lo + f.width ≤ 32) (h : f.apart g) (v : Nat) (w : Word) :
    g.get (f.set v w) = g.get w := by
  rcases h with habove | hbelow
  case inl =>
    obtain ⟨k, hk⟩ := Nat.exists_eq_add_of_le habove
    have hhigh : (f.set v w).toNat / 2 ^ f.lo / 2 ^ f.width = w.toNat / 2 ^ f.lo / 2 ^ f.width := by
      rw [Fld.set_toNat_div hf, Nat.add_mul_div_left _ _ (by positivity), Nat.mod_div_self, zero_add]
    simp only [Fld.get, hk, pow_add, ← Nat.div_div_eq_div_mul, hhigh]
  case inr =>
    have hdvd : 2 ^ (g.lo + g.width) ∣ 2 ^ f.lo := pow_dvd_pow 2 hbelow
    rw [Fld.get, Fld.get, ← Nat.mod_mul_right_div_self, ← Nat.mod_mul_right_div_self, ← pow_add,
      ← Nat.mod_mod_of_dvd _ hdvd, Fld.set_toNat_mod hf, Nat.mod_mod_of_dvd _ hdvd]

/-! ### What a register reads after a write to it -/

/-- A register reads what was written to it. -/
@[simp] theorem State.setReg_reg_self (s : State) (a : Nat) (v : Word) : (s.setReg a v).reg a = v := by
  rw [State.reg, State.setReg, kvGet_kvSet, if_pos rfl]

/-- A number of 32 bits written to a register is read back. -/
theorem State.setRegN_regN_self (s : State) {a n : Nat} (h : n < 2 ^ 32) : (s.setRegN a n).regN a = n := by
  rw [State.regN, State.setRegN, State.setReg_reg_self, BitVec.toNat_ofNat, Nat.mod_eq_of_lt h]

/-- A flag that is cleared leaves every other register. -/
theorem State.drop_reg_of_ne (s : State) {a b : Nat} (f : Fld) (h : b ≠ a) : (s.drop a f).reg b = s.reg b :=
  s.setReg_reg_of_ne _ h

/-- A flag reads as before when its register does. -/
theorem State.flag_congr {s t : State} {a : Nat} (h : t.reg a = s.reg a) (f : Fld) : t.flag a f = s.flag a f := by
  rw [State.flag, State.getF, h, State.flag, State.getF]

/-- A one-bit flag that is raised is set. -/
theorem State.raise_flag_self (s : State) (a : Nat) {f : Fld} (hf : f.lo < 32) (hw : f.width = 1) :
    (s.raise a f).flag a f = true := by
  rw [State.flag, State.getF, State.raise, State.setF, State.setReg_reg_self, Fld.get_set_self (by omega), hw]
  rfl

/-- A flag that is cleared is clear. -/
theorem State.drop_flag_self (s : State) (a : Nat) {f : Fld} (hf : f.lo + f.width ≤ 32) :
    (s.drop a f).flag a f = false := by
  rw [State.flag, State.getF, State.drop, State.setF, State.setReg_reg_self, Fld.get_set_self hf, Nat.zero_mod]
  rfl

/-- A field write leaves the flags of the same register apart from it. -/
theorem State.setF_flag_of_apart (s : State) (a v : Nat) {f g : Fld} (hf : f.lo + f.width ≤ 32) (h : f.apart g) :
    (s.setF a f v).flag a g = s.flag a g := by
  rw [State.flag, State.getF, State.setF, State.setReg_reg_self, Fld.get_set_of_apart hf h, State.flag, State.getF]

/-! ### A calm state -/

/-- Whether a state is calm depends on its recovery record alone. -/
theorem State.calm_of_rcv_eq {s t : State} (hs : s.calm = true) (h : t.rcv = s.rcv) : t.calm = true := by
  rwa [State.calm, h]

/-- A calm state has nothing to resolve at the end of a command. -/
theorem State.settle_of_calm {s : State} (h : s.calm = true) : s.settle = s := by
  simp only [State.calm, Bool.and_eq_true, Option.isNone_iff_eq_none] at h
  obtain ⟨⟨⟨hstop, hnotes⟩, hlost⟩, hcharged⟩ := h
  have hlatent : s.chargeLatent = s := by simp [State.chargeLatent, hcharged]
  have hdue : s.rollbackDue = false := by simp [State.rollbackDue, hnotes, hlost]
  simp [State.settle, hlatent, hdue, hstop]

/-! ### The registers of a feed -/

/-- FEED_x_OK is one bit of PWR_STATUS. -/
theorem feedFld_width (b : Bool) : (feedFld b).width = 1 := by cases b <;> rfl

/-- It is one of the two low bits. -/
theorem feedFld_lo_lt (b : Bool) : (feedFld b).lo < 2 := by cases b <;> decide

/-- FEED_x_OK lies within the register. -/
theorem feedFld_fits (b : Bool) : (feedFld b).lo + (feedFld b).width ≤ 32 := by
  rw [feedFld_width]
  exact (feedFld_lo_lt b).trans (by decide)

/-- The two feeds have their own bits. -/
theorem feedFld_apart (b : Bool) : (feedFld b).apart (feedFld (!b)) := by
  cases b
  · exact .inl (by decide)
  · exact .inr (by decide)

/-- A feed's reading is not PWR_STATUS. -/
theorem feedMv_ne_pwrStatus (b : Bool) : feedMv b ≠ R.PWR_STATUS := by cases b <;> decide

/-- Nor is it PWR_ERR. -/
theorem feedMv_ne_pwrErr (b : Bool) : feedMv b ≠ R.PWR_ERR := by cases b <;> decide

/-! ### FEED_LOST and FEED_RESTORED -/

/-- FEED_LOST is the loss of the feed. -/
theorem exec_feedLost (b : Bool) (mv : BitVec 16) (s : State) :
    exec (.feedLost b mv) s = .next (s.feedLost b mv.toNat).settle := rfl

/-- FEED_RESTORED is the return of the feed. -/
theorem exec_feedRestored (b : Bool) (mv : BitVec 16) (s : State) :
    exec (.feedRestored b mv) s = .next (s.feedRestored b mv.toNat).settle := rfl

/-- R394: below 17.0 V the feed is lost. -/
theorem State.feedLost_of_lt (s : State) (b : Bool) {mv : Nat} (h : mv < 17000) :
    s.feedLost b mv =
      ((s.setRegN (feedMv b) mv).drop R.PWR_STATUS (feedFld b)).raise R.PWR_ERR F.PWR_ERR_FEED_LOST :=
  if_pos h

/-- R394: at 18.0 V or more, in a reading of 16 bits, the feed is back. -/
theorem State.feedRestored_of_le (s : State) (b : Bool) {mv : BitVec 16} (h : 18000 ≤ mv.toNat) :
    s.feedRestored b mv.toNat = (s.setRegN (feedMv b) mv.toNat).raise R.PWR_STATUS (feedFld b) := by
  rw [State.feedRestored, if_pos h, Nat.mod_eq_of_lt mv.isLt]

/-- The reading of a feed is no flag of PWR_STATUS. -/
theorem State.setRegN_feedMv_flag (s : State) (b : Bool) (n : Nat) (f : Fld) :
    (s.setRegN (feedMv b) n).flag R.PWR_STATUS f = s.flag R.PWR_STATUS f :=
  State.flag_congr (s.setReg_reg_of_ne _ (feedMv_ne_pwrStatus b).symm) f

/-- Settles O16: both commands write the feed's reading and its bit of PWR_STATUS, a loss PWR_ERR too; a calm state has nothing to
settle after them. -/
theorem feedsComeAndGo : Obligations.FeedsComeAndGo := by
  intro s b mv
  have hreading : mv.toNat < 2 ^ 32 := mv.isLt.trans (by decide)
  have hstatusErr : R.PWR_STATUS ≠ R.PWR_ERR := by decide
  refine ⟨fun hcalm hlow => ?lost, fun hcalm hhigh => ?restored⟩
  case lost =>
    refine ⟨((s.setRegN (feedMv b) mv.toNat).drop R.PWR_STATUS (feedFld b)).raise R.PWR_ERR F.PWR_ERR_FEED_LOST,
      ?exec, ?cleared, ?other, ?noted, ?reading, ?regs, ?units⟩
    case exec =>
      rw [exec_feedLost, s.feedLost_of_lt b hlow, State.settle_of_calm]
      exact State.calm_of_rcv_eq hcalm (by simp)
    case cleared =>
      rw [State.flag_congr (State.raise_reg_of_ne _ _ hstatusErr), State.drop_flag_self _ _ (feedFld_fits b)]
    case other =>
      rw [State.flag_congr (State.raise_reg_of_ne _ _ hstatusErr), State.drop,
        State.setF_flag_of_apart _ _ _ (feedFld_fits b) (feedFld_apart b), State.setRegN_feedMv_flag]
    case noted => exact State.raise_flag_self _ _ (by decide) rfl
    case reading =>
      rw [State.regN, State.raise_reg_of_ne _ _ (feedMv_ne_pwrErr b), State.drop_reg_of_ne _ _ (feedMv_ne_pwrStatus b)]
      exact s.setRegN_regN_self hreading
    case regs =>
      intro a hstatus herr hmv
      rw [State.raise_reg_of_ne _ _ herr, State.drop_reg_of_ne _ _ hstatus, State.setRegN, State.setReg_reg_of_ne _ _ hmv]
    case units => simp
  case restored =>
    refine ⟨(s.setRegN (feedMv b) mv.toNat).raise R.PWR_STATUS (feedFld b), ?exec, ?set, ?other, ?reading, ?regs, ?units⟩
    case exec =>
      rw [exec_feedRestored, s.feedRestored_of_le b hhigh, State.settle_of_calm]
      exact State.calm_of_rcv_eq hcalm (by simp)
    case set => exact State.raise_flag_self _ _ ((feedFld_lo_lt b).trans (by decide)) (feedFld_width b)
    case other =>
      rw [State.raise, State.setF_flag_of_apart _ _ _ (feedFld_fits b) (feedFld_apart b), State.setRegN_feedMv_flag]
    case reading =>
      rw [State.regN, State.raise_reg_of_ne _ _ (feedMv_ne_pwrStatus b)]
      exact s.setRegN_regN_self hreading
    case regs =>
      intro a hstatus hmv
      rw [State.raise_reg_of_ne _ _ hstatus, State.setRegN, State.setReg_reg_of_ne _ _ hmv]
    case units => simp

end Sys2Proof.Machine
end

section
/-! The checks of Table 19.4 in their order: a higher role passes what a lower one passes (O12, R559), and an access to a compute
die without power ends at the first of them (O13, R575). -/

namespace Sys2Proof.Machine

/-! ### What passes the checks -/

/-- An access passes when its address is in no die without power, a debug window is open to it, its role suffices, and something
stands at its address. -/
theorem State.gate_eq_zero_iff (s : State) (p : Path) (role need a : Nat) :
    s.gate p role need a = 0 ↔
      s.dieDark a = false ∧ (isDebug a = true → s.debugOk p role = true) ∧ need ≤ role ∧ isMapped a = true := by
  unfold State.gate
  split_ifs with hdark hwindow hrole hunmapped
  · simp [hdark]
  · simp_all
  · simp [Nat.not_le.mpr hrole]
  · simp_all
  · simp_all

/-- R581: the maintainer is the highest role, so a debug window open to a role is open to every role above it. -/
theorem State.debugOk_of_le {s : State} {p : Path} {r r' : BitVec 2} (hle : r ≤ r') (h : s.debugOk p r.toNat = true) :
    s.debugOk p r'.toNat = true := by
  have hroles : r.toNat ≤ r'.toNat := hle
  have hmax : r'.toNat < 4 := r'.isLt
  simp only [State.debugOk, Bool.and_eq_true, beq_iff_eq] at h ⊢
  obtain ⟨⟨hsess, hmaintainer⟩, hservice⟩ := h
  exact ⟨⟨hsess, by omega⟩, hservice⟩

/-- Settles O12: the power of the die and the map do not depend on the role, and the two checks that do are monotone in it. -/
theorem rolesAreOrdered : Obligations.RolesAreOrdered := by
  intro s p need a r r' hle hpass
  obtain ⟨hpowered, hdebug, hneed, hmapped⟩ := (s.gate_eq_zero_iff p r.toNat need a).mp hpass
  exact (s.gate_eq_zero_iff p r'.toNat need a).mpr
    ⟨hpowered, fun hwindow => State.debugOk_of_le hle (hdebug hwindow), hneed.trans hle, hmapped⟩

/-! ### A die without power -/

/-- Every address of a die that is off is dark. -/
theorem State.dieDark_of_dieAddr {s : State} {a d o : Nat} (ha : dieAddr a = some (d, o)) (hoff : s.dieOn d = false) :
    s.dieDark a = true := by
  simp [State.dieDark, ha, hoff]

section
variable {s : State} {a : Nat} (p : Path) (role : Nat) (hdark : s.dieDark a = true)
include hdark

/-- The first check answers NOT_READY, whatever the access needs. -/
theorem State.gate_of_dieDark (need : Nat) : s.gate p role need a = 1 := if_pos hdark

/-- A 4-byte read answers NOT_READY and zero, and counts it. -/
theorem State.readOne_of_dieDark (fresh : Bool) :
    s.readOne p role a fresh = (1, 0#32, (s.dropHold p).inc R.NOT_READY_CNT) := by
  simp [State.readOne, State.gate_of_dieDark p role hdark, State.noteFail]

/-- So does an 8-byte read. -/
theorem State.readPair_of_dieDark : s.readPair p role a = (1, 0, (s.dropHold p).inc R.NOT_READY_CNT) := by
  simp [State.readPair, State.gate_of_dieDark p role hdark, State.noteFail]

/-- A 4-byte write answers NOT_READY, counts it and drops the path's hold. -/
theorem State.writeOne_of_dieDark (v : Nat) :
    s.writeOne p role a v = (1, (s.dropHold p).inc R.NOT_READY_CNT) := by
  simp [State.writeOne, State.gate_of_dieDark p role hdark, State.noteFail]

/-- So does an 8-byte write. -/
theorem State.writePair_of_dieDark (lo hi : Nat) :
    s.writePair p role a lo hi = (1, (s.dropHold p).inc R.NOT_READY_CNT) := by
  simp [State.writePair, State.gate_of_dieDark p role hdark, State.noteFail]

/-- A read-modify-write ends as its write does, and returns zero for the old value. -/
theorem State.rmw_of_dieDark (m v : Nat) :
    s.rmw p role a m v = (1, 0#32, (s.dropHold p).inc R.NOT_READY_CNT) := by
  simp [State.rmw, State.writeOne_of_dieDark p role hdark]

/-- A block read ends at its first word, with no data. -/
theorem State.readBlock_of_dieDark (n : Nat) :
    s.readBlock p role a (n + 1) = (1, [], (s.dropHold p).inc R.NOT_READY_CNT) := by
  rw [State.readBlock, List.range_succ_eq_map, List.foldl_cons]
  simp only [mul_zero, add_zero, State.readOne_of_dieDark p role hdark]
  exact List.foldl_fixed' (fun _ => rfl) _

/-- A block write ends at its first word, and none completes. -/
theorem State.writeBlockWords_of_dieDark (v : Nat) (vs : List Nat) :
    s.writeBlockWords p role a (v :: vs) = (1, 0, (s.dropHold p).inc R.NOT_READY_CNT) := by
  rw [State.writeBlockWords, List.zipIdx_cons, List.foldl_cons]
  simp only [mul_zero, add_zero, State.writeOne_of_dieDark p role hdark]
  exact List.foldl_fixed' (fun _ => rfl) _

end

/-- Settles O13: every address of the die is dark, and each kind of access ends at its first check. -/
theorem poweredOffDieAnswersNotReady : Obligations.PoweredOffDieAnswersNotReady := by
  intro s p role a d o
  refine ⟨fun fresh ha hoff => ?read, fun ha hoff => ?readPair, fun v ha hoff => ?write, fun lo hi ha hoff => ?writePair,
    fun m v ha hoff => ?rmw, fun n ha hoff => ?readBlock, fun v vs ha hoff => ?writeBlock⟩ <;>
    have hdark : s.dieDark a = true := State.dieDark_of_dieAddr ha hoff
  case read => simp [State.readOne_of_dieDark p role hdark]
  case readPair => simp [State.readPair_of_dieDark p role hdark]
  case write => simp [State.writeOne_of_dieDark p role hdark]
  case writePair => simp [State.writePair_of_dieDark p role hdark]
  case rmw => simp [State.rmw_of_dieDark p role hdark]
  case readBlock => simp [State.readBlock_of_dieDark p role hdark]
  case writeBlock => simp [State.writeBlockWords_of_dieDark p role hdark]

end Sys2Proof.Machine
end

section
/-! What every command keeps, and what the queue is: the canonical form and the sixteen quarters (O2), the waiting commands (O3), the
front command and the idle step (O1), the state after reset (O4), and that every command completes (O5). -/

namespace Sys2Proof.Machine

/-! ### Every command keeps the state -/

/-- Every command completes, and what it leaves is sound and has the same queue. The commands that share an operation stand together;
each of the others has an operation of its own, which keeps the state by the lemma of that operation. -/
theorem exec_kept {wait : List Instr} (c : Instr) (s : State) (h : s.kept wait) :
    ∃ t, exec c s = .next t ∧ t.kept wait := by
  cases c <;> refine ⟨_, rfl, State.settle_kept _ ?_⟩
  case aoRangeShadowWrite | trimOpen | trimCaptureZero | trimCaptureSpan | trimCommit | trimAbort | bypassForce |
      harbPropose | harbWake | sessionOpen | sessionClose | sessKill | enrollKey | revokeKey | enrollCred |
      removeCred | debugDataWrite | stageBegin | verify | arm | cancel | selectPrevious | radioCmdSend |
      radioCfgWrite | radioFirWrite | ldMsgSend | switch | detach | attach | restart | svcEnter | svcExit |
      dieReset | fanCtrlWrite | reconfigure | start | stop | debugEnter | debugExit | step | retire |
      applyStaging | acceptStep =>
    exact State.hostWrite_kept s _ _ _ _ h
  case aoCmdWrite | setpointWrite | seqFloorWrite =>
    exact State.hostPair_kept s _ _ _ _ h
  case read | write | rmw | blockRead | blockWrite =>
    exact State.register_kept s _ _ h
  case readHoldingRegisters | readInputRegisters =>
    exact State.modbusReads_kept s _ _ _ _ _ _ h
  case ack | ackGroup | ackAll | silence | shelve | unshelve | foReset | setSetpoint | duty | watchArm | watchReset |
      call | callSeen | accept =>
    exact State.entryIn_kept s _ _ _ _ _ _ h
  case panelSel | panelZero | panelSpan | panelEnter | panelCancel | panelAck =>
    exact State.panelQueue_kept s _ _ h
  case buttonZero | buttonSpan =>
    exact State.buttonCapture_kept s _ _ h
  case add | sub | and | or | xor | shl | shr | sra | mul | mulhu | mulhs | divu | divs | remu | rems | cmpeq |
      cmpne | cmpltu | cmplts | cmpleu | cmples | movi | sel | pand | por | pxor | pnot | fadd | fsub | fmul |
      fma | fdiv | fsqrt | fmin | fmax | fcmpeq | fcmplt | fcmple | cvtif | cvtfi | fabs | fneg =>
    exact State.scalar_kept s _ _ _ _ h
  case br | brx | loop | loopi =>
    exact State.control_kept s _ _ _ h
  case ld1u | ld2u | ld4u | ld8 | ld1s | ld2s | ld4s | st1 | st2 | st4 | st8 =>
    exact State.memory_kept s _ _ _ h
  case span | bswitch | bload | brelease | gopen | gclose =>
    exact State.gslot_kept s _ _ _ _ h
  case vadd | vsub | vmul | vfma | vmin | vmax | vscale | vexp | vlog | vrcp | vrsqrt | vsum | vrmax | wadd | wcvt |
      fft | ifft | vmag2 | quant | dequant | drain =>
    exact State.vslot_kept s _ _ _ h
  case mov => exact s.xslot_kept _ _ _ _ h fun t _ ht => State.movSlot_kept t _ _ ht
  case signal => exact s.xslot_kept _ _ _ _ h fun t _ ht => State.signalSlot_kept t _ _ ht
  case wait => exact s.xslot_kept _ _ _ _ h fun t _ ht => State.waitSlot_kept t _ _ ht
  case fence => exact s.xslot_kept _ _ _ _ h fun t _ ht => State.fenceSlot_kept t _ _ ht
  case live => exact s.xslot_kept _ _ _ _ h fun t _ ht => State.liveSlot_kept t _ _ _ ht
  case copy => exact s.issueSlot_kept _ _ _ _ _ h fun t _ ht => State.copySlot_kept t _ _ ht
  case nop => exact s.issueSlot_kept _ _ _ _ _ h fun t _ ht u hu => Option.some.inj hu ▸ ht
  case done => exact State.checkUndrained_kept _ _ (s.control_kept _ _ _ h)
  case aoReleaseSeen => exact State.pairOn_kept _ (s.aoRelease_kept _ h)
  case doReleaseSeen => exact State.pairOn_kept _ (s.doRelease_kept _ h)
  case downstreamFrame => exact State.pairOn_kept _ (s.downFrame_kept _ _ _ h)
  case leaseRenew => exact State.leaseRenew_kept _ (s.at_kept _ h)
  case linkTrainingComplete => exact State.trainOn_kept _ (s.linkTrained_kept _ _ h)
  case linkTrainingTimeout => exact State.trainOn_kept _ (s.linkTrainTimeout_kept _ _ h)
  case memTrainingTimeout => exact State.trainOn_kept _ (s.memTrainTimeout_kept _ h)
  case health => exact ite_kept (s.pairHealthIn_kept _ h) (s.healthIn_kept _ h)
  all_goals simp only [
    State.lpOverload_kept, State.lpRetry_kept, State.aoFoldback_kept, State.aoRestore_kept, State.loadHigh_kept,
      State.aoIsoFault_kept, State.miswire_kept, State.miswireClear_kept, State.refDone_kept, State.trimTimeout_kept,
      State.aiSample_kept, State.delayExpiry_kept, State.srcBadSet_kept, State.scoreStale_kept,
      State.radioStale_kept, State.shelveExpiry_kept, State.escalation_kept, State.acceptTimeout_kept,
      State.presenceExpiry_kept, State.watchPrewarn_kept, State.watchExpiry_kept, State.callFrame_kept,
      State.portsReady_kept, State.ptpSync_kept, State.followUp_kept, State.announce_kept, State.annTimeout_kept,
      State.gmSync_kept, State.pdelayReq_kept, State.pdelayResp_kept, State.imageFrame_kept, State.alarmFrame_kept,
      State.alarmRefresh_kept, State.alarmDequeue_kept, State.hello_kept, State.helloSend_kept,
      State.neighbourLost_kept, State.portLink_kept, State.timeInfo_kept, State.timeInfoSend_kept,
      State.ringTimeout_kept, State.rcpBad_kept, State.hsrFrame_kept, State.hsrSupervise_kept,
      State.modbusSingle_kept, State.modbusMultiple_kept, State.modbusBoth_kept, State.proposeIn_kept,
      State.acceptIn_kept, State.vetoIn_kept, State.commitIn_kept, State.abortIn_kept, State.wakeIn_kept,
      State.abortDeadline_kept, State.harbRepeat_kept, State.tSleep_kept, State.wakeRepeat_kept,
      State.isolatedWake_kept, State.commandFrame_kept, State.rcpForward_kept, State.pdelaySend_kept,
      State.delayReqSend_kept, State.delayResp_kept, State.timePortLoss_kept, State.carrierUp_kept,
      State.downSend_kept, State.upSend_kept, State.upFrame_kept, State.safeTimeout_kept, State.carrierHold_kept,
      State.doLimit_kept, State.doTrip_kept, State.doRestart_kept, State.doFailedOn_kept, State.diMiswire_kept,
      State.supplyRev_kept, State.supplyLow_kept, State.diSample_kept, State.doExt_kept, State.hostAny_kept,
      State.windowExpiry_kept, State.sessIdle_kept, State.lockoutExpiry_kept, State.secStored_kept,
      State.debugRead_kept, State.activationComplete_kept, State.loadComplete_kept, State.verifyComplete_kept,
      State.slotOpen_kept, State.beacon_kept, State.radioTrigger_kept, State.radioCorrelate_kept,
      State.radioSync_kept, State.radioHeader_kept, State.radioDecode_kept, State.slotEnd_kept, State.afcReset_kept,
      State.tagOffRange_kept, State.radioCmdFailed_kept, State.dwellStart_kept, State.uplinkFrame_kept,
      State.dwellEnd_kept, State.loopLost_kept, State.ldMsgFailed_kept, State.confirmedExpiry_kept,
      State.leaseExpired_kept, State.bringupRequest_kept, State.requestRepeat_kept, State.healthSend_kept,
      State.renewIn_kept, State.pairRenew_kept, State.confirmIn_kept, State.requestIn_kept, State.grantIn_kept,
      State.denyIn_kept, State.releaseIn_kept, State.reclaimIn_kept, State.suspectIn_kept, State.suspectTimeout_kept,
      State.decisionIn_kept, State.quarantineEnd_kept, State.holdoffExpiry_kept, State.cableDown_kept,
      State.cableLinkUp_kept, State.cableResend_kept, State.cableIdle_kept, State.cableRenew_kept,
      State.cableConfirm_kept, State.cableHealth_kept, State.mirrorRecord_kept, State.standbyReplay_kept,
      State.mismatchIn_kept, State.suspectDone_kept, State.handoverIn_kept, State.armedIn_kept,
      State.handoverTimeout_kept, State.armStuck_kept, State.takebackIn_kept, State.fwdIn_kept, State.resyncReq_kept,
      State.snapEnd_kept, State.blockReq_kept, State.powerGood_kept, State.feedLost_kept, State.feedRestored_kept,
      State.pfail_kept, State.pfailRecovery_kept, State.lockstep_kept, State.watchdog_kept, State.noLinkTimeout_kept,
      State.firstEpoch_kept, State.timeSlow_kept, State.chainRestart_kept, State.dieRelease_kept,
      State.temperature_kept, State.thermalRestart_kept, State.fanFail_kept, State.diePowerOff_kept,
      State.bringupStep_kept, State.writeDone_kept, State.rollbackComplete_kept, State.replayStart_kept,
      State.copyPatrol_kept, State.flitError_kept, State.linkRetrain_kept, State.retrainDone_kept,
      State.retrainTimeout_kept, State.memTrained_kept, State.zeroFilled_kept, State.memScrub_kept,
      State.dramTemp_kept, State.blockData_kept, State.diePowerFault_kept, State.writeback_kept,
      State.releaseBank_kept, State.deliverSignal_kept, State.endWait_kept, State.endFence_kept,
      State.doneReport_kept, State.noProgress_kept, State.haltQuarter_kept, State.startPass_kept,
      State.switchBank_kept, State.startLoad_kept, State.endLoad_kept, State.endRestore_kept, State.gopenEffect_kept,
      State.gcloseEffect_kept, State.rowEgress_kept, State.endDrain_kept, State.startTest_kept, State.marchDone_kept,
      State.scrubGrain_kept, State.inventory_kept, State.stayQuiet_kept, State.tagSelect_kept,
      State.resetToReady_kept, State.sysInfo_kept, State.readSingle_kept, State.writeBlock_kept,
      State.readMultiple_kept, State.blockSecurity_kept, State.endSession_kept, State.mailboxServe_kept,
      State.faultLogWrite_kept, State.buttonAck_kept, State.buttonSel_kept, State.buttonEnter_kept,
      State.selHold_kept, State.selectTimeout_kept, State.messageTimeout_kept, State.acqTimeout_kept,
      State.timeLocked_kept, State.sourceLost_kept, State.alignLost_kept, State.timeStep_kept,
      State.epochBoundary_kept, State.runLaunch_kept, State.deadlineHit_kept, State.commitAbandon_kept,
      State.shortOfMargin_kept, State.startVec_kept, State.endVec_kept, State.starved_kept, h]

/-! ### The obligations -/

/-- The node lets one nanosecond pass while it has power. -/
theorem State.tick_of_up {s : State} (h : s.pwr.up = true) : s.tick = s.at (s.now + 1) := if_pos h

/-- Without power nothing happens. -/
theorem State.tick_of_down {s : State} (h : s.pwr.up = false) : s.tick = s := by simp [State.tick, h]

/-- A step with a command waiting runs the first one on the rest of the queue. -/
theorem step_of_cons {s : State} {c : Instr} {rest : List Instr} (h : s.pending = c :: rest) :
    step s = exec c { s with pending := rest } := by
  simp [step, h]

/-- A step with nothing waiting lets chain time run on. -/
theorem step_of_nil {s : State} (h : s.pending = []) : step s = .next s.tick := by
  simp [step, h]

/-- Settles O1. -/
theorem frontCommandRuns : Obligations.FrontCommandRuns := by
  refine ⟨fun c rest s hq => step_of_cons hq, fun s hq hup => ?powered, fun s hq hdown => ?unpowered⟩
  case powered => rw [step_of_nil hq, State.tick_of_up hup]
  case unpowered => rw [step_of_nil hq, State.tick_of_down hdown]

/-- Whether a state is sound does not depend on its queue. -/
theorem State.kept_of_sound {s : State} (h : s.sound = true) (wait : List Instr) : ({ s with pending := wait } : State).kept wait :=
  ⟨h, rfl⟩

/-- Settles O2: the idle step and every command keep the state. -/
theorem everyStepKeepsTheState : Obligations.EveryStepKeepsTheState := by
  intro s t hs hstep
  cases hq : s.pending with
  | nil =>
    rw [step_of_nil hq] at hstep
    cases hstep
    exact (s.tick_kept (wait := []) ⟨hs, hq⟩).1
  | cons c rest =>
    obtain ⟨u, hexec, hkept⟩ := exec_kept c _ (State.kept_of_sound hs rest)
    rw [step_of_cons hq, hexec] at hstep
    cases hstep
    exact hkept.1

/-- Settles O3. -/
theorem commandsLeaveTheQueue : Obligations.CommandsLeaveTheQueue := by
  intro c s t hs hexec
  obtain ⟨u, hu, hkept⟩ := exec_kept c s ⟨hs, rfl⟩
  rw [hexec] at hu
  cases hu
  exact hkept.2

/-- Settles O4: the fields are those of the literal, and the registers those of the Reset column. -/
theorem resetState : Obligations.ResetState := by
  refine ⟨⟨?sound, ?calm, rfl, rfl, rfl⟩, ?dies, ?registers, ?quarters⟩
  case sound => decide +kernel
  case calm => decide +kernel
  case dies => decide +kernel
  case registers => decide +kernel
  case quarters => decide +kernel

/-- Settles O5: each arm of the dispatch answers a next state. -/
theorem noCommandStops : Obligations.NoCommandStops := by
  intro c s
  cases c <;> exact ⟨_, rfl⟩

end Sys2Proof.Machine
end

section
/-! What reads back after a write: registers and their fields (O6), node memory, banks and tag memory (O7), the register files of a quarter
(O8). -/

namespace Sys2Proof.Machine

/-! ### Registers -/

/-- What any register reads after a write to one. -/
theorem State.setReg_reg (s : State) (a k : Nat) (v : Word) : (s.setReg a v).reg k = if k = a then v else s.reg k :=
  kvGet_kvSet ..

/-- A 64-bit value is read back from its two registers. -/
theorem State.setReg64_reg64_self (s : State) (a : Nat) {n : Nat} (h : n < 2 ^ 64) : (s.setReg64 a n).reg64 a = n := by
  simp only [State.reg64, State.setReg64, State.setRegN, State.regN, State.setReg_reg]
  simp only [left_eq_add, OfNat.ofNat_ne_zero, if_true, if_false, BitVec.toNat_ofNat]
  omega

/-- The complement half of a word's pair word is its complement (R20). -/
theorem compl32_toNat (v : Word) : BitVec.ofNat 32 (compl32 v.toNat) = ~~~v := by
  have hv := v.isLt
  apply BitVec.eq_of_toNat_eq
  simp only [BitVec.toNat_ofNat, compl32, BitVec.toNat_not]
  omega

/-- A pair word is in its two registers, value then complement. -/
theorem State.setPair_reg (s : State) (a : Nat) (v : Word) :
    (s.setPair a v.toNat).reg a = v ∧ (s.setPair a v.toNat).reg (a + 4) = ~~~v := by
  simp only [State.setPair, State.setRegN, State.setReg_reg, compl32_toNat]
  simp

/-- A field reads back in its width. -/
theorem State.setF_getF_self (s : State) (a v : Nat) {f : Fld} (hf : f.lo + f.width ≤ 32) :
    (s.setF a f v).getF a f = v % 2 ^ f.width := by
  rw [State.getF, State.setF, State.setReg_reg_self, Fld.get_set_self hf]

/-- The fields of a word apart from the one written keep their value. -/
theorem State.setF_getF_of_apart (s : State) (a v : Nat) {f g : Fld} (hf : f.lo + f.width ≤ 32) (h : f.apart g) :
    (s.setF a f v).getF a g = s.getF a g := by
  rw [State.getF, State.setF, State.setReg_reg_self, Fld.get_set_of_apart hf h, State.getF]

/-- Settles O6. -/
theorem registersReadBack : Obligations.RegistersReadBack := by
  intro s
  exact ⟨fun a k v => s.setReg_reg a k v, fun a n h => s.setReg64_reg64_self a h, fun a v => s.setPair_reg a v,
    fun a f v hf => s.setF_getF_self a v hf, fun a f g v hf hfg => s.setF_getF_of_apart a v hf hfg.symm⟩

/-! ### Memories -/

/-- Two memories that agree on a range read the same there. -/
theorem memRead_congr {m m' : List (Nat × Byte)} (n a : Nat) (h : ∀ x, a ≤ x → x < a + n → memGet m x = memGet m' x) :
    memRead m a n = memRead m' a n := by
  induction n generalizing a with
  | zero => rfl
  | succ n ih =>
    rw [memRead, memRead, h a le_rfl (by omega), ih (a + 1) fun x hlo hhi => h x (by omega) (by omega)]

/-- A range that a store does not reach reads as before. -/
theorem memRead_memWrite_out (m : List (Nat × Byte)) {a n k : Nat} {bs : List Byte} (h : a + n ≤ k ∨ k + bs.length ≤ a) :
    memRead (memWrite m k bs) a n = memRead m a n :=
  memRead_congr n a fun x _ _ => memGet_memWrite_out bs m k x (by omega)

/-- The range a store covers reads as stored. -/
theorem memRead_memWrite_self (bs : List Byte) (m : List (Nat × Byte)) (a : Nat) :
    memRead (memWrite m a bs) a bs.length = bs := by
  induction bs generalizing m a with
  | nil => rfl
  | cons b bs ih =>
    have hhead : memGet (memWrite m a (b :: bs)) a = b := memGet_memWrite_in (b :: bs) m a 0 (by simp)
    rw [List.length_cons, memRead, hhead, memWrite, ih]

/-- A fill writes the image, then its exponents. -/
theorem State.fillBank_data (s : State) (q g b : Nat) (bs xs : List Byte) :
    (s.fillBank q g b bs xs).grains.data =
      memWrite (memWrite s.grains.data (grainByte q g (bankOff b)) bs) (grainByte q g (expOff b)) xs := rfl

/-- A filled bank reads back whole: its exponents lie above every bank of its grain. -/
theorem State.fillBank_bankBytes_self (s : State) (q g : Nat) {n : Nat} {bs xs : List Byte} (hn : n < 4) (hbs : bs.length = 8192) :
    (s.fillBank q g n bs xs).bankBytes q g n = bs := by
  have habove : grainByte q g (bankOff n) + 8192 ≤ grainByte q g (expOff n) := by
    simp only [grainByte, grainKey, bankOff, expOff]
    omega
  rw [State.bankBytes, State.fillBank_data, memRead_memWrite_out _ (.inl habove), ← hbs, memRead_memWrite_self]

/-- Two banks of the node share no byte. -/
theorem bank_disjoint {q g n q' g' n' : Nat} (hn : n < 4) (hn' : n' < 4) (hg : g < 96) (hg' : g' < 96)
    (h : q ≠ q' ∨ g ≠ g' ∨ n ≠ n') :
    grainByte q' g' (bankOff n') + 8192 ≤ grainByte q g (bankOff n) ∨
      grainByte q g (bankOff n) + 8192 ≤ grainByte q' g' (bankOff n') := by
  simp only [grainByte, grainKey, bankOff]
  omega

/-- No bank of the node shares a byte with an exponent table. -/
theorem bank_disjoint_exp (q g q' g' : Nat) {n n' : Nat} (hn : n < 4) (hn' : n' < 4) :
    grainByte q' g' (bankOff n') + 8192 ≤ grainByte q g (expOff n) ∨
      grainByte q g (expOff n) + 256 ≤ grainByte q' g' (bankOff n') := by
  simp only [grainByte, grainKey, bankOff, expOff]
  omega

/-- A filled bank leaves every other bank of the node. -/
theorem State.fillBank_bankBytes_of_ne (s : State) {q g n q' g' n' : Nat} {bs xs : List Byte} (hn : n < 4) (hn' : n' < 4)
    (hg : g < 96) (hg' : g' < 96) (h : q ≠ q' ∨ g ≠ g' ∨ n ≠ n') (hbs : bs.length = 8192) (hxs : xs.length ≤ 256) :
    (s.fillBank q g n bs xs).bankBytes q' g' n' = s.bankBytes q' g' n' := by
  have hbank := bank_disjoint hn hn' hg hg' h
  have hexp := bank_disjoint_exp q g q' g' hn hn'
  rw [State.bankBytes, State.fillBank_data, memRead_memWrite_out _ (by omega), memRead_memWrite_out _ (by omega), State.bankBytes]

/-- Settles O7. -/
theorem memoryReadsBack : Obligations.MemoryReadsBack := by
  intro s
  exact ⟨fun k bs i h => memGet_memWrite_in bs _ k i h, fun k bs x h => memGet_memWrite_out bs _ k x h,
    fun k bs i h => memGet_memWrite_in bs _ k i h, fun k bs x h => memGet_memWrite_out bs _ k x h,
    fun q g n bs xs hn hbs _ => s.fillBank_bankBytes_self q g hn hbs,
    fun q g n q' g' n' bs xs hn hn' hg hg' h hbs hxs => s.fillBank_bankBytes_of_ne hn hn' hg hg' h hbs hxs⟩

/-! ### The register files of a quarter -/

/-- An element set is read back. -/
theorem nth_setNth_self {α : Type} {l : List α} {i : Nat} (h : i < l.length) (v d : α) : nth (setNth l i v) i d = v := by
  simp [nth, setNth, h]

/-- The other elements stay. -/
theorem nth_setNth_of_ne {α : Type} (l : List α) {i k : Nat} (h : k ≠ i) (v d : α) : nth (setNth l i v) k d = nth l k d := by
  simp [nth, setNth, List.getElem?_set_ne h.symm]

/-- A write to s0 or p0 is discarded. -/
theorem SeqRegs.put_zero (r : SeqRegs) (v : Nat) : r.put ⟨.s, 0⟩ v = r ∧ r.put ⟨.p, 0⟩ v = r := ⟨rfl, rfl⟩

/-- A write leaves every register it does not name: those of the other files, and the others of its own file. -/
theorem SeqRegs.get_put_of_ne (r : SeqRegs) {i k : RegId} (v : Nat) (h : k ≠ i) : (r.put i v).get k = r.get k := by
  obtain ⟨file, n⟩ := i
  obtain ⟨file', n'⟩ := k
  by_cases hfile : file' = file
  case pos =>
    subst hfile
    have hn : n' ≠ n := fun e => h (by rw [e])
    cases file' with
    | s => by_cases hn0 : n = 0 <;> simp [SeqRegs.put, SeqRegs.get, hn0, nth_setNth_of_ne _ hn]
    | a => simp [SeqRegs.put, SeqRegs.get, nth_setNth_of_ne _ hn]
    | p => by_cases hn0 : n = 0 <;> simp [SeqRegs.put, SeqRegs.get, hn0, nth_setNth_of_ne _ hn]
    | lc => simp [SeqRegs.put, SeqRegs.get, nth_setNth_of_ne _ hn]
  case neg => by_cases hn0 : n = 0 <;> cases file <;> cases file' <;> simp_all [SeqRegs.put, SeqRegs.get]

section
variable (r : SeqRegs) {i : Nat} (v : Nat)

/-- A scalar register but s0 reads back in 64 bits. -/
theorem SeqRegs.get_put_s (h : 0 < i) (hi : i < r.s.length) : (r.put ⟨.s, i⟩ v).get ⟨.s, i⟩ = v % 2 ^ 64 := by
  simp [SeqRegs.put, SeqRegs.get, h.ne', nth_setNth_self hi]

/-- An address register reads back in 64 bits. -/
theorem SeqRegs.get_put_a (hi : i < r.a.length) : (r.put ⟨.a, i⟩ v).get ⟨.a, i⟩ = v % 2 ^ 64 := by
  simp [SeqRegs.put, SeqRegs.get, nth_setNth_self hi]

/-- A predicate but p0 takes bit 0. -/
theorem SeqRegs.get_put_p (h : 0 < i) (hi : i < r.p.length) : (r.put ⟨.p, i⟩ v).get ⟨.p, i⟩ = v % 2 := by
  rcases Nat.mod_two_eq_zero_or_one v with hv | hv <;>
    simp [SeqRegs.put, SeqRegs.get, h.ne', nth_setNth_self hi, hv, b2n]

/-- A loop counter reads back in 32 bits. -/
theorem SeqRegs.get_put_lc (hi : i < r.lc.length) : (r.put ⟨.lc, i⟩ v).get ⟨.lc, i⟩ = v % 2 ^ 32 := by
  simp [SeqRegs.put, SeqRegs.get, nth_setNth_self hi]

end

/-- Settles O8. -/
theorem sequencerFilesReadBack : Obligations.SequencerFilesReadBack := by
  intro r
  exact ⟨fun v => ⟨(r.put_zero v).1, rfl, (r.put_zero v).2, rfl⟩, fun i v k h => r.get_put_of_ne v h,
    fun i v h hi => r.get_put_s v h hi, fun i v hi => r.get_put_a v hi, fun i v h hi => r.get_put_p v h hi,
    fun i v hi => r.get_put_lc v hi⟩

end Sys2Proof.Machine
end

section
/-! Slots: what offering one to the sequencer comes to (O9), and what a scalar slot (O10), a load or a store (O11) leaves unchanged. -/

namespace Sys2Proof.Machine

/-! ### The command of a slot -/

/-- A slot command offers its slot to the sequencer and settles: only what the slot does when it issues differs. -/
theorem exec_slot {c : Instr} {q : BitVec 4} {j op : Nat} {w : BitVec 120} (h : slotRow c = some (q, j, op, w)) :
    ∃ act, ∀ s, exec c s = .next (s.issueSlot q.toNat j op w act).settle := by
  cases c <;> simp only [slotRow, reduceCtorEq, Option.some.injEq, Prod.mk.injEq] at h <;>
    obtain ⟨rfl, rfl, rfl, rfl⟩ := h <;> exact ⟨_, fun _ => rfl⟩

/-- A truth value counts at most one. -/
theorem b2n_le_one (b : Bool) : b2n b ≤ 1 := by cases b <;> decide

/-- In S0 and S1 a slot that is not NOP is a scalar slot. -/
theorem exec_scalarSlot {c : Instr} {q : BitVec 4} {j op : Nat} {w : BitVec 120} (h : slotRow c = some (q, j, op, w)) (hj : j ≤ 1)
    (hop : 0 < op) (s : State) :
    exec c s = .next (s.issueSlot q.toNat j op w (fun t v => t.scalarSlot q.toNat v)).settle := by
  cases c <;> simp only [slotRow, reduceCtorEq, Option.some.injEq, Prod.mk.injEq] at h <;> obtain ⟨rfl, rfl, rfl, rfl⟩ := h
  case add | sub | and | or | xor | shl | shr | sra | mul | mulhu | mulhs | divu | divs | remu | rems | cmpeq |
      cmpne | cmpltu | cmplts | cmpleu | cmples | movi | sel | pand | por | pxor | pnot | fadd | fsub | fmul |
      fma | fdiv | fsqrt | fmin | fmax | fcmpeq | fcmplt | fcmple | cvtif | cvtfi | fabs | fneg =>
    rfl
  all_goals omega

/-- In M the opcodes up to 0x0B are loads and stores. -/
theorem exec_loadStore {c : Instr} {q : BitVec 4} {op : Nat} {w : BitVec 120} (h : slotRow c = some (q, 3, op, w)) (hop : 0 < op)
    (hmem : op ≤ 0x0B) (s : State) :
    exec c s = .next (s.issueSlot q.toNat 3 op w (fun t v => t.loadStore q.toNat v)).settle := by
  cases c <;> simp only [slotRow, reduceCtorEq, Option.some.injEq, Prod.mk.injEq] at h <;> obtain ⟨rfl, hj, rfl, rfl⟩ := h
  case ld1u | ld2u | ld4u | ld8 | ld1s | ld2s | ld4s | st1 | st2 | st4 | st8 => rfl
  case add | sub | and | or | xor | shl | shr | sra | mul | mulhu | mulhs | divu | divs | remu | rems | cmpeq |
      cmpne | cmpltu | cmplts | cmpleu | cmples | movi | sel | pand | por | pxor | pnot | fadd | fsub | fmul |
      fma | fdiv | fsqrt | fmin | fmax | fcmpeq | fcmplt | fcmple | cvtif | cvtfi | fabs | fneg =>
    exact absurd (hj ▸ b2n_le_one _ : 3 ≤ 1) (by decide)
  all_goals omega

/-! ### Offering a slot -/

/-- A slot that cannot be taken leaves the state as it is. -/
theorem State.issueSlot_of_blocked {s : State} {q j op : Nat} {w : BitVec 120} (act : State → Nat → Option State)
    (h : s.offer q j (slotOf op w) = .blocked) : s.issueSlot q j op w act = s := by
  simp [State.issueSlot, h]

/-- A long word that faults before its first slot is not issued. -/
theorem State.issueSlot_of_fault {s u : State} {q j op : Nat} {w : BitVec 120} (act : State → Nat → Option State)
    (h : s.offer q j (slotOf op w) = .fault u) : s.issueSlot q j op w act = u := by
  simp [State.issueSlot, h]

/-- A slot whose predicate is false only ends. -/
theorem State.issueSlot_of_predOff {s t : State} {q j op : Nat} {w : BitVec 120} (act : State → Nat → Option State)
    (h : s.offer q j (slotOf op w) = .slot t (slotOf op w)) (hp : predOn (t.qtr q).snap (slotOf op w) = false) :
    s.issueSlot q j op w act = t.endSlot q j := by
  simp [State.issueSlot, h, hp]

/-- R203: before the first slot of a long word, its lowest illegal slot faults with ILLEGAL. -/
theorem State.offer_of_illegal {s : State} {q k : Nat} (j w : Nat) (hi : s.mayIssue q = true) (h0 : (s.qtr q).slot = 0)
    (h : firstIllegal (s.qtr q).pc 0 ((s.qtr q).lw (s.qtr q).pc) = some k) :
    s.offer q j w = .fault (s.progFault q 0x01 (s.qtr q).pc k) := by
  simp [State.offer, hi, h0, h]

/-- R205: in a long word of legal slots, the lowest one whose destination an earlier one names faults with DEST_CONFLICT. -/
theorem State.offer_of_conflict {s : State} {q k : Nat} (j w : Nat) (hi : s.mayIssue q = true) (h0 : (s.qtr q).slot = 0)
    (hl : firstIllegal (s.qtr q).pc 0 ((s.qtr q).lw (s.qtr q).pc) = none)
    (h : destConflict 0 [] ((s.qtr q).lw (s.qtr q).pc) = some k) :
    s.offer q j w = .fault (s.progFault q 0x03 (s.qtr q).pc k) := by
  simp [State.offer, hi, h0, hl, h]

/-- Settles O9: a slot command only offers its slot. -/
theorem slotOffers : Obligations.SlotOffers := by
  intro c q j op w s
  refine ⟨fun hrow hoff => ?blocked, fun k hrow hi h0 hk => ?illegal, fun k hrow hi h0 hl hk => ?conflict,
    fun t hrow hoff hp => ?off⟩ <;> obtain ⟨act, hexec⟩ := exec_slot hrow <;> rw [hexec]
  case blocked => rw [State.issueSlot_of_blocked act hoff]
  case illegal => rw [State.issueSlot_of_fault act (State.offer_of_illegal j _ hi h0 hk)]
  case conflict => rw [State.issueSlot_of_fault act (State.offer_of_conflict j _ hi h0 hl hk)]
  case off => rw [State.issueSlot_of_predOff act hoff hp]

/-! ### What a slot leaves outside its quarter -/

/-- Nothing is changed. -/
theorem State.framed_refl (s : State) (q : Nat) : s.framed s q := by simp [State.framed]

/-- What two changes leave, both together leave. -/
theorem State.framed.trans {s t u : State} {q : Nat} (h : s.framed t q) (h' : t.framed u q) : s.framed u q := by
  obtain ⟨hregs, hqtrs, hrest⟩ := h
  obtain ⟨hregs', hqtrs', hrest'⟩ := h'
  refine ⟨fun a h1 h2 h3 h4 h5 => (hregs' a h1 h2 h3 h4 h5).trans (hregs a h1 h2 h3 h4 h5),
    fun k hk => (hqtrs' k hk).trans (hqtrs k hk), ?_⟩
  simp only [hrest', hrest, and_self]

/-- The other quarters stay when one is replaced. -/
theorem State.setQtr_qtr_of_ne (s : State) {q k : Nat} (v : Quarter) (h : k ≠ q) : (s.setQtr q v).qtr k = s.qtr k :=
  nth_setNth_of_ne _ h _ _

/-- A quarter of the node reads as replaced; one that the node does not have stays. -/
theorem State.setQtr_qtr_self_or (s : State) (q : Nat) (v : Quarter) :
    (s.setQtr q v).qtr q = v ∨ (s.setQtr q v).qtr q = s.qtr q := by
  by_cases hq : q < s.quarters.length
  · exact .inl (nth_setNth_self hq _ _)
  · exact .inr (by simp [State.qtr, State.setQtr, setNth, List.set_eq_of_length_le (not_lt.mp hq)])

/-- A change of the quarter is inside it. -/
theorem State.setQtr_framed (s : State) (q : Nat) (v : Quarter) : s.framed (s.setQtr q v) q :=
  ⟨fun _ _ _ _ _ _ => rfl, fun _ hk => s.setQtr_qtr_of_ne v hk, by simp⟩

/-- So is a function applied to it. -/
theorem State.modQ_framed (s : State) (q : Nat) (f : Quarter → Quarter) : s.framed (s.modQ q f) q := s.setQtr_framed q _

/-- The registers in which a slot may show what its quarter came to: QERR, QFAULT, QFAULT_EPOCH and DEBUG_PC. -/
def slotShows (q a : Nat) : Prop :=
  a = R.QERR q ∨ a = R.QFAULT q ∨ a = R.QFAULT_EPOCH_LO q ∨ a = R.QFAULT_EPOCH_LO q + 4 ∨ a = R.DEBUG_PC q

/-- A write to one of those registers is within the frame. -/
theorem State.setReg_framed (s : State) {q a : Nat} (v : Word) (h : slotShows q a) : s.framed (s.setReg a v) q := by
  refine ⟨fun b h1 h2 h3 h4 h5 => s.setReg_reg_of_ne v ?_, fun _ _ => rfl, by simp⟩
  rintro rfl
  simp [slotShows, h1, h2, h3, h4, h5] at h

/-- A change of what waits to be resolved is no change of the frame. -/
theorem State.stop_framed (s : State) (q : Nat) (r : RecSt) : s.framed { s with rcv := r } q :=
  ⟨fun _ _ _ _ _ _ => rfl, fun _ _ => rfl, by simp⟩

/-- Nor is a change of memory. -/
theorem State.mem_framed (s : State) (q : Nat) (m : MemSt) : s.framed { s with mem := m } q :=
  ⟨fun _ _ _ _ _ _ => rfl, fun _ _ => rfl, by simp⟩

/-- The fault registers of the quarter are within the frame. -/
theorem State.putFault_framed (s : State) (q code lw slot kind : Nat) : s.framed (s.putFault q code lw slot kind) q :=
  ((s.setReg_framed _ (.inr (.inl rfl))).trans (State.setReg_framed _ _ (.inr (.inr (.inl rfl))))).trans
    (State.setReg_framed _ _ (.inr (.inr (.inr (.inl rfl)))))

/-- The faults of issue have no error bit of an accumulator or of the vector engine. -/
theorem State.faultBit_of_lt (s : State) (q : Nat) {code : Nat} (h : code < 0x10) : s.faultBit q code = s := by
  simp [State.faultBit, show ¬0x10 ≤ code by omega, show ¬0x20 ≤ code by omega]

/-- A fault of issue is shown in the quarter's fault registers, and stops the epoch. -/
theorem State.progFault_framed (s : State) (q lw slot : Nat) {code : Nat} (h : code < 0x10) :
    s.framed (s.progFault q code lw slot) q := by
  have hshown := ((s.putFault_framed q code lw slot 0).trans (State.setReg_framed _ _ (.inl rfl))).trans
    (State.modQ_framed ((s.putFault q code lw slot 0).raise (R.QERR q) F.QERR_PROGRAM_FAULT) q
      (fun x => { x with faulted := true, credit := 0 }))
  simp only [State.progFault, State.faultBit_of_lt _ _ h]
  split
  · exact s.framed_refl q
  · split
    · exact hshown.trans (State.stop_framed _ q _)
    · exact hshown

/-- The end of a long word changes its quarter, and DEBUG_PC and the fault registers alone outside it. -/
theorem State.endLw_framed (s : State) (q : Nat) : s.framed (s.endLw q) q := by
  have hpc : ∀ v pc, s.framed (if (s.setQtr q v).qState q = 5 then (s.setQtr q v).setRegN (R.DEBUG_PC q) pc else s.setQtr q v) q := by
    intro v pc
    split
    · exact (s.setQtr_framed q v).trans (State.setReg_framed _ _ (.inr (.inr (.inr (.inr rfl)))))
    · exact s.setQtr_framed q v
  unfold State.endLw
  dsimp only
  split
  · exact s.modQ_framed q _
  · split <;> split
    · exact hpc _ _
    · exact (hpc _ _).trans (State.progFault_framed _ q _ _ (by decide))
    · exact hpc _ _
    · exact (hpc _ _).trans (State.progFault_framed _ q _ _ (by decide))

/-- So does the end of a slot. -/
theorem State.endSlot_framed (s : State) (q j : Nat) : s.framed (s.endSlot q j) q := by
  unfold State.endSlot
  dsimp only
  split
  · exact s.framed_refl q
  · split
    · exact (s.modQ_framed q _).trans (State.endLw_framed _ q)
    · exact s.modQ_framed q _

/-! ### Memory -/

/-- The error bit of a fault is a bit of a register. -/
theorem State.faultBit_eq (s : State) (q code : Nat) : s.faultBit q code = s ∨ ∃ a v, s.faultBit q code = s.setReg a v := by
  unfold State.faultBit
  dsimp only
  split
  · exact .inr ⟨_, _, rfl⟩
  · split
    · exact .inr ⟨_, _, rfl⟩
    · exact .inl rfl

/-- It leaves memory. -/
theorem State.faultBit_mem (s : State) (q code : Nat) : (s.faultBit q code).mem = s.mem := by
  rcases s.faultBit_eq q code with h | ⟨a, v, h⟩ <;> rw [h]; rfl

/-- It leaves the quarters. -/
theorem State.faultBit_qtr (s : State) (q code k : Nat) : (s.faultBit q code).qtr k = s.qtr k := by
  rcases s.faultBit_eq q code with h | ⟨a, v, h⟩ <;> rw [h]; rfl

/-- A fault leaves memory. -/
theorem State.progFault_mem (s : State) (q code lw slot : Nat) : (s.progFault q code lw slot).mem = s.mem := by
  have hshown : (((s.putFault q code lw slot 0).raise (R.QERR q) F.QERR_PROGRAM_FAULT).faultBit q code).mem = s.mem :=
    State.faultBit_mem ..
  unfold State.progFault
  dsimp only
  split
  · rfl
  · split <;> exact hshown

/-- The end of a long word leaves memory. -/
theorem State.endLw_mem (s : State) (q : Nat) : (s.endLw q).mem = s.mem := by
  unfold State.endLw
  dsimp only
  split
  · rfl
  · split <;> split_ifs <;> simp [State.progFault_mem, State.setRegN]

/-- So does the end of a slot. -/
@[simp] theorem State.endSlot_mem (s : State) (q j : Nat) : (s.endSlot q j).mem = s.mem := by
  unfold State.endSlot
  dsimp only
  split_ifs <;> simp [State.endLw_mem]

/-! ### The registers of the quarter -/

/-- What holds of a quarter and of what a function makes of it holds of it once the function is applied. -/
theorem State.modQ_qtr_self {P : Quarter → Prop} (s : State) (q : Nat) {f : Quarter → Quarter} (h : P (s.qtr q))
    (hf : P (f (s.qtr q))) : P ((s.modQ q f).qtr q) := by
  rcases s.setQtr_qtr_self_or q (f (s.qtr q)) with he | he <;> rw [State.modQ, he] <;> assumption

/-- A change of other fields of the quarter leaves its registers. -/
theorem State.modQ_regs_of (s : State) (q : Nat) {f : Quarter → Quarter} (hf : ∀ x, (f x).regs = x.regs) :
    ((s.modQ q f).qtr q).regs = (s.qtr q).regs :=
  State.modQ_qtr_self (P := fun x => x.regs = (s.qtr q).regs) s q rfl (hf _)

/-- A register but the one written stays. -/
theorem State.putReg_get_of_ne (s : State) (q : Nat) {i k : RegId} (v : Nat) (h : k ≠ i) :
    ((s.putReg q i v).qtr q).regs.get k = (s.qtr q).regs.get k :=
  State.modQ_qtr_self (P := fun x => x.regs.get k = (s.qtr q).regs.get k) s q rfl (SeqRegs.get_put_of_ne _ v h)

/-- A result on its way is in no register yet. -/
theorem State.pendReg_regs (s : State) (q : Nat) (i : RegId) (v : Nat) (m : Option Nat) :
    ((s.pendReg q i v m).qtr q).regs = (s.qtr q).regs := s.modQ_regs_of q fun _ => rfl

/-- Loops that end write their counters alone. -/
theorem keepLoops_get (n : Nat) (x : Quarter) {i : RegId} (h : i.file ≠ .lc) : (keepLoops n x).regs.get i = x.regs.get i := by
  have hput : ∀ (r : SeqRegs) (l : LoopSt), (r.put ⟨.lc, l.ctr⟩ 0).get i = r.get i := fun r l =>
    SeqRegs.get_put_of_ne r 0 fun e => h (congrArg RegId.file e)
  exact List.foldlRecOn (motive := fun r => r.get i = x.regs.get i) _ _ rfl fun r hr l _ => (hput r l).trans hr

/-- Back-edges write loop counters alone. -/
theorem backEdge_get (n : Nat) {i : RegId} (h : i.file ≠ .lc) (ls : List LoopSt) (r : SeqRegs) :
    (backEdge n ls r).1.get i = r.get i := by
  induction ls generalizing r with
  | nil => rfl
  | cons l ls ih =>
    have hput : ∀ v, (r.put ⟨.lc, l.ctr⟩ v).get i = r.get i := fun v =>
      SeqRegs.get_put_of_ne r v fun e => h (congrArg RegId.file e)
    simp only [backEdge]
    split_ifs
    · exact hput _
    · exact (ih _).trans (hput _)
    · exact ih r

/-- A fault leaves the quarter's registers. -/
theorem State.progFault_regs (s : State) (q code lw slot : Nat) :
    ((s.progFault q code lw slot).qtr q).regs = (s.qtr q).regs := by
  have hshown : (((s.putFault q code lw slot 0).raise (R.QERR q) F.QERR_PROGRAM_FAULT).faultBit q code).qtr q = s.qtr q :=
    State.faultBit_qtr ..
  have hmarked : ∀ t : State, ((t.modQ q fun x => { x with faulted := true, credit := 0 }).qtr q).regs = (t.qtr q).regs :=
    fun t => t.modQ_regs_of q fun _ => rfl
  unfold State.progFault
  dsimp only
  split
  · rfl
  · split <;> exact (hmarked _).trans (congrArg Quarter.regs hshown)

/-- The end of a long word writes loop counters alone. -/
theorem State.endLw_get (s : State) (q : Nat) {i : RegId} (h : i.file ≠ .lc) :
    ((s.endLw q).qtr q).regs.get i = (s.qtr q).regs.get i := by
  have hnext : ∀ (v : Quarter) (pc : Nat), v.regs.get i = (s.qtr q).regs.get i →
      ((if (s.setQtr q v).qState q = 5 then (s.setQtr q v).setRegN (R.DEBUG_PC q) pc else s.setQtr q v).qtr q).regs.get i =
        (s.qtr q).regs.get i := by
    intro v pc hv
    have hset : ((s.setQtr q v).qtr q).regs.get i = (s.qtr q).regs.get i := by
      rcases s.setQtr_qtr_self_or q v with he | he <;> rw [he]
      exact hv
    split <;> exact hset
  unfold State.endLw
  dsimp only
  split
  · exact congrArg (SeqRegs.get · i) (s.modQ_regs_of q fun _ => rfl)
  · have hback : (backEdge (s.qtr q).pc (s.qtr q).loops (s.qtr q).regs).1.get i = (s.qtr q).regs.get i := backEdge_get _ h _ _
    split <;> split
    · exact hnext _ _ (keepLoops_get _ _ h)
    · rw [State.progFault_regs]
      exact hnext _ _ (keepLoops_get _ _ h)
    · exact hnext _ _ ((keepLoops_get _ _ h).trans hback)
    · rw [State.progFault_regs]
      exact hnext _ _ ((keepLoops_get _ _ h).trans hback)

/-- So does the end of a slot. -/
theorem State.endSlot_get (s : State) (q j : Nat) {i : RegId} (h : i.file ≠ .lc) :
    ((s.endSlot q j).qtr q).regs.get i = (s.qtr q).regs.get i := by
  have hslot : ((s.modQ q fun x => { x with slot := j + 1 }).qtr q).regs = (s.qtr q).regs := s.modQ_regs_of q fun _ => rfl
  unfold State.endSlot
  dsimp only
  split
  · rfl
  · split
    · rw [State.endLw_get _ _ h, hslot]
    · rw [hslot]

/-! ### Scalar slots -/

/-- A slot issues in the state itself or in that of its long word's start. -/
theorem State.offer_slot {s t : State} {q j w v : Nat} (h : s.offer q j w = .slot t v) :
    t = s ∨ t = s.startLw q ((s.qtr q).lw (s.qtr q).pc) := by
  unfold State.offer at h
  dsimp only at h
  split at h
  case isTrue => cases h
  split at h
  case isTrue =>
    repeat' split at h
    all_goals cases h
    exact .inr rfl
  case isFalse =>
    split at h <;> cases h
    exact .inl rfl

/-- What comes before a slot acts is inside its quarter. -/
theorem State.issues.framed {s t : State} {q : BitVec 4} {j op : Nat} {w : BitVec 120} (h : s.issues q j op w t) :
    t.mem = s.mem ∧ t.regs = s.regs ∧ s.framed t q.toNat := by
  rcases State.offer_slot h.1 with rfl | rfl
  · exact ⟨rfl, rfl, State.framed_refl _ _⟩
  · exact ⟨rfl, rfl, s.modQ_framed _ _⟩

/-- A slot that issues and raises nothing leaves the state after its effect. -/
theorem State.settle_issueSlot_of_calm {s t u : State} {q : BitVec 4} {j op : Nat} {w : BitVec 120}
    {act : State → Nat → Nat → Option State} (h : s.issues q j op w t) (hact : act t q.toNat (slotOf op w) = some u)
    (hcalm : (t.acted q j op w act).calm = true) :
    (s.issueSlot q.toNat j op w (fun t v => act t q.toNat v)).settle = t.acted q j op w act := by
  have hacted : t.acted q j op w act = u.endSlot q.toNat j := by rw [State.acted, hact]; rfl
  rw [State.issueSlot_of h hact, ← hacted, State.settle_of_calm hcalm]

/-- Settles O10: the result of a scalar slot is put in its destination or sent there, then the slot ends. -/
theorem scalarSlotFrame : Obligations.ScalarSlotFrame := by
  intro c q j op w s t hrow hj hop hissues hcalm
  obtain ⟨hmem, hregs, hframed⟩ := hissues.framed
  refine ⟨?exec, hmem, hregs, hframed, ?framed, ?mem, ?get⟩
  case exec => rw [exec_scalarSlot hrow hj hop, State.settle_issueSlot_of_calm (act := State.scalarSlot) hissues rfl hcalm]
  all_goals
    simp only [State.acted, State.scalarSlot, Option.getD_some]
  case framed => split <;> exact (t.modQ_framed _ _).trans (State.endSlot_framed _ _ _)
  case mem => split <;> exact State.endSlot_mem _ _ _
  case get =>
    intro i hfile hdest
    rw [State.endSlot_get _ _ _ hfile]
    split
    · rw [State.pendReg_regs]
    · exact State.putReg_get_of_ne _ _ _ hdest

/-! ### Loads and stores -/

section
variable {t : State} {q : BitVec 4} {op : Nat} {w : BitVec 120}

/-- A load that may access its address sends what memory holds there on its way. -/
theorem State.loadStore_of_load (hop : op < 256) (hload : isStoreOp op = false)
    (h : t.mayAccess q (memSize op) (slotOf op w) false) :
    t.loadStore q.toNat (slotOf op w) =
      some ((((t.issued q).pendReg q.toNat (specReg (mData (slotOf op w)))
        (loadValue op (t.loadN (t.effAddr q.toNat (slotOf op w)) (memSize op))) (some (t.qtr q.toNat).nextSeq)).outstand q.toNat
          (t.qtr q.toNat).nextSeq).postInc q.toNat (slotOf op w)) := by
  obtain ⟨haligned, hok, horder⟩ := h
  simp [State.loadStore, slotOp_slotOf op w hop, hload, haligned, hok, State.takeSeq, State.issued, horder]

/-- A store that may access its address writes the low bytes of its register there. -/
theorem State.loadStore_of_store (hop : op < 256) (hstore : isStoreOp op = true)
    (h : t.mayAccess q (memSize op) (slotOf op w) true) :
    t.loadStore q.toNat (slotOf op w) =
      some ((((t.issued q).store q.toNat (t.effAddr q.toNat (slotOf op w))
        (leBytes (memSize op) (t.src q.toNat (mData (slotOf op w))))).outstand q.toNat (t.qtr q.toNat).nextSeq).postInc q.toNat
          (slotOf op w)) := by
  obtain ⟨haligned, hok, horder⟩ := h
  simp [State.loadStore, slotOp_slotOf op w hop, hstore, haligned, hok, State.takeSeq, State.issued, horder]

end

/-- The bytes of a number are as many as asked for. -/
@[simp] theorem leBytes_length (k n : Nat) : (leBytes k n).length = k := by
  induction k generalizing n with
  | zero => rfl
  | succ k ih => rw [leBytes, List.length_cons, ih]

/-- A load or store moves 1, 2, 4 or 8 bytes. -/
theorem memSize_dvd (op : Nat) : memSize op ∣ 8 := by
  unfold memSize
  split <;> decide

/-- An aligned access of at most 8 bytes stays within one block. -/
theorem pieces_of_aligned {a n : Nat} (hn : n ∣ 8) (ha : a % n = 0) : pieces a n = [(a, n)] := by
  have hcases : n = 1 ∨ n = 2 ∨ n = 4 ∨ n = 8 := by
    have hle := Nat.le_of_dvd (by decide) hn
    interval_cases n <;> simp_all
  have hblock : (a + n - 1) / 64 - a / 64 + 1 = 1 := by rcases hcases with rfl | rfl | rfl | rfl <;> omega
  have hstart : max a (64 * (a / 64)) = a := by omega
  have hlen : min (a + n) (64 * (a / 64) + 64) - a = n := by rcases hcases with rfl | rfl | rfl | rfl <;> omega
  have hpos : n ≠ 0 := by rcases hcases with rfl | rfl | rfl | rfl <;> decide
  simp [pieces, hpos, hblock, hstart, hlen]

/-- Such a store is one piece. -/
theorem State.store_of_aligned (s : State) (q : Nat) {a : Nat} {bs : List Byte} (hn : bs.length ∣ 8) (ha : a % bs.length = 0) :
    s.store q a bs = s.storePiece q (a, bs) := by
  simp [State.store, pieces_of_aligned hn ha]

/-- One piece of a write that is no whole block: nothing once the epoch is being stopped, a full journal, or the bytes at their home
with their block in a journal. -/
theorem State.storePiece_eq (s : State) (q : Nat) {p : Nat × List Byte} (h : p.2.length ≠ 64) :
    (∃ r, s.storePiece q p = { s with rcv := r }) ∨
      ∃ m, m.bytes = s.mem.bytes ∧ s.storePiece q p = ({ s with mem := m } : State).poke (s.img.run.homeAddr p.1) p.2 := by
  simp only [State.storePiece, h, false_and, if_false]
  split_ifs
  case pos => exact .inl ⟨_, rfl⟩
  case pos => exact .inr ⟨_, rfl, rfl⟩
  case neg => exact .inr ⟨_, by rfl, rfl⟩
  case pos => exact .inr ⟨_, rfl, rfl⟩
  case pos => exact .inr ⟨_, by rfl, rfl⟩
  case neg => exact .inl ⟨_, rfl⟩

/-- Such a piece changes no register and no quarter. -/
theorem State.storePiece_framed (s : State) (q k : Nat) {p : Nat × List Byte} (h : p.2.length ≠ 64) :
    s.framed (s.storePiece q p) k ∧ (s.storePiece q p).qtr k = s.qtr k := by
  rcases s.storePiece_eq q h with ⟨r, he⟩ | ⟨m, _, he⟩ <;> rw [he]
  · exact ⟨s.stop_framed k r, rfl⟩
  · exact ⟨(s.mem_framed k m).trans (State.mem_framed _ k _), rfl⟩

/-- It changes the bytes it covers alone. -/
theorem State.storePiece_memGet (s : State) (q : Nat) {p : Nat × List Byte} (h : p.2.length ≠ 64) {x : Nat}
    (hx : x < s.img.run.homeAddr p.1 ∨ s.img.run.homeAddr p.1 + p.2.length ≤ x) :
    memGet (s.storePiece q p).mem.bytes x = memGet s.mem.bytes x := by
  rcases s.storePiece_eq q h with ⟨r, he⟩ | ⟨m, hm, he⟩ <;> rw [he]
  exact (memGet_memWrite_out _ _ _ _ hx).trans (by rw [hm])

/-- The post-increment is inside the quarter. -/
theorem State.postInc_framed (s : State) (q w : Nat) : s.framed (s.postInc q w) q := by
  unfold State.postInc
  split
  · exact s.modQ_framed q _
  · exact s.framed_refl q

/-- It leaves memory. -/
@[simp] theorem State.postInc_mem (s : State) (q w : Nat) : (s.postInc q w).mem = s.mem := by
  unfold State.postInc
  split <;> rfl

/-- It writes the base of an AM 2 address alone. -/
theorem State.postInc_get (s : State) (q w : Nat) {i : RegId} (h : i ≠ ⟨.a, mBase w⟩ ∨ mAM w ≠ 2) :
    ((s.postInc q w).qtr q).regs.get i = (s.qtr q).regs.get i := by
  unfold State.postInc
  split
  · next ham => exact State.putReg_get_of_ne _ _ _ (h.resolve_right (not_not_intro ham))
  · rfl

/-- An operation that takes its number leaves the quarter's registers. -/
theorem State.issued_regs (t : State) (q : BitVec 4) : ((t.issued q).qtr q.toNat).regs = (t.qtr q.toNat).regs :=
  t.modQ_regs_of _ fun _ => rfl

/-- So does one that becomes outstanding. -/
theorem State.outstand_regs (s : State) (q seq : Nat) : ((s.outstand q seq).qtr q).regs = (s.qtr q).regs :=
  s.modQ_regs_of q fun _ => rfl

/-- Settles O11: a load sends its result on its way, a store writes one piece of memory; then the base is incremented and the slot ends. -/
theorem loadStoreFrame : Obligations.LoadStoreFrame := by
  intro c q op w s t hrow hop hmemOp hissues hacc hcalm
  have hbyte : op < 256 := by omega
  obtain ⟨hmem, hregs, hframed⟩ := hissues.framed
  have hissued : t.framed (t.issued q) q.toNat := t.modQ_framed _ _
  cases hstore : isStoreOp op with
  | false =>
    rw [hstore] at hacc
    have hact := State.loadStore_of_load hbyte hstore hacc
    refine ⟨?exec, hmem, hregs, hframed, ?_⟩
    case exec => rw [exec_loadStore hrow hop hmemOp, State.settle_issueSlot_of_calm hissues hact hcalm]
    simp only [State.acted, hact, Option.getD_some]
    refine ⟨?framed, fun _ => ?mem, fun x _ => ?bytes, fun i hfile hbase => ?get⟩
    case framed =>
      exact (((hissued.trans (State.modQ_framed _ _ _)).trans (State.modQ_framed _ _ _)).trans (State.postInc_framed _ _ _)).trans
        (State.endSlot_framed _ _ _)
    case mem => rw [State.endSlot_mem, State.postInc_mem]; rfl
    case bytes => rw [State.endSlot_mem, State.postInc_mem]; rfl
    case get =>
      rw [State.endSlot_get _ _ _ hfile, State.postInc_get _ _ _ hbase, State.outstand_regs, State.pendReg_regs, State.issued_regs]
  | true =>
    rw [hstore] at hacc
    have hact := State.loadStore_of_store hbyte hstore hacc
    have hlen : ∀ n, (leBytes (memSize op) n).length ≠ 64 := fun n hn =>
      absurd (Nat.le_of_dvd (by decide) (memSize_dvd op)) (by rw [← leBytes_length (memSize op) n]; omega)
    have hone := fun n => (t.issued q).store_of_aligned q.toNat (a := t.effAddr q.toNat (slotOf op w)) (bs := leBytes (memSize op) n)
      (by rw [leBytes_length]; exact memSize_dvd op) (by rw [leBytes_length]; exact hacc.1)
    refine ⟨?exec, hmem, hregs, hframed, ?_⟩
    case exec => rw [exec_loadStore hrow hop hmemOp, State.settle_issueSlot_of_calm hissues hact hcalm]
    simp only [State.acted, hact, Option.getD_some, hone]
    refine ⟨?framed, fun h => absurd h (by decide), fun x hx => ?bytes, fun i hfile hbase => ?get⟩
    case framed =>
      exact (((hissued.trans (State.storePiece_framed _ _ _ (hlen _)).1).trans (State.modQ_framed _ _ _)).trans
        (State.postInc_framed _ _ _)).trans (State.endSlot_framed _ _ _)
    case bytes =>
      rw [State.endSlot_mem, State.postInc_mem]
      exact State.storePiece_memGet _ _ (hlen _) (by rwa [leBytes_length])
    case get =>
      rw [State.endSlot_get _ _ _ hfile, State.postInc_get _ _ _ hbase, State.outstand_regs,
        (State.storePiece_framed _ _ _ (hlen _)).2, State.issued_regs]

end Sys2Proof.Machine
end

section
/-! The bits of a point's state word, and RAISED and SUPPRESSED after an evaluation (O17). -/

namespace Sys2Proof.Machine

/-- A bit of a number is the one of the library. -/
theorem bitOf_eq_testBit (n i : Nat) : bitOf n i = n.testBit i := by
  rw [bitOf, Nat.testBit_eq_decide_div_mod_eq]
  rfl

/-- A word with bit `i` replaced, as what lies above the bit, the bit and what lies below it. -/
theorem PointSt.put_st (p : PointSt) (i : Nat) (b : Bool) :
    (p.put i b).st = p.st % 2 ^ i + 2 ^ i * (b2n b + 2 * (p.st / 2 ^ i / 2)) := by
  have hbit : b2n (bitOf p.st i) = p.st / 2 ^ i % 2 := by
    rcases Nat.mod_two_eq_zero_or_one (p.st / 2 ^ i) with h | h <;> simp [bitOf, b2n, h]
  have hword : p.st = p.st % 2 ^ i + (p.st / 2 ^ i % 2 * 2 ^ i + 2 ^ i * (2 * (p.st / 2 ^ i / 2))) := by
    rw [mul_comm _ (2 ^ i), ← mul_add, Nat.mod_add_div, Nat.mod_add_div]
  rw [PointSt.put, hbit, mul_add, mul_comm (2 ^ i) (b2n b)]
  dsimp only
  omega

/-- A bit reads as put. -/
@[simp] theorem PointSt.bit_put_self (p : PointSt) (i : Nat) (b : Bool) : bitOf (p.put i b).st i = b := by
  rw [PointSt.put_st, bitOf, Nat.add_mul_div_left _ _ (by positivity), Nat.mod_div_self, zero_add, Nat.add_mul_mod_self_left]
  cases b <;> rfl

/-- The other bits stay. -/
@[simp] theorem PointSt.bit_put_of_ne (p : PointSt) {i k : Nat} (b : Bool) (h : k ≠ i) :
    bitOf (p.put i b).st k = bitOf p.st k := by
  rw [bitOf_eq_testBit, bitOf_eq_testBit]
  rcases Nat.lt_or_gt_of_ne h with hbelow | habove
  · have hlow : (p.put i b).st % 2 ^ i = p.st % 2 ^ i := by rw [PointSt.put_st, Nat.add_mul_mod_self_left, Nat.mod_mod]
    have := congrArg (Nat.testBit · k) hlow
    simpa [Nat.testBit_mod_two_pow, hbelow] using this
  · have hhigh : (p.put i b).st / 2 ^ (i + 1) = p.st / 2 ^ (i + 1) := by
      rw [pow_succ, ← Nat.div_div_eq_div_mul, ← Nat.div_div_eq_div_mul, PointSt.put_st,
        Nat.add_mul_div_left _ _ (by positivity), Nat.mod_div_self, zero_add, Nat.add_mul_div_left _ _ (by decide)]
      cases b <;> simp [b2n]
    obtain ⟨j, rfl⟩ := Nat.exists_eq_add_of_lt habove
    have := congrArg (Nat.testBit · j) hhigh
    simp only [Nat.testBit_div_two_pow] at this
    rwa [show i + j + 1 = j + (i + 1) by omega]

/-- A point reads as set, and the others as before. -/
theorem State.setPoint_point (s : State) (p k : Nat) (v : PointSt) :
    (s.setPoint p v).point k = if k = p then v else s.point k := kvGet_kvSet ..

/-- R518: what RAISED is to be, from the other bits. -/
def PointSt.due (p : PointSt) : Bool := (p.active || p.srcBad || p.latched) && !p.shelvd && !p.suppr

/-- The point after its shelving has been counted down (R525): `held` when it was shelved in this commit. -/
def PointSt.counted (p : PointSt) (held : Bool) : PointSt :=
  if p.shelvd ∧ !held then (let p := { p with shelve := p.shelve - 1 }; if p.shelve = 0 then p.put 5 false else p) else p

/-- The point after LATCHED has been put to one that was left unacknowledged (R519). -/
def PointSt.latch (p old : PointSt) (r : PointRec) : PointSt :=
  if old.active ∧ !p.active ∧ p.unack ∧ bitOf r.flags 1 ∧ !p.event then p.put 7 true else p

/-- Counting the shelving changes SHELVED alone. -/
@[simp] theorem PointSt.bit_counted (p : PointSt) (held : Bool) {k : Nat} (h : k ≠ 5) :
    bitOf (p.counted held).st k = bitOf p.st k := by
  unfold PointSt.counted
  dsimp only
  split
  · split
    · exact PointSt.bit_put_of_ne _ _ h
    · rfl
  · rfl

/-- Latching changes LATCHED alone. -/
@[simp] theorem PointSt.bit_latch (p old : PointSt) (r : PointRec) {k : Nat} (h : k ≠ 7) :
    bitOf (p.latch old r).st k = bitOf p.st k := by
  unfold PointSt.latch
  split
  · exact PointSt.bit_put_of_ne _ _ h
  · rfl

/-- The point before RAISED is formed: EVENT, DEFINED and SUPPRESSED, then the shelving and LATCHED. -/
def State.marked (s : State) (old : PointSt) (r : PointRec) : PointSt :=
  (((((s.point r.point).put 9 (s.eventClass r.cls)).put 10 true).put 6
    (bitOf r.supFlags 0 && s.flag (R.GROUP r.supGroup) F.GROUP_STATE)).counted (s.alm.shelved.contains r.point)).latch old r

/-- An evaluation puts RAISED to that point, and UNACK when the point is new. -/
theorem State.annunciate_eq (s : State) (old : PointSt) (r : PointRec) :
    ∃ (t : State) (x : PointSt), t.alm = s.alm ∧
      (x = (s.marked old r).put 2 (s.marked old r).due ∨ x = ((s.marked old r).put 2 (s.marked old r).due).put 1 true) ∧
      s.annunciate old r = t.setPoint r.point x := by
  have hdrop : ∀ (c : Prop) [Decidable c] (a : Nat) (f : Fld), (if c then s.drop a f else s).alm = s.alm := by
    intro c _ a f
    split <;> rfl
  exact ⟨_, _, hdrop _ _ _, (ite_eq_or_eq _ _ _).symm, rfl⟩

/-- Settles O17: what is put after SUPPRESSED and RAISED are other bits of the word. -/
theorem raisedFollowsItsFormula : Obligations.RaisedFollowsItsFormula := by
  intro s old r
  obtain ⟨t, x, halm, hx, heq⟩ := s.annunciate_eq old r
  have hdefined : bitOf (s.marked old r).st 10 = true := by simp [State.marked]
  have hsuppr : (s.marked old r).suppr = (bitOf r.supFlags 0 && s.flag (R.GROUP r.supGroup) F.GROUP_STATE) := by
    simp [State.marked, PointSt.suppr]
  refine ⟨?raised, ?suppressed, fun k hk => ?others⟩
  case raised =>
    rw [heq, State.setPoint_point, if_pos rfl]
    rcases hx with rfl | rfl <;>
      simp [PointSt.raised, PointSt.due, PointSt.active, PointSt.srcBad, PointSt.latched, PointSt.shelvd, PointSt.suppr, hdefined]
  case suppressed =>
    rw [heq, State.setPoint_point, if_pos rfl, ← hsuppr]
    rcases hx with rfl | rfl <;> simp [PointSt.suppr]
  case others => rw [heq, State.setPoint_point, if_neg hk, State.point, halm, State.point]

end Sys2Proof.Machine
end

section
/-! What the slots of S0, S1, S2, M, G, V and X do when they issue (O18 to O26). -/

namespace Sys2Proof.Machine

/-! ### Operands -/

/-- A register of a quarter reads at most 64 bits. -/
theorem SeqRegs.get_lt (r : SeqRegs) (i : RegId) : r.get i < 2 ^ 64 := by
  obtain ⟨file, n⟩ := i
  cases file <;> simp only [SeqRegs.get]
  case s => split <;> omega
  case a => omega
  case p => split <;> linarith [b2n_le_one (nth r.p n false)]
  case lc => omega

/-- Operand A is the value of its register. -/
theorem State.opA_toNat (t : State) (q : BitVec 4) (op : Nat) (w : BitVec 120) :
    (t.opA q op w).toNat = t.src q.toNat (sRA (slotOf op w)) :=
  Nat.mod_eq_of_lt (SeqRegs.get_lt _ _)

/-- Operand C is the value of its register. -/
theorem State.opC_toNat (t : State) (q : BitVec 4) (op : Nat) (w : BitVec 120) :
    (t.opC q op w).toNat = t.src q.toNat (sRC (slotOf op w)) :=
  Nat.mod_eq_of_lt (SeqRegs.get_lt _ _)

/-- The immediate has 64 bits. -/
theorem sImm_lt (w : Nat) : sImm w < 2 ^ 64 := Nat.mod_lt _ (by decide)

/-- Operand B is the immediate or the value of its register. -/
theorem State.opB_toNat (t : State) (q : BitVec 4) (op : Nat) (w : BitVec 120) :
    (t.opB q op w).toNat = t.srcB q.toNat (slotOf op w) := by
  refine Nat.mod_eq_of_lt ?_
  unfold State.srcB
  split
  · exact sImm_lt _
  · exact SeqRegs.get_lt _ _

/-! ### Integer arithmetic -/

/-- The signed reading of a 64-bit word. -/
theorem toSigned_toNat {n : Nat} (x : BitVec n) (hn : 0 < n) : toSigned n x.toNat = x.toInt := by
  have hpow : 2 ^ n = 2 * 2 ^ (n - 1) := by rw [← pow_succ']; congr 1; omega
  rw [toSigned, Nat.mod_eq_of_lt x.isLt, BitVec.toInt_eq_toNat_cond]
  push_cast
  split <;> split <;> omega

/-- Its two's complement form. -/
theorem ofSigned_eq (n : Nat) (i : Int) : ofSigned n i = (BitVec.ofInt n i).toNat := by
  rw [ofSigned, BitVec.toNat_ofInt]
  push_cast
  rfl

section
variable (a b : BitVec 64)

/-- Table 7.4: the integer opcodes on 64-bit operands. -/
theorem intResult_add : intResult 0x01 a.toNat b.toNat = (a + b).toNat := by
  have hresult : intResult 0x01 a.toNat b.toNat = (a.toNat + b.toNat) % two64 := rfl
  rw [hresult, BitVec.toNat_add, two64]

theorem intResult_sub : intResult 0x02 a.toNat b.toNat = (a - b).toNat := by
  have hb := b.isLt
  have hresult : intResult 0x02 a.toNat b.toNat = (a.toNat + two64 - b.toNat) % two64 := by
    -- with the opcode a variable the kernel does not try to evaluate the branch
    generalize hop : 0x02 = op
    replace hop := hop.symm
    rw [intResult.eq_def]
    dsimp only
    split <;> first | contradiction | rfl
  rw [hresult, BitVec.toNat_sub, two64]
  congr 1
  omega

theorem intResult_and : intResult 0x03 a.toNat b.toNat = (a &&& b).toNat := (BitVec.toNat_and a b).symm

theorem intResult_or : intResult 0x04 a.toNat b.toNat = (a ||| b).toNat := (BitVec.toNat_or a b).symm

theorem intResult_xor : intResult 0x05 a.toNat b.toNat = (a ^^^ b).toNat := (BitVec.toNat_xor a b).symm

theorem intResult_shl : intResult 0x06 a.toNat b.toNat = (a <<< (b.toNat % 64)).toNat := by
  have hresult : intResult 0x06 a.toNat b.toNat = a.toNat * 2 ^ (b.toNat % 64) % two64 := rfl
  rw [hresult, BitVec.toNat_shiftLeft, Nat.shiftLeft_eq, two64]

theorem intResult_shr : intResult 0x07 a.toNat b.toNat = (a >>> (b.toNat % 64)).toNat := by
  rw [BitVec.toNat_ushiftRight, Nat.shiftRight_eq_div_pow]
  rfl

theorem intResult_sra : intResult 0x08 a.toNat b.toNat = (a.sshiftRight (b.toNat % 64)).toNat := by
  have hresult : intResult 0x08 a.toNat b.toNat = ofSigned 64 (toSigned 64 a.toNat / 2 ^ (b.toNat % 64)) := rfl
  rw [hresult, toSigned_toNat a (by decide), ofSigned_eq, BitVec.sshiftRight, Int.shiftRight_eq_div_pow]
  push_cast
  rfl

theorem intResult_mul : intResult 0x09 a.toNat b.toNat = (a * b).toNat := by
  have hresult : intResult 0x09 a.toNat b.toNat = a.toNat * b.toNat % two64 := rfl
  rw [hresult, BitVec.toNat_mul, two64]

theorem intResult_mulhu :
    intResult 0x0A a.toNat b.toNat = ((a.setWidth 128 * b.setWidth 128).extractLsb' 64 64).toNat := by
  have hresult : intResult 0x0A a.toNat b.toNat = a.toNat * b.toNat / 2 ^ 64 := rfl
  have ha : a.toNat % 2 ^ 128 = a.toNat := Nat.mod_eq_of_lt (a.isLt.trans (by decide))
  have hb : b.toNat % 2 ^ 128 = b.toNat := Nat.mod_eq_of_lt (b.isLt.trans (by decide))
  have hprod : a.toNat * b.toNat < 2 ^ 64 * 2 ^ 64 := Nat.mul_lt_mul'' a.isLt b.isLt
  rw [hresult, BitVec.extractLsb'_toNat, BitVec.toNat_mul, BitVec.toNat_setWidth, BitVec.toNat_setWidth, ha, hb,
    Nat.shiftRight_eq_div_pow, Nat.mod_eq_of_lt (hprod.trans_eq (by decide)), Nat.mod_eq_of_lt (Nat.div_lt_of_lt_mul hprod)]

theorem intResult_mulhs :
    intResult 0x0B a.toNat b.toNat = ((a.signExtend 128 * b.signExtend 128).extractLsb' 64 64).toNat := by
  have hresult : intResult 0x0B a.toNat b.toNat = ofSigned 64 (toSigned 64 a.toNat * toSigned 64 b.toNat / 2 ^ 64) := rfl
  have hprod : a.signExtend 128 * b.signExtend 128 = BitVec.ofInt 128 (a.toInt * b.toInt) := by
    rw [BitVec.signExtend, BitVec.signExtend, ← BitVec.ofInt_mul]
  rw [hresult, toSigned_toNat a (by decide), toSigned_toNat b (by decide), ofSigned, hprod, BitVec.extractLsb'_toNat,
    BitVec.toNat_ofInt, Nat.shiftRight_eq_div_pow]
  generalize a.toInt * b.toInt = p
  omega

/-- A word is zero when its number is. -/
theorem toNat_eq_zero_iff : b.toNat = 0 ↔ b = 0#64 := ⟨fun h => BitVec.eq_of_toNat_eq h, fun h => by rw [h]; rfl⟩

theorem intResult_divu :
    intResult 0x0C a.toNat b.toNat = (if b = 0#64 then BitVec.allOnes 64 else a / b).toNat := by
  have hresult : intResult 0x0C a.toNat b.toNat = if b.toNat = 0 then two64 - 1 else a.toNat / b.toNat := rfl
  rw [hresult, apply_ite BitVec.toNat, BitVec.toNat_allOnes, BitVec.toNat_udiv]
  exact if_congr (toNat_eq_zero_iff b) rfl rfl

theorem intResult_divs :
    intResult 0x0D a.toNat b.toNat = (if b = 0#64 then BitVec.allOnes 64 else a.sdiv b).toNat := by
  have hresult : intResult 0x0D a.toNat b.toNat =
      if b.toNat = 0 then two64 - 1 else ofSigned 64 (Int.tdiv (toSigned 64 a.toNat) (toSigned 64 b.toNat)) := rfl
  have hquot : BitVec.ofInt 64 (a.toInt.tdiv b.toInt) = a.sdiv b :=
    BitVec.eq_of_toInt_eq (by rw [BitVec.toInt_ofInt, BitVec.toInt_sdiv])
  rw [hresult, toSigned_toNat a (by decide), toSigned_toNat b (by decide), ofSigned_eq, hquot, apply_ite BitVec.toNat,
    BitVec.toNat_allOnes]
  exact if_congr (toNat_eq_zero_iff b) rfl rfl

theorem intResult_remu : intResult 0x0E a.toNat b.toNat = (if b = 0#64 then a else a % b).toNat := by
  have hresult : intResult 0x0E a.toNat b.toNat = if b.toNat = 0 then a.toNat else a.toNat % b.toNat := rfl
  rw [hresult, apply_ite BitVec.toNat, BitVec.toNat_umod]
  exact if_congr (toNat_eq_zero_iff b) rfl rfl

theorem intResult_rems : intResult 0x0F a.toNat b.toNat = (if b = 0#64 then a else a.srem b).toNat := by
  have hresult : intResult 0x0F a.toNat b.toNat =
      if b.toNat = 0 then a.toNat else ofSigned 64 (Int.tmod (toSigned 64 a.toNat) (toSigned 64 b.toNat)) := rfl
  rw [hresult, toSigned_toNat a (by decide), toSigned_toNat b (by decide), ofSigned_eq, ← BitVec.toInt_srem, BitVec.ofInt_toInt,
    apply_ite BitVec.toNat]
  exact if_congr (toNat_eq_zero_iff b) rfl rfl

end

/-! ### Scalar slots -/

/-- A truth value as a predicate register takes it is its number. -/
theorem bit64_toNat (b : Bool) : (bit64 b).toNat = b2n b := by cases b <;> rfl

section
variable {s t : State} {q : BitVec 4} {s1 : Bool} {op : Nat} {w : BitVec 120} {v : Nat}

/-- A scalar slot whose operation takes one step puts its result in its destination. -/
theorem State.scalar_lands (hop : op < 256) (hfast : isLongLatency op = false) (h : s.issues q (b2n s1) op w t)
    (hv : t.scalarResult q.toNat (slotOf op w) = v) : (s.scalar q s1 op w).settle = t.lands q s1 op w v := by
  have hact : t.scalarSlot q.toNat (slotOf op w) = some (t.putReg q.toNat (specReg (sRD (slotOf op w))) v) := by
    simp [State.scalarSlot, slotOp_slotOf op w hop, hfast, hv]
  rw [State.scalar, State.issueSlot_of h hact, State.lands]

/-- One that takes longer sends it there. -/
theorem State.scalar_sends (hop : op < 256) (hslow : isLongLatency op = true) (h : s.issues q (b2n s1) op w t)
    (hv : t.scalarResult q.toNat (slotOf op w) = v) : (s.scalar q s1 op w).settle = t.sends q s1 op w v := by
  have hact : t.scalarSlot q.toNat (slotOf op w) = some (t.pendReg q.toNat (specReg (sRD (slotOf op w))) v none) := by
    simp [State.scalarSlot, slotOp_slotOf op w hop, hslow, hv]
  rw [State.scalar, State.issueSlot_of h hact, State.sends]

/-- Table 7.4: the opcodes up to 0x0F are integer operations on A and B. -/
theorem State.scalarResult_int (hop : op ≤ 0x0F) :
    t.scalarResult q.toNat (slotOf op w) = intResult op (t.opA q op w).toNat (t.opB q op w).toNat := by
  simp [State.scalarResult, slotOp_slotOf op w (by omega), hop, State.opA_toNat, State.opB_toNat]

/-- 0x10 to 0x15 are integer comparisons. -/
theorem State.scalarResult_cmp {b : Bool} (hlo : 0x0F < op) (hhi : op ≤ 0x15)
    (hb : cmpResult op (t.opA q op w).toNat (t.opB q op w).toNat = b) :
    t.scalarResult q.toNat (slotOf op w) = (bit64 b).toNat := by
  rw [bit64_toNat, ← hb, State.opA_toNat, State.opB_toNat]
  simp [State.scalarResult, slotOp_slotOf op w (by omega), hlo, hhi]

/-- 0x1A to 0x1D are predicate operations. -/
theorem State.scalarResult_pred {b : Bool} (hlo : 0x19 < op) (hhi : op ≤ 0x1D)
    (hb : predResult op (t.opA q op w == 1#64) (t.opB q op w == 1#64) = b) :
    t.scalarResult q.toNat (slotOf op w) = (bit64 b).toNat := by
  have hone : ∀ x : BitVec 64, (x == 1#64) = (x.toNat == 1) := fun x => by
    rw [Bool.eq_iff_iff, beq_iff_eq, beq_iff_eq, BitVec.toNat_eq]
    rfl
  rw [bit64_toNat, ← hb, hone, hone, State.opA_toNat, State.opB_toNat]
  simp [State.scalarResult, slotOp_slotOf op w (by omega), show ¬op ≤ 15 by omega, show ¬op ≤ 21 by omega, show op ≠ 24 by omega,
    show op ≠ 25 by omega, hhi]

/-- 0x28 to 0x2A are floating-point comparisons. -/
theorem State.scalarResult_fcmp (hlo : 0x28 ≤ op) (hhi : op ≤ 0x2A) :
    t.scalarResult q.toNat (slotOf op w) = b2n (fcmpResult op (t.opA q op w).toNat (t.opB q op w).toNat) := by
  rw [State.opA_toNat, State.opB_toNat]
  simp [State.scalarResult, slotOp_slotOf op w (by omega), show ¬op ≤ 15 by omega, show ¬op ≤ 21 by omega, show op ≠ 24 by omega,
    show op ≠ 25 by omega, show ¬op ≤ 29 by omega, hlo, hhi]

/-- The others from 0x20 on are floating-point operations. -/
theorem State.scalarResult_fp (hlo : 0x1D < op) (hop : op < 256) (hcmp : op < 0x28 ∨ 0x2A < op) :
    t.scalarResult q.toNat (slotOf op w) =
      fpResult op (t.opA q op w).toNat (t.opB q op w).toNat (t.opC q op w).toNat := by
  rw [State.opA_toNat, State.opB_toNat, State.opC_toNat]
  simp [State.scalarResult, slotOp_slotOf op w hop, show ¬op ≤ 15 by omega, show ¬op ≤ 21 by omega, show op ≠ 24 by omega,
    show op ≠ 25 by omega, show ¬op ≤ 29 by omega, show ¬(40 ≤ op ∧ op ≤ 42) by omega]

end

section
variable (a b : BitVec 64)

/-- Table 7.4: the comparisons on 64-bit operands. -/
theorem cmpResult_eq : cmpResult 0x10 a.toNat b.toNat = (a == b) := by
  rw [Bool.eq_iff_iff]
  simp [cmpResult, BitVec.toNat_eq]

theorem cmpResult_ne : cmpResult 0x11 a.toNat b.toNat = (a != b) := by
  rw [Bool.eq_iff_iff]
  simp [cmpResult, BitVec.toNat_eq]

theorem cmpResult_ult : cmpResult 0x12 a.toNat b.toNat = a.ult b := by
  rw [Bool.eq_iff_iff]
  simp [cmpResult, Nat.blt_eq, BitVec.ult]

theorem cmpResult_slt : cmpResult 0x13 a.toNat b.toNat = a.slt b := by
  simp [cmpResult, toSigned_toNat, BitVec.slt]

theorem cmpResult_ule : cmpResult 0x14 a.toNat b.toNat = a.ule b := by
  rw [Bool.eq_iff_iff]
  simp [cmpResult, Nat.ble_eq, BitVec.ule]

theorem cmpResult_sle : cmpResult 0x15 a.toNat b.toNat = a.sle b := by
  simp [cmpResult, toSigned_toNat, BitVec.sle]

end

/-- Settles O18: the integer result of A and B lands, or is sent for multiply and divide. -/
theorem integerSlotsWriteTheirResult : Obligations.IntegerSlotsWriteTheirResult := by
  intro q s1 w s t
  refine ⟨fun h => ?add, fun h => ?sub, fun h => ?and, fun h => ?or, fun h => ?xor, fun h => ?shl, fun h => ?shr, fun h => ?sra,
    fun h => ?mul, fun h => ?mulhu, fun h => ?mulhs, fun h => ?divu, fun h => ?divs, fun h => ?remu, fun h => ?rems⟩ <;>
    refine congrArg Host.Outcome.next ?_
  case add => exact State.scalar_lands (by decide) rfl h ((State.scalarResult_int (by decide)).trans (intResult_add _ _))
  case sub => exact State.scalar_lands (by decide) rfl h ((State.scalarResult_int (by decide)).trans (intResult_sub _ _))
  case and => exact State.scalar_lands (by decide) rfl h ((State.scalarResult_int (by decide)).trans (intResult_and _ _))
  case or => exact State.scalar_lands (by decide) rfl h ((State.scalarResult_int (by decide)).trans (intResult_or _ _))
  case xor => exact State.scalar_lands (by decide) rfl h ((State.scalarResult_int (by decide)).trans (intResult_xor _ _))
  case shl => exact State.scalar_lands (by decide) rfl h ((State.scalarResult_int (by decide)).trans (intResult_shl _ _))
  case shr => exact State.scalar_lands (by decide) rfl h ((State.scalarResult_int (by decide)).trans (intResult_shr _ _))
  case sra => exact State.scalar_lands (by decide) rfl h ((State.scalarResult_int (by decide)).trans (intResult_sra _ _))
  case mul => exact State.scalar_sends (by decide) rfl h ((State.scalarResult_int (by decide)).trans (intResult_mul _ _))
  case mulhu => exact State.scalar_sends (by decide) rfl h ((State.scalarResult_int (by decide)).trans (intResult_mulhu _ _))
  case mulhs => exact State.scalar_sends (by decide) rfl h ((State.scalarResult_int (by decide)).trans (intResult_mulhs _ _))
  case divu => exact State.scalar_sends (by decide) rfl h ((State.scalarResult_int (by decide)).trans (intResult_divu _ _))
  case divs => exact State.scalar_sends (by decide) rfl h ((State.scalarResult_int (by decide)).trans (intResult_divs _ _))
  case remu => exact State.scalar_sends (by decide) rfl h ((State.scalarResult_int (by decide)).trans (intResult_remu _ _))
  case rems => exact State.scalar_sends (by decide) rfl h ((State.scalarResult_int (by decide)).trans (intResult_rems _ _))

/-- MOVI's result is its immediate. -/
theorem State.scalarResult_movi (t : State) (q : BitVec 4) (w : BitVec 120) :
    t.scalarResult q.toNat (slotOf 0x18 w) = (BitVec.ofNat 64 (sImm (slotOf 0x18 w))).toNat := by
  rw [BitVec.toNat_ofNat, Nat.mod_eq_of_lt (sImm_lt _)]
  simp [State.scalarResult, slotOp_slotOf]

/-- SEL's result is A when RC is one, else B. -/
theorem State.scalarResult_sel (t : State) (q : BitVec 4) (w : BitVec 120) :
    t.scalarResult q.toNat (slotOf 0x19 w) = (if t.opC q 0x19 w = 1#64 then t.opA q 0x19 w else t.opB q 0x19 w).toNat := by
  rw [apply_ite BitVec.toNat, State.opA_toNat, State.opB_toNat]
  simp [State.scalarResult, slotOp_slotOf, BitVec.toNat_eq, State.opC_toNat]

/-- Settles O19: the truth value, the immediate or the selected operand lands. -/
theorem compareAndPredicateSlots : Obligations.CompareAndPredicateSlots := by
  intro q s1 w s t
  refine ⟨fun h => ?eq, fun h => ?ne, fun h => ?ult, fun h => ?slt, fun h => ?ule, fun h => ?sle, fun h => ?movi, fun h => ?sel,
    fun h => ?pand, fun h => ?por, fun h => ?pxor, fun h => ?pnot⟩ <;>
    refine congrArg Host.Outcome.next (State.scalar_lands (by decide) rfl h ?_)
  case eq => exact State.scalarResult_cmp (by decide) (by decide) (cmpResult_eq _ _)
  case ne => exact State.scalarResult_cmp (by decide) (by decide) (cmpResult_ne _ _)
  case ult => exact State.scalarResult_cmp (by decide) (by decide) (cmpResult_ult _ _)
  case slt => exact State.scalarResult_cmp (by decide) (by decide) (cmpResult_slt _ _)
  case ule => exact State.scalarResult_cmp (by decide) (by decide) (cmpResult_ule _ _)
  case sle => exact State.scalarResult_cmp (by decide) (by decide) (cmpResult_sle _ _)
  case movi => exact t.scalarResult_movi q w
  case sel => exact t.scalarResult_sel q w
  case pand => exact State.scalarResult_pred (by decide) (by decide) rfl
  case por => exact State.scalarResult_pred (by decide) (by decide) rfl
  case pxor => exact State.scalarResult_pred (by decide) (by decide) rfl
  case pnot => exact State.scalarResult_pred (by decide) (by decide) rfl

/-- Settles O20: the result of the floating-point function of the opcode is sent. -/
theorem floatSlotsSendTheirResult : Obligations.FloatSlotsSendTheirResult := by
  intro q s1 w s t
  have hsigned : toSigned 64 (t.opA q 0x2B w).toNat = (t.opA q 0x2B w).toInt := toSigned_toNat _ (by decide)
  refine ⟨fun h => ?fadd, fun h => ?fsub, fun h => ?fmul, fun h => ?fma, fun h => ?fdiv, fun h => ?fsqrt, fun h => ?fmin,
    fun h => ?fmax, fun h => ?fcmpeq, fun h => ?fcmplt, fun h => ?fcmple, fun h => ?cvtif, fun h => ?cvtfi, fun h => ?fabs,
    fun h => ?fneg⟩ <;>
    refine congrArg Host.Outcome.next (State.scalar_sends (by decide) rfl h ?_)
  case fcmpeq | fcmplt | fcmple => exact State.scalarResult_fcmp (by decide) (by decide)
  case cvtif => exact (State.scalarResult_fp (by decide) (by decide) (by decide)).trans (congrArg (f32OfInt · 0) hsigned)
  all_goals exact State.scalarResult_fp (by decide) (by decide) (by decide)

/-! ### Control slots -/

/-- A slot that issues has its effect, ends, and what it raised is resolved. -/
theorem State.settle_issueSlot_of {s t u : State} {q : BitVec 4} {j op : Nat} {w : BitVec 120} {act : State → Nat → Option State}
    (h : s.issues q j op w t) (hact : act t (slotOf op w) = some u) :
    (s.issueSlot q.toNat j op w act).settle = (u.endSlot q.toNat j).settle := by
  rw [State.issueSlot_of h hact]

section
variable {t : State} {q : BitVec 4} {w : BitVec 120}

/-- BR branches to its target. -/
theorem State.controlSlot_br : t.controlSlot q.toNat (slotOf 0x01 w) =
    some (t.modQ q.toNat fun x => { x with branch := some (cTarget (slotOf 0x01 w)) }) := by
  simp [State.controlSlot, slotOp_slotOf]

/-- BRX branches to the long word a register names. -/
theorem State.controlSlot_brx : t.controlSlot q.toNat (slotOf 0x02 w) =
    some (t.modQ q.toNat fun x => { x with branch := some (t.src q.toNat (cBrxRA (slotOf 0x02 w))) }) := by
  simp [State.controlSlot, slotOp_slotOf]

/-- DONE ends fetching. -/
theorem State.controlSlot_done : t.controlSlot q.toNat (slotOf 0x0F w) =
    some (t.modQ q.toNat fun x => { x with done := some x.pc }) := by
  simp [State.controlSlot, slotOp_slotOf]

/-- A loop whose counter is free is set up. -/
theorem State.setLoop_of_free {v trip : Nat} (h : (t.qtr q.toNat).loops.all (fun l => l.ctr != cLC v) = true) :
    t.setLoop q.toNat v trip = t.beginLoop q v trip := by
  have hfree : (t.qtr q.toNat).loops.any (fun l => l.ctr == cLC v) = false := by
    simpa [List.any_eq_false, List.all_eq_true] using h
  by_cases h0 : trip = 0
  · subst h0
    simp [State.setLoop, hfree, State.beginLoop]
  · simp [State.setLoop, hfree, State.beginLoop, h0]

/-- LOOP takes its trip count from a register. -/
theorem State.controlSlot_loop (h : (t.qtr q.toNat).loops.all (fun l => l.ctr != cLC (slotOf 0x03 w)) = true) :
    t.controlSlot q.toNat (slotOf 0x03 w) =
      some (t.beginLoop q (slotOf 0x03 w) (t.src q.toNat (cLoopRA (slotOf 0x03 w)) % 2 ^ 32)) := by
  simp [State.controlSlot, slotOp_slotOf, State.setLoop_of_free h]

/-- LOOPI has it in the slot. -/
theorem State.controlSlot_loopi (h : (t.qtr q.toNat).loops.all (fun l => l.ctr != cLC (slotOf 0x04 w)) = true) :
    t.controlSlot q.toNat (slotOf 0x04 w) = some (t.beginLoop q (slotOf 0x04 w) (cCount (slotOf 0x04 w))) := by
  simp [State.controlSlot, slotOp_slotOf, State.setLoop_of_free h]

end

/-- Settles O21. -/
theorem controlSlotsSteerTheFetch : Obligations.ControlSlotsSteerTheFetch := by
  intro q w s t
  refine ⟨fun h => ?br, fun h => ?brx, fun h hfree => ?loop, fun h hfree => ?loopi, fun h => ?done⟩ <;>
    refine congrArg Host.Outcome.next ?_
  case br => exact State.settle_issueSlot_of h State.controlSlot_br
  case brx => exact State.settle_issueSlot_of h State.controlSlot_brx
  case loop => exact State.settle_issueSlot_of h (State.controlSlot_loop hfree)
  case loopi => exact State.settle_issueSlot_of h (State.controlSlot_loopi hfree)
  case done =>
    exact congrArg (fun u : State => (u.checkUndrained q.toNat).settle) (State.issueSlot_of h State.controlSlot_done)

/-! ### Loads and stores -/

/-- The signed reading looks at the low bits alone. -/
theorem toSigned_eq_toInt {k : Nat} (n : Nat) (hk : 0 < k) : toSigned k n = (BitVec.ofNat k n).toInt := by
  rw [← toSigned_toNat _ hk, BitVec.toNat_ofNat, toSigned, toSigned, Nat.mod_mod]

/-- The sign-extending loads: opcodes 0x05 to 0x07. -/
theorem loadValue_signed {op k : Nat} (n : Nat) (hop : 0x05 ≤ op ∧ op ≤ 0x07) (hk : 8 * memSize op = k) (hpos : 0 < k) :
    loadValue op n = ((BitVec.ofNat k n).signExtend 64).toNat := by
  rw [loadValue, if_pos hop, hk, toSigned_eq_toInt n hpos, ofSigned_eq]
  rfl

/-- The other loads extend with zeros. -/
theorem loadValue_unsigned {op : Nat} (n : Nat) (hop : op < 0x05) : loadValue op n = n := if_neg (by omega)

/-- Settles O22. -/
theorem loadsSendWhatMemoryHolds : Obligations.LoadsSendWhatMemoryHolds := by
  intro q w s t
  refine ⟨fun h hacc => ?ld1u, fun h hacc => ?ld2u, fun h hacc => ?ld4u, fun h hacc => ?ld8, fun h hacc => ?ld1s,
    fun h hacc => ?ld2s, fun h hacc => ?ld4s⟩ <;>
    refine congrArg Host.Outcome.next ((State.settle_issueSlot_of h (State.loadStore_of_load (by decide) rfl hacc)).trans ?_)
  case ld1u | ld2u | ld4u | ld8 =>
    rw [loadValue_unsigned _ (by decide)]
    rfl
  case ld1s | ld2s | ld4s =>
    rw [loadValue_signed _ (by decide) rfl (by decide)]
    rfl

/-- Settles O23. -/
theorem storesWriteTheirBytes : Obligations.StoresWriteTheirBytes := by
  intro q w s t
  refine ⟨fun h hacc => ?st1, fun h hacc => ?st2, fun h hacc => ?st4, fun h hacc => ?st8⟩ <;>
    exact congrArg Host.Outcome.next (State.settle_issueSlot_of h (State.loadStore_of_store (by decide) rfl hacc))

/-! ### Span and vector slots -/

/-- A G slot of a span of the configuration, which an enabled G0 of its long word does not name, enters the queue of the span. -/
theorem State.spanSlot_of_free {t : State} {q : BitVec 4} {g1 : Bool} {w : Nat} (h : t.spanFree q g1 w) :
    t.spanSlot q.toNat (4 + b2n g1) w =
      some ((t.issued q).setSpan q.toNat (gSpan w) { (t.issued q).span q.toNat (gSpan w) with
        queue := ((t.issued q).span q.toNat (gSpan w)).queue ++ [spanOpOf (t.qtr q.toNat).snap (spanKindOf (slotOp w))
          (t.qtr q.toNat).pc (4 + b2n g1) (t.qtr q.toNat).nextSeq w] }) := by
  obtain ⟨hspan, hother⟩ := h
  have hnone : (t.img.run.span q.toNat (gSpan w)).isNone = false := by simpa [Option.isNone_eq_false_iff] using hspan
  have hconflict : ¬(4 + b2n g1 = 5 ∧ slotOp (nth ((t.qtr q.toNat).lw (t.qtr q.toNat).pc) 4 0) ≠ 0 ∧
      predOn (t.qtr q.toNat).snap (nth ((t.qtr q.toNat).lw (t.qtr q.toNat).pc) 4 0) = true ∧
      gSpan (nth ((t.qtr q.toNat).lw (t.qtr q.toNat).pc) 4 0) = gSpan w) := by
    rintro ⟨hslot, hop, hon, hsame⟩
    have hg1 : g1 = true := by cases g1 <;> simp_all [b2n]
    rcases hother hg1 _ rfl with h0 | hoff | hne
    · exact hop h0
    · simp [hon] at hoff
    · exact hne hsame
  simp only [State.spanSlot, hnone, if_neg hconflict]
  rfl

/-- Such a slot is queued. -/
theorem State.gslot_queued {s t : State} {q : BitVec 4} {g1 : Bool} {op : Nat} {w : BitVec 120}
    (h : s.issues q (4 + b2n g1) op w t) (hfree : t.spanFree q g1 (slotOf op w)) :
    (s.gslot q g1 op w).settle = t.queued q g1 (slotOf op w) :=
  State.settle_issueSlot_of h (State.spanSlot_of_free hfree)

/-- Settles O24. -/
theorem spanSlotsEnterTheirQueue : Obligations.SpanSlotsEnterTheirQueue := by
  intro q g1 w s t
  refine ⟨fun h hfree => ?span, fun h hfree => ?bswitch, fun h hfree => ?bload, fun h hfree => ?brelease, fun h hfree => ?gopen,
    fun h hfree => ?gclose⟩ <;>
    exact congrArg Host.Outcome.next (State.gslot_queued h hfree)

/-- A V slot that issues is queued. -/
theorem State.vslot_vqueued {s t : State} {q : BitVec 4} {op : Nat} {w : BitVec 120} (h : s.issues q 6 op w t) :
    (s.vslot q op w).settle = t.vqueued q (slotOf op w) :=
  State.settle_issueSlot_of h rfl

/-- Settles O25. -/
theorem vectorSlotsEnterTheQueue : Obligations.VectorSlotsEnterTheQueue := by
  intro q w s t
  have hqueued : ∀ op, s.issues q 6 op w t →
      (Host.Outcome.next (s.vslot q op w).settle : Host.Outcome State Fault Refusal) = .next (t.vqueued q (slotOf op w)) :=
    fun op h => congrArg Host.Outcome.next (State.vslot_vqueued h)
  exact ⟨hqueued _, hqueued _, hqueued _, hqueued _, hqueued _, hqueued _, hqueued _, hqueued _, hqueued _, hqueued _, hqueued _,
    hqueued _, hqueued _, hqueued _, hqueued _, hqueued _, hqueued _, hqueued _, hqueued _, hqueued _, hqueued _⟩

/-! ### MOV, SIGNAL, WAIT, FENCE, LIVE, COPY and NOP -/

/-- COPY of aligned permitted blocks in order copies them. -/
theorem State.copySlot_of_ok {t : State} {q : BitVec 4} {w : Nat}
    (hsrc : (t.qtr q.toNat).snap.aN (mcSrc w) % 64 = 0) (hdst : (t.qtr q.toNat).snap.aN (mcDst w) % 64 = 0)
    (hlen : t.copyLen q w % 64 = 0)
    (hread : t.check q.toNat ((t.qtr q.toNat).snap.aN (mcSrc w)) (t.copyLen q w) false = .ok)
    (hwrite : t.check q.toNat ((t.qtr q.toNat).snap.aN (mcDst w)) (t.copyLen q w) true = .ok)
    (hreadOrder : t.inOrder q.toNat (t.qtr q.toNat).nextSeq ((t.qtr q.toNat).snap.aN (mcSrc w)) (t.copyLen q w) false = true)
    (hwriteOrder : t.inOrder q.toNat (t.qtr q.toNat).nextSeq ((t.qtr q.toNat).snap.aN (mcDst w)) (t.copyLen q w) true = true) :
    t.copySlot q.toNat w =
      some (((t.issued q).copyBlocks q.toNat ((t.qtr q.toNat).snap.aN (mcSrc w)) ((t.qtr q.toNat).snap.aN (mcDst w))
        (t.copyLen q w / 64)).outstand q.toNat (t.qtr q.toNat).nextSeq) := by
  generalize hn : t.copyLen q w = n at *
  rw [State.copyLen] at hn
  simp only [State.copySlot, hn]
  simp [hsrc, hdst, hlen, hread, hwrite, hreadOrder, hwriteOrder, Acc.andThen, firstBad, State.takeSeq, State.issued]

/-- Settles O26. -/
theorem exchangeCopyAndNopSlots : Obligations.ExchangeCopyAndNopSlots := by
  intro q j w seen s t
  refine ⟨fun h => ?mov, fun h => ?signal, fun h => ?wait, fun h => ?fence, fun h => ?live,
    fun hsrc hdst hlen hread hwrite hreadOrder hwriteOrder h => ?copy, fun h => ?nop⟩ <;>
    refine congrArg Host.Outcome.next ?_
  case mov | signal | wait | fence | live | nop => exact State.settle_issueSlot_of h rfl
  case copy => exact State.settle_issueSlot_of h (State.copySlot_of_ok hsrc hdst hlen hread hwrite hreadOrder hwriteOrder)

end Sys2Proof.Machine
end

section
/-! The image commands of the host (O32): the state of the pending image in which each IMG_CMD or SEQ_FLOOR write takes effect. -/

namespace Sys2Proof.Machine

/-! ### The registers written -/

/-- IMG_CMD takes its command from one 4-byte write. -/
theorem oneWrite_imgCmd : oneWrite R.IMG_CMD = true := by decide +kernel

/-- An accepted IMG_CMD write is its command. -/
theorem State.hostWrite_imgCmd {s u : State} {p : Path} {role : BitVec 2} {v : Nat} (h : s.accepts u p role R.IMG_CMD v) :
    s.hostWrite p role.toNat R.IMG_CMD v = u.imgCmd (v % 16) := by
  rw [State.hostWrite_of h oneWrite_imgCmd]
  rfl

/-- An accepted SEQ_FLOOR write raises the floor. -/
theorem State.hostPair_seqFloor {s u : State} {p : Path} {role : BitVec 2} {v : Nat}
    (h : s.acceptsPair u p role R.SEQ_FLOOR_LO v) : s.hostPair p role.toNat R.SEQ_FLOOR_LO v = u.seqFloor v := by
  have hrow : (rowOf R.SEQ_FLOOR_LO).isSome = true := by decide +kernel
  obtain ⟨r, hr⟩ := Option.isSome_iff_exists.mp hrow
  rw [State.hostPair_of h (by decide) (by decide +kernel) (by decide +kernel) hr]
  rfl

/-! ### The commands in the states that allow them -/

/-- STAGE_BEGIN is taken unless an image is received, verified or activated. -/
theorem State.stageBegin_of {s : State} (h1 : s.pendSt ≠ 1) (h2 : s.pendSt ≠ 2) (h5 : s.pendSt ≠ 5) :
    s.stageBegin = s.dropPend.setPend 1 := by
  simp [State.stageBegin, h1, h2, h5]

/-- VERIFY starts when every byte has arrived. -/
theorem State.imgVerify_of {s : State} (h1 : s.pendSt = 1) (hlen : s.regN R.RECV_BYTES = s.regN R.PENDING_LEN) :
    s.imgVerify = s.setPend 2 := by
  simp [State.imgVerify, h1, hlen]

/-- A partial image whose every section is live applies at once (R92). -/
theorem State.imgArm_live {s : State} (hst : s.pendSt = 3) (hk : imgKind s.img.pend = 1)
    (hlive : (imgSecs s.img.pend).all (fun x => x.cls == 0) = true) (hfree : s.restartArmed = false)
    (hok : s.partialRefusal s.img.pend = none) : s.imgArm = (s.setPend 5).mergePartial := by
  rw [State.imgArm, if_neg (not_not.mpr hst), if_pos ⟨hk, hlive⟩, if_neg (by simp [hfree]), hok]

section
variable {s : State} (hst : s.pendSt = 3)
  (hnl : imgKind s.img.pend ≠ 1 ∨ (imgSecs s.img.pend).all (fun x => x.cls == 0) = false)
include hst hnl

/-- Every other image waits for its epoch, or for a restart. -/
theorem State.imgArm_of_not_live : s.imgArm =
    if s.reg64 R.ACT_EPOCH_LO = 2 ^ 64 - 1 then
      if imgKind s.img.pend = 0 then
        (s.armRestart s.otherSlot (fun t => t.setSlot t.otherSlot ⟨s.img.pend, []⟩)).dropPend
      else if s.img.sel % 2 ≠ s.activeSlot then s.imgReject
      else (s.armRestart (s.activeSlot + 2)
        (fun t => t.setSlot s.activeSlot { t.slot s.activeSlot with overlay := s.img.pend })).dropPend
    else if s.restartArmed ∨ s.reg64 R.ACT_EPOCH_LO < s.epoch + 2 then s.imgReject
    else if imgKind s.img.pend = 0 ∧ ((cfgOf s.img.pend none).period ≠ s.img.run.period ∨
        (cfgOf s.img.pend none).phase ≠ s.img.run.phase) then s.imgReject
    else (s.setPend 4).modImg (fun m => { m with armEpoch := some (s.reg64 R.ACT_EPOCH_LO) }) := by
  have hlive : ¬(imgKind s.img.pend = 1 ∧ (imgSecs s.img.pend).all (fun x => x.cls == 0) = true) := by
    rintro ⟨hk, hall⟩
    rcases hnl with h | h
    · exact h hk
    · exact Bool.false_ne_true (h.symm.trans hall)
  rw [State.imgArm, if_neg (not_not.mpr hst), if_neg hlive]

/-- An image is armed for an epoch two ahead or later (R86, R87). -/
theorem State.imgArm_epoch (he : s.reg64 R.ACT_EPOCH_LO ≠ 2 ^ 64 - 1) (hfree : s.restartArmed = false)
    (hahead : s.epoch + 2 ≤ s.reg64 R.ACT_EPOCH_LO)
    (htime : imgKind s.img.pend = 0 →
      (cfgOf s.img.pend none).period = s.img.run.period ∧ (cfgOf s.img.pend none).phase = s.img.run.phase) :
    s.imgArm = (s.setPend 4).modImg (fun m => { m with armEpoch := some (s.reg64 R.ACT_EPOCH_LO) }) := by
  rw [State.imgArm_of_not_live hst hnl, if_neg he, if_neg (by simp [hfree, hahead]), if_neg]
  rintro ⟨hk, h⟩
  obtain ⟨hp, hph⟩ := htime hk
  exact h.elim (· hp) (· hph)

/-- A full image armed for the next restart goes to the other slot (R88). -/
theorem State.imgArm_restartFull (hk : imgKind s.img.pend = 0) (he : s.reg64 R.ACT_EPOCH_LO = 2 ^ 64 - 1) :
    s.imgArm = (s.armRestart s.otherSlot (fun t => t.setSlot t.otherSlot ⟨s.img.pend, []⟩)).dropPend := by
  rw [State.imgArm_of_not_live hst hnl, if_pos he, if_pos hk]

/-- A partial image armed for the next restart becomes the overlay of the active slot (R88). -/
theorem State.imgArm_restartPartial (hk : imgKind s.img.pend ≠ 0) (he : s.reg64 R.ACT_EPOCH_LO = 2 ^ 64 - 1)
    (hsel : s.img.sel % 2 = s.activeSlot) :
    s.imgArm = (s.armRestart (s.activeSlot + 2)
      (fun t => t.setSlot s.activeSlot { t.slot s.activeSlot with overlay := s.img.pend })).dropPend := by
  rw [State.imgArm_of_not_live hst hnl, if_pos he, if_neg hk, if_neg (not_not.mpr hsel)]

end

/-- CANCEL drops the pending image, and with none pending it withdraws a restart configuration. -/
theorem State.imgCancel_of {s : State} (h : s.pendSt ≠ 5) :
    s.imgCancel = (if s.pendSt = 0 ∨ s.pendSt = 6 then s.withdrawRestart else s).dropPend := by
  simp [State.imgCancel, h]

/-- SELECT_PREVIOUS names the other slot, with its overlay where it has one (R98, R101). -/
theorem State.selectPrevious_of {s : State} (hfree : s.restartArmed = false)
    (hfull : (s.slot s.otherSlot).full.isEmpty = false) (hfloor : s.regN R.SEQ_FLOOR_LO ≤ imgSeq (s.slot s.otherSlot).full) :
    s.selectPrevious = s.armRestart (s.otherSlot + 2 * b2n (!(s.slot s.otherSlot).overlay.isEmpty)) id := by
  simp [State.selectPrevious, hfree, List.isEmpty_eq_false_iff.mp hfull, hfloor]

/-- SEQ_FLOOR is never lowered (R101). -/
theorem State.seqFloor_of_le {s : State} {v : Nat} (h : s.regN R.SEQ_FLOOR_LO ≤ v) :
    s.seqFloor v = s.setPair R.SEQ_FLOOR_LO v := by
  simp [State.seqFloor, h]

/-- Settles O32: the accepted write is its command, and the hypotheses of each clause are the state that command needs. -/
theorem imageCommandsOfTheHost : Obligations.ImageCommandsOfTheHost := by
  intro s
  refine ⟨fun p role u hacc h1 h2 h5 => ?stage, fun p role u hacc h1 hlen => ?verify,
    fun p role u hacc hst hnl he hfree hahead htime => ?armEpoch, fun p role u hacc hst hk hlive hfree hok => ?armLive,
    fun p role u hacc hst hk he => ?restartFull, fun p role u hacc hst hk hnl he hsel => ?restartPartial,
    fun p role u hacc h5 => ?cancel, fun p role u hacc hfree hfull hfloor => ?previous,
    fun p role v u hacc hfloor => ?floor⟩ <;> refine congrArg (fun t => Host.Outcome.next (State.settle t)) ?_
  case stage => exact (State.hostWrite_imgCmd hacc).trans (State.stageBegin_of h1 h2 h5)
  case verify => exact (State.hostWrite_imgCmd hacc).trans (State.imgVerify_of h1 hlen)
  case armEpoch => exact (State.hostWrite_imgCmd hacc).trans (State.imgArm_epoch hst hnl he hfree hahead htime)
  case armLive => exact (State.hostWrite_imgCmd hacc).trans (State.imgArm_live hst hk hlive hfree hok)
  case restartFull =>
    exact (State.hostWrite_imgCmd hacc).trans (State.imgArm_restartFull hst (.inl (by simp [hk])) hk he)
  case restartPartial => exact (State.hostWrite_imgCmd hacc).trans (State.imgArm_restartPartial hst hnl hk he hsel)
  case cancel => exact (State.hostWrite_imgCmd hacc).trans (State.imgCancel_of h5)
  case previous => exact (State.hostWrite_imgCmd hacc).trans (State.selectPrevious_of hfree hfull hfloor)
  case floor => exact (State.hostPair_seqFloor hacc).trans (State.seqFloor_of_le hfloor)

end Sys2Proof.Machine
end

section
/-! Live command registers of the host (O33). A DIE_RESET is refused while the die's junction has not fallen below 85 °C since its
trip (R415), which the node keeps apart from TEMP_DIE: the register of a die that is off reads nothing. -/

namespace Sys2Proof.Machine

/-- A node whose die 3 has tripped: the die is off and hot, and its temperature register reads 0. -/
def dieThreeTripped : State :=
  { State.reset with
    host := { State.reset.host with begun := true }
    pwr := { State.reset.pwr with hot := [3] } }.raise R.PWR_STATUS (dieTripFld 3)
/-- A maintainer's session. -/
def maintainerPath : Path := .rcp 0 0x10 1
/-- Whether a reset of die `d` waits for the commit. -/
def asksReset (d : Nat) : Host.Outcome State Fault Refusal → Bool
  | .next s => s.pwr.dieAsked.contains d
  | _ => false

/-- A write is accepted when it passes each check of Table 19.4. -/
theorem State.accepts_intro {s : State} {p : Path} {role : BitVec 2} {a v : Nat} (hb : s.host.begun = true)
    (hg : s.gate p (s.roleOf p role.toNat) (s.writeRole a v) a = 0) (hc : (s.dropHold p).lastChecks a v = 0)
    (hm : (s.dropHold p).mirrorBusy a = false) (hs : (s.dropHold p).stoppedHit a v = false) :
    s.accepts (s.dropHold p) p role a v :=
  ⟨rfl, hb, hg, hc, hm, hs⟩

/-- A write of DIE_RESET for die 3 passes the checks of Table 19.4. -/
theorem dieThreeTripped_accepts : dieThreeTripped.accepts (dieThreeTripped.dropHold maintainerPath) maintainerPath 3#2 R.PWR_CMD
    (3 + 16 * (3#2).toNat) := by
  apply State.accepts_intro <;> decide +kernel

/-- The command itself is refused: the die is still hot. -/
theorem asksReset_dieThreeTripped : asksReset 3 (exec (.dieReset maintainerPath 3#2 3#2) dieThreeTripped) = false := by
  decide +kernel

/-- Refutes O33: the clause of DIE_RESET takes the temperature register for the junction, and with die 3 tripped and off the register
reads 0 while the junction has not been read below 85 °C, so the command is rejected. -/
theorem not_commandWritesOfTheHost : ¬ Obligations.CommandWritesOfTheHost := by
  intro h
  obtain ⟨-, -, -, -, hreset, -⟩ := h dieThreeTripped
  have hasked := congrArg (asksReset 3)
    (hreset maintainerPath 3#2 3#2 _ dieThreeTripped_accepts (.inl (by decide +kernel)) (.inr (by decide +kernel)))
  rw [asksReset_dieThreeTripped] at hasked
  exact absurd hasked (by decide +kernel)

end Sys2Proof.Machine
end

section
/-! Writes that wait for the commit or for the store (O34): which registers an accepted write shadows, what SEC_CMD checks, and where a
debug data write goes. -/

namespace Sys2Proof.Machine

/-! ### Registers whose write is a write of fields -/

/-- The registers with an effect of their own, GCTRL and the stage words apart. -/
def ownEffect : List Nat :=
  [R.IMG_CMD, R.TIME_CMD, R.HARB_CMD, R.PAIR_CMD, R.SYS_CMD, R.PWR_CMD, R.FAN_CTRL, R.ALM_CMD, R.CHAIN_CTRL, R.PACE_CTRL,
    R.PTP_CFG, R.SEC_CMD, R.SESS_KILL, R.HS_CMD]

/-- A register outside the dies without an effect of its own. -/
def plainRegister (a : Nat) : Bool :=
  !ownEffect.contains a && (idxOf a (R.CRED_STAGE 0) 8 4).isNone && (dieAddr a).isNone

/-- A write of a plain register is a write of its fields. -/
theorem State.effect_plain {s : State} {p : Path} {role a v : Nat} (h : plainRegister a = true) :
    s.effect p role a v = (0, s.writeFields a v (fun s m v => s.putShadow a m v)) := by
  simp only [plainRegister, ownEffect, Bool.and_eq_true, Bool.not_eq_true', Option.isNone_iff_eq_none, List.contains_eq_mem,
    decide_eq_false_iff_not, List.mem_cons, List.not_mem_nil, or_false, not_or] at h
  obtain ⟨⟨hown, hstage⟩, hdie⟩ := h
  simp only [State.effect, hown, if_false, hstage, hdie]

/-- An accepted write of a plain register is a write of its fields. -/
theorem State.hostWrite_plain {s u : State} {p : Path} {role : BitVec 2} {a v : Nat} (h : s.accepts u p role a v)
    (ha : (oneWrite a && plainRegister a) = true) :
    s.hostWrite p role.toNat a v = u.writeFields a v (fun s m v => s.putShadow a m v) := by
  obtain ⟨hone, hplain⟩ := Bool.and_eq_true_iff.mp ha
  rw [State.hostWrite_of h hone, State.effect_plain hplain]

/-- An accepted write of a plain register of the epoch class goes into its shadow (R573). -/
theorem State.hostWrite_shadowed {s u : State} {p : Path} {role : BitVec 2} {a v : Nat} (h : s.accepts u p role a v)
    (ha : (oneWrite a && plainRegister a && epochOnly a) = true) :
    s.hostWrite p role.toNat a v = u.putShadow a (epochBits a) v := by
  obtain ⟨hreg, hepoch⟩ := Bool.and_eq_true_iff.mp ha
  rw [State.hostWrite_plain h hreg, State.writeFields_of hepoch]

/-! ### Registers with live and stopped fields beside -/

/-- RANGE is live and RANGE_SHADOW is of the epoch class. -/
theorem aoCfg_classes : ∀ o : BitVec 4, (oneWrite (R.AO_CFG o.toNat) && plainRegister (R.AO_CFG o.toNat) &&
    stoppedBits (R.AO_CFG o.toNat) == 0 && liveBits (R.AO_CFG o.toNat) == 3 && epochBits (R.AO_CFG o.toNat) == 0xC &&
    R.AO_CFG o.toNat != R.RADIO_CFG && R.AO_CFG o.toNat != R.RADIO_MISC &&
    (idxOf (R.AO_CFG o.toNat) (R.RADIO_FIR 0) 4 4).isNone) = true := by
  decide +kernel

/-- A write of AO_CFG changes RANGE at once and puts RANGE_SHADOW into its shadow. -/
theorem State.writeFields_aoCfg (s : State) (o : BitVec 4) (v : Nat) (k : State → Nat → Nat → State) :
    s.writeFields (R.AO_CFG o.toNat) v k = k (s.mergeReg (R.AO_CFG o.toNat) 3 v) 0xC v := by
  have hclass := aoCfg_classes o
  simp only [Bool.and_eq_true, beq_iff_eq, bne_iff_ne, ne_eq, Option.isNone_iff_eq_none] at hclass
  obtain ⟨⟨⟨⟨⟨⟨-, hstop⟩, hlive⟩, hepoch⟩, hcfg⟩, hmisc⟩, hfir⟩ := hclass
  simp [State.writeFields, State.stoppedHit, State.noteWritten, State.fieldsTaken, hstop, hlive, hepoch, hcfg, hmisc, hfir]

/-- With the radio disabled a write of RADIO_CFG takes the stopped fields at once and puts EN into its shadow. -/
theorem State.writeFields_radioCfg {s : State} {v : Nat} (k : State → Nat → Nat → State)
    (hoff : s.flag R.RADIO_CFG F.RADIO_CFG_EN = false) :
    s.writeFields R.RADIO_CFG v k = k ((s.radioWritten true true).mergeReg R.RADIO_CFG 0x7FFFC v) 1 v := by
  have hstop : stoppedBits R.RADIO_CFG = 0x7FFFC := rfl
  have hepoch : epochBits R.RADIO_CFG = 1 := rfl
  have hlive : liveBits R.RADIO_CFG = 0 := by decide +kernel
  have hidle : s.blockRuns R.RADIO_CFG = false := by simpa [State.blockRuns, R.RADIO_CFG] using hoff
  have hidle' : (s.radioWritten true true).blockRuns R.RADIO_CFG = false := by
    rw [← hidle]
    have hreg : (s.radioWritten true true).reg R.RADIO_CFG = s.reg R.RADIO_CFG :=
      State.setReg_reg_of_ne _ _ (by decide)
    simp [State.blockRuns, R.RADIO_CFG, State.flag, State.getF] at hreg ⊢
    rw [hreg]
  simp [State.writeFields, State.stoppedHit, State.noteWritten, State.fieldsTaken, hstop, hlive, hepoch, hidle, hidle']

/-- The FIR words are plain registers of one class, stopped. -/
theorem radioFir_classes : ∀ i : BitVec 2, (oneWrite (R.RADIO_FIR i.toNat) && plainRegister (R.RADIO_FIR i.toNat) &&
    epochBits (R.RADIO_FIR i.toNat) == 0 && R.RADIO_FIR i.toNat != R.RADIO_CFG && R.RADIO_FIR i.toNat != R.RADIO_MISC &&
    (idxOf (R.RADIO_FIR i.toNat) (R.RADIO_FIR 0) 4 4).isSome) = true := by
  decide +kernel

/-- A write of a FIR word that no class bars lifts the mask inhibit and takes its value (R495). -/
theorem State.writeFields_radioFir {s : State} {v : Nat} (i : BitVec 2) (k : State → Nat → Nat → State)
    (hfree : s.stoppedHit (R.RADIO_FIR i.toNat) v = false) :
    s.writeFields (R.RADIO_FIR i.toNat) v k = (s.radioWritten false true).fieldsTaken (R.RADIO_FIR i.toNat) v := by
  have hclass := radioFir_classes i
  simp only [Bool.and_eq_true, beq_iff_eq, bne_iff_ne, ne_eq] at hclass
  obtain ⟨⟨⟨⟨-, hepoch⟩, hcfg⟩, hmisc⟩, hfir⟩ := hclass
  simp [State.writeFields, State.noteWritten, hfree, hepoch, hcfg, hmisc, hfir]

/-! ### GCTRL -/

/-- Where a grain's control register lies in its die. -/
theorem dieAddr_gctrl {q g : Nat} (hq : q < 16) (hg : g < 96) :
    dieAddr (R.GCTRL q g) = some (q / 4, 0x101018 + 0x80 * (96 * (q % 4) + g)) := by
  have hdie : 0x1000000 ≤ R.GCTRL q g ∧ R.GCTRL q g < 0x2000000 := by simp only [R.GCTRL]; omega
  rw [dieAddr, if_pos hdie]
  simp only [R.GCTRL, Option.some.injEq, Prod.mk.injEq]
  omega

/-- GCTRL takes its command from one 4-byte write. -/
theorem oneWrite_gctrl {q g : Nat} (hq : q < 16) (hg : g < 96) : oneWrite (R.GCTRL q g) = true := by
  have hword : R.GCTRL q g % 4 = 0 := by simp only [R.GCTRL]; omega
  have hdata : isData (R.GCTRL q g) = false := by
    rw [Bool.eq_false_iff]
    simp only [isData, dieAddr_gctrl hq hg, ne_eq, Bool.and_eq_true, Nat.ble_eq, Nat.blt_eq]
    omega
  simp [oneWrite, rowOf_gctrl q g hq hg, hword, hdata]

/-- GCTRL is of the epoch class as a whole. -/
theorem epochOnly_gctrl {q g : Nat} (hq : q < 16) (hg : g < 96) : epochOnly (R.GCTRL q g) = true := by
  have hrow := rowOf_gctrl q g hq hg
  have hbase : 0x1101018 ≤ R.GCTRL q g ∧ R.GCTRL q g < 0x2000000 := by simp only [R.GCTRL]; omega
  have hcfg : R.GCTRL q g ≠ R.RADIO_CFG := by simp only [R.RADIO_CFG]; omega
  have hld : R.GCTRL q g ≠ R.LD_CFG1 := by simp only [R.LD_CFG1]; omega
  have hmisc : R.GCTRL q g ≠ R.RADIO_MISC := by simp only [R.RADIO_MISC]; omega
  have hao : idxOf (R.GCTRL q g) (R.AO_CFG 0) 16 64 = none := by
    simp [idxOf, R.AO_CFG]; omega
  have hfir : idxOf (R.GCTRL q g) (R.RADIO_FIR 0) 4 4 = none := by
    simp [idxOf, R.RADIO_FIR]; omega
  simp [epochOnly, stoppedBits, liveBits, epochBits, hrow, hcfg, hld, hmisc, hao, hfir]

/-- A write of GCTRL is a write of its fields. -/
theorem State.effect_gctrl {s : State} {p : Path} {role q g v : Nat} (hq : q < 16) (hg : g < 96) :
    s.effect p role (R.GCTRL q g) v =
      (0, s.writeFields (R.GCTRL q g) v (fun s m v => s.putShadow (R.GCTRL q g) m v)) := by
  have hbase : 0x1101018 ≤ R.GCTRL q g := by simp only [R.GCTRL]; omega
  have hown : ∀ b ∈ ownEffect, R.GCTRL q g ≠ b := by
    intro b hb
    have hlow : b < 0x1101018 := by revert b; decide
    omega
  simp only [ownEffect, List.forall_mem_cons] at hown
  have hstage : idxOf (R.GCTRL q g) (R.CRED_STAGE 0) 8 4 = none := by
    simp [idxOf, R.CRED_STAGE]; omega
  simp only [State.effect, hown, if_false, hstage, dieAddr_gctrl hq hg]
  rw [if_neg (by omega), if_neg (by omega), if_neg (by omega)]

/-! ### Pair words -/

/-- A PW register outside the dies, SEQ_FLOOR apart, goes into its shadow. -/
theorem State.effectPair_shadowed {s : State} {p : Path} {a lo hi : Nat} (hfloor : a ≠ R.SEQ_FLOOR_LO) (hdie : dieAddr a = none)
    (hpw : isPw a = true) (hepoch : epochBits a ≠ 0) : s.effectPair p a lo hi = s.putShadow a 0xFFFFFFFF lo := by
  simp [State.effectPair, hfloor, hdie, State.writePairFields, hpw, hepoch]

/-- The output commands are PW registers of the epoch class. -/
theorem aoCmd_classes : ∀ o : BitVec 4, (R.AO_CMD_LO o.toNat % 4 == 0 && isLow (R.AO_CMD_LO o.toNat) && isPw (R.AO_CMD_LO o.toNat) &&
    (rowOf (R.AO_CMD_LO o.toNat)).isSome && R.AO_CMD_LO o.toNat != R.SEQ_FLOOR_LO && (dieAddr (R.AO_CMD_LO o.toNat)).isNone &&
    epochBits (R.AO_CMD_LO o.toNat) != 0) = true := by
  decide +kernel

/-- An accepted write of an output command waits for the commit. -/
theorem State.hostPair_aoCmd {s u : State} {p : Path} {role : BitVec 2} {o : BitVec 4} {v : Nat}
    (h : s.acceptsPair u p role (R.AO_CMD_LO o.toNat) v) :
    s.hostPair p role.toNat (R.AO_CMD_LO o.toNat) v = u.putShadow (R.AO_CMD_LO o.toNat) 0xFFFFFFFF v := by
  have hclass := aoCmd_classes o
  simp only [Bool.and_eq_true, beq_iff_eq, bne_iff_ne, ne_eq, Option.isNone_iff_eq_none] at hclass
  obtain ⟨⟨⟨⟨⟨⟨hword, hlow⟩, hpw⟩, hrow⟩, hfloor⟩, hdie⟩, hepoch⟩ := hclass
  obtain ⟨r, hr⟩ := Option.isSome_iff_exists.mp hrow
  rw [State.hostPair_of h hword hlow hpw hr, State.effectPair_shadowed hfloor hdie hpw hepoch]

/-- A setpoint is the low half of a register pair. -/
theorem isLow_setpoint {i : Nat} (hi : i < 4096) : isLow (R.SETPOINT_LO i) = true := by
  rw [isLow, List.any_eq_true]
  refine ⟨(R.SETPOINT_LO 0, [(4096, 8)]), by decide +kernel, ?_⟩
  simp only [inArr, R.SETPOINT_LO, Bool.and_eq_true, Nat.ble_eq, Nat.blt_eq, beq_iff_eq]
  omega

/-- An accepted write of a setpoint waits for the commit. -/
theorem State.hostPair_setpoint {s u : State} {p : Path} {role : BitVec 2} {i v : Nat} (hi : i < 4096)
    (h : s.acceptsPair u p role (R.SETPOINT_LO i) v) :
    s.hostPair p role.toNat (R.SETPOINT_LO i) v = u.putShadow (R.SETPOINT_LO i) 0xFFFFFFFF v := by
  have hrow := rowOf_setpoint i hi
  have hbound : 0x74000 ≤ R.SETPOINT_LO i ∧ R.SETPOINT_LO i < 0x7C000 := by simp only [R.SETPOINT_LO]; omega
  have hpw : isPw (R.SETPOINT_LO i) = true := by simp [isPw, hrow]
  have hcfg : R.SETPOINT_LO i ≠ R.RADIO_CFG := by simp only [R.RADIO_CFG]; omega
  have hld : R.SETPOINT_LO i ≠ R.LD_CFG1 := by simp only [R.LD_CFG1]; omega
  have hao : idxOf (R.SETPOINT_LO i) (R.AO_CFG 0) 16 64 = none := by
    simp [idxOf, R.AO_CFG]; omega
  have hepoch : epochBits (R.SETPOINT_LO i) ≠ 0 := by simp [epochBits, hcfg, hld, hao, hrow]
  have hdie : dieAddr (R.SETPOINT_LO i) = none := if_neg (by omega)
  rw [State.hostPair_of h (by simp only [R.SETPOINT_LO]; omega) (isLow_setpoint hi) hpw hrow,
    State.effectPair_shadowed (by simp only [R.SEQ_FLOOR_LO]; omega) hdie hpw hepoch]

end Sys2Proof.Machine
end

section
/-! The commands of the security store and the debug data window, and what an accepted write that waits does (O34). -/

namespace Sys2Proof.Machine

/-! ### SEC_CMD (R576 to R578) -/

/-- SEC_CMD takes its command from one 4-byte write. -/
theorem oneWrite_secCmd : oneWrite R.SEC_CMD = true := by decide +kernel

/-- An accepted write of SEC_CMD is its command. -/
theorem State.hostWrite_secCmd {s u : State} {p : Path} {role : BitVec 2} {v : Nat} (h : s.accepts u p role R.SEC_CMD v) :
    s.hostWrite p role.toNat R.SEC_CMD v = u.secCmd v := by
  rw [State.hostWrite_of h oneWrite_secCmd]
  rfl

/-- Writing the key stages leaves every other register. -/
theorem State.foldl_keyStage_reg {b : Nat} : ∀ (ws : List Nat) (s : State), (∀ w ∈ ws, b ≠ R.KEY_STAGE w) →
    (ws.foldl (fun s w => s.setRegN (R.KEY_STAGE w) 0) s).reg b = s.reg b
  | [], _, _ => rfl
  | w :: ws, s, h => by
    rw [List.foldl_cons, State.foldl_keyStage_reg ws _ (fun x hx => h x (List.mem_cons_of_mem _ hx))]
    exact s.setReg_reg_of_ne _ (h w List.mem_cons_self)

/-- The key stages are no host record. -/
theorem State.foldl_keyStage_host : ∀ (ws : List Nat) (s : State),
    (ws.foldl (fun s w => s.setRegN (R.KEY_STAGE w) 0) s).host = s.host
  | [], _ => rfl
  | w :: ws, s => by
    rw [List.foldl_cons, State.foldl_keyStage_host ws]
    rfl

/-- Nor are they an image. -/
theorem State.foldl_keyStage_img : ∀ (ws : List Nat) (s : State),
    (ws.foldl (fun s w => s.setRegN (R.KEY_STAGE w) 0) s).img = s.img
  | [], _ => rfl
  | w :: ws, s => by
    rw [List.foldl_cons, State.foldl_keyStage_img ws]
    rfl

/-- Clearing the stages leaves every register outside them. -/
theorem State.clearStages_reg (s : State) {b : Nat} (h : b < R.KEY_STAGE 0 ∨ R.CRED_STAGE 0 ≤ b) :
    s.clearStages.reg b = s.reg b := by
  rw [State.clearStages, State.modHost_reg]
  refine State.foldl_keyStage_reg (List.range 8) s fun w hw => ?_
  have hw8 : w < 8 := List.mem_range.mp hw
  simp only [R.KEY_STAGE, R.CRED_STAGE] at h ⊢
  omega

/-- It keeps the keys. -/
@[simp] theorem State.clearStages_keys (s : State) : s.clearStages.host.keys = s.host.keys := by
  rw [State.clearStages, State.modHost_host, State.foldl_keyStage_host]

/-- It keeps the secrets. -/
@[simp] theorem State.clearStages_creds (s : State) : s.clearStages.host.creds = s.host.creds := by
  rw [State.clearStages, State.modHost_host, State.foldl_keyStage_host]

/-- It keeps the images. -/
@[simp] theorem State.clearStages_img (s : State) : s.clearStages.img = s.img := by
  rw [State.clearStages, State.modHost_img, State.foldl_keyStage_img]

/-- It keeps STORE_BUSY. -/
@[simp] theorem State.clearStages_busy (s : State) :
    s.clearStages.flag R.SEC_STATUS F.SEC_STATUS_STORE_BUSY = s.flag R.SEC_STATUS F.SEC_STATUS_STORE_BUSY := by
  simp only [State.flag, State.getF, s.clearStages_reg (b := R.SEC_STATUS) (.inl (by decide))]

/-- It keeps the length of the revocation list. -/
@[simp] theorem State.clearStages_revokedCnt (s : State) : s.clearStages.regN R.REVOKED_CNT = s.regN R.REVOKED_CNT := by
  simp only [State.regN, s.clearStages_reg (b := R.REVOKED_CNT) (.inl (by decide))]

/-- It keeps the revocation list. -/
@[simp] theorem State.clearStages_revoked (s : State) : s.clearStages.revoked = s.revoked := by
  have hword (r k : Nat) : s.clearStages.regN (R.REVOKED_LO r + k) = s.regN (R.REVOKED_LO r + k) := by
    rw [State.regN, s.clearStages_reg (.inr (by simp only [R.CRED_STAGE, R.REVOKED_LO]; omega)), State.regN]
  have hlow (r : Nat) := hword r 0
  simp only [Nat.add_zero] at hlow
  simp only [State.revoked, State.clearStages_revokedCnt, State.reg64, hlow, hword]

/-- It keeps what each credential may do. -/
@[simp] theorem State.clearStages_credCfg (s : State) (j : Nat) : s.clearStages.regN (R.CRED_CFG j) = s.regN (R.CRED_CFG j) := by
  rw [State.regN, s.clearStages_reg (.inr (by simp only [R.CRED_STAGE, R.CRED_CFG]; omega)), State.regN]

/-- It keeps the keys in use. -/
@[simp] theorem State.clearStages_activeKeys (s : State) : s.clearStages.activeKeys = s.activeKeys := by
  have hreg : s.clearStages.reg R.IMG_STATUS = s.reg R.IMG_STATUS := s.clearStages_reg (.inl (by decide))
  have hactive : s.clearStages.activeSlot = s.activeSlot := by simp only [State.activeSlot, State.getF, hreg]
  have hslot (i : Nat) : s.clearStages.slot i = s.slot i := by simp only [State.slot, State.clearStages_img]
  have hflag : s.clearStages.flag R.IMG_STATUS F.IMG_STATUS_OVERLAY = s.flag R.IMG_STATUS F.IMG_STATUS_OVERLAY := by
    simp only [State.flag, State.getF, hreg]
  rw [State.activeKeys, State.activeKeys, hactive, hslot, hflag]

/-- ENROLL_KEY of a new key into an empty slot starts the store. -/
theorem State.secCmd_enrollKey {s : State} {slot : Nat} (hslot : slot < 16)
    (hidle : s.flag R.SEC_STATUS F.SEC_STATUS_STORE_BUSY = false) (hempty : nth s.host.keys slot none = none)
    (hrevoked : s.revoked.contains (keyId s.stagedKey) = false)
    (hnew : ∀ k pk, k ∈ s.host.keys → k = some pk → keyId pk ≠ keyId s.stagedKey)
    (hset : s.stagedKey.all (fun b => b == 0#8) = false) :
    s.secCmd (1 + 16 * slot) = s.clearStages.secTake ⟨1, slot, 0, s.stagedKey⟩ := by
  have hcmd : (1 + 16 * slot) % 16 = 1 := by omega
  have hsl : bitsOf (1 + 16 * slot) 7 4 = slot := by simp only [bitsOf]; omega
  have hrole : bitsOf (1 + 16 * slot) 9 8 = 0 := by simp only [bitsOf]; omega
  simp only [State.secCmd, hcmd, hsl, hrole, State.clearStages_busy, hidle, State.clearStages_keys, hempty,
    State.clearStages_revoked, hrevoked]
  rw [if_neg (by simp), if_pos trivial, if_neg (by simp), if_neg, if_neg (by simp [hset])]
  rintro (h | h)
  · exact Bool.false_ne_true h
  · obtain ⟨k, hk, hsame⟩ := List.any_eq_true.mp h
    cases k with
    | none => cases hsame
    | some pk => exact hnew _ pk hk rfl (beq_iff_eq.mp hsame)

/-- REVOKE_KEY of a key that is not the last, and not in use unless FORCE is set, starts the store. -/
theorem State.secCmd_revokeKey {s : State} {slot : Nat} {force : Bool} {pk : List Byte} (hslot : slot < 16)
    (hidle : s.flag R.SEC_STATUS F.SEC_STATUS_STORE_BUSY = false) (hkey : nth s.host.keys slot none = some pk)
    (hroom : s.regN R.REVOKED_CNT < 32) (hlast : 1 < (s.host.keys.filter Option.isSome).length)
    (hfree : s.activeKeys.contains (keyId pk) = false ∨ force = true) :
    s.secCmd (2 + 16 * slot + 1024 * b2n force) = s.clearStages.secTake ⟨2, slot, 0, []⟩ := by
  have hb := b2n_le_one force
  have hcmd : (2 + 16 * slot + 1024 * b2n force) % 16 = 2 := by omega
  have hsl : bitsOf (2 + 16 * slot + 1024 * b2n force) 7 4 = slot := by simp only [bitsOf]; omega
  have hrole : bitsOf (2 + 16 * slot + 1024 * b2n force) 9 8 = 0 := by simp only [bitsOf]; omega
  have hforce : bitOf (2 + 16 * slot + 1024 * b2n force) 10 = force := by
    have hdiv : (2 + 16 * slot + 1024 * b2n force) / 2 ^ 10 = b2n force := by omega
    rw [bitOf, hdiv]
    cases force <;> rfl
  have huse : ¬(s.activeKeys.contains (keyId pk) = true ∧ (!force) = true) := by
    rintro ⟨ha, hf⟩
    rcases hfree with h | h
    · exact Bool.false_ne_true (h.symm.trans ha)
    · simp [h] at hf
  simp only [State.secCmd, hcmd, hsl, hrole, hforce, State.clearStages_busy, hidle, State.clearStages_keys, hkey,
    State.clearStages_revokedCnt, State.clearStages_activeKeys, if_neg (Nat.not_le.mpr hroom), if_neg (Nat.not_le.mpr hlast),
    if_neg huse]
  rfl

/-- ENROLL_CRED into an empty slot starts the store. -/
theorem State.secCmd_enrollCred {s : State} {slot role : Nat} (hslot : slot < 16) (hrole : role < 4)
    (hidle : s.flag R.SEC_STATUS F.SEC_STATUS_STORE_BUSY = false) (hempty : nth s.host.creds slot none = none) :
    s.secCmd (3 + 16 * slot + 256 * role) = s.clearStages.secTake ⟨3, slot, role, s.stagedCred⟩ := by
  have hcmd : (3 + 16 * slot + 256 * role) % 16 = 3 := by omega
  have hsl : bitsOf (3 + 16 * slot + 256 * role) 7 4 = slot := by simp only [bitsOf]; omega
  have hr : bitsOf (3 + 16 * slot + 256 * role) 9 8 = role := by simp only [bitsOf]; omega
  simp only [State.secCmd, hcmd, hsl, hr, State.clearStages_busy, hidle, State.clearStages_creds, hempty]
  rfl

/-- REMOVE_CRED with another maintainer left starts the store. -/
theorem State.secCmd_removeCred {s : State} {slot : Nat} (hslot : slot < 16)
    (hidle : s.flag R.SEC_STATUS F.SEC_STATUS_STORE_BUSY = false) (hcred : (nth s.host.creds slot none).isSome = true)
    (hother : (List.range 16).any (fun j => j != slot && s.regN (R.CRED_CFG j) % 8 == 7) = true) :
    s.secCmd (4 + 16 * slot) = s.clearStages.secTake ⟨4, slot, 0, []⟩ := by
  have hcmd : (4 + 16 * slot) % 16 = 4 := by omega
  have hsl : bitsOf (4 + 16 * slot) 7 4 = slot := by simp only [bitsOf]; omega
  have hrole : bitsOf (4 + 16 * slot) 9 8 = 0 := by simp only [bitsOf]; omega
  have hthere : (nth s.host.creds slot none).isNone = false := by simpa [Option.isNone_iff_eq_none] using hcred
  simp [State.secCmd, hcmd, hsl, hrole, hidle, hthere, hother, State.secTake]

/-! ### The debug data window (R586, R590) -/

/-- The data window of die `d` holds the offsets from 0xC0000 on. -/
theorem dieAddr_dataWindow {d o : Nat} (hd : d < 4) (ho : o < 2 ^ 18) :
    dieAddr (0x10C0000 + 0x400000 * d + o) = some (d, 0xC0000 + o) := by
  have hdie : 0x1000000 ≤ 0x10C0000 + 0x400000 * d + o ∧ 0x10C0000 + 0x400000 * d + o < 0x2000000 := by omega
  rw [dieAddr, if_pos hdie]
  simp only [Option.some.injEq, Prod.mk.injEq]
  omega

/-- A data window write that passes the checks reaches the home of its page's address. -/
theorem State.dataWrite_of {s : State} {p : Path} {d o h k v : Nat} {x : Bool} (hd : d < 4) (ho : o < 2 ^ 18)
    (hkind : F.DBG_PAGE_KIND.get (nth (s.pathSt p).page d 0#32) = 4)
    (hhome : s.img.run.home ((nth (s.pathSt p).phys d 0#64).toNat + o) = some (h, k, x))
    (hruns : s.img.run.runs h = true) (hidle : allQ.any s.qActive = false)
    (hhub : k < 0x1000000000 → k % 0x400000000 < hubArea) (hready : s.memState h = 3) (hclean : s.poisoned k = false) :
    s.dataWrite p (0x10C0000 + 0x400000 * d + o) v = (0, s.poke k (leBytes 4 v)) := by
  have hoff : 0xC0000 + o - 0xC0000 = o := by omega
  have hmem : ¬(k < 0x1000000000 ∧ hubArea ≤ k % 0x400000000) := fun ⟨hk, hub⟩ => Nat.not_le.mpr (hhub hk) hub
  simp only [State.dataWrite, dieAddr_dataWindow hd ho, hkind, hoff, hhome, hruns, hidle]
  rw [if_neg (by simp), if_neg (by simp), if_neg (by simp), if_neg hmem, if_neg (not_not.mpr hready), if_neg (by simp [hclean])]

/-- A write of the data window that is let in is a data write. -/
theorem State.hostWrite_dataWindow {s : State} {p : Path} {role : BitVec 2} {d o v : Nat} (hd : d < 4) (ho : o < 2 ^ 18)
    (hword : o % 4 = 0) (hbegun : s.host.begun = true)
    (hgate : s.gate p (s.roleOf p role.toNat) (s.writeRole (0x10C0000 + 0x400000 * d + o) v) (0x10C0000 + 0x400000 * d + o) = 0) :
    s.hostWrite p role.toNat (0x10C0000 + 0x400000 * d + o) v =
      ((s.dropHold p).dataWrite p (0x10C0000 + 0x400000 * d + o) v).2 := by
  have hdata : isData (0x10C0000 + 0x400000 * d + o) = true := by
    simp only [isData, dieAddr_dataWindow hd ho, Bool.and_eq_true, Nat.ble_eq, Nat.blt_eq]
    omega
  have halign : (0x10C0000 + 0x400000 * d + o) % 4 = 0 := by omega
  simp [State.hostWrite, hbegun, State.writeOne, hgate, halign, hdata]

/-- An accepted write of CHAIN_CTRL is its effect. -/
theorem State.hostWrite_chainCtrl {s u : State} {p : Path} {role : BitVec 2} {v : Nat}
    (h : s.accepts u p role R.CHAIN_CTRL v) : s.hostWrite p role.toNat R.CHAIN_CTRL v = u.chainCtrl v := by
  have hone : oneWrite R.CHAIN_CTRL = true := by decide +kernel
  rw [State.hostWrite_of h hone]
  rfl

/-- Settles O34: an epoch-class register's write goes into its shadow, SEC_CMD that passes its checks starts the store, and a data
window write reaches its page. -/
theorem shadowedAndStoredWrites : Obligations.ShadowedAndStoredWrites := by
  intro s
  refine ⟨fun p role c u hacc => ?trimOpen, fun p role u hacc => ?trimZero, fun p role u hacc => ?trimSpan,
    fun p role u hacc => ?trimCommit, fun p role u hacc => ?trimAbort, fun p role u hacc => ?staging,
    fun p role u hacc => ?reconfigure, fun p role q g u hacc => ?retire, fun p role tag len u hacc => ?radioCmd,
    fun p role l len u hacc => ?ldMsg, fun p role o v u hacc => ?aoRange, fun p role o v u hacc => ?aoCmd,
    fun p role i v u hacc => ?setpoint, fun p role v u hacc hoff => ?radioCfg, fun p role i v u hacc _ => ?radioFir,
    fun p role on u hacc _ => ?bypass, fun p role slot u hacc hidle hempty hrev hnew hset => ?enrollKey,
    fun p role slot force pk u hacc hidle hkey hroom hlast hfree => ?revokeKey,
    fun p role slot r u hacc hidle hempty => ?enrollCred, fun p role slot u hacc hidle hcred hother => ?removeCred,
    fun p role d o v u h k x hu hbegun hgate hword hkind hhome hruns hidle hhub hready hclean => ?data⟩ <;>
    refine congrArg (fun t => Host.Outcome.next (State.settle t)) ?_
  case trimOpen => exact State.hostWrite_shadowed hacc (by decide +kernel)
  case trimZero => exact State.hostWrite_shadowed hacc (by decide +kernel)
  case trimSpan => exact State.hostWrite_shadowed hacc (by decide +kernel)
  case trimCommit => exact State.hostWrite_shadowed hacc (by decide +kernel)
  case trimAbort => exact State.hostWrite_shadowed hacc (by decide +kernel)
  case staging => exact State.hostWrite_shadowed hacc (by decide +kernel)
  case reconfigure => exact State.hostWrite_shadowed hacc (by decide +kernel)
  case retire =>
    rw [State.hostWrite_of hacc (oneWrite_gctrl q.isLt g.isLt), State.effect_gctrl q.isLt g.isLt,
      State.writeFields_of (epochOnly_gctrl q.isLt g.isLt)]
    rfl
  case radioCmd => exact State.hostWrite_shadowed hacc (by decide +kernel)
  case ldMsg => exact State.hostWrite_shadowed hacc (by decide +kernel)
  case aoRange =>
    have hplain : (oneWrite (R.AO_CFG o.toNat) && plainRegister (R.AO_CFG o.toNat)) = true := by
      have hclass := aoCfg_classes o
      simp only [Bool.and_eq_true] at hclass ⊢
      exact hclass.1.1.1.1.1.1
    have hu : u = s.dropHold p := hacc.1
    rw [State.hostWrite_plain hacc hplain, State.writeFields_aoCfg, hu]
    rfl
  case aoCmd => exact State.hostPair_aoCmd hacc
  case setpoint => exact State.hostPair_setpoint i.isLt hacc
  case radioCfg =>
    rw [State.hostWrite_plain hacc (by decide +kernel), State.writeFields_radioCfg _ hoff]
  case radioFir =>
    have hplain : (oneWrite (R.RADIO_FIR i.toNat) && plainRegister (R.RADIO_FIR i.toNat)) = true := by
      have hclass := radioFir_classes i
      simp only [Bool.and_eq_true] at hclass ⊢
      exact hclass.1.1.1.1
    obtain ⟨-, -, -, -, -, hfree⟩ := id hacc
    rw [State.hostWrite_plain hacc hplain, State.writeFields_radioFir i _ hfree]
  case bypass => exact State.hostWrite_chainCtrl hacc
  case enrollKey => exact (State.hostWrite_secCmd hacc).trans (State.secCmd_enrollKey slot.isLt hidle hempty hrev hnew hset)
  case revokeKey =>
    exact (State.hostWrite_secCmd hacc).trans (State.secCmd_revokeKey slot.isLt hidle hkey hroom hlast hfree)
  case enrollCred => exact (State.hostWrite_secCmd hacc).trans (State.secCmd_enrollCred slot.isLt r.isLt hidle hempty)
  case removeCred => exact (State.hostWrite_secCmd hacc).trans (State.secCmd_removeCred slot.isLt hidle hcred hother)
  case data =>
    subst hu
    exact (State.hostWrite_dataWindow d.isLt o.isLt hword hbegun hgate).trans
      (congrArg Prod.snd (State.dataWrite_of d.isLt o.isLt hkind hhome hruns hidle hhub hready hclean))

end Sys2Proof.Machine
end

section
/-! What completes in a quarter after its issue (O27). -/

namespace Sys2Proof.Machine

/-- R186: a signal whose memory operations are done counts at a quarter that is ready or runs. -/
theorem State.deliverSignal_of {s : State} {q i : Nat} {g : PendingSignal} (hsig : (s.qtr q).signals[i]? = some g)
    (hmem : s.memDone q g.seq = true) (hrun : s.qState g.target = 2 ∨ s.qState g.target = 3) :
    s.deliverSignal q i = (s.modQ q (fun x => { x with signals := x.signals.eraseIdx i })).modQ g.target
      (fun x => { x with sc := setNth x.sc g.ctr (nth x.sc g.ctr 0#32 + 1#32) }) := by
  simp only [State.deliverSignal, hsig, hmem]
  exact (if_neg (by simp)).trans (if_pos hrun)

/-- R170: a drained quarter without an open group is DONE, and with another one still running that is all. -/
theorem State.doneReport_of {s : State} {q t : Nat} (dur : Nat) (hrun : s.qState q = 2) (hsound : (s.qtr q).faulted = false)
    (hdrained : (s.qtr q).drained = true) (hclosed : (s.qtr q).groupOpen = false)
    (hmore : allQ.any (fun k => (((s.at t).setQState q 3).modQ q (fun x => { x with doneAt := some t })).qState k == 2) = true) :
    s.doneReport q t dur = ((s.at t).setQState q 3).modQ q (fun x => { x with doneAt := some t }) := by
  simp only [State.doneReport, hrun, hsound, hdrained, hclosed, hmore]
  rfl

/-- R193: a quarter with FAULT_LIMIT program faults in a row is HALTED when it does not run. -/
theorem State.haltQuarter_of {s : State} {q : Nat} (hlim : s.getF (R.FAULT_LIMIT q) F.FAULT_LIMIT_LIMIT ≠ 0)
    (hrun : s.getF (R.FAULT_LIMIT q) F.FAULT_LIMIT_LIMIT ≤ (s.qtr q).faultRun) (hst : s.qState q = 0 ∨ s.qState q = 1) :
    s.haltQuarter q = ((((s.abandonQ q).setQState q 4).raise (R.QERR q) F.QERR_HALTED).loseQ [q]).modR
      (fun r => { r with lossNote := some ⟨2, 1, unitNo q 0 0, 0⟩ }) :=
  if_pos ⟨hlim, hrun, by omega, by omega, by omega⟩

/-- Settles O27: each completion finds what was issued and acts on it. -/
theorem completionsOfASequencer : Obligations.CompletionsOfASequencer := by
  intro s
  refine ⟨fun q i p hpend => ?result, fun q i n hwrite => ?write, fun q i g hsig hmem hrun => ?signal,
    fun q c v hwait hcount => ?wait, fun q n hfence hmem => ?fence,
    fun q t dur hrun hsound hdrained hclosed hmore => ?done, fun q idle hrun hwait hidle => ?stuck,
    fun q hlim hfaults hst => ?halt⟩ <;> refine congrArg (fun t => Host.Outcome.next (State.settle t)) ?_
  case result =>
    simp only [State.writeback, hpend]
    rfl
  case write => simp only [State.writeDone, hwrite]
  case signal => exact State.deliverSignal_of hsig hmem hrun
  case wait => simp only [State.endWait, hwait, hcount, if_true]
  case fence => simp only [State.endFence, hfence, hmem, if_true]
  case done => exact State.doneReport_of dur hrun hsound hdrained hclosed hmore
  case stuck => exact if_pos ⟨hrun, by simp [hwait], hidle⟩
  case halt => exact State.haltQuarter_of hlim hfaults hst

end Sys2Proof.Machine
end

section
/-! The vector engine (O28) and the banks of a span (O29). -/

namespace Sys2Proof.Machine

/-! ### The vector engine -/

/-- R225: an operation whose input has arrived and whose accesses pass their checks ends. -/
theorem State.endVec_of {s : State} {q : Nat} {o : VecOp} (hcur : (s.qtr q).vcur = some o)
    (hinput : o.kind = 0 ∨ o.len ≤ (s.vecWords q o).length)
    (hsrc : o.srcs.all (fun p => s.inOrder q o.seq p.1 p.2 false) = true)
    (hdst : s.inOrder q o.seq o.dst o.dstLen true = true) (hok : (s.vecCheck q o).1 = .ok) :
    s.endVec q false = s.vecEnds q o := by
  have harrived : ¬(o.kind ≠ 0 ∧ (s.vecWords q o).length < o.len) := by omega
  obtain ⟨acc, a, n, hcheck⟩ : ∃ acc a n, s.vecCheck q o = (acc, a, n) := ⟨_, _, _, rfl⟩
  obtain rfl : acc = .ok := by simpa [hcheck] using hok
  simp only [State.endVec, hcur, hsrc, hdst, hcheck, if_neg harrived]
  rfl

/-- R225: the next operation starts when no fault and no refusal stands against it. -/
theorem State.startVec_of {s : State} {q : Nat} {o : VecOp} {rest : List VecOp} (hfree : (s.qtr q).vcur = none)
    (hqueue : (s.qtr q).vq = o :: rest) (hsound : s.vecFault q o = none) (hok : (s.vecCheck q o).1 = .ok) :
    s.startVec q = s.vecStarts q o rest := by
  obtain ⟨acc, a, n, hcheck⟩ : ∃ acc a n, s.vecCheck q o = (acc, a, n) := ⟨_, _, _, rfl⟩
  obtain rfl : acc = .ok := by simpa [hcheck] using hok
  simp only [State.startVec, hfree, hqueue, hsound, hcheck]

/-- R247: an operation whose input is short, that nothing will feed and nothing will issue a feed for, is starved. -/
theorem State.starved_of {s : State} {q : Nat} {o : VecOp} (hsame : s.checkUndrained q = s)
    (hsound : (s.qtr q).faulted = false) (hcur : (s.qtr q).vcur = some o) (hkind : o.kind ≠ 0)
    (hshort : (nth (s.qtr q).feeds (if o.kind = 1 then 0 else 1 + o.port) []).length < o.len)
    (hnone : s.willFeed q (if o.kind = 1 then 0 else 1 + o.port) = false) (hstuck : s.cannotIssue q = true) :
    s.starved q = s.progFault q 0x28 o.lw 6 := by
  simp only [State.starved, hsame, hsound, hcur]
  exact (if_neg (by simp)).trans (if_pos ⟨hkind, hshort, by simp [hnone], hstuck⟩)

/-- Settles O28: the engine's operation is the one in progress, or the first of the queue. -/
theorem vectorEngineRuns : Obligations.VectorEngineRuns := by
  intro s
  refine ⟨fun q o rest hfree hqueue hsound hok => ?start, fun q o hcur hinput hsrc hdst hok => ?ends,
    fun q o hcur => ?badCheck, fun q o hsame hsound hcur hkind hshort hnone hstuck => ?starves⟩ <;>
    refine congrArg (fun t => Host.Outcome.next (State.settle t)) ?_
  case start => exact State.startVec_of hfree hqueue hsound hok
  case ends => exact State.endVec_of hcur hinput hsrc hdst hok
  case badCheck =>
    simp only [State.endVec, hcur]
    rfl
  case starves => exact State.starved_of hsame hsound hcur hkind hshort hnone hstuck

/-! ### The banks of a span -/

/-- R216: a load whose sources are aligned and may be read, into a bank that is active in no grain, queues its jobs. -/
theorem State.startLoad_of {s : State} {q sp : Nat} {o : SpanOp} {d : SpanDesc} (hop : s.headOp q sp .bload = some o)
    (hspan : s.img.run.span q sp = some d) (hsrc : o.src % 64 = 0) (hustr : o.ustr % 64 = 0)
    (hexp : (s.spanFmt q sp).1 = 2 → o.xsrc % 64 = 0 ∧ o.xstr % 64 = 0)
    (hread : ∀ p ∈ s.kGrains q sp d, s.check q (o.loadSrc p.1) 8192 false = .ok)
    (hreadx : (s.spanFmt q sp).1 = 2 → ∀ p ∈ s.kGrains q sp d, s.check q (o.loadXsrc (s.spanFmt q sp).1 p.1) 256 false = .ok)
    (hidle : ∀ p ∈ s.kGrains q sp d, s.gActive q p.2 ≠ o.bank) :
    s.startLoad q sp = s.queueLoads q sp (s.spanFmt q sp).1 o (s.kGrains q sp d) := by
  have haligned : ¬(o.src % 64 ≠ 0 ∨ o.ustr % 64 ≠ 0 ∨ ((s.spanFmt q sp).1 = 2 ∧ (o.xsrc % 64 ≠ 0 ∨ o.xstr % 64 ≠ 0))) := by
    rintro (h | h | ⟨hwf, h⟩)
    · exact h hsrc
    · exact h hustr
    · exact h.elim (· (hexp hwf).1) (· (hexp hwf).2)
  have hok (c : Acc) (hc : c ≠ .ok) : ((s.kGrains q sp d).map (fun p => s.check q (o.loadSrc p.1) 8192 false) ++
      (if (s.spanFmt q sp).1 = 2 then (s.kGrains q sp d).map (fun p => s.check q (o.loadXsrc (s.spanFmt q sp).1 p.1) 256 false)
        else [])).contains c = false := by
    rw [List.contains_eq_mem, decide_eq_false_iff_not, List.mem_append]
    rintro (h | h)
    · obtain ⟨p, hp, rfl⟩ := List.mem_map.mp h
      exact hc (hread p hp)
    · split at h
      next hwf =>
        obtain ⟨p, hp, rfl⟩ := List.mem_map.mp h
        exact hc (hreadx hwf p hp)
      next => exact absurd h List.not_mem_nil
  have hfree : (s.kGrains q sp d).any (fun p => s.gActive q p.2 == o.bank) = false := by
    rw [List.any_eq_false]
    exact fun p hp => by simpa using hidle p hp
  simp only [State.startLoad, hop, hspan]
  rw [if_neg haligned, if_neg (by rw [hok _ (by simp)]; simp), if_neg (by rw [hok _ (by simp)]; simp),
    if_neg (by simp [hfree])]

/-- R217: a bank ready in every grain becomes the active one. -/
theorem State.switchBank_of {s : State} {q sp : Nat} {o : SpanOp} {d : SpanDesc} (hop : s.headOp q sp .bswitch = some o)
    (hspan : s.img.run.span q sp = some d)
    (hready : ∀ g ∈ (s.kGrains q sp d).map Prod.snd, s.bank q g o.bank = 2) :
    s.switchBank q sp = ((s.kGrains q sp d).map Prod.snd).foldl (fun s g =>
      (s.noteActive q g).setF (R.GSTATE q g) F.GSTATE_ACTIVE_BANK o.bank) (s.popOp q sp) := by
  have hnot (c : Nat) (hc : c ≠ 2) : (((s.kGrains q sp d).map Prod.snd).map (fun g => s.bank q g o.bank)).contains c = false := by
    rw [List.contains_eq_mem, decide_eq_false_iff_not]
    intro h
    obtain ⟨g, hg, rfl⟩ := List.mem_map.mp h
    exact hc (hready g hg)
  simp only [State.switchBank, hop, hspan, hnot 0 (by decide), hnot 4 (by decide), hnot 3 (by decide), hnot 1 (by decide)]
  rfl

/-- R112: a bank that is neither active nor loading in any grain is released in all of them. -/
theorem State.releaseBank_of {s : State} {q sp : Nat} {o : SpanOp} {d : SpanDesc} (hop : s.headOp q sp .brelease = some o)
    (hspan : s.img.run.span q sp = some d)
    (hfree : ∀ g ∈ (s.kGrains q sp d).map Prod.snd, s.gActive q g ≠ o.bank ∧ s.bank q g o.bank ≠ 1) :
    s.releaseBank q sp = ((s.kGrains q sp d).map Prod.snd).foldl (fun s g =>
      if s.bank q g o.bank = 2 ∨ s.bank q g o.bank = 3 then
        (s.noteBank q g o.bank).setBank q g o.bank 0 else s) (s.popOp q sp) := by
  have hactive : ((s.kGrains q sp d).map Prod.snd).any (fun g => s.gActive q g == o.bank) = false := by
    rw [List.any_eq_false]
    exact fun g hg => by simpa using (hfree g hg).1
  have hloading : ((s.kGrains q sp d).map Prod.snd).any (fun g => s.bank q g o.bank == 1) = false := by
    rw [List.any_eq_false]
    exact fun g hg => by simpa using (hfree g hg).2
  simp only [State.releaseBank, hop, hspan, hactive, hloading]
  rfl

/-- R115: a job whose sources are in order and readable loads its bank. -/
theorem State.endLoad_of {s : State} {q : Nat} {j : LoadJob} (hjob : s.headJob q = some j) (hkind : j.kind = 0)
    (hsrc : s.inOrder q j.seq j.src 8192 false = true) (hxsrc : s.inOrder q j.seq j.xsrc (s.jobExp j) false = true)
    (hok : s.jobCheck j = .ok) : s.endLoad q = s.bankLoaded q j := by
  simp only [State.endLoad, hjob, hkind, hsrc, hxsrc, hok]
  rfl

/-- R115: a restore whose sources still have the recorded CRC fills its bank. -/
theorem State.endRestore_of {s : State} {q : Nat} {j : LoadJob} (hjob : s.headJob q = some j) (hkind : j.kind ≠ 0)
    (hsrc : s.check q j.src 8192 false = .ok) (hxsrc : s.check q j.xsrc (s.jobExp j) false = .ok)
    (hcrc : j.crc = none ∨ j.crc = some (crc32 (s.load j.src 8192 ++ s.load j.xsrc (s.jobExp j)))) :
    s.endRestore q false = s.bankFilled q j := by
  have hsame : ¬(j.crc ≠ none ∧ j.crc ≠ some (crc32 (s.load j.src 8192 ++ s.load j.xsrc (s.jobExp j)))) :=
    fun ⟨hn, hd⟩ => hcrc.elim hn hd
  simp only [State.endRestore, hjob, if_neg hkind, hsrc, hxsrc, if_neg hsame]
  rfl

/-- Settles O29: the bank command at the front of its span's queue, or the job at the front of the engine's, takes effect. -/
theorem banksOfASpan : Obligations.BanksOfASpan := by
  intro s
  refine ⟨fun q sp o d hop hspan hsrc hustr hexp hread hreadx hidle => ?start,
    fun q j hjob hkind hsrc hxsrc hok => ?load, fun q j hjob hkind hsrc hxsrc hcrc => ?restore,
    fun q sp o d hop hspan hready => ?switch, fun q sp o d hop hspan hfree => ?release⟩ <;>
    refine congrArg (fun t => Host.Outcome.next (State.settle t)) ?_
  case start => exact State.startLoad_of hop hspan hsrc hustr hexp hread hreadx hidle
  case load => exact State.endLoad_of hjob hkind hsrc hxsrc hok
  case restore => exact State.endRestore_of hjob hkind hsrc hxsrc hcrc
  case switch => exact State.switchBank_of hop hspan hready
  case release => exact State.releaseBank_of hop hspan hfree

end Sys2Proof.Machine
end

section
/-! Passes, groups and drains of a span (O30). -/

namespace Sys2Proof.Machine

/-- R139: an issue whose operands, memory and group pass their checks, with every active bank ready, starts its pass. -/
theorem State.startPass_of {s : State} {q sp : Nat} {o : SpanOp} {d : SpanDesc} (hop : s.headOp q sp .span = some o)
    (hspan : s.img.run.span q sp = some d) (hrows : o.rows ≠ 0 ∧ o.rows ≤ d.tileRows)
    (halign : o.a % 64 = 0 ∧ o.t % 64 = 0 ∧ rowBytes (s.spanFmt q sp).2 d.grains ≤ o.t)
    (hscratch : scratchBase q ≤ o.a ∧
      o.a + (o.rows - 1) * o.t + rowBytes (s.spanFmt q sp).2 d.grains ≤ scratchBase q + 0x200000)
    (hopaligned : opMisaligned d o = false) (hrec : o.opn = 2 → s.inOrder q o.seq o.osrc 64 false = true)
    (hmem : d.streaming = false → (s.opMemory q d (s.spanFmt q sp).1 o.rows o).1 = .ok)
    (hgroup : s.passGroupCheck q sp d (s.spanFmt q sp).1 o = .ok)
    (hready : ∀ g ∈ (s.kGrains q sp d).map Prod.snd, s.bank q g (s.gActive q g) = 2) :
    s.startPass q sp = s.passStarts q sp d (s.spanFmt q sp).1 o := by
  have hbad : ¬(o.a % 64 ≠ 0 ∨ o.t % 64 ≠ 0 ∨ o.t < rowBytes (s.spanFmt q sp).2 d.grains ∨ o.a < scratchBase q ∨
      scratchBase q + 0x200000 < o.a + (o.rows - 1) * o.t + rowBytes (s.spanFmt q sp).2 d.grains ∨
      opMisaligned d o = true) := by
    rw [hopaligned]
    simp only [Bool.false_eq_true, or_false]
    omega
  have hrecOk : (o.opn != 2 || d.streaming || s.inOrder q o.seq o.osrc 64 false) = true := by
    by_cases h : o.opn = 2
    · simp [hrec h]
    · simp [h]
  obtain ⟨m, ma, mn, hm, hok⟩ : ∃ m ma mn, (if d.streaming = true then (Acc.ok, 0, 0)
      else s.opMemory q d (s.spanFmt q sp).1 o.rows o) = (m, ma, mn) ∧ m = .ok := by
    refine ⟨_, _, _, rfl, ?_⟩
    cases hs : d.streaming with
    | true => rfl
    | false => exact hmem hs
  have hnot (c : Nat) (hc : c ≠ 2) :
      (((s.kGrains q sp d).map Prod.snd).map (fun g => s.bank q g (s.gActive q g))).contains c = false := by
    rw [List.contains_eq_mem, decide_eq_false_iff_not]
    intro h
    obtain ⟨g, hg, rfl⟩ := List.mem_map.mp h
    exact hc (hready g hg)
  subst hok
  simp only [State.startPass, hop, hspan]
  rw [if_neg (by omega), if_neg hbad]
  simp only [hrecOk, hm, hgroup, hnot 0 (by decide), hnot 4 (by decide), hnot 3 (by decide), hnot 1 (by decide)]
  rfl

/-- R141: a row in order, readable and free of check errors enters its group or is streamed. -/
theorem State.rowEgress_of {s : State} {q sp : Nat} {d : SpanDesc} {p : PassSt} (hpass : (s.span q sp).pass = some p)
    (hspan : s.img.run.span q sp = some d)
    (horder : s.inOrder q p.op.seq (p.op.a + p.done * p.op.t) (rowBytes (s.spanFmt q sp).2 d.grains) false = true)
    (hread : s.check q (p.op.a + p.done * p.op.t) (rowBytes (s.spanFmt q sp).2 d.grains) false = .ok)
    (hfused : d.streaming = true → p.op.cls ≠ 2 → s.fusedCheck q sp d p.op.opoff (colsOf (s.spanFmt q sp).1) p.done 1 = .ok) :
    s.rowEgress q sp none none = s.rowEnters q sp d p := by
  have hstream : (if d.streaming = true ∧ p.op.cls ≠ 2 then
      s.fusedCheck q sp d p.op.opoff (colsOf (s.spanFmt q sp).1) p.done 1 else .ok) = .ok := by
    split
    next h => exact hfused h.1 h.2
    next => rfl
  simp only [State.rowEgress, hpass, hspan, horder, hread, hstream]
  rfl

/-- R140: a GOPEN whose operands, memory and group pass their checks opens its group. -/
theorem State.gopenEffect_of {s : State} {q sp : Nat} {o : SpanOp} {d : SpanDesc} (hop : s.headOp q sp .gopen = some o)
    (hspan : s.img.run.span q sp = some d) (hgrouped : d.streaming = false)
    (hrows : o.opn = 1 → 0 < o.rows ∧ o.rows ≤ d.tileRows) (haligned : opMisaligned d o = false)
    (hrec : o.opn = 2 → s.inOrder q o.seq o.osrc 64 false = true)
    (hmem : (s.opMemory q d (s.spanFmt q sp).1 o.rows o).1 = .ok) (hgroup : o.group < d.groups)
    (hst : ((s.span q sp).group o.group).st ≠ 2)
    (hopen : openFault s d (s.spanFmt q sp).1 o ((s.span q sp).group o.group) o.rows = .ok) :
    s.gopenEffect q sp = (s.popOp q sp).openGroup q sp d (s.spanFmt q sp).1 o o.rows := by
  have hcount : ¬(o.opn = 1 ∧ (o.rows = 0 ∨ d.tileRows < o.rows)) := by
    rintro ⟨h, hr⟩
    obtain ⟨hpos, hle⟩ := hrows h
    omega
  have hrecOk : (o.opn != 2 || s.inOrder q o.seq o.osrc 64 false) = true := by
    by_cases h : o.opn = 2
    · simp [hrec h]
    · simp [h]
  obtain ⟨m, ma, mn, hm⟩ : ∃ m ma mn, s.opMemory q d (s.spanFmt q sp).1 o.rows o = (m, ma, mn) := ⟨_, _, _, rfl⟩
  obtain rfl : m = .ok := by simpa [hm] using hmem
  simp only [State.gopenEffect, hop, hspan, hgrouped, haligned, if_neg hcount, hrecOk, hm, if_neg (Nat.not_le.mpr hgroup),
    if_neg hst, hopen]
  rfl

/-- R154: a GCLOSE of an OPEN group whose operands and memory pass their checks starts its drain. -/
theorem State.gcloseEffect_of {s : State} {q sp : Nat} {o : SpanOp} {d : SpanDesc} (hop : s.headOp q sp .gclose = some o)
    (hspan : s.img.run.span q sp = some d) (hgrouped : d.streaming = false) (haligned : opMisaligned d o = false)
    (hgroup : o.group < d.groups) (hst : ((s.span q sp).group o.group).st = 1)
    (hmem : (s.opMemory q d (s.spanFmt q sp).1 ((s.span q sp).group o.group).rows o).1 = .ok)
    (hmode : o.cls = 2 → ((s.span q sp).group o.group).mode = 0)
    (hshort : s.fusedShort q sp d o ((s.span q sp).group o.group).rows (colsOf (s.spanFmt q sp).1) = false) :
    s.gcloseEffect q sp = s.startDrain q sp o := by
  have hclass : ¬(o.cls = 2 ∧ ((s.span q sp).group o.group).mode ≠ 0) := fun ⟨h, hm⟩ => hm (hmode h)
  obtain ⟨m, ma, mn, hm⟩ : ∃ m ma mn, s.opMemory q d (s.spanFmt q sp).1 ((s.span q sp).group o.group).rows o = (m, ma, mn) :=
    ⟨_, _, _, rfl⟩
  obtain rfl : m = .ok := by simpa [hm] using hmem
  simp only [State.gcloseEffect, hop, hspan, hgrouped, haligned, if_neg (Nat.not_le.mpr hgroup), hst, hm, if_neg hclass, hshort]
  rfl

/-- R142: a drain to a register delivers its words when no earlier close is ahead and its fused operands may be read. -/
theorem State.endDrain_value {s : State} {q sp : Nat} {d : SpanDesc} {dr : DrainSt} {rest : List DrainSt}
    (hdrain : (s.span q sp).drains = dr :: rest) (hspan : s.img.run.span q sp = some d) (hcls : dr.op.cls = 1)
    (hfront : s.closeAhead q dr.op.seq = false)
    (hfused : s.fusedCheck q sp d dr.op.opoff (colsOf (s.spanFmt q sp).1) 0 ((s.span q sp).group dr.group).rows = .ok) :
    s.endDrain q sp = s.drainValue q sp d dr rest := by
  simp only [State.endDrain, hdrain, hspan, hcls, hfront, hfused]
  rfl

/-- R142: a drain to memory stores its bytes when its destination is in order and may be written. -/
theorem State.endDrain_memory {s : State} {q sp : Nat} {d : SpanDesc} {dr : DrainSt} {rest : List DrainSt}
    (hdrain : (s.span q sp).drains = dr :: rest) (hspan : s.img.run.span q sp = some d) (hcls : dr.op.cls ≠ 1)
    (horder : s.inOrder q dr.op.seq dr.op.cdst
      (closeBytes dr.op.cls ((s.span q sp).group dr.group).rows (colsOf (s.spanFmt q sp).1)) true = true)
    (hwrite : s.check q dr.op.cdst
      (closeBytes dr.op.cls ((s.span q sp).group dr.group).rows (colsOf (s.spanFmt q sp).1)) true = .ok) :
    s.endDrain q sp = s.drainMemory q sp d dr rest := by
  simp only [State.endDrain, hdrain, hspan, if_neg hcls, horder, hwrite]
  rw [if_neg (fun h => hcls h.1)]
  rfl

/-- Settles O30: the command at the front of its span's queue passes its checks, the pass delivers a row, or the first drain ends. -/
theorem groupsAndPassesOfASpan : Obligations.GroupsAndPassesOfASpan := by
  intro s
  refine ⟨fun q sp o d hop hspan hrow hrows ha ht hlen hbase hend halign hrec hmem hgroup hready => ?pass,
    fun q sp o d p hpass hp hspan horder hread hfused => ?row,
    fun q sp o d hop hspan hgrouped hrows halign hrec hmem hgroup hst hopen => ?opens,
    fun q sp o d hop hspan hgrouped halign hgroup hst hmem hmode hshort => ?closes,
    fun q sp d dr rest hdrain hspan hcls hfront hfused => ?value,
    fun q sp d dr rest hdrain hspan hcls horder hwrite => ?memory⟩ <;>
    refine congrArg (fun t => Host.Outcome.next (State.settle t)) ?_
  case pass =>
    exact State.startPass_of hop hspan ⟨hrow, hrows⟩ ⟨ha, ht, hlen⟩ ⟨hbase, hend⟩ halign hrec hmem hgroup hready
  case row =>
    subst hp
    exact State.rowEgress_of hpass hspan horder hread hfused
  case opens => exact State.gopenEffect_of hop hspan hgrouped hrows halign hrec hmem hgroup hst hopen
  case closes => exact State.gcloseEffect_of hop hspan hgrouped halign hgroup hst hmem hmode hshort
  case value => exact State.endDrain_value hdrain hspan hcls hfront hfused
  case memory => exact State.endDrain_memory hdrain hspan hcls horder hwrite

end Sys2Proof.Machine
end

section
/-! Self-test and scrubbing of grain banks (O31). -/

namespace Sys2Proof.Machine

/-- Settles O31: the test takes the first eligible bank after the last one tested, its end is noted for the pair, and a scrub finds a
loaded bank that is not the active one. -/
theorem grainTestsAndScrubs : Obligations.GrainTestsAndScrubs := by
  intro s
  refine ⟨fun q k hon hgap hfree hfound => ?start, fun q g b htest => ?passed, fun q g b htest => ?failed,
    fun q g b hready hidle => ?corrected, fun q g b hready hidle => ?lost⟩ <;>
    refine congrArg (fun t => Host.Outcome.next (State.settle t)) ?_
  case start =>
    have hdue : ¬((!s.flag (R.SELFTEST_CTRL (q.toNat / 4)) F.SELFTEST_CTRL_ENABLE ||
        decide ((s.qtr q.toNat).testGap < s.getF (R.SELFTEST_CTRL (q.toNat / 4)) F.SELFTEST_CTRL_GAP) ||
        (s.qtr q.toNat).test.isSome) = true) := by
      simp [hon, hgap, hfree]
    simp only [State.startTest, if_neg hdue, hfound]
  case passed =>
    simp only [State.marchDone, State.endTest, htest]
    rfl
  case failed => simp only [State.marchDone, htest]
  case corrected =>
    simp only [State.scrubGrain]
    rw [if_neg (by simp [hready, hidle])]
    rfl
  case lost =>
    simp only [State.scrubGrain]
    rw [if_neg (by simp [hready, hidle])]
    rfl

end Sys2Proof.Machine
end

section
/-! Power, reset and bring-up (O35), and the dies with their temperatures and fans (O36). -/

namespace Sys2Proof.Machine

/-! ### Power, reset and bring-up -/

/-- R399, R421: with no source and never locked, the time unit runs free. -/
theorem State.enterFree_of {s : State} (hst : s.timeState = 1) (hsource : s.getF R.TIME_STATUS F.TIME_STATUS_SOURCE = 0)
    (hbegun : s.time.begun = false) (hnever : s.flag R.TIME_STATUS F.TIME_STATUS_EVER_LOCKED = false) :
    s.enterFree = s.setTimeState 0 :=
  if_pos ⟨hst, hsource, by simp [hbegun], by simp [hnever]⟩

/-- A bring-up step ends in the step it names, outside HALT. -/
theorem State.bringupStep_of {s : State} {step : Nat} {ok : Bool} {ms one both : Nat} (hpower : s.power = 1)
    (hup : s.pwr.up = true) (hstep : s.buStep = step) (hrun : s.getF R.SYS_STATE F.SYS_STATE_HALT = 0) :
    s.bringupStep step ok ms one both =
      if step = 2 then (if ok then s.stepEnds 2 ms 3 else s.halt 1)
      else if step = 3 then (if ok then s.loaderRuns ms else s.halt 2)
      else if step = 5 then s.imageStep ms one both
      else s :=
  if_neg (by simp [hpower, hup, hstep, hrun])

/-- Settles O35: each event finds the node powered, in its step or running as it needs. -/
theorem powerAndResetEvents : Obligations.PowerAndResetEvents := by
  intro s
  refine ⟨fun hup => ?good, fun b mv hmv => ?lost, fun b mv hmv => ?restored, fun hup => ?pfail, fun hpower hpfail => ?recovery,
    fun logged hfw => ?lockstep, fun hfw => ?watchdog, fun hdue => ?restart, fun t hpower hoff ht => ?thermal,
    fun ok ms one both hpower hup hstep hrun => ?step2, fun ok ms one both hpower hup hstep hrun => ?step3,
    fun ok ms one both hpower hup hstep hrun => ?step5, fun ms hfw hports hms => ?ports,
    fun t hports hacq ht hst hsource hbegun hnever => ?noLink, fun t t0 hacq ht hst hsource hbegun hnever => ?acq⟩ <;>
    refine congrArg (fun t => Host.Outcome.next (State.settle t)) ?_
  case good => exact if_neg (by simp [hup])
  case lost => exact State.feedLost_of_lt s b hmv
  case restored => exact State.feedRestored_of_le s b hmv
  case pfail => exact if_neg (by simp [hup])
  case recovery => exact if_pos ⟨hpower, hpfail⟩
  case lockstep => exact if_neg (by simp [hfw])
  case watchdog => exact if_neg (by simp [hfw])
  case restart => exact if_neg (by simp [hdue])
  case thermal => exact if_pos ⟨hpower, hoff, ht⟩
  case step2 => exact State.bringupStep_of hpower hup hstep hrun
  case step3 => exact State.bringupStep_of hpower hup hstep hrun
  case step5 => exact State.bringupStep_of hpower hup hstep hrun
  case ports => exact if_neg (by simp [hfw, hports, hms])
  case noLink =>
    exact (if_pos ⟨hports, by simp [hacq], ht⟩).trans (State.enterFree_of (s := s.at t) hst hsource hbegun hnever)
  case acq =>
    simp only [State.acqTimeout, hacq, if_pos ht]
    exact State.enterFree_of (s := s.at t) hst hsource hbegun hnever

/-! ### What a die that powers off leaves -/

/-- A part of the state that no step of a fold changes is as it was. -/
theorem foldl_keeps {α β : Type} (f : State → α) {g : State → β → State} (h : ∀ s x, f (g s x) = f s) :
    ∀ (l : List β) (s : State), f (l.foldl g s) = f s
  | [], _ => rfl
  | x :: l, s => by rw [List.foldl_cons, foldl_keeps f h l, h]

/-- The links of a die are no power record. -/
theorem State.linksOff_pwr (s : State) (d : Nat) : (s.linksOff d).pwr = s.pwr := by
  rw [State.linksOff, State.setF_pwr]
  exact foldl_keeps State.pwr (by intros; rfl) _ s

/-- Nor are its banks. -/
theorem State.emptyBanks_pwr (s : State) (d : Nat) : (s.emptyBanks d).pwr = s.pwr := by
  rw [State.emptyBanks]
  refine (foldl_keeps State.pwr (by intros; rfl) _ _).trans ?_
  refine (foldl_keeps State.pwr (by intros; rfl) _ _).trans ?_
  exact foldl_keeps State.pwr (by intros; rfl) _ _

/-- Nor is what its memory holds. -/
theorem State.clearDie_pwr (s : State) (d : Nat) : (s.clearDie d).pwr = s.pwr := rfl

/-- A die that powers off changes no more of the power record than the warnings. -/
theorem State.dieOff_pwr (s : State) (d : Nat) : (s.dieOff d).pwr =
    { s.pwr with warn := s.pwr.warn.filter (fun k => k != 4 + d && (k != d || s.pwr.hot.contains d)) } := by
  have hcleared (t : State) : (((t.linksOff d).emptyBanks d).clearDie d).pwr = t.pwr := by
    rw [State.clearDie_pwr, State.emptyBanks_pwr, State.linksOff_pwr]
  have hstopped (t : State) : ((dieQ d).foldl (fun s q => if s.qState q = 0 then s else (s.abandonQ q).setQState q 0) t).pwr = t.pwr :=
    foldl_keeps State.pwr (fun t q => by split <;> rfl) _ t
  rw [State.dieOff, hstopped]
  generalize hx : ((((s.drop R.PWR_STATUS (dieOnFld d)).setF (R.MEM_STATUS d) F.MEM_STATUS_STATE 0).linksOff d).emptyBanks d).clearDie d = x
  have hpwr : x.pwr = s.pwr := hx ▸ hcleared _
  rw [← hpwr]
  rfl

/-! ### Dies, temperatures and fans -/

/-- R413: a reading below its trip, or of a sensor that has none, is taken and that is all. -/
theorem State.temperature_below {s : State} {k : Nat} {t w : Int} (hfw : s.firmware = true)
    (htrip : tripAt k = none ∨ tripAt k = some w ∧ t < w) : s.temperature k t = s.takeTemp k t := by
  refine (if_neg (by simp [hfw])).trans ?_
  rcases htrip with h | ⟨h, hlt⟩
  · rw [h]
  · rw [h]
    exact if_pos hlt

/-- R415: a reading at its trip takes the die out, the hub's apart. -/
theorem State.temperature_trips {s : State} {k : Nat} {t w : Int} (hfw : s.firmware = true) (htrip : tripAt k = some w)
    (hw : w ≤ t) (hdie : k ≠ 8) : s.temperature k t = (s.takeTemp k t).dieTrip (k % 4) := by
  refine (if_neg (by simp [hfw])).trans ?_
  rw [htrip]
  exact (if_neg (not_lt.mpr hw)).trans (if_neg hdie)

/-- R404: a die powers off when it was to, and with no exit waiting that is all. -/
theorem State.diePowerOff_of {s : State} {d : Nat} (hpow : s.pwr.powering.contains d = true) (hexit : s.pwr.exitWait = false) :
    s.diePowerOff d = (s.dieOff d).modP (fun p => { p with powering := p.powering.filter (fun x => x != d) }) := by
  have hdue : ¬(!s.pwr.powering.contains d) = true := by rw [hpow]; decide
  refine (if_neg hdue).trans (if_neg ?_)
  simp [State.modP_pwr, s.dieOff_pwr, hexit]

/-- Settles O36: each event finds its die powered or held, and its sensor or fan there. -/
theorem diesTemperaturesAndFans : Obligations.DiesTemperaturesAndFans := by
  intro s
  refine ⟨fun k t w hfw htrip => ?below, fun k t w hfw htrip hw hdie hon => ?trips, fun d hon => ?fault, fun d hheld => ?release,
    fun d hpow hexit => ?off, fun k hthere => ?fan, fun d t hon => ?dram⟩ <;>
    refine congrArg (fun t => Host.Outcome.next (State.settle t)) ?_
  case below => exact State.temperature_below hfw htrip
  case trips => exact (State.temperature_trips hfw htrip hw hdie).trans (if_pos hon)
  case fault => exact if_pos hon
  case release => exact if_pos hheld
  case off => exact State.diePowerOff_of hpow hexit
  case fan => exact if_pos hthere
  case dram => exact if_pos hon

end Sys2Proof.Machine
end

section
/-! Links and memory of the dies (O37), and the events of recovery (O38). -/

namespace Sys2Proof.Machine

/-- Settles O37: each event finds its link or memory in the state of the training it ends. -/
theorem linksAndMemoryOfTheDies : Obligations.LinksAndMemoryOfTheDies := by
  intro s
  refine ⟨fun d l same hup => ?flit, fun d l htrain => ?trained, fun d l htrain => ?trainTimeout,
    fun d l lockLost hup hcause => ?retrain, fun d l hre => ?retrained, fun d l hre => ?retrainTimeout,
    fun d bad htrain hcold => ?memCold, fun d bad htrain hkept => ?memKept, fun d htrain => ?memTimeout,
    fun d bad hfill => ?filled, fun k hk hscrub hready => ?corrected, fun k hk hscrub hready hclean => ?poison⟩ <;>
    refine congrArg (fun t => Host.Outcome.next (State.settle t)) ?_
  case flit => exact if_pos hup
  case trained => exact congrArg State.trainOn (if_pos htrain)
  case trainTimeout => exact congrArg State.trainOn (if_pos htrain)
  case retrain => exact if_pos ⟨hup, hcause⟩
  case retrained => exact if_pos hre
  case retrainTimeout => exact if_pos hre
  case memCold =>
    rw [State.memTrained, if_neg (not_not.mpr htrain), hcold]
    rfl
  case memKept => rw [State.memTrained, if_neg (not_not.mpr htrain), if_pos hkept]
  case memTimeout => exact congrArg State.trainOn (if_pos htrain)
  case filled => exact if_neg (not_not.mpr hfill)
  case corrected =>
    rw [State.memScrub, if_neg (not_not.mpr hk), if_neg (by simp [hscrub, hready])]
    rfl
  case poison =>
    rw [State.memScrub, if_neg (not_not.mpr hk), if_neg (by simp [hscrub, hready]), hclean]
    rfl

/-- R297: with every block in place and no replay to follow, the rollback ends with copy B in both copies. -/
theorem State.rollbackComplete_rest {s : State} {t dur : Nat} (hback : s.flag R.REC_STATUS F.REC_STATUS_ROLLING_BACK = true)
    (hall : s.rcv.awaiting = []) (hafter : s.rcv.after ≠ 2) : s.rollbackComplete t dur =
      ((s.at t).drop R.REC_STATUS F.REC_STATUS_ROLLING_BACK).modR (fun r => { r with copyA := r.copyB }) := by
  have hwait : (((s.at t).drop R.REC_STATUS F.REC_STATUS_ROLLING_BACK).modR (fun r => { r with copyA := r.copyB })).rcv.awaiting
      = [] := hall
  simp only [State.rollbackComplete, hback, hwait]
  exact (if_neg (by simp)).trans (if_pos hafter)

/-- R298: a rollback that resolves a loss in the skip phase commits. -/
theorem State.rollbackComplete_skip {s : State} {t dur : Nat} (hback : s.flag R.REC_STATUS F.REC_STATUS_ROLLING_BACK = true)
    (hall : s.rcv.awaiting = []) (hafter : s.rcv.after = 2) (hreplay : s.pair.replay = none) (hphase : s.time.phase = 3) :
    s.rollbackComplete t dur = (((s.at t).drop R.REC_STATUS F.REC_STATUS_ROLLING_BACK).modR
      (fun r => { r with copyA := r.copyB })).commitAt true none t dur := by
  generalize hu : ((s.at t).drop R.REC_STATUS F.REC_STATUS_ROLLING_BACK).modR (fun r => { r with copyA := r.copyB }) = u
  have hwait : u.rcv.awaiting = [] := hu ▸ hall
  have hskip : u.rcv.after = 2 := hu ▸ hafter
  have hnone : u.pair.replay = none := hu ▸ hreplay
  have hph : u.time.phase = 3 := hu ▸ hphase
  simp only [State.rollbackComplete, hback, hu, hwait, hskip, hnone, hph]
  rfl

/-- Settles O38: each event finds the copies, the rollback or the replay it is about. -/
theorem recoveryEvents : Obligations.RecoveryEvents := by
  intro s
  refine ⟨fun k a b badA badB pair ha hb hone => ?repaired, fun k a b pair ha hb => ?lost,
    fun t dur hback hall hafter => ?rest, fun t dur hback hall hafter hreplay hphase => ?skip,
    fun dur hafter hback hreplay hown hready => ?launch, fun dur n k hafter hback hreplay => ?pairReplay,
    fun a epoch bs hwait hepoch hcable => ?block⟩ <;> refine congrArg (fun t => Host.Outcome.next (State.settle t)) ?_
  case repaired =>
    have hand : (badA && badB) = false := by cases badA <;> cases badB <;> simp_all
    have hor : (badA || badB) = true := by cases badA <;> cases badB <;> simp_all
    simp only [State.copyPatrol, ha, hb, hand, hor]
    rfl
  case lost =>
    simp only [State.copyPatrol, ha, hb]
    rfl
  case rest => exact State.rollbackComplete_rest hback hall hafter
  case skip => exact State.rollbackComplete_skip hback hall hafter hreplay hphase
  case launch =>
    simp only [State.replayStart, hafter, hback, hreplay, hown, hready]
    rfl
  case pairReplay =>
    simp only [State.replayStart, hafter, hback, hreplay]
    rfl
  case block => exact if_pos ⟨hwait, hepoch, hcable⟩

end Sys2Proof.Machine
end

section
/-! The time unit (O39), the course of an epoch (O40) and the events of an image (O41). -/

namespace Sys2Proof.Machine

/-- Settles O39: each event finds the time unit in the state it leaves. -/
theorem timeUnitEvents : Obligations.TimeUnitEvents := by
  intro s
  refine ⟨fun hst hband => ?locked, fun t hst ht hsource => ?lost, fun t hst ht => ?align, fun hst hsource => ?slow,
    fun off harmed hoff => ?step, fun present off harmed hasked hno => ?reject,
    fun hbegun hgrid hpower hstep hload hst => ?first⟩ <;>
    refine congrArg (fun t => Host.Outcome.next (State.settle t)) ?_
  case locked => exact if_pos ⟨hst, hband⟩
  case lost => exact if_pos ⟨hst, ht, hsource⟩
  case align => exact if_pos ⟨hst, ht⟩
  case slow => exact if_pos ⟨hst, hsource⟩
  case step =>
    rw [State.timeStep, if_neg (by simp [harmed]), if_neg (by simp [hoff])]
  case reject =>
    have hnone : (!present) = true ∨ off ≤ 0 := by simpa using hno
    rw [State.timeStep, if_neg (by simp [harmed]), if_pos hnone, if_pos hasked]
  case first =>
    refine if_neg ?_
    rcases hst with h | h <;> simp [hbegun, hgrid, hpower, hstep, hload, h]

/-- R38: RUN begins 400 ns after the capture when no loss waits and the deadline is ahead, or the epoch commits at once, or skips. -/
theorem State.runLaunch_of {s : State} (dur : Nat) (hphase : s.time.phase = 1) (hgrid : s.gridRuns = true) :
    s.runLaunch dur =
      if (!s.gapped.rcv.wantLost.isEmpty || Nat.ble (s.gapped.deadlineOf s.epoch) s.gapped.time.captureT) = true then
        s.gapped.skipAt none (s.time.captureT + 400) dur
      else if (s.gapped.ownPrograms && allQ.any (fun q => s.gapped.qState q == 1)) = true then
        (s.gapped.launchAll (s.time.captureT + 400)).modT (fun x => { x with deadline := s.gapped.deadlineOf s.epoch })
      else s.gapped.commitAt false none (s.time.captureT + 400) dur :=
  if_neg (by simp [hphase, hgrid])

/-- R38: no lost data are wanted and the deadline has not passed. -/
theorem State.launch_due {s : State} (hkept : s.gapped.rcv.wantLost = [])
    (hahead : s.gapped.time.captureT < s.gapped.deadlineOf s.epoch) :
    ¬(!s.gapped.rcv.wantLost.isEmpty || Nat.ble (s.gapped.deadlineOf s.epoch) s.gapped.time.captureT) = true := by
  simpa [hkept] using hahead

/-- R57: the last done report of RUN, outside a replay, starts the commit. -/
theorem State.doneReport_last {s : State} {q t dur : Nat} (hrun : s.qState q = 2) (hsound : (s.qtr q).faulted = false)
    (hdrained : (s.qtr q).drained = true) (hclosed : (s.qtr q).groupOpen = false)
    (hlast : allQ.any (fun k => (((s.at t).setQState q 3).modQ q (fun x => { x with doneAt := some t })).qState k == 2) = false)
    (hreplay : s.pair.replay = none) (hphase : s.time.phase = 2) :
    s.doneReport q t dur = (((s.at t).setQState q 3).modQ q (fun x => { x with doneAt := some t })).commitResults t dur := by
  generalize hu : ((s.at t).setQState q 3).modQ q (fun x => { x with doneAt := some t }) = u
  rw [hu] at hlast
  have hnone : u.pair.replay = none := hu ▸ hreplay
  have hph : u.time.phase = 2 := hu ▸ hphase
  simp only [State.doneReport, hrun, hsound, hdrained, hclosed, hu, hlast, hnone, hph]
  rfl

/-- Settles O40: each event finds the epoch in its phase. -/
theorem courseOfAnEpoch : Obligations.CourseOfAnEpoch := by
  intro s
  refine ⟨fun hbegun hgrid hphase => ?begins, fun hbegun hgrid hphase hext => ?missed,
    fun dur hphase hgrid hkept hahead hown hready => ?launch, fun dur hphase hgrid hkept hahead hidle => ?commits,
    fun dur hphase hgrid hlate => ?skips, fun dur hphase hext => ?extension, fun dur hphase hext => ?deadline,
    fun hphase => ?abandon, fun d hrun hnew => ?short,
    fun q t dur hrun hsound hdrained hclosed hlast hreplay hphase => ?done⟩ <;>
    refine congrArg (fun t => Host.Outcome.next (State.settle t)) ?_
  case begins =>
    rw [State.epochBoundary, if_neg (by simp [hbegun, hgrid]), if_pos hphase]
  case missed =>
    have hsame : ((s.at (s.boundary (s.epoch + 1))).modT (fun t => { t with missed := true })).time.extended = false := hext
    simp only [State.epochBoundary, hbegun, hgrid, if_neg hphase, hsame]
    rfl
  case launch =>
    rw [State.runLaunch_of dur hphase hgrid, if_neg (State.launch_due hkept hahead), if_pos (by rw [hown, hready]; rfl)]
  case commits =>
    have hnone : (s.gapped.ownPrograms && allQ.any (fun q => s.gapped.qState q == 1)) = false := by
      rcases hidle with h | h
      · rw [h, Bool.false_and]
      · rw [h, Bool.and_false]
    rw [State.runLaunch_of dur hphase hgrid, if_neg (State.launch_due hkept hahead), hnone]
    rfl
  case skips =>
    have hskip : (!s.gapped.rcv.wantLost.isEmpty || Nat.ble (s.gapped.deadlineOf s.epoch) s.gapped.time.captureT) = true := by
      rcases hlate with h | h
      · simp [h]
      · simp [h]
    rw [State.runLaunch_of dur hphase hgrid, if_pos hskip]
  case extension =>
    rw [State.deadlineHit, if_neg (not_not.mpr hphase), if_pos hext]
  case deadline =>
    rw [State.deadlineHit, if_neg (not_not.mpr hphase)]
    exact if_neg (by simp [hext])
  case abandon => exact if_neg (not_not.mpr hphase)
  case short => exact if_pos ⟨hrun, by rw [hnew]; rfl⟩
  case done => exact State.doneReport_last hrun hsound hdrained hclosed hlast hreplay hphase

/-- R131: outside a bring-up LOADING ends once its sections are loaded. -/
theorem State.loadComplete_running {s : State} {ms : Nat} (hload : s.flag R.IMG_STATUS F.IMG_STATUS_LOADING = true)
    (hdies : s.diesReady = true) (hbegun : s.time.begun = true) :
    s.loadComplete ms 0 = s.loadAll.endLoading.drop R.REC_STATUS F.REC_STATUS_RECONFIGURING := by
  have hboot : (s.power == 1 && !s.time.begun) = false := by rw [hbegun, Bool.not_true, Bool.and_false]
  simp [State.loadComplete, hload, hdies, hboot]

/-- Settles O41: each event finds the pending image, or LOADING, in the state it ends. -/
theorem imageEvents : Obligations.ImageEvents := by
  intro s
  refine ⟨fun hst hok => ?verified, fun c i hst hbad => ?failed, fun ms hload hdies hbegun => ?loaded,
    fun hst harm hkind => ?active⟩ <;> refine congrArg (fun t => Host.Outcome.next (State.settle t)) ?_
  case verified => rw [State.verifyComplete, if_neg (not_not.mpr hst), hok]
  case failed => rw [State.verifyComplete, if_neg (not_not.mpr hst), hbad]
  case loaded => exact State.loadComplete_running hload hdies hbegun
  case active => exact if_neg (by simp [hst, harm, hkind])

end Sys2Proof.Machine
end

section
/-! Precision-time messages (O42) and the analogue channels of the carrier (O43). -/

namespace Sys2Proof.Machine

/-- R335: a Sync or Follow_Up of another clock, in the node's domain, is taken. -/
theorem State.ptp_taken {s : State} {port domain gm : Nat} (hok : s.ptpOk port domain = true) (hother : gm ≠ s.clockId) :
    ¬((!s.ptpOk port domain) = true ∨ gm = s.clockId) := by
  simp [hok, hother]

/-- R336: a Follow_Up of a two-step Sync is forwarded and measured. -/
theorem State.followUp_of {s : State} {port domain gm corr res : Nat} {off : Int} (hok : s.ptpOk port domain = true)
    (hother : gm ≠ s.clockId)
    (htwo : (s.ptpForward port 0x08 gm (corr + res + s.getF (delayReg port) F.LINK_DELAY_NS)).chain.twoStep.contains port = true) :
    s.followUp port domain gm corr res off =
      ((s.ptpForward port 0x08 gm (corr + res + s.getF (delayReg port) F.LINK_DELAY_NS)).modCh
        (fun c => { c with twoStep := c.twoStep.filter (fun p => p != port) })).ptpMeasure port off := by
  rw [State.followUp, if_neg (State.ptp_taken hok hother)]
  exact if_pos htwo

/-- R321: the grandmaster's announcements and Syncs go out on both chain ports. -/
theorem State.gmSync_of {s : State} (ann : Bool) (hgm : s.isGm = true) (hup : s.portsUp = true) :
    s.gmSync ann = (List.range 2).foldl (fun t w =>
      if ann then t.send (4 + w) 0x0B t.clockId (if ann then (s.ownAnn.key.map (leBytes 8)).flatten else leBytes 8 s.now)
      else (t.send (4 + w) 0x00 t.clockId (leBytes 8 0)).send (4 + w) 0x08 t.clockId
        (if ann then (s.ownAnn.key.map (leBytes 8)).flatten else leBytes 8 s.now)) s :=
  if_neg (by simp [hgm, hup])

/-- R337: a peer delay of a chain port is measured, and compared with the longest segment. -/
theorem State.pdelayResp_chain {s : State} {port d : Nat} (hport : port ≠ 2) : s.pdelayResp port d =
    if (s.setRegN (delayReg port) (min d 65535 + 2 ^ 31)).getF R.SEG_LIMIT F.SEG_LIMIT_NS < d then
      (s.setRegN (delayReg port) (min d 65535 + 2 ^ 31)).raise R.CHAIN_ERR F.CHAIN_ERR_SEG_LONG
    else s.setRegN (delayReg port) (min d 65535 + 2 ^ 31) :=
  if_neg hport

/-- Settles O42: each message is taken where its port and its clock let it. -/
theorem precisionTimeMessages : Obligations.PrecisionTimeMessages := by
  intro s
  refine ⟨fun port domain gm corr res off hok hother => ?oneStep, fun port domain gm corr res off hok hother => ?twoStep,
    fun port domain gm corr res off hok hother htwo => ?followUp, fun port a hok hptp hother => ?announce,
    fun port ival t hport => ?annChain, fun ival t => ?annX5, fun hgm hup => ?gmAnn, fun hgm hup => ?gmSync,
    fun port hport hup => ?reqChain, fun hp2p => ?reqX5, fun port d hport hshort => ?respShort,
    fun port d hport hlong => ?respLong, fun d => ?respX5, fun hup => ?reqSend, fun hen hp2p hann => ?delayReq,
    fun d off hen hp2p => ?delayResp, fun t hsource hx5 ht => ?portLoss⟩ <;>
    refine congrArg (fun t => Host.Outcome.next (State.settle t)) ?_
  case oneStep => exact if_neg (State.ptp_taken hok hother)
  case twoStep => exact if_neg (State.ptp_taken hok hother)
  case followUp => exact State.followUp_of hok hother htwo
  case announce => exact if_neg (by simp [hok, hptp, hother])
  case annChain => rw [State.annTimeout, if_neg hport]
  case annX5 => rfl
  case gmAnn => exact State.gmSync_of true hgm hup
  case gmSync => exact State.gmSync_of false hgm hup
  case reqChain => exact (if_pos (.inl ⟨hport, hup⟩)).trans (by rw [if_neg hport])
  case reqX5 => exact if_pos (.inr ⟨rfl, hp2p⟩)
  case respShort => exact (State.pdelayResp_chain hport).trans (if_neg (not_lt.mpr hshort))
  case respLong => exact (State.pdelayResp_chain hport).trans (if_pos hlong)
  case respX5 => rfl
  case reqSend => exact if_pos hup
  case delayReq => exact if_pos ⟨hen, by simp [hp2p], hann⟩
  case delayResp => exact if_pos ⟨hen, by simp [hp2p]⟩
  case portLoss => exact if_pos ⟨hsource, hx5, ht⟩

/-- Settles O43: each event finds its output or input in the state it leaves. -/
theorem analogueChannels : Obligations.AnalogueChannels := by
  intro s
  refine ⟨fun o hst => ?release, fun o hst => ?foldback, fun o hst => ?restore, fun o hst hnew => ?load, fun o hst => ?readback,
    fun k ext hk => ?aiMiswire, fun k ext hk hnew => ?aoMiswire, fun k hk => ?aiClear, fun k hk => ?aoClear, fun c hen => ?overload,
    fun c => ?retry, fun ref own chk hok => ?refGood, fun ref own chk hen hbad => ?refBad, fun t hkind ht => ?trim,
    fun t vals hup hset hdue => ?sample⟩ <;> refine congrArg (fun t => Host.Outcome.next (State.settle t)) ?_
  case release => exact congrArg State.pairOn (if_pos hst)
  case foldback => exact if_pos hst
  case restore => exact if_pos hst
  case load => exact if_pos ⟨hst, by simp [hnew]⟩
  case readback => exact if_pos hst
  case aiMiswire => exact if_pos hk
  case aoMiswire =>
    rw [State.miswire, if_neg (Nat.not_lt.mpr hk)]
    exact if_neg (by simp [hnew])
  case aiClear => exact if_pos hk
  case aoClear => exact if_neg (Nat.not_lt.mpr hk)
  case overload => exact if_pos hen
  case retry => rfl
  case refGood =>
    simp only [State.refDone, hok]
    rw [Bool.not_true, Bool.and_false]
  case refBad =>
    simp only [State.refDone, hen, hbad]
    rfl
  case trim => exact if_pos ⟨hkind, ht⟩
  case sample => exact if_neg (by simp [hup, hset, hdue])

end Sys2Proof.Machine
end

section
/-! Digital channels of the carrier (O44) and the frames of its lanes (O45). -/

namespace Sys2Proof.Machine

/-! ### Digital channels -/

/-- R463: a group whose supply is reversed has its outputs off. -/
theorem State.supplyRev_on (s : State) (g : Nat) : s.supplyRev g true =
    (List.range 16).foldl (fun s i => s.doSet (16 * g + i) 0)
      ((s.modC (fun c => { c with revG := s.car.revG.filter (fun k => k != g) ++ [g] })).setF R.DIO_STATUS
        F.DIO_STATUS_SUPPLY_REV 1) := by
  have hsome : (!(s.car.revG.filter (fun k => k != g) ++ [g]).isEmpty) = true := by simp
  simp only [State.supplyRev, if_true, hsome]
  rfl

/-- R463: with the last reversed group right again SUPPLY_REV clears. -/
theorem State.supplyRev_off {s : State} {g : Nat} (hlast : s.car.revG.filter (fun k => k != g) = []) :
    s.supplyRev g false = (s.modC (fun c => { c with revG := [] })).setF R.DIO_STATUS F.DIO_STATUS_SUPPLY_REV 0 := by
  simp only [State.supplyRev, hlast]
  rfl

/-- Settles O44: each event finds its output or input in the state it leaves. -/
theorem digitalChannels : Obligations.DigitalChannels := by
  intro s
  refine ⟨fun i hst => ?release, fun i hst => ?limit, fun i hst => ?unlimit, fun i hst => ?trip, fun i hst hcmd => ?restart,
    fun i hst hext => ?failed, fun i hst => ?ext, fun i => ?extEnds, fun i hwas => ?miswire, fun i hwas => ?miswireEnds,
    fun g => ?rev, fun g hlast => ?revEnds, fun g mv hmv => ?low, fun j levels hup hset => ?sample⟩ <;>
    refine congrArg (fun t => Host.Outcome.next (State.settle t)) ?_
  case release => exact congrArg State.pairOn (if_pos hst)
  case limit => exact if_pos ⟨rfl, hst⟩
  case unlimit => exact (if_neg (by simp)).trans (if_pos ⟨rfl, hst⟩)
  case trip => exact if_pos hst
  case restart => exact if_pos ⟨hst, hcmd⟩
  case failed => exact if_pos ⟨hst, by rw [hext]; rfl⟩
  case ext => exact if_pos hst
  case extEnds => rfl
  case miswire =>
    simp only [State.diMiswire, hwas]
    rfl
  case miswireEnds =>
    simp only [State.diMiswire, hwas]
    rfl
  case rev => exact s.supplyRev_on g.toNat
  case revEnds => exact State.supplyRev_off hlast
  case low => exact if_pos hmv
  case sample => exact if_neg (by simp [hup, hset])

/-! ### Frames of the lanes -/

/-- R465: a running node sends a frame on lanes 0 to 2. -/
theorem State.downSend_value {s : State} {l j : Nat} (hl : l ≠ 3) (hrun : (s.at (frameStart l j)).pwr.ended.contains 3 = true)
    (hsend : (s.at (frameStart l j)).pwr.stopTx = false) (hpower : (s.at (frameStart l j)).power ≠ 0) :
    s.downSend l j = (s.at (frameStart l j)).send l 0x10 j ((s.at (frameStart l j)).downBytes l j 0) := by
  have hdue : ¬((!(s.at (frameStart l j)).pwr.ended.contains 3) = true ∨ (s.at (frameStart l j)).pwr.stopTx = true ∨
      (s.at (frameStart l j)).power = 0) := by
    rw [hrun, hsend]
    simpa using hpower
  simp only [State.downSend, if_neg hdue, if_neg hl, if_pos hl]

/-- R466: on lane 3 the frame carries the configuration slot whose turn it is. -/
theorem State.downSend_config {s u : State} {j k : Nat} (hrun : (s.at (frameStart 3 j)).pwr.ended.contains 3 = true)
    (hsend : (s.at (frameStart 3 j)).pwr.stopTx = false) (hpower : (s.at (frameStart 3 j)).power ≠ 0)
    (hslot : (s.at (frameStart 3 j)).noteChanged.cfgSlot = (k, u)) :
    s.downSend 3 j = u.send 3 0x10 j (u.downBytes 3 j k) := by
  have hdue : ¬((!(s.at (frameStart 3 j)).pwr.ended.contains 3) = true ∨ (s.at (frameStart 3 j)).pwr.stopTx = true ∨
      (s.at (frameStart 3 j)).power = 0) := by
    rw [hrun, hsend]
    simpa using hpower
  simp only [State.downSend, if_neg hdue, if_true, ne_eq, not_true_eq_false, if_false, hslot]

/-- R467: a frame with a bad CRC is counted. -/
theorem State.downFrame_badCrc {s : State} {l t : Nat} {bytes : List Byte} (hup : (s.car.settleCfg t).up = true)
    (hcrc : crc16 ((padTo 58 bytes).take 56) ≠ fieldAt (padTo 58 bytes) 56 2) :
    s.downFrame l bytes t = State.dnCrc { s with car := { s.car.settleCfg t with
      timed := (s.car.settleCfg t).timed && Nat.blt t ((s.car.settleCfg t).lastL3 + 1000000000) } } l :=
  (if_neg (by simp [hup])).trans (if_pos hcrc)

/-- R468: on lanes 0 to 2 a frame of its lane and place, with every pair word matched, is taken. -/
theorem State.downFrame_taken {s : State} {l t : Nat} {bytes : List Byte} (hl : l ≠ 3) (hup : (s.car.settleCfg t).up = true)
    (htimed : (s.car.settleCfg t).timed = true) (hfresh : t < (s.car.settleCfg t).lastL3 + 1000000000)
    (hcrc : crc16 ((padTo 58 bytes).take 56) = fieldAt (padTo 58 bytes) 56 2)
    (htype : fieldAt (padTo 58 bytes) 0 1 = 0x10 + l)
    (hseq : seqNear (fieldAt (padTo 58 bytes) 2 2) ((t - 6250 * l) / 25000) = true)
    (hpairs : (payloadPairs l (slice (padTo 58 bytes) 8 48)).all isPairWord = true) :
    s.downFrame l bytes t = State.downTaken { s with car := { s.car.settleCfg t with timed := true } } l t
      (fieldAt (padTo 58 bytes) 2 2) (fieldAt (padTo 58 bytes) 1 1) (slice (padTo 58 bytes) 8 48) := by
  have hclock : ((s.car.settleCfg t).timed && Nat.blt t ((s.car.settleCfg t).lastL3 + 1000000000)) = true := by
    simp [htimed, hfresh]
  simp only [State.downFrame, hclock]
  rw [if_neg (by simp [hup]), if_neg (not_not.mpr hcrc), if_neg (not_not.mpr htype)]
  simp only [hl, hseq, hpairs, Bool.not_true, Bool.false_eq_true, false_and, and_false, or_false, if_false]

/-- R470: the upstream frame of another lane's type or place is not taken; one that fits is. -/
theorem State.upFrame_taken {s : State} {l t : Nat} {bytes : List Byte}
    (hcrc : crc16 ((padTo 58 bytes).take 56) = fieldAt (padTo 58 bytes) 56 2)
    (htype : fieldAt (padTo 58 bytes) 0 1 = 0x20 + l)
    (hseq : seqNear (fieldAt (padTo 58 bytes) 2 2) ((t - 6250 * l) / 25000) = true) :
    s.upFrame l bytes t = (s.at t).upTaken l t (padTo 58 bytes) := by
  refine (if_neg (not_not.mpr hcrc)).trans (if_neg ?_)
  simp [htype, hseq]

/-- Settles O45: a frame that passes its checks acts, and one with a bad CRC is counted. -/
theorem carrierFrames : Obligations.CarrierFrames := by
  intro s
  refine ⟨?powerUp, fun l j hl hrun hsend hpower => ?send, fun j k u hrun hsend hpower hslot => ?sendConfig,
    fun l bytes t hup hcrc => ?downBad, fun l bytes t hl hup htimed hfresh hcrc htype hseq hpairs => ?down,
    fun l j ao dio hup => ?upSend, fun l bytes t hcrc => ?upBad, fun l bytes t hcrc htype hseq => ?up,
    fun l t hup hdue hoff => ?safe, fun t hup htimed ht => ?hold⟩ <;>
    refine congrArg (fun t => Host.Outcome.next (State.settle t)) ?_
  case powerUp => rfl
  case send => exact State.downSend_value hl hrun hsend hpower
  case sendConfig => exact State.downSend_config hrun hsend hpower hslot
  case downBad => exact congrArg State.pairOn (State.downFrame_badCrc hup hcrc)
  case down => exact congrArg State.pairOn (State.downFrame_taken hl hup htimed hfresh hcrc htype hseq hpairs)
  case upSend => exact if_neg (by rw [hup]; decide)
  case upBad => exact if_pos hcrc
  case up => exact State.upFrame_taken hcrc htype hseq
  case safe => exact if_neg (by simp [hup, hdue, hoff])
  case hold => exact if_pos ⟨hup, htimed, ht⟩

end Sys2Proof.Machine
end

section
/-! The radio of the carrier (O46) and data over the loops (O47). -/

namespace Sys2Proof.Machine

/-! ### The radio -/

/-- R491: a slot of the plan opens for reception when the time left in it is enough. -/
theorem State.slotOpen_of {s : State} {sf k : Nat} (hup : (s.car.settleCfg s.now).up = true)
    (hen : bitOf ((s.car.settleCfg s.now).mw 0) 0 = true) (hset : nth (s.car.settleCfg s.now).cfg 5 0 ≠ 0)
    (hsf : s.sfRuns sf ((s.car.settleCfg s.now).mf 7 23 16) = true)
    (hfirst : (planOf ((s.car.settleCfg s.now).mw 1) ((s.car.settleCfg s.now).mw 2)).beacon ≤ k)
    (hlast : k < (planOf ((s.car.settleCfg s.now).mw 1) ((s.car.settleCfg s.now).mw 2)).n)
    (hopens : (planOf ((s.car.settleCfg s.now).mw 1) ((s.car.settleCfg s.now).mw 2)).opens
      (1000 * nth (s.car.settleCfg s.now).cfg 5 0) k = true) :
    s.slotOpen sf k = State.modRad { s with car := s.car.settleCfg s.now } (fun r => { r with
      rx := some ⟨sf, k, 0, 1, 0, 0, 0, 0, false, false, 0, 0, 0, 0, []⟩ }) := by
  have hruns : State.sfRuns { s with car := s.car.settleCfg s.now } sf ((s.car.settleCfg s.now).mf 7 23 16) = true := hsf
  refine (if_neg ?_).trans (if_neg ?_)
  · simp only [hup, hen, hruns, Bool.not_true, Bool.false_eq_true, false_or, not_or]
    omega
  · rw [hopens]
    decide

/-- R494: a beacon goes out in a superframe that runs, outside the safe state of lane 3. -/
theorem State.beacon_of {s : State} {sf : Nat} {masked : Bool} (hup : (s.car.settleCfg s.now).up = true)
    (hen : bitOf ((s.car.settleCfg s.now).mw 0) 0 = true) (htx : bitOf ((s.car.settleCfg s.now).mw 0) 1 = true)
    (hsafe : nth (s.car.settleCfg s.now).safeOn 3 false = false)
    (hsf : s.sfRuns sf ((s.car.settleCfg s.now).mf 7 23 16) = true) :
    s.beacon sf masked = State.beaconGoes { s with car := s.car.settleCfg s.now } sf masked := by
  have hruns : State.sfRuns { s with car := s.car.settleCfg s.now } sf ((s.car.settleCfg s.now).mf 7 23 16) = true := hsf
  refine if_neg ?_
  simp only [hup, hen, htx, hsafe, hruns, Bool.not_true, Bool.false_eq_true, or_self, not_false_eq_true]

section
variable {s : State} {x : RxSt} (hrx : s.radio.rx = some x)
include hrx

/-- R491: a burst over the threshold within the window of the slot is triggered. -/
theorem State.radioTrigger_of {rssi : Int} {dt : Nat} (hst : x.stage = 0) (hthr : ((s.car.mf 3 7 0 : Nat) : Int) - 280 ≤ rssi)
    (hwin : dt ≤ 2 * (4000 * s.car.mf 5 23 16) + symTime (s.car.mw 0) (s.car.mf 3 31 24)) :
    s.radioTrigger rssi dt = s.modRx (fun x => { x with stage := 1, rssi := rssi }) := by
  simp only [State.radioTrigger, hrx]
  exact if_pos ⟨hst, hthr, hwin⟩

/-- R491: a correlation in time and over its threshold goes on. -/
theorem State.radioCorrelate_of {corr : Nat} {e snr : Int} (hst : x.stage = 1) (hcorr : s.car.mf 3 15 8 ≤ corr) :
    s.radioCorrelate corr true e snr = s.modRx (fun x => { x with stage := 2, resid := e, snr := snr }) := by
  simp only [State.radioCorrelate, hrx]
  exact (if_neg (not_not.mpr hst)).trans (if_pos ⟨trivial, hcorr⟩)

/-- R492: a join slot keeps no frequency offset. -/
theorem State.radioSync_join {errs : Nat} (hst : x.stage = 2) (herrs : errs ≤ s.car.mf 3 19 16)
    (hjoin : (planOf (s.car.mw 1) (s.car.mw 2)).joins x.slot = true) :
    s.radioSync errs true = (s.modRx (fun y => { y with
      stage := 3, off := s.afc x.slot + y.resid, synced := true, atLim := false, ncw := 0 })).modRad (fun r => { r with afc := kvSet (fun _ => 0) x.slot 0 r.afc, afcMiss := kvErase x.slot r.afcMiss }) := by
  simp only [State.radioSync, hrx]
  refine (if_neg (not_not.mpr hst)).trans ((if_pos ⟨trivial, herrs⟩).trans ?_)
  simp [hjoin]

/-- R492: the offset of any other slot follows the residual, within its limit. -/
theorem State.radioSync_slot {errs : Nat} (hst : x.stage = 2) (herrs : errs ≤ s.car.mf 3 19 16)
    (hslot : (planOf (s.car.mw 1) (s.car.mw 2)).joins x.slot = false) :
    s.radioSync errs true = (s.modRx (fun y => { y with
      stage := 3
      off := s.afc x.slot + y.resid
      synced := true
      ncw := 0
      atLim := Decidable.decide (s.afc x.slot + (if x.resid < 0 then -rneInt x.resid.natAbs (-1) else rneInt x.resid.natAbs (-1)) ≠
        afcNext (s.afc x.slot) x.resid (s.car.mf 7 15 0)) })).modRad (fun r => { r with
          afc := kvSet (fun _ => 0) x.slot (afcNext (s.afc x.slot) x.resid (s.car.mf 7 15 0)) r.afc
          afcMiss := kvErase x.slot r.afcMiss }) := by
  simp only [State.radioSync, hrx]
  refine (if_neg (not_not.mpr hst)).trans ((if_pos ⟨trivial, herrs⟩).trans ?_)
  simp only [hslot, Bool.not_false, Bool.true_and, Bool.false_eq_true, if_false]

/-- R493: a header that is right and whose codewords end in the slot is taken. -/
theorem State.radioHeader_of {h dt : Nat} (hst : x.stage = 3) (hncw : x.ncw = 0) (hok : hdrOk h 2 = true)
    (hn : bitsOf h 3 0 ≠ 0) (hrate : bitsOf h 5 4 ≠ 3)
    (hends : dt + symTime (s.car.mw 0) (bitsOf h 3 0 * 648 / (if bitOf h 6 then 2 else 1)) + 100000 + 70000 * bitsOf h 3 0 ≤
      1000 * (planOf (s.car.mw 1) (s.car.mw 2)).slot) :
    s.radioHeader h dt = s.modRx (fun x => { x with ncw := bitsOf h 3 0, rate := bitsOf h 5 4 }) := by
  simp only [State.radioHeader, hrx]
  exact (if_neg (by omega)).trans (if_pos ⟨hok, hn, hrate, hends⟩)

end

/-- Settles O46: each event finds the receiver in its stage. -/
theorem radioCommands : Obligations.RadioCommands := by
  intro s
  refine ⟨fun sf k hup hen hset hsf hfirst hlast hopens => ?slot, fun sf masked hup hen htx hsafe hsf => ?beacon,
    fun x rssi dt hrx hst hthr hwin => ?trigger, fun x corr e snr hrx hst hcorr => ?correlate,
    fun x errs hrx hst herrs hjoin => ?syncJoin, fun x errs hrx hst herrs hslot => ?syncSlot,
    fun x h dt hrx hst hncw hok hn hrate hends => ?header, fun x llrs hrx hst hncw hlen => ?decode, fun x hrx => ?slotEnd,
    fun k hmiss => ?afc, fun t hlim hmiss => ?range, fun c hfound hseq => ?cmdFailed⟩ <;>
    refine congrArg (fun t => Host.Outcome.next (State.settle t)) ?_
  case slot => exact State.slotOpen_of hup hen hset hsf hfirst hlast hopens
  case beacon => exact State.beacon_of hup hen htx hsafe hsf
  case trigger => exact State.radioTrigger_of hrx hst hthr hwin
  case correlate => exact State.radioCorrelate_of hrx hst hcorr
  case syncJoin => exact State.radioSync_join hrx hst herrs hjoin
  case syncSlot => exact State.radioSync_slot hrx hst herrs hslot
  case header => exact State.radioHeader_of hrx hst hncw hok hn hrate hends
  case decode =>
    simp only [State.radioDecode, hrx]
    exact if_neg (by simp [hst, hncw, hlen])
  case slotEnd => simp only [State.slotEnd, hrx]
  case afc => exact if_pos hmiss
  case range => exact if_pos ⟨hlim, hmiss, t.isLt⟩
  case cmdFailed =>
    simp only [State.radioCmdFailed, hfound]
    exact if_pos hseq

/-! ### Data over the loops -/

/-- R501: an engine begins the dwell of its next enabled loop. -/
theorem State.dwellStart_of {s : State} {e m l : Nat} (hup : (s.car.settleCfg s.now).up = true)
    (hloop : nth (((s.car.settleCfg s.now).ldCfg.loops e).map some) (m % max ((s.car.settleCfg s.now).ldCfg.loops e).length 1) none
      = some l)
    (hruns : (State.ldEnables { s with car := s.car.settleCfg s.now } (s.car.settleCfg s.now).ldCfg.en).dwellRuns
      (s.car.settleCfg s.now).ldCfg m = true) :
    s.dwellStart e m =
      (State.ldEnables { s with car := s.car.settleCfg s.now } (s.car.settleCfg s.now).ldCfg.en).dwellBegins e m l := by
  simp only [State.dwellStart, hloop]
  exact if_neg (by rw [hup, hruns]; decide)

/-- Settles O47: each event finds the dwell, the loop or the message it is about. -/
theorem lineDataCommands : Obligations.LineDataCommands := by
  intro s
  refine ⟨fun e m l hup hloop hruns => ?start, fun e w off h llrs hdwell hres => ?frame, fun e w snr hdwell => ?dwellEnd,
    fun l hst hhdr => ?lost, fun q n hmsg hretry => ?failed⟩ <;>
    refine congrArg (fun t => Host.Outcome.next (State.settle t)) ?_
  case start => exact State.dwellStart_of hup hloop hruns
  case frame =>
    simp only [State.uplinkFrame, hdwell]
    exact if_neg (not_not.mpr hres)
  case dwellEnd => simp only [State.dwellEnd, hdwell]
  case lost => exact if_pos ⟨hst, hhdr⟩
  case failed =>
    simp only [State.ldMsgFailed, hmsg]
    exact if_pos hretry

end Sys2Proof.Machine
end

section
/-! Frames of the chain that carry no request (O48). -/

namespace Sys2Proof.Machine

/-- R327: an alarm frame of the right shape whose pair words match does nothing, and one whose words do not is noted. -/
theorem State.alarmFrame_of {s u : State} {f : RcpFrame} (hin : s.rcpIn 1 f = (true, u)) (hmin : 1 ≤ fieldAt f.payload 8 2)
    (hmax : fieldAt f.payload 8 2 ≤ 61) (hlen : f.payload.length = 16 + 24 * fieldAt f.payload 8 2)
    (hkind : fieldAt f.payload 10 1 ≤ 1) (hzero : fieldAt f.payload 11 5 = 0)
    (hres : (List.range (fieldAt f.payload 8 2)).any (fun e => fieldAt f.payload (20 + 24 * e) 4 != 0) = false) :
    s.alarmFrame f = if (List.range (fieldAt f.payload 8 2)).all (fun e => isPairWord (fieldAt f.payload (24 + 24 * e) 8) &&
      isPairWord (fieldAt f.payload (32 + 24 * e) 8)) = true then u else u.pwFrame := by
  have hshape : ¬(fieldAt f.payload 8 2 = 0 ∨ 61 < fieldAt f.payload 8 2 ∨
      f.payload.length ≠ 16 + 24 * fieldAt f.payload 8 2 ∨ 1 < fieldAt f.payload 10 1 ∨ fieldAt f.payload 11 5 ≠ 0 ∨
      (List.range (fieldAt f.payload 8 2)).any (fun e => fieldAt f.payload (20 + 24 * e) 4 != 0) = true) := by
    rw [hres]
    simp only [Bool.false_eq_true, or_false]
    omega
  simp only [State.alarmFrame, hin, if_neg hshape]
  rfl

/-- R315: a HELLO of the right shape gives the neighbour on its side. -/
theorem State.hello_of {s : State} {w : Nat} {p : List Byte} (hup : s.portsUp = true) (hlen : p.length = 16)
    (hside : fieldAt p 8 1 ≤ 1) (hst : fieldAt p 9 1 ≤ 3) : s.hello w p =
      ((if fieldAt p 8 1 = w then (((s.modCh (fun c => { c with
          hello := setNth c.hello w s.now, peers := setNth c.peers w (fieldAt p 9 1) })).setReg64 (neighReg w) (fieldAt p 0 8)).raise
          R.CHAIN_STATUS (neighFld w)).raise R.CHAIN_ERR F.CHAIN_ERR_CROSSED
        else ((s.modCh (fun c => { c with
          hello := setNth c.hello w s.now, peers := setNth c.peers w (fieldAt p 9 1) })).setReg64 (neighReg w) (fieldAt p 0 8)).raise
          R.CHAIN_STATUS (neighFld w)).bypassOf w).setPeers :=
  (if_neg (by simp [hup])).trans (if_neg (by omega))

/-- R319: a TIME_INFO of another node that is no grandmaster's, with the epoch's own period and phase, is noted. -/
theorem State.timeInfo_of {s u : State} {f : RcpFrame} (hsrc : f.src ≠ s.macChain) (hin : s.rcpIn 0x11 f = (true, u))
    (hlen : f.payload.length = 32) (hst : fieldAt f.payload 16 1 ≤ 3) (hgm : fieldAt f.payload 17 1 = 0)
    (hperiod : fieldAt f.payload 8 4 = u.img.run.period / 1000) (hphase : fieldAt f.payload 12 4 = u.img.run.phase) :
    s.timeInfo f = { u.modCh (fun c => { c with infos := kvPut (fieldAt f.payload 0 8) u.now c.infos }) with
      pair := { u.pair with macs := kvPut (fieldAt f.payload 0 8) f.src u.pair.macs } } := by
  have hown : ¬(f.src = s.macChain ∧ f.port ≠ 2) := fun h => hsrc h.1
  have hnotGm : ¬(f.port ≠ 2 ∧ f.dst = groupMac ∧ f.payload.length = 32 ∧ fieldAt f.payload 24 8 = u.gmId ∧
      fieldAt f.payload 17 1 = 1) := by
    rintro ⟨-, -, -, -, h⟩
    omega
  simp only [State.timeInfo, if_neg hown, hin, if_neg hnotGm]
  refine (if_neg (by simp)).trans ((if_neg (by omega)).trans (if_neg ?_))
  rintro (h | h)
  · exact h hperiod
  · exact h hphase

/-- R316: the alarm frame at the front goes out when the shaper lets it. -/
theorem State.alarmDequeue_of {s : State} {t typ dst : Nat} {p : List Byte} {rest : List (Nat × Nat × List Byte)}
    (hqueue : (s.at t).chain.alarmQ = (typ, dst, p) :: rest) (hshape : (s.at t).mayShape (wireBytes p) = true) :
    s.alarmDequeue t = (((s.at t).rcpOut (typ % 256) dst (typ / 256 == 1) p).modCh (fun c => { c with
      alarmQ := rest
      shape := c.shape.filter (fun e => Nat.blt (s.at t).now (e.1 + 1500000)) ++ [((s.at t).now, wireBytes p)] })).setFlood := by
  simp only [State.alarmDequeue, hqueue]
  exact if_pos hshape

/-- R338: an HSR frame of another node that the node has not seen goes on, unless it is for the node itself. -/
theorem State.hsrFrame_of {s : State} {port src dst seq : Nat} {body : List Byte}
    (hen : s.flag R.CHAIN_CTRL F.CHAIN_CTRL_HSR_EN = true) (hup : s.portsUp = true) (hsrc : src ≠ s.macChain) :
    s.hsrFrame port src dst seq body =
      if s.chain.hsrDup.any (fun e => e.1 == src && e.2.1 == seq && Nat.ble s.now (e.2.2 + 400000000)) = true then s.inc R.HSR_DUP_CNT
      else if dst = s.macChain then s.modCh (fun c => { c with
        hsrDup := ((src, seq, s.now) :: c.hsrDup).take 2048
        hsrNodes := ((src, s.now) :: c.hsrNodes.filter (fun n => n.1 != src && Nat.ble s.now (n.2 + 60000000000))).take 256 })
      else (s.modCh (fun c => { c with
        hsrDup := ((src, seq, s.now) :: c.hsrDup).take 2048
        hsrNodes := ((src, s.now) :: c.hsrNodes.filter (fun n => n.1 != src && Nat.ble s.now (n.2 + 60000000000))).take 256 })).send
          (4 + (1 - port)) 0x892F dst body :=
  if_neg (by simp [hen, hup, hsrc])

/-- Settles O48: each frame is delivered or refused by its shape, and each event finds the port, the ring or HSR as it needs. -/
theorem chainFrames : Obligations.ChainFrames := by
  intro s
  refine ⟨fun f u hin hmin hmax hlen hkind hzero hres hwords => ?alarm,
    fun f u hin hmin hmax hlen hkind hzero hres hwords => ?alarmBad, ?refresh, fun t typ dst p rest hqueue hshape => ?dequeue,
    fun w p hup hlen hside hst hne => ?hello, fun w p hup hlen hside hst heq => ?crossed, fun hup => ?helloSend,
    fun w t ht => ?lost, fun port hacq hport => ?linkUp, fun hacq => ?x5Up, fun port hport => ?linkDown,
    fun f hsrc hport ht => ?ring, fun f u hsrc hin hlen hst hgm hperiod hphase => ?timeInfo, ?timeInfoSend,
    fun t hback ht hclosed => ?ringOpen, fun typ f => ?bad, fun version typ f hversion => ?otherVersion,
    fun typ f u hin => ?forward, fun port src dst seq body hen hup hsrc hdup => ?duplicate,
    fun port src dst seq body hen hup hsrc hnew hdst => ?hsr, fun hen hup => ?supervision⟩ <;>
    refine congrArg (fun t => Host.Outcome.next (State.settle t)) ?_
  case alarm => exact (State.alarmFrame_of hin hmin hmax hlen hkind hzero hres).trans (if_pos hwords)
  case alarmBad => exact (State.alarmFrame_of hin hmin hmax hlen hkind hzero hres).trans (if_neg (by simp [hwords]))
  case refresh => rfl
  case dequeue => exact State.alarmDequeue_of hqueue hshape
  case hello => rw [State.hello_of hup hlen hside hst, if_neg hne]
  case crossed => rw [State.hello_of hup hlen hside hst, if_pos heq]
  case helloSend => exact if_neg (by simp [hup])
  case lost => exact if_pos ht
  case linkUp =>
    have hstarted : s.pwr.acqStart.isNone = false := by simpa using hacq
    simp only [State.portLink, hstarted, if_neg hport]
    rfl
  case x5Up =>
    simp only [State.portLink, hacq]
    rfl
  case linkDown =>
    have hdown : ¬(false = true ∧ s.pwr.acqStart.isNone = true) := fun h => Bool.false_ne_true h.1
    simp only [State.portLink, if_neg hdown, if_neg hport]
    rfl
  case ring => exact (if_pos ⟨hsrc, hport⟩).trans (if_pos ht)
  case timeInfo => exact State.timeInfo_of hsrc hin hlen hst hgm hperiod hphase
  case timeInfoSend => rfl
  case ringOpen => exact if_pos ⟨by simp [hback], ht, hclosed⟩
  case bad => rfl
  case otherVersion => exact if_neg hversion
  case forward => rw [State.rcpForward, hin]
  case duplicate => exact (State.hsrFrame_of hen hup hsrc).trans (if_pos hdup)
  case hsr => rw [State.hsrFrame_of hen hup hsrc, hnew, if_neg (by simp), if_neg hdst]
  case supervision => exact if_neg (by simp [hen, hup])

end Sys2Proof.Machine
end

section
/-! Requests over RCP that are let in (O49). -/

namespace Sys2Proof.Machine

/-- R330: a REGISTER request that its session lets in accesses its registers and is answered. -/
theorem State.register_of {s v w : State} {f : RcpFrame} {k role st m : Nat} {d : List Byte} (h : s.admits f k role v)
    (hdo : v.regDo (pathOf f) role k (fieldAt f.payload 9 1) (fieldAt f.payload 10 2) (fieldAt f.payload 12 4)
      (f.payload.drop 32) = (st, m, d, w)) : s.register k f = w.regAnswer f st m d := by
  obtain ⟨hop, hresp, hlen, hdst, hshape, u, hin, hbegun, hlit, hnew, hauth⟩ := h
  have hother : ¬(1 ≤ fieldAt f.payload 8 1 ∧ fieldAt f.payload 8 1 ≤ 5 ∧ fieldAt f.payload 8 1 ≠ k) := fun h => h.2.2 hop
  have hform : ¬(f.payload.length < 32 ∨ f.dst = groupMac) := by
    rintro (h | h)
    · omega
    · exact hdst h
  rw [← hop] at hshape hdo
  rw [pathOf] at hdo
  simp only [State.register, if_neg hother, hin, hresp, if_neg hform, hbegun, hlit, hnew, hauth, hshape, Bool.not_true,
    Bool.false_eq_true, false_and, or_self, if_false, if_true, hdo]
  rfl

/-- R332: an image transfer of the engineer is taken or refused by its place, and answered. -/
theorem State.imageFrame_of {s u v : State} {f : RcpFrame} {role : Nat} (hresp : f.resp = false)
    (hin : s.rcpIn 0x50 f = (true, u)) (hmin : 33 ≤ f.payload.length)
    (hlen : f.payload.length = 32 + fieldAt f.payload 28 2) (hmax : fieldAt f.payload 28 2 ≤ 1456)
    (hzero : zeroAt f.payload 30 2 = true) (hdst : f.dst ≠ groupMac) (hbegun : u.host.begun = true)
    (hnew : u.keptFor f.src (fieldAt f.payload 4 4) (fieldAt f.payload 0 4) = none)
    (hauth : u.authCheck 0x50 false 8 f.src f.payload = (some role, v)) (hrole : 2 ≤ role) :
    s.imageFrame f = ((v.imgTransfer (fieldAt f.payload 24 4) (f.payload.drop 32)).2.answer (pathOf f) (fieldAt f.payload 0 4) 0x50
      (leBytes 4 (fieldAt f.payload 0 4) ++ leBytes 1 (if (v.imgTransfer (fieldAt f.payload 24 4) (f.payload.drop 32)).1 then 0
        else 0x0A) ++ copies 3 0#8 ++ leBytes 4 ((v.imgTransfer (fieldAt f.payload 24 4) (f.payload.drop 32)).2.regN
        R.RECV_BYTES))).sessSpent (fieldAt f.payload 4 4) := by
  have hform : ¬(f.payload.length < 32 ∨ f.dst = groupMac) := by
    rintro (h | h)
    · omega
    · exact hdst h
  have hshape : (Nat.ble 1 (fieldAt f.payload 28 2) && Nat.ble (fieldAt f.payload 28 2) 1456 &&
      f.payload.length == 32 + fieldAt f.payload 28 2 && zeroAt f.payload 30 2) = true := by
    simp only [Bool.and_eq_true, Nat.ble_eq, beq_iff_eq]
    exact ⟨⟨⟨by omega, hmax⟩, hlen⟩, hzero⟩
  simp only [State.imageFrame, hin, hresp, if_neg hform, hbegun, hnew, hauth, hshape, if_neg (Nat.not_lt.mpr hrole), Bool.not_true,
    Bool.false_eq_true, or_self, if_false]
  rfl

/-- R325: the entries of a COMMAND frame that reaches a unit which executes it wait for the commit. -/
theorem State.commandFrame_of {s u v : State} {f : RcpFrame} {role : Nat} (hresp : f.resp = false)
    (hin : s.rcpIn 0x02 f = (true, u)) (hmin : 32 ≤ f.payload.length) (hshape : cmdShape f.payload = true)
    (hwords : (cmdEntries f.payload).all (fun e => isPairWord e.2.2) = true) (hbegun : u.host.begun = true)
    (hnew : u.keptFor f.src (fieldAt f.payload 4 4) (fieldAt f.payload 0 4) = none)
    (hauth : u.authCheck 0x02 (f.dst == groupMac) 8 f.src f.payload = (some role, v))
    (hhere : v.pairState = 0 ∨ v.holdsToken = true) :
    s.commandFrame f = (v.modAlm (fun a => { a with queue := a.queue ++ (cmdEntries f.payload).map (fun e =>
      ⟨e.1, e.2.1, e.2.2 % 2 ^ 32, role, .frame (pathOf f) (fieldAt f.payload 0 4) (f.dst == groupMac)⟩) })).sessSpent
        (fieldAt f.payload 4 4) := by
  have hmatched : (cmdEntries f.payload).any (fun e => !isPairWord e.2.2) = false := by
    rw [List.any_eq_false]
    intro e he
    simpa using List.all_eq_true.mp hwords e he
  have hforward : ¬(v.pairState ≠ 0 ∧ (!v.holdsToken) = true) := by
    rintro ⟨hpair, htoken⟩
    rcases hhere with h | h
    · exact hpair h
    · simp [h] at htoken
  simp only [State.commandFrame, hin, hresp, if_neg (Nat.not_lt.mpr hmin), hshape, hmatched, hbegun, hnew, hauth, if_neg hforward,
    Bool.not_true, Bool.false_eq_true, and_false, or_self, if_false]
  rfl

/-- Settles O49: a request that is let in accesses the registers, and a bare write or read is the access itself. -/
theorem registerRequests : Obligations.RegisterRequests := by
  intro s
  refine ⟨fun f role m d v w h hdo => ?read, fun f role m d v w h hdo => ?write, fun f role m d v w h hdo => ?rmw,
    fun f role m d v w h hdo => ?blockRead, fun f role m d v w h hdo => ?blockWrite,
    fun p role a v u hbegun hwrite => ?bareWrite, fun p role a v hi u hbegun hwrite => ?bareWide,
    fun p role req d o w u hbegun hread => ?debugRead,
    fun f u v role hresp hin hmin hlen hmax hzero hdst hbegun hnew hauth hrole => ?image,
    fun f u v role hresp hin hmin hshape hwords hbegun hnew hauth hhere => ?command⟩ <;>
    refine congrArg (fun t => Host.Outcome.next (State.settle t)) ?_
  case read => exact State.register_of h hdo
  case write => exact State.register_of h hdo
  case rmw => exact State.register_of h hdo
  case blockRead => exact State.register_of h hdo
  case blockWrite => exact State.register_of h hdo
  case bareWrite =>
    refine (if_pos hbegun).trans ?_
    rw [hwrite]
  case bareWide => exact hwrite
  case debugRead =>
    refine (if_neg (by simp [hbegun])).trans ?_
    rw [hread]
    rfl
  case image => exact State.imageFrame_of hresp hin hmin hlen hmax hzero hdst hbegun hnew hauth hrole
  case command => exact State.commandFrame_of hresp hin hmin hshape hwords hbegun hnew hauth hhere

end Sys2Proof.Machine
end

section
/-! Modbus requests that are served (O50). -/

namespace Sys2Proof.Machine

/-- R339: a read of registers that its window maps is answered with what they hold. -/
theorem State.modbusReads_of {s : State} {fc : Nat} {ws : List (Nat × Nat × Nat)} {conn : BitVec 3} {unit : Byte}
    {addr qty : BitVec 16} {as : List Nat} (hserve : s.modbusServes conn.toNat unit.toNat) (hmin : 1 ≤ qty.toNat)
    (hmax : qty.toNat ≤ 125) (hmap : modbusAddrs ws addr.toNat qty.toNat = some as) :
    s.modbusReads fc ws conn unit addr qty = (s.modbusRead (.modbus conn.toNat) as none [] s).2.modbusOut conn.toNat unit.toNat fc
      (leBytes 1 (2 * qty.toNat) ++ (s.modbusRead (.modbus conn.toNat) as none [] s).1) := by
  rw [State.modbusReads, State.modbusReq_of _ hserve, if_neg (by omega), hmap]

/-- R340: a write of a 16-bit register that its window maps is answered with its address and value. -/
theorem State.modbusSingle_of {s u : State} {conn : BitVec 3} {unit : Byte} {addr value : BitVec 16} {a : Nat} {r : RegRow}
    (hserve : s.modbusServes conn.toNat unit.toNat) (hmap : modbusAddr holdingWindows addr.toNat = some a) (hword : a % 4 = 0)
    (hrow : rowOf a = some r) (hmask : r.mask < 65536) (hacc : r.acc ≠ .pw)
    (hwrite : s.modbusWrite (.modbus conn.toNat) [(a, value.toNat, none)] s = (none, u)) :
    s.modbusSingle conn unit addr value = u.modbusOut conn.toNat unit.toNat 6 (beBytes 2 addr.toNat ++ beBytes 2 value.toNat) := by
  have hnarrow : (Nat.ble 65536 r.mask || r.acc == .pw) = false := by
    rw [Bool.or_eq_false_iff, Bool.eq_false_iff, beq_eq_false_iff_ne]
    exact ⟨by simpa using hmask, hacc⟩
  rw [State.modbusSingle, State.modbusReq_of _ hserve]
  simp only [hmap, hrow, hnarrow, hwrite]
  exact if_neg (by simp [hword])

/-- R340: a write of several registers that its window maps is answered with its address and count. -/
theorem State.modbusMultiple_of {s u : State} {conn : BitVec 3} {unit : Byte} {addr : BitVec 16} {vs : List (BitVec 16)}
    (hserve : s.modbusServes conn.toNat unit.toNat) (hmin : 1 ≤ vs.length) (hmax : vs.length ≤ 123)
    (hput : s.modbusPut conn.toNat addr.toNat (vs.map BitVec.toNat) = (none, u)) :
    s.modbusMultiple conn unit addr vs = u.modbusOut conn.toNat unit.toNat 16 (beBytes 2 addr.toNat ++ beBytes 2 vs.length) := by
  rw [State.modbusMultiple, State.modbusReq_of _ hserve, if_neg (by omega), hput]

/-- R341: the write goes before the read. -/
theorem State.modbusBoth_of {s u : State} {conn : BitVec 3} {unit : Byte} {raddr rqty waddr : BitVec 16} {vs : List (BitVec 16)}
    {as : List Nat} (hserve : s.modbusServes conn.toNat unit.toNat) (hread : 1 ≤ rqty.toNat ∧ rqty.toNat ≤ 125)
    (hwrite : 1 ≤ vs.length ∧ vs.length ≤ 121) (hmap : modbusAddrs holdingWindows raddr.toNat rqty.toNat = some as)
    (hput : s.modbusPut conn.toNat waddr.toNat (vs.map BitVec.toNat) = (none, u)) :
    s.modbusBoth conn unit raddr rqty waddr vs = (u.modbusRead (.modbus conn.toNat) as none [] u).2.modbusOut conn.toNat unit.toNat
      23 (leBytes 1 (2 * rqty.toNat) ++ (u.modbusRead (.modbus conn.toNat) as none [] u).1) := by
  rw [State.modbusBoth, State.modbusReq_of _ hserve, if_neg (by omega), hmap]
  simp only [hput]

/-- Settles O50: a served function's addresses are mapped and its counts in range. -/
theorem modbusRequests : Obligations.ModbusRequests := by
  intro s
  refine ⟨fun conn unit addr qty as hserve hmin hmax hmap => ?holding, fun conn unit addr qty as hserve hmin hmax hmap => ?input,
    fun conn unit addr value a r u hserve hmap hword hrow hmask hacc hwrite => ?single,
    fun conn unit addr vs u hserve hmin hmax hput => ?multiple,
    fun conn unit raddr rqty waddr vs as u hserve hrmin hrmax hwmin hwmax hmap hput => ?both⟩ <;>
    refine congrArg (fun t => Host.Outcome.next (State.settle t)) ?_
  case holding => exact State.modbusReads_of hserve hmin hmax hmap
  case input => exact State.modbusReads_of hserve hmin hmax hmap
  case single => exact State.modbusSingle_of hserve hmap hword hrow hmask hacc hwrite
  case multiple => exact State.modbusMultiple_of hserve hmin hmax hput
  case both => exact State.modbusBoth_of hserve ⟨hrmin, hrmax⟩ ⟨hwmin, hwmax⟩ hmap hput

end Sys2Proof.Machine
end

section
/-! The lease of the token and the health of the units (O52). -/

namespace Sys2Proof.Machine

/-- A word of the cable whose complement matches acts. -/
theorem State.cablePw_of {s : State} {w : Nat} (k : State → State) (h : isPairWord w = true) : s.cablePw w k = k s :=
  if_pos h

/-- In a pair with the cable up its messages are taken. -/
theorem State.cable_taken {s : State} (hpair : s.pairState ≠ 0) (hup : s.cableUp = true) :
    ¬(s.pairState = 0 ∨ (!s.cableUp) = true) := by
  simp [hpair, hup]

/-- Settles O52: each message comes from the unit's own partner, arbiter or cable, and each event finds the lease due. -/
theorem leaseOfTheHolder : Obligations.LeaseOfTheHolder := by
  intro s
  refine ⟨fun t htoken hlive => ?renew, fun t htoken ht => ?fence, fun t hmay hnew hknown ht => ?expired,
    fun t hmay hnew hports hrenew ht => ?bringup, ?again, fun hpair htoken => ?health, fun f u htakes hof htoken => ?partnerRenew,
    fun f u htakes hof => ?confirm, fun f u htakes hof => ?partnerHealth,
    fun token expires epoch hpair hup hword htoken hgen => ?fenced, fun token expires epoch hpair hup hword htoken hgen => ?learns,
    fun token expires hpair hup hword => ?cableConfirm, fun b hpair hup hword hword' => ?cableHealth⟩ <;>
    refine congrArg (fun t => Host.Outcome.next (State.settle t)) ?_
  case renew => exact if_pos (by rw [htoken, hlive]; rfl)
  case fence => exact if_pos ⟨htoken, ht⟩
  case expired => exact if_pos ⟨hmay, hnew, hknown, ht⟩
  case bringup => exact if_pos ⟨hmay, hnew, hports, by simp [hrenew], ht⟩
  case again => rfl
  case health => exact if_neg (by simp [hpair, htoken])
  case partnerRenew =>
    refine (State.pairIn_of _ htakes).trans (if_neg ?_)
    simp [hof, htoken]
  case confirm => exact (State.pairIn_of _ htakes).trans (if_pos hof)
  case partnerHealth =>
    change s.pairHealthIn f = _
    rw [State.pairHealthIn, State.pairIn_of _ htakes, if_pos hof]
  case fenced =>
    rw [State.cableRenew, if_neg (State.cable_taken hpair hup), State.cablePw_of _ hword, if_pos htoken, if_pos hgen]
  case learns =>
    rw [State.cableRenew, if_neg (State.cable_taken hpair hup), State.cablePw_of _ hword, if_neg (by simp [htoken]), if_pos hgen]
  case cableConfirm =>
    rw [State.cableConfirm, if_neg (State.cable_taken hpair hup), State.cablePw_of _ hword]
  case cableHealth =>
    refine (if_neg (State.cable_taken hpair hup)).trans ?_
    rw [State.cablePw_of _ hword, State.cablePw_of _ hword']

end Sys2Proof.Machine
end

section
/-! The arbiter of a pair (O53). -/

namespace Sys2Proof.Machine

/-- R358: a request for a pair that the arbiter keeps, out of quarantine, is noted and granted or denied. -/
theorem State.requestIn_of {s u : State} {f : RcpFrame} {i k : Nat} (h : s.pairTakes 0x31 3 f u) (hen : u.arbEn = true)
    (hfind : u.arbFind (fieldAt f.payload 4 4) (fieldAt f.payload 8 8) = some (i, k)) : s.requestIn f =
      if (u.arb i).quar = true then u.arbSend i 5 2 f.src
      else if (u.modArb i (fun a => { a with
          firstReq := if a.firstReq.isSome then a.firstReq else some u.now
          prefAsked := a.prefAsked || k == u.arbPref i })).arbMay i k (fieldAt f.payload 1 1) = true then
        (u.modArb i (fun a => { a with
          firstReq := if a.firstReq.isSome then a.firstReq else some u.now
          prefAsked := a.prefAsked || k == u.arbPref i })).arbGrant i k (payExpires f.payload) f.src
      else (u.modArb i (fun a => { a with
          firstReq := if a.firstReq.isSome then a.firstReq else some u.now
          prefAsked := a.prefAsked || k == u.arbPref i })).arbSend i 5 1 f.src := by
  rw [State.requestIn, State.pairIn_of _ h]
  simp only [hen, hfind]
  rfl

/-- R359: a renewal out of quarantine is confirmed in the token's generation, and refused in an older one. -/
theorem State.renewIn_of {s w : State} {f : RcpFrame} {i k : Nat} (h : s.arbTakes 1 f i k w) (hquar : (w.arb i).quar = false) :
    s.renewIn f =
      if genOf (payToken f.payload) = genOf (w.arbToken i) then
        ((w.setReg64 (R.ARB_EXPIRES_LO i) (payExpires f.payload)).arbSend i 2 0 f.src).arbAuto i
      else if genOf (payToken f.payload) < genOf (w.arbToken i) then w.arbSend i 5 3 f.src
      else w := by
  rw [State.renewIn, State.arbIn_of _ h]
  exact if_neg (by simp [hquar])

/-- R373: a self-test result is noted, and with both results in the arbiter decides. -/
theorem State.suspectIn_of {s v : State} {f : RcpFrame} {i k : Nat} (h : s.arbTakes 7 f i k v) : s.suspectIn f =
    if ((v.modArb i (fun a => { a with
        results := setNth a.results k (some (fieldAt f.payload 1 1 == 1))
        resT := if a.resT.isSome then a.resT else some v.now })).arb i).results.all Option.isSome = true then
      (v.modArb i (fun a => { a with
        results := setNth a.results k (some (fieldAt f.payload 1 1 == 1))
        resT := if a.resT.isSome then a.resT else some v.now })).decideNow i
    else v.modArb i (fun a => { a with
        results := setNth a.results k (some (fieldAt f.payload 1 1 == 1))
        resT := if a.resT.isSome then a.resT else some v.now }) :=
  State.arbIn_of _ h

/-- R361: an arbiter that may decide alone moves the token from a holder in trouble to a healthy unit. -/
theorem State.arbAuto_of {s : State} {i : Nat} (hauto : s.flag R.ARB_CTRL F.ARB_CTRL_ARB_AUTO = true)
    (hbad : bitOf (nth (s.arb i).health (s.arbHolder i) 0) 6 = true ∨ bitOf (nth (s.arb i).health (s.arbHolder i) 0) 7 = true)
    (hgood : healthyWord (nth (s.arb i).health (1 - s.arbHolder i) 0) = true) : s.arbAuto i = s.decide i 2 :=
  if_pos ⟨hauto, hbad, hgood⟩

/-- Settles O53: each message is of a pair the arbiter keeps, and each event finds its time passed. -/
theorem arbiterMessages : Obligations.ArbiterMessages := by
  intro s
  refine ⟨fun f i k w h hquar => ?renewQuar, fun f i k w h hquar hgen => ?renew, fun f i k w h hquar hgen => ?renewOld,
    fun f u i k h hen hfind hquar => ?requestQuar, fun f u w i k h hen hfind hquar hw hmay => ?granted,
    fun f u w i k h hen hfind hquar hw hmay => ?denied, fun f i k w h hgen hholder hfree => ?released,
    fun f i k w h hrel hfree => ?reclaim, fun f i k v w h hw hall => ?oneResult, fun f i k v w h hw hall => ?results,
    fun k t t0 hres hen ht => ?timeout, fun f i k w h hauto hbad hgood => ?auto, fun t hports ht => ?quarEnd,
    fun k t t0 hreq ht hpref => ?holdoff⟩ <;> refine congrArg (fun t => Host.Outcome.next (State.settle t)) ?_
  case renewQuar =>
    rw [State.renewIn, State.arbIn_of _ h]
    exact if_pos hquar
  case renew => exact (State.renewIn_of h hquar).trans (if_pos hgen)
  case renewOld => exact (State.renewIn_of h hquar).trans ((if_neg (Nat.ne_of_lt hgen)).trans (if_pos hgen))
  case requestQuar => exact (State.requestIn_of h hen hfind).trans (if_pos hquar)
  case granted =>
    subst hw
    exact (State.requestIn_of h hen hfind).trans ((if_neg (by simp [hquar])).trans (if_pos hmay))
  case denied =>
    subst hw
    exact (State.requestIn_of h hen hfind).trans ((if_neg (by simp [hquar])).trans (if_neg (by simp [hmay])))
  case released =>
    rw [State.releaseIn, State.arbIn_of _ h]
    exact if_pos ⟨hgen, hholder, by simp [hfree]⟩
  case reclaim =>
    rw [State.reclaimIn, State.arbIn_of _ h]
    exact if_pos ⟨hrel, hfree⟩
  case oneResult =>
    subst hw
    exact (State.suspectIn_of h).trans (if_neg (by simp [hall]))
  case results =>
    subst hw
    exact (State.suspectIn_of h).trans (if_pos hall)
  case timeout =>
    simp only [State.suspectTimeout, hres]
    exact if_pos ⟨hen, ht⟩
  case auto =>
    change s.healthIn f = _
    rw [State.healthIn, State.arbIn_of _ h, State.arbAuto_of hauto hbad hgood]
  case quarEnd => exact if_pos ⟨hports, ht⟩
  case holdoff =>
    simp only [State.holdoffExpiry, hreq]
    exact if_pos ⟨ht, by simp [hpref]⟩

end Sys2Proof.Machine
end

section
/-! Messages between the units of a pair (O54). -/

namespace Sys2Proof.Machine

/-! ### From the arbiter -/

/-- R356: a grant to a unit that waits for nothing else is taken. -/
theorem State.grantIn_detached {s u : State} {f : RcpFrame} (h : s.pairTakes 0x31 4 f u)
    (hof : u.ofPair f.payload u.arbiter = true) (hst : u.arbSeen.pairState = 1) : s.grantIn f =
      (u.arbSeen.modPair (fun x => { x with highGen := max x.highGen (genOf (payToken f.payload)) })).take
        (payToken f.payload) (payExpires f.payload) := by
  rw [State.grantIn, State.pairIn_of _ h]
  refine (if_neg (by simp [hof])).trans ?_
  simp only [State.modPair_pairState, hst]
  rfl

/-- R380: a grant to a unit that released the token gives it back. -/
theorem State.grantIn_releasing {s u : State} {f : RcpFrame} (h : s.pairTakes 0x31 4 f u)
    (hof : u.ofPair f.payload u.arbiter = true) (hst : u.arbSeen.pairState = 6) : s.grantIn f =
      (((((u.arbSeen.modPair (fun x => { x with highGen := max x.highGen (genOf (payToken f.payload)) })).setPair R.TOKEN_LO
        (payToken f.payload)).setReg64 R.EXPIRES_LO (payExpires f.payload)).modIo (fun io => { io with frozen := none })).modPair
          (fun x => { x with handover := none, cause := 0 })).toPair 5 := by
  rw [State.grantIn, State.pairIn_of _ h]
  refine (if_neg (by simp [hof])).trans ?_
  simp only [State.modPair_pairState, hst]

/-- R357: a denial is noted; the holder of an old token fences itself, and any other unit's request is over. -/
theorem State.denyIn_of {s u : State} {f : RcpFrame} (h : s.pairTakes 0x31 5 f u) (hof : u.ofPair f.payload u.arbiter = true) :
    s.denyIn f =
      if (u.arbSeen.raise R.PAIR_ERR F.PAIR_ERR_DENIED).holdsToken = true then
        (if fieldAt f.payload 1 1 = 3 then (u.arbSeen.raise R.PAIR_ERR F.PAIR_ERR_DENIED).fence
          else u.arbSeen.raise R.PAIR_ERR F.PAIR_ERR_DENIED)
      else if (u.arbSeen.raise R.PAIR_ERR F.PAIR_ERR_DENIED).pairState = 6 then
        ((((u.arbSeen.raise R.PAIR_ERR F.PAIR_ERR_DENIED).modIo (fun io => { io with frozen := none })).modPair
          (fun x => { x with handover := none, cause := 0 })).toPair 1)
      else if fieldAt f.payload 1 1 = 2 then u.arbSeen.raise R.PAIR_ERR F.PAIR_ERR_DENIED
      else (u.arbSeen.raise R.PAIR_ERR F.PAIR_ERR_DENIED).modPair (fun x => { x with reason := 0 }) := by
  rw [State.denyIn, State.pairIn_of _ h]
  exact if_neg (by simp [hof])

/-- R373: outside suspicion a decision to switch makes the active release the token and the other unit request it. -/
theorem State.decisionIn_switch {s u : State} {f : RcpFrame} (h : s.pairTakes 0x31 8 f u)
    (hof : u.ofPair f.payload u.arbiter = true) (hswitch : fieldAt f.payload 1 1 = 2)
    (hsus : u.flag R.PAIR_STATUS F.PAIR_STATUS_SUSPECT = false) : s.decisionIn f =
      if ((u.drop R.PAIR_STATUS F.PAIR_STATUS_SUSPECT).modPair (fun x => { x with suspect := none })).pairState = 5 then
        (((u.drop R.PAIR_STATUS F.PAIR_STATUS_SUSPECT).modPair (fun x => { x with suspect := none })).modPair
          (fun x => { x with switchAsk := some 6 })).setHealth
      else (((u.drop R.PAIR_STATUS F.PAIR_STATUS_SUSPECT).modPair (fun x => { x with suspect := none })).modPair
        (fun x => { x with cause := 6 })).request 4 := by
  rw [State.decisionIn, State.pairIn_of _ h]
  refine (if_neg (by simp [hof])).trans ?_
  simp only [hswitch, hsus]
  rfl

/-! ### Over the cable -/

/-- R366: a frame is sent again, up to eight times. -/
theorem State.cableResend_of {s : State} {seq q n : Nat} {b : List Byte}
    (hfound : s.pair.sentFrames.find? (fun f => f.1 == seq) = some (q, n, b)) (hup : s.cableUp = true) (hn : n < 8) :
    s.cableResend seq = (s.send 7 (fieldAt b 0 1) 0 b).modPair (fun x => { x with
      lastSend := (s.send 7 (fieldAt b 0 1) 0 b).now
      sentFrames := x.sentFrames.map (fun f => if f.1 == seq then (f.1, f.2.1 + 1, f.2.2) else f) }) := by
  simp only [State.cableResend, hfound]
  exact (if_neg (by simp [hup])).trans (if_neg (Nat.not_le.mpr hn))

/-- R365: an idle cable carries a frame every 10 µs. -/
theorem State.cableIdle_of {s : State} {t : Nat} (hpair : s.pairState ≠ 0) (ht : s.pair.lastSend + 10000 ≤ t)
    (hup : (s.at t).cableUp = true) : s.cableIdle t = (s.at t).cableSend 0x01 ((s.at t).reg64 R.COMMIT_EPOCH_LO) [] :=
  (if_neg (by omega)).trans (if_pos hup)

/-- R367: the standby takes records in SYNCING and STANDBY, and only with the cable up. -/
theorem State.record_taken {s : State} (hst : s.pairState = 2 ∨ s.pairState = 3) (hup : s.cableUp = true) :
    ¬((s.pairState ≠ 2 ∧ s.pairState ≠ 3) ∨ (!s.cableUp) = true) := by
  rw [hup]
  simp only [Bool.not_true, Bool.false_eq_true, or_false]
  omega

/-- R367: a record that holds joins those to be replayed. -/
theorem State.mirrorRecord_of {s : State} {fs : List (Nat × List Byte)} (hst : s.pairState = 2 ∨ s.pairState = 3)
    (hup : s.cableUp = true) (hok : recordOk fs = true)
    (hother : (s.learnPeer (fieldAt (recHead fs) 24 8) (fieldAt (recHead fs) 32 8) (fieldAt (recHead fs) 40 4)).pair.handover ≠
      some (fieldAt (recHead fs) 0 8)) :
    s.mirrorRecord fs = (s.learnPeer (fieldAt (recHead fs) 24 8) (fieldAt (recHead fs) 32 8) (fieldAt (recHead fs) 40 4)).modPair
      (fun x => { x with records := x.records ++ [(fieldAt (recHead fs) 0 8, fs)] }) := by
  rw [State.mirrorRecord, if_neg (State.record_taken hst hup), if_neg (by simp [hok])]
  refine congrArg (fun t => State.modPair t (fun x => { x with records := x.records ++ [(fieldAt (recHead fs) 0 8, fs)] })) ?_
  exact if_neg (fun h => hother h.1)

/-- R371: a standby that holds everything replays the first record. -/
theorem State.standbyReplay_of {s : State} {n : Nat} {fs : List (Nat × List Byte)}
    {rest : List (Nat × List (Nat × List Byte))} (hrec : s.pair.records = (n, fs) :: rest) (hfull : s.full = true)
    (hok : s.replayOk = true) (hidle : s.pair.replay = none) (hnew : s.pair.replayed = none) (hst : s.pairState = 3)
    (hlog : s.img.run.logDie = none) (hrun : fieldAt (recHead fs) 8 4 % 4 ≠ 1) :
    s.standbyReplay = (s.modR (fun r => { r with
      logBuf := kvPut n (recLog fs) (r.logBuf.filter (fun e => Nat.blt n (e.1 + 2))) })).replayOn n 0 := by
  simp only [State.standbyReplay, hrec, hnew, hlog]
  exact (if_neg (by simp [hfull, hok, hidle, hst])).trans (if_neg hrun)

/-- Whether the record of epoch `n` has come and carries cause 0 of Table 12.4. -/
def State.tookOver (s : State) (n : Nat) : Bool :=
  match s.pair.records.find? (fun r => r.1 == n) with
  | some r => bitsOf (fieldAt (recHead r.2) 40 4) 19 4 == 0
  | none => false

/-- R376: with no cause of its own a handover's is the host's, until its record shows another. -/
theorem State.handoverIn_of {s : State} {token n : Nat} (hst : s.pairState = 3) (hup : s.cableUp = true)
    (hword : isPairWord token = true) : s.handoverIn token n = (s.modPair (fun x => { x with
      handover := some n
      cause := if x.cause = 0 then 1 + b2n (s.tookOver n) else x.cause })).request 2 := by
  rw [State.handoverIn, if_neg (by simp [hst, hup]), State.cablePw_of _ hword]
  rfl

/-- R385: a handover for a cause keeps it. -/
theorem State.handoverIn_caused {s : State} {token n : Nat} (hst : s.pairState = 3) (hup : s.cableUp = true)
    (hword : isPairWord token = true) (hcause : s.pair.cause ≠ 0) :
    s.handoverIn token n = (s.modPair (fun x => { x with handover := some n })).request 2 := by
  rw [State.handoverIn_of hst hup hword]
  simp only [State.modPair, if_neg hcause]

/-- R385: a handover without one, whose record has not come, is of cause 1. -/
theorem State.handoverIn_uncaused {s : State} {token n : Nat} (hst : s.pairState = 3) (hup : s.cableUp = true)
    (hword : isPairWord token = true) (hcause : s.pair.cause = 0)
    (hnone : s.pair.records.find? (fun r => r.1 == n) = none) :
    s.handoverIn token n = (s.modPair (fun x => { x with handover := some n, cause := 1 })).request 2 := by
  rw [State.handoverIn_of hst hup hword]
  simp only [State.modPair, if_pos hcause, State.tookOver, hnone]
  rfl

/-- R388: a forwarded entry of an operation waits for the commit. -/
theorem State.fwdIn_entry {s : State} {p : List Byte} {op index w : Nat} (htoken : s.holdsToken = true) (hup : s.cableUp = true)
    (hlen : p.length = 16) (hop : fieldAt p 0 1 = op) (hindex : fieldAt p 2 2 = index) (hw : fieldAt p 8 8 = w)
    (hword : isPairWord w = true) (hne : op ≠ 0) :
    s.fwdIn p = s.modAlm (fun a => { a with queue := a.queue ++ [⟨op, index, w % 2 ^ 32, 3, .fwd 0⟩] }) := by
  have hone : (List.range (p.length / 16)).map (fun i =>
      (fieldAt p (16 * i) 1, fieldAt p (16 * i + 2) 2, fieldAt p (16 * i + 8) 8)) = [(op, index, w)] := by
    rw [hlen, ← hop, ← hindex, ← hw]
    rfl
  refine (if_neg (by simp [htoken, hup])).trans ?_
  simp only [hone, List.all_cons, List.all_nil, hword]
  exact if_neg hne

/-- R388: entries whose complements do not match are refused together. -/
theorem State.fwdIn_mismatch {s : State} {p : List Byte} (htoken : s.holdsToken = true) (hup : s.cableUp = true)
    (hbad : (List.range (p.length / 16)).all (fun i => isPairWord (fieldAt p (16 * i + 8) 8)) = false) :
    s.fwdIn p = s.pwMismatch 7 := by
  refine (if_neg (by simp [htoken, hup])).trans (if_pos ?_)
  rw [List.all_map]
  exact (congrArg Bool.not hbad).trans rfl

/-- R389: the standby sends the committed block at home there. -/
theorem State.blockReq_of {s : State} {a d k : Nat} {n : Bool} (hst : s.pairState = 3) (hfull : s.full = true)
    (hup : s.cableUp = true) (hhome : s.img.run.home a = some (d, k, n))
    (hthere : (s.committedBlock (k / 64 * 64)).isEmpty = false) :
    s.blockReq a = s.cableSend 0x51 (s.reg64 R.MIRROR_EPOCH_LO) (leBytes 8 a ++ s.committedBlock (k / 64 * 64)) := by
  refine (if_neg (by simp [hst, hfull, hup])).trans ?_
  rw [hhome]
  exact if_neg (by simp [hthere])

/-- Settles O54: each message is taken in the state of the pair it is for. -/
theorem messagesOfThePair : Obligations.MessagesOfThePair := by
  intro s
  refine ⟨fun f u h hof hst => ?grant, fun f u h hof hst => ?regrant, fun f u h hof hold htoken => ?denyHolder,
    fun f u h hof hcode htoken hst => ?deny, fun f u v h hof hswitch hsus hv hst => ?decides,
    fun f u v h hof hswitch hsus hv hst => ?decidesActive, fun silent sends hpair hup hbad => ?down,
    fun valid hpair hdown hvalid => ?up, fun seq q n b hfound hup hn => ?resend, fun t hpair ht hup => ?idle,
    fun fs hst hup hbad => ?badRecord, fun fs hst hup hok hother => ?record,
    fun n fs rest hrec hfull hok hidle hnew hst hlog hrun => ?replay, fun hst hup => ?mismatch,
    fun march loopF adc hsus hpair => ?selfTest, fun token n hst hup hword hcause => ?handover,
    fun token n hst hup hword hcause hnone => ?handoverNew, fun token hst hup hword => ?armed, fun t hst ht => ?handoverTimeout,
    fun t hst harmed ht hoff => ?armStuck, fun token hst hup hword => ?takeback,
    fun op index w p htoken hup hlen hop hindex hw hword hne => ?forward, fun p htoken hup hbad => ?forwardBad,
    fun hst hup => ?resync, fun epoch fs hst hup hok => ?snapshot, fun epoch fs hst hup hbad => ?snapshotBad,
    fun a d k n hst hfull hup hhome hthere => ?block⟩ <;> refine congrArg (fun t => Host.Outcome.next (State.settle t)) ?_
  case grant => exact State.grantIn_detached h hof hst
  case regrant => exact State.grantIn_releasing h hof hst
  case denyHolder => exact (State.denyIn_of h hof).trans ((if_pos htoken).trans (if_pos hold))
  case deny => rw [State.denyIn_of h hof, if_neg (by simp [htoken]), if_neg hst, if_neg hcode]
  case decides =>
    subst hv
    exact (State.decisionIn_switch h hof hswitch hsus).trans (if_neg hst)
  case decidesActive =>
    subst hv
    exact (State.decisionIn_switch h hof hswitch hsus).trans (if_pos hst)
  case down => exact if_pos ⟨hpair, hup, hbad⟩
  case up => exact if_pos ⟨hpair, by simp [hdown], hvalid⟩
  case resend => exact State.cableResend_of hfound hup hn
  case idle => exact State.cableIdle_of hpair ht hup
  case badRecord => rw [State.mirrorRecord, if_neg (State.record_taken hst hup), if_pos (by simp [hbad])]
  case record => exact State.mirrorRecord_of hst hup hok hother
  case replay => exact State.standbyReplay_of hrec hfull hok hidle hnew hst hlog hrun
  case mismatch => exact if_pos ⟨hst, hup⟩
  case selfTest => exact if_neg (by simp [hsus, hpair])
  case handover => exact State.handoverIn_caused hst hup hword hcause
  case handoverNew => exact State.handoverIn_uncaused hst hup hword hcause hnone
  case armed => rw [State.armedIn, if_neg (by simp [hst, hup]), State.cablePw_of _ hword]
  case handoverTimeout => exact if_pos ⟨hst, ht⟩
  case armStuck => exact if_pos ⟨hst, harmed, ht, by simp [hoff]⟩
  case takeback => rw [State.takebackIn, if_neg (by simp [hst, hup]), State.cablePw_of _ hword]
  case forward => exact State.fwdIn_entry htoken hup hlen hop hindex hw hword hne
  case forwardBad => exact State.fwdIn_mismatch htoken hup hbad
  case resync => exact if_neg (by simp [hst, hup])
  case snapshot => exact (if_neg (by simp [hst, hup])).trans (if_neg (by rw [hok]; decide))
  case snapshotBad => exact (if_neg (by simp [hst, hup])).trans (if_pos (by rw [hbad]; rfl))
  case block => exact State.blockReq_of hst hfull hup hhome hthere

end Sys2Proof.Machine
end

section
/-! COMMAND entries and front-panel actions (O55), points, classes and the watch (O56). -/

namespace Sys2Proof.Machine

/-! ### Entries that wait for the commit -/

/-- R325: a COMMAND entry that reaches a unit which executes it is queued with the role of its session. -/
theorem State.entryIn_of {s : State} {p : Path} {req role op index arg : Nat} (hbegun : s.host.begun = true)
    (hhere : s.pairState = 0 ∨ s.holdsToken = true) : s.entryIn p req role op index arg =
      s.modAlm (fun a => { a with queue := a.queue ++ [⟨op, index, arg, s.roleOf p role, .frame p req false⟩] }) :=
  (if_neg (by simp [hbegun])).trans (if_neg (by rcases hhere with h | h <;> simp [h]))

/-- R556: a front-panel action is queued while fewer than sixteen wait. -/
theorem State.panelQueue_of {s : State} (op index : Nat)
    (hroom : (s.alm.queue.filter (fun e => e.src == .panel)).length < 16) : s.panelQueue op index =
      s.modAlm (fun a => { a with queue := a.queue ++ [⟨op, index, 0, 3, .panel⟩] }) :=
  if_neg (Nat.not_le.mpr hroom)

/-- Settles O55: every COMMAND entry is one use of `State.entryIn`, every panel action one of `State.panelQueue`. -/
theorem commandEntries : Obligations.CommandEntries := by
  intro s
  have settled {u v : State} (h : u = v) :
      (Host.Outcome.next (State.settle u) : Host.Outcome State Fault Refusal) = .next (State.settle v) := by rw [h]
  exact ⟨fun _ _ _ _ hbegun hhere => settled (State.entryIn_of hbegun hhere),
    fun _ _ _ _ hbegun hhere => settled (State.entryIn_of hbegun hhere),
    fun _ _ _ hbegun hhere => settled (State.entryIn_of hbegun hhere),
    fun _ _ _ hbegun hhere => settled (State.entryIn_of hbegun hhere),
    fun _ _ _ _ _ hbegun hhere => settled (State.entryIn_of hbegun hhere),
    fun _ _ _ _ hbegun hhere => settled (State.entryIn_of hbegun hhere),
    fun _ _ _ _ hbegun hhere => settled (State.entryIn_of hbegun hhere),
    fun _ _ _ _ _ hbegun hhere => settled (State.entryIn_of hbegun hhere),
    fun _ _ _ _ _ hbegun hhere => settled (State.entryIn_of hbegun hhere),
    fun _ _ _ _ hbegun hhere => settled (State.entryIn_of hbegun hhere),
    fun _ _ _ _ hbegun hhere => settled (State.entryIn_of hbegun hhere),
    fun _ _ _ _ _ hbegun hhere => settled (State.entryIn_of hbegun hhere),
    fun _ _ _ _ hbegun hhere => settled (State.entryIn_of hbegun hhere),
    fun _ _ _ _ _ hbegun hhere => settled (State.entryIn_of hbegun hhere),
    fun hroom => settled (State.panelQueue_of 0x20 0 hroom),
    fun hroom => settled (State.panelQueue_of 0x22 0 hroom),
    fun hroom => settled (State.panelQueue_of 0x23 0 hroom),
    fun hroom => settled (State.panelQueue_of 0x24 0 hroom),
    fun hroom => settled (State.panelQueue_of 0x25 0 hroom),
    fun c hroom => settled (State.panelQueue_of 0x21 c.toNat hroom)⟩

/-! ### Points, classes and the watch -/

/-- Settles O56: each operation reads its point, class, target or watch, and its guard is the clause's hypotheses. -/
theorem pointsClassesAndWatch : Obligations.PointsClassesAndWatch := by
  intro s
  refine ⟨fun p r hrec hc htime => ?delay, fun p r hrec hbad hset htime => ?srcBad, fun p r hrec hsrc hlim htime => ?score,
    fun p r hrec hsrc hbad htime => ?radio, fun p r hrec hshelved htime => ?shelve, fun c hst hlevel htime => ?escalate,
    fun c hst hlim htime => ?accepted, fun t hkind hpresent htime => ?presence, fun t hkind hhere => ?call,
    fun hst hone hpre => ?prewarn, fun hst hlast => ?expiry⟩ <;>
    refine congrArg (fun t => Host.Outcome.next (State.settle t)) ?_
  case delay =>
    simp only [State.delayExpiry, hrec]
    exact if_pos ⟨hc, htime⟩
  case srcBad =>
    simp only [State.srcBadSet, hrec]
    exact if_pos ⟨hbad, by rw [hset]; rfl, htime⟩
  case score =>
    simp only [State.scoreStale, hrec]
    exact if_pos ⟨hsrc, hlim, htime⟩
  case radio =>
    simp only [State.radioStale, hrec]
    exact if_pos ⟨hsrc, hbad, htime⟩
  case shelve =>
    simp only [State.shelveExpiry, hrec]
    exact if_pos ⟨hshelved, htime⟩
  case escalate => exact if_pos ⟨hst, hlevel, htime⟩
  case accepted => exact if_pos ⟨hst, hlim, htime⟩
  case presence => exact if_pos ⟨hkind, hpresent, htime⟩
  case call => exact if_neg (by rcases hhere with h | h <;> simp [hkind, h])
  case prewarn => exact if_pos ⟨hst, hone, hpre⟩
  case expiry => exact if_pos ⟨hst, hlast⟩

end Sys2Proof.Machine
end

section
/-! The mailbox and the other stores (O59). While a request waits for its response TAG_STATUS.MBX_PENDING shows it (Table 18.12), and
serving the request clears it; the clause of MAILBOX_SERVE leaves TAG_STATUS as it was. -/

namespace Sys2Proof.Machine

/-- A READ of one word at address 0, with REQ_ID 1 (R553). -/
def mailboxReadRequest : List Byte := leBytes 4 1 ++ leBytes 1 1 ++ leBytes 1 1 ++ leBytes 2 0 ++ leBytes 4 0
/-- A running node whose mailbox holds the request, with MBX_PENDING as the model shows it. -/
def mailboxAsked : State :=
  (({ State.reset with
      host := { State.reset.host with begun := true }
      pwr := { State.reset.pwr with up := true }
      tag := { State.reset.tag with mbxDue := true } }.raise R.TAG_STATUS F.TAG_STATUS_TAG_OK).tagPutRecord
    mailbox 0x10 mailboxReadRequest).showMbx
/-- Whether TAG_STATUS shows a request that waits. -/
def showsRequest : Host.Outcome State Fault Refusal → Bool
  | .next s => s.flag R.TAG_STATUS F.TAG_STATUS_MBX_PENDING
  | _ => false

/-- The mailbox's record is the request. -/
theorem mailboxAsked_tagRecord : (mailboxAsked.tagRecord mailbox).map (fun r => (r.kind, r.payload)) =
    some (0x10, mailboxReadRequest) := by
  decide +kernel

/-- The READ of the request: its status, its words and the state after it. -/
def mailboxReadDone : Nat × List Word × State :=
  mailboxAsked.readBlock .mailbox 0 (fieldAt mailboxReadRequest 8 4) (fieldAt mailboxReadRequest 5 1)

/-- The READ of the request is executed. -/
theorem mailboxReadDone_status : mailboxReadDone.1 = 0 := by
  decide +kernel

/-- Serving the request leaves no request that waits. -/
theorem showsRequest_mailboxServe : showsRequest (exec .mailboxServe mailboxAsked) = false := by
  decide +kernel

/-- Refutes O59: the clause of MAILBOX_SERVE does not clear TAG_STATUS.MBX_PENDING, which is set while the request waits and which the
command clears with the response. -/
theorem not_sessionsKeysAndStores : ¬ Obligations.SessionsKeysAndStores := by
  intro h
  obtain ⟨-, -, -, -, -, -, -, hserve⟩ := h mailboxAsked
  obtain ⟨r, hrec, hfields⟩ := Option.map_eq_some_iff.mp mailboxAsked_tagRecord
  obtain ⟨hkind, hpayload⟩ := Prod.mk.inj hfields
  have hserved := hserve r mailboxReadDone.2.1 mailboxReadDone.2.2 (by decide +kernel) (by decide +kernel) (by decide +kernel)
    (by decide +kernel) hrec hkind
  rw [hpayload] at hserved
  have hshown := congrArg showsRequest (hserved (by decide +kernel) (by decide +kernel) (by decide +kernel) (by decide +kernel)
    (by decide +kernel) (by decide +kernel) (by decide +kernel) (by decide +kernel) (Prod.ext mailboxReadDone_status rfl))
  rw [showsRequest_mailboxServe] at hshown
  exact absurd hshown (by decide +kernel)

end Sys2Proof.Machine
end

section
/-! The field port of the tag (O57) and the buttons of the front panel (O58). -/

namespace Sys2Proof.Machine

/-! ### The field port -/

/-- R579: an RF session ends 50 ms after the last field command. -/
theorem State.endSession_of {s : State} {t : Nat} (hopen : s.tag.session = true) (hidle : s.tag.lastField + 50000000 ≤ t) :
    s.endSession false t = if !((s.at t).modTag (fun x => { x with session := false, mbxDue := true })).pwr.up then
        (s.at t).modTag (fun x => { x with session := false, mbxDue := true })
      else State.rfSessionOver ((s.at t).modTag (fun x => { x with session := false, mbxDue := true })) :=
  if_neg (by simp [hopen]; omega)

/-- Settles O57: a command the tag takes acts on the state that has seen the field, with the guards its clause gives. -/
theorem tagCommands : Obligations.TagCommands := by
  intro s
  refine ⟨fun n mask t hquiet hmask => ?inventory, fun t => ?stayQuiet, fun t => ?select, fun uid t huid => ?selectOther,
    fun uid sel t htakes => ?resetToReady, fun uid sel t htakes => ?sysInfo, fun uid sel b ext t htakes hend => ?readOne,
    fun uid sel b ext v lock t htakes hfirst hend hlock => ?write, fun uid sel b n ext t htakes hone hmax hend => ?readMany,
    fun uid sel b n ext t htakes hone hend => ?security, fun t hopen hidle hdown => ?endUnpowered,
    fun t hopen hidle hup => ?endPowered⟩ <;>
    refine congrArg (fun t => Host.Outcome.next (State.settle t)) ?_
  case inventory => exact if_neg (by simp [hquiet, hmask])
  case stayQuiet => exact if_pos rfl
  case select => exact if_pos rfl
  case selectOther => exact if_neg huid
  case resetToReady => exact State.tagReq_of _ htakes
  case sysInfo => exact State.tagReq_of _ htakes
  case readOne => exact (State.tagReq_of _ htakes).trans (if_neg (by omega))
  case write =>
    refine (State.tagReq_of _ htakes).trans ((if_neg (Nat.not_le.mpr hend)).trans ((if_neg (Nat.not_lt.mpr hfirst)).trans ?_))
    exact if_neg (by rcases hlock with h | h <;> simp [h])
  case readMany => exact (State.tagReq_of _ htakes).trans ((if_neg (by omega)).trans (if_neg (Nat.not_lt.mpr hend)))
  case security => exact (State.tagReq_of _ htakes).trans ((if_neg (by omega)).trans (if_neg (Nat.not_lt.mpr hend)))
  case endUnpowered => exact (State.endSession_of hopen hidle).trans (if_pos (by simp [hdown]))
  case endPowered => exact (State.endSession_of hopen hidle).trans (if_neg (by simp [hup]))

/-! ### The front panel -/

/-- Settles O58: a press that is counted acts on the state that counts it, by the screen that is shown. -/
theorem panelButtons : Obligations.PanelButtons := by
  intro s
  refine ⟨fun t u hpress hen hhere => ?ack, fun t u hpress hen hpair htoken => ?ackForward,
    fun t u hpress htrim hbar hsel => ?selFirst, fun t u c hpress htrim hbar hsel => ?selNext,
    fun t u hpress htrim hbar => ?enterTrim, fun t u c hpress htrim hbar hsel => ?enterChannel,
    fun t u hpress htrim hsel => ?enterPage, fun t u hpress htrim hbar => ?zero, fun t u hpress htrim hbar => ?span,
    fun t hon htrim hbar => ?holdTrim, fun t hon htrim => ?holdSelect, fun t hsel htime => ?selectTimeout,
    fun t t0 m hmsg htime => ?messageTimeout⟩ <;>
    refine congrArg (fun t => Host.Outcome.next (State.settle t)) ?_
  case ack => exact (State.press_of _ hpress).trans ((if_neg (by simp [hen])).trans (if_pos hhere))
  case ackForward =>
    exact (State.press_of _ hpress).trans ((if_neg (by simp [hen])).trans (if_neg (by simp [hpair, htoken])))
  case selFirst =>
    refine (State.press_of _ hpress).trans ((if_neg htrim).trans ((if_neg (by simp [hbar])).trans ?_))
    rw [hsel]
  case selNext =>
    refine (State.press_of _ hpress).trans ((if_neg htrim).trans ((if_neg (by simp [hbar])).trans ?_))
    rw [hsel]
  case enterTrim => exact (State.press_of _ hpress).trans ((if_pos htrim).trans (if_neg (by simp [hbar])))
  case enterChannel =>
    refine (State.press_of _ hpress).trans ((if_neg htrim).trans ?_)
    rw [hsel]
    exact if_neg (by simp [hbar])
  case enterPage =>
    refine (State.press_of _ hpress).trans ((if_neg htrim).trans ?_)
    rw [hsel]
  case zero => exact (State.press_of _ hpress).trans ((if_neg (not_not.mpr htrim)).trans (if_neg (by simp [hbar])))
  case span => exact (State.press_of _ hpress).trans ((if_neg (not_not.mpr htrim)).trans (if_neg (by simp [hbar])))
  case holdTrim => exact (if_neg (by simp [hon])).trans ((if_pos htrim).trans (if_neg (by simp [hbar])))
  case holdSelect => exact (if_neg (by simp [hon])).trans (if_neg htrim)
  case selectTimeout => exact if_pos ⟨hsel, htime⟩
  case messageTimeout =>
    simp only [State.messageTimeout, hmsg]
    exact if_pos htime

end Sys2Proof.Machine
end
